-- ==== Sys2Proof/Word.lean ====
section
/-! DEFINITION. The word types of the OM1 and their plainest arithmetic (00_scope R4-R6). -/

namespace Sys2Proof

/-- One byte. -/
abbrev Byte := BitVec 8
/-- A 16-bit word: a Jiman register, a status tick. -/
abbrev W16 := BitVec 16
/-- A 32-bit word: a BAR0 register, an `index` of a ring. -/
abbrev W32 := BitVec 32
/-- A 64-bit word: a Turner general register, TIMEBASE. -/
abbrev W64 := BitVec 64
/-- A device address: 48 bits (01_one_thread_one_lattice R20). -/
abbrev DevAddr := BitVec 48

/-- 2^10 bytes (00_scope R5). -/
def kib (n : Nat) : Nat := n * 1024
/-- 2^20 bytes (00_scope R5). -/
def mib (n : Nat) : Nat := n * 1048576
/-- 2^30 bytes (00_scope R5). -/
def gib (n : Nat) : Nat := n * 1073741824

end Sys2Proof
end

