-- ==== Sys2Proof/Machine/State/Base.lean ====
section
/-! DEFINITION. The data types that several blocks of the OM1 share: sparse memory, the module states, the SKU,
and the time the device keeps. -/

namespace Sys2Proof.Machine

/-- A sparse memory: (address, byte) pairs with strictly rising addresses and no zero byte listed.
An unlisted address reads 0 (log entry 5). -/
abbrev Memory := List Host.Cell

/-- The SKU of the module, fixed by fuses (00_scope R1, Table 0.1). -/
inductive Sku where
  | om1_384 | om1_192
  deriving DecidableEq, Repr

/-- The device and module states with the codes of Table 1.8 (01 R26). -/
inductive ModState where
  | off | holdup | warm | active | throttled | halted | lockout
  deriving DecidableEq, Repr

/-- The four wired reset kinds and the start of power (17 Table 17.4). -/
inductive ResetKind where
  | powerOn | perst | flr | coreReset | mgmt
  deriving DecidableEq, Repr

/-- The clocks and the counters of time (00 R7, 17 R424-R428, Table 17.1). -/
structure Clocks where
  /-- TIMEBASE, the FCLK cycle counter. [R428, Table 21.8; reset 0] -/
  timebase : W64
  /-- Delivered CCLK cycles; the Turner cycle counter is its low 48 bits. [R428, R136; reset 0] -/
  cclk : Nat
  /-- Root periods 0-11 since the start of the pattern of four CCLK periods. [R424, R444; reset 0; the model's own] -/
  phase : Nat
  /-- CK_STATUS.LOCKED: the root PLL is locked. [R425, Table 17.1; reset true (WARM follows the lock), DEDUCED, log 3] -/
  pllLocked : Bool
  /-- CK_STATUS.LEVEL: the throttle level in force. [R445, Table 17.1; reset 0] -/
  level : BitVec 2
  /-- CK_STATUS.START_KIND. [Table 17.1; reset HW 0, log 3] -/
  startKind : BitVec 2
  /-- CK_STATUS.LOCK_LOSSES, saturating. [R427, Table 17.1; reset 0] -/
  lockLosses : W16
  /-- CCLK to the Turner, the Lattice and the Spindle is stopped in WARM standby. [R443; reset true (WARM)] -/
  cclkStopped : Bool
  /-- The latched high half of TIMEBASE for the BAR0 path, none while clear. [R509; reset none] -/
  latchHost : Option W32
  /-- The latched high half of TIMEBASE for the control-window path. [R509; reset none] -/
  latchTurner : Option W32
  deriving DecidableEq, Repr

end Sys2Proof.Machine
end

