-- ==== Sys2Proof/Machine/State/Firmware.lean ====
section
/-! DEFINITION. State of the firmware slots, the boot record, the staging session and the settings store
(16_firmware_and_settings), and of the key fuses (R407, R408). -/

namespace Sys2Proof.Machine

/-- STATE of a boot record (16 Table 16.4). -/
inductive BootState where
  | confirmed | probation | rollback
  deriving DecidableEq, Repr

/-- A boot record copy with a correct MAGIC and CRC (16 Table 16.4). -/
structure BootRec where
  seq : Nat
  active : Bool
  state : BootState
  boots : Nat
  activeSettings : Bool
  previous : Bool
  previousSettings : Bool
  rolledBack : Bool
  recovery : Bool
  actSeq : Nat
  deriving DecidableEq, Repr

/-- SESSION of FW_STATUS (16 Table 16.6). -/
inductive SessionState where
  | none | open | complete | broken
  deriving DecidableEq, Repr

/-- The staging session record (16 R412). -/
structure Session where
  /-- SESSION. [R412, Table 16.6; reset HW NONE, log 3] -/
  state : SessionState
  /-- OWNER: true is PLDM. [Table 16.6; reset HW 0, log 3] -/
  pldm : Bool
  /-- The target slot. [R412; reset 0 DESIGN CHOICE, log 2] -/
  target : Bool
  /-- CODE_WORDS of the session. [R412; reset 0 DESIGN CHOICE, log 2] -/
  codeWords : Nat
  /-- Image bytes 0-511 as received; byte k at bits [8k + 7:8k]. [R412; reset 0 DESIGN CHOICE, log 2] -/
  header : BitVec 4096
  /-- Units of 64 bytes received, bit u for unit u. [R412; reset 0] -/
  units : BitVec 2048
  deriving DecidableEq, Repr

/-- The settings items (16 R417). -/
structure Settings where
  /-- The Keep setting. [R23; factory true, log 3] -/
  keepEnabled : Bool
  /-- The BAR4 size encoding. [R40; factory 16] -/
  bar4Enc : Nat
  /-- The HL_SHARED_WINDOW value. [Table 2.8; factory 0, log 3] -/
  window : W64
  /-- Retired lanes. [R34; factory 0, log 3] -/
  lanes : W16
  /-- The recorded ARRAY_UUID, or 0. [R281; factory 0, log 3] -/
  uuid : BitVec 128
  /-- The SMBus address. [R371; factory 0x4C] -/
  smbus : BitVec 7
  deriving DecidableEq, Repr

/-- A copy of a settings slot with a correct MAGIC and CRC (16 R417). -/
structure SettingsCopy where
  format : Nat
  actSeq : Nat
  copySeq : Nat
  items : Settings
  deriving DecidableEq, Repr

/-- A PLDM firmware update in progress (16 R414, Table 16.5). -/
inductive PldmPhase where
  /-- No update. -/
  | idle
  /-- RequestUpdate accepted. -/
  | learn
  /-- PassComponentTable accepted. -/
  | ready
  /-- UpdateComponent accepted: RequestFirmwareData runs. -/
  | download
  /-- ApplyComplete sent: ActivateFirmware is awaited. -/
  | applied
  deriving DecidableEq, Repr

/-- The Tailstock flash contents and fuses. -/
structure Firmware where
  /-- Boot record copies 0 and 1, none where MAGIC or CRC is wrong. [R409; reset HW copy 0 confirmed, log 3] -/
  boot : Vector (Option BootRec) 2
  /-- Header records of slots 0 and 1, 512 bytes each, none where not valid. [R405, R410; reset HW slot 0, log 3] -/
  headers : Vector (Option (BitVec 4096)) 2
  /-- The slot still holds the image programmed at manufacture, which passes R407. [R404; reset slot 0, log 3; the model's own] -/
  factory : Vector Bool 2
  /-- The staging session record. [R412; reset none] -/
  session : Session
  /-- The PLDM update in progress. [R414; reset idle] -/
  pldm : PldmPhase
  /-- Settings slots 0 and 1, copies 0 and 1 of each. [R417; reset HW slot 0 copy 0, log 3] -/
  slots : Vector (Vector (Option SettingsCopy) 2) 2
  /-- The settings in use: those of the slot, or the factory defaults in data RAM. [R418; reset HW, log 3] -/
  inUse : Settings
  /-- SETTINGS_UNREADABLE. [R418, Table 16.6; reset HW 0, log 3] -/
  unreadable : Bool
  /-- The firmware is in recovery. [R411; reset false] -/
  recovery : Bool
  /-- The settings image that the Ohmim holds. [R440; reset HW, log 3] -/
  image : Settings
  /-- Whether a RESET_NOTICE of this start has carried the settings image. [R440; reset true (WARM follows step 6)] -/
  imageTaken : Bool
  /-- Revocation fuses of the Tailstock, bit k for key slot k. [R408; reset HW 0, log 3] -/
  revoked : BitVec 2
  /-- Revocation fuses of the Ohmim. [R408; reset HW 0, log 3] -/
  ohmimRevoked : BitVec 2
  /-- OTP hashes of key slots 0 and 1, the same on both dies. [R407, R408; reset HW 0, log 3] -/
  keyHash : Vector (BitVec 384) 2
  /-- The FW_STATUS register as last sent by the Jiman. [Table 16.6; reset HW, log 3] -/
  status : W64
  deriving DecidableEq, Repr

end Sys2Proof.Machine
end

