-- ==== Sys2Proof/Machine/State/Keep.lean ====
section
/-! DEFINITION. State of scale-out (counters, relays, peer windows), of the Keep array with its drives, of the
protected cache and of the vault (10_scale_out, 11_keep_array, 12_protected_cache_and_vault). -/

namespace Sys2Proof.Machine

/-- A registered wait counter (10 R253). -/
structure Counter where
  index : Nat
  addr : DevAddr
  deriving DecidableEq, Repr

/-- A relay table entry (10 R258). -/
structure RelayEntry where
  valid : Bool
  usePasid : Bool
  pasid : BitVec 20
  addr : DevAddr
  deriving DecidableEq, Repr

/-- The scale-out tables. -/
structure ScaleOut where
  /-- Registered counters, at most one per index 0-1,023. [R253; reset none] -/
  counters : List Counter
  /-- Delivered values not yet compared: counter index and value, oldest first, at most 1,024. [R254, R255; reset none] -/
  delivered : List (Nat × W64)
  /-- The 256 relay table entries. [R258; reset invalid] -/
  relays : Vector RelayEntry 256
  /-- HL_PEER_BASE0-7. [R260, Table 10.1; reset 0] -/
  peerBase : Vector W64 8
  /-- HL_PEER_LIMIT0-7. [R260, Table 10.2; reset 0] -/
  peerLimit : Vector W64 8
  deriving DecidableEq, Repr

/-- What Identify and discovery report of a drive (11 R267). -/
structure DriveIdent where
  serial : Nat
  nvme2 : Bool
  nvmSet : Bool
  /-- The active namespaces. -/
  namespaces : List Nat
  zoned : Bool
  lbaBytes : Nat
  metadata : Bool
  protection : Bool
  /-- TCG level 0 discovery reports Locking Enabled = 1. -/
  locking : Bool
  /-- Bytes of the namespace. -/
  capacity : Nat
  /-- MDTS in bytes: the most that one Read or Write moves; 0 is no limit. [R269] -/
  mdts : Nat
  deriving DecidableEq, Repr

/-- A drive present on a port. -/
structure Drive where
  /-- What Identify reports. [R267] -/
  ident : DriveIdent
  /-- The bytes of NSID 1; an unlisted byte reads 0 (log entry 5). [R269] -/
  media : Memory
  /-- What writes without Force Unit Access have overwritten since the last Flush, newest first: where, and the bytes before; a loss
  of power may leave them in place. [R269] -/
  unflushed : List (Nat × List Byte)
  /-- Lanes trained: 2 or 1. [R448] -/
  width : Nat
  deriving DecidableEq, Repr

/-- The state of a drive port's loopback test (20 R492, R493). -/
structure PortTest where
  /-- Ports still to be tested after the one running. -/
  queue : List Nat
  /-- The port under test. -/
  running : Option Nat
  deriving DecidableEq, Repr

/-- One drive port (11 R271, R272, R519; 20 R492). -/
structure DrivePort where
  /-- The drive, if one is present and trained. [R267; reset none, log 3] -/
  drive : Option Drive
  /-- The drive whose link or presence is lost for less than 100 ms. [R271, R519; reset none] -/
  lost : Option Drive
  /-- TIMEBASE stamps of the port's dropouts, newest first. [R272; reset none] -/
  dropouts : List W64
  /-- Port lockout. [R272; reset false] -/
  locked : Bool
  /-- TIMEBASE stamps of Unrecovered Read Errors, newest first. [Table 11.1; reset none] -/
  readErrors : List W64
  /-- TIMEBASE of the port's last loopback test. [R492; reset 0: the first falls 24 h after power-on] -/
  lastTest : W64
  /-- DRVq_PERST_N asserted. [R450; reset false] -/
  perst : Bool
  deriving DecidableEq, Repr

/-- A slot table entry (11 R517). -/
structure SlotEntry where
  slot : Nat
  defined : Bool
  seq : Nat
  halfBytes : Nat
  firstA : Nat
  firstB : Nat
  halfStripes : Nat
  deriving DecidableEq, Repr

/-- A commit record (11 Table 11.7); state 0 EMPTY, 1 OPEN, 2 COMMITTED. -/
structure CommitRec where
  /-- Slot. [Table 11.7] -/
  slot : Nat
  /-- Half: 0 for A, 1 for B. [Table 11.7] -/
  half : Nat
  /-- STATE. [Table 11.7] -/
  state : Nat
  /-- EPOCH. [Table 11.7] -/
  epoch : W32
  /-- RECORD_SEQ. [R285, Table 11.7] -/
  seq : Nat
  /-- BYTES. [Table 11.7] -/
  bytes : W64
  /-- TIME. [Table 11.7] -/
  time : W64
  deriving DecidableEq, Repr

/-- A rebuild in progress (11 R296-R298). -/
structure Rebuild where
  member : Nat
  port : Nat
  /-- REBUILD_PROGRESS: stripes below it are rebuilt. -/
  progress : Nat
  /-- Regions to rebuild when a re-add rebuilds only set regions. [R297] -/
  regions : Option (List Nat)
  deriving DecidableEq, Repr

/-- The assembled array (11 R273, R277, R281). -/
structure KArray where
  uuid : BitVec 128
  generation : Nat
  n : Nat
  p : Nat
  chunk256 : Bool
  stripes : Nat
  /-- Failed member indices, bit i for member i. -/
  failed : Byte
  /-- FAIL_GEN of each member. [Table 11.3] -/
  failGen : Vector Nat 8
  /-- The port of each member, none where its drive is not there. -/
  ports : Vector (Option Nat) 8
  /-- TIMEBASE when each failed member failed. [R296] -/
  failedAt : Vector W64 8
  /-- RESYNC_ALL. [R300] -/
  resyncAll : Bool
  /-- The rebuild in progress. [R296, R298] -/
  rebuild : Option Rebuild
  /-- RECORD_SEQ and SEQ of the array-wide record sequence. [R285, R517] -/
  recordSeq : Nat
  /-- Defined slots. [R284] -/
  slots : List SlotEntry
  /-- Commit records that are not EMPTY. [R285] -/
  records : List CommitRec
  /-- Set regions of the write-intent bitmap, rising. [R279] -/
  bitmap : List Nat
  /-- TIMEBASE of the last stripe write of a region. [R279] -/
  regionWritten : List (Nat × W64)
  /-- Regions scheduled for resync, rising. [R299] -/
  resync : List Nat
  /-- The next stripe of the resync within its region. [R299] -/
  resyncNext : Nat
  /-- Whether an ARRAY_CREATE of this start asked for its full resync, which runs with the Keep disabled too. [R268] -/
  createResync : Bool
  /-- Drives that wait to be re-added: member and port. [R297] -/
  readds : List (Nat × Nat)
  deriving DecidableEq, Repr

/-- One piece of a stripe that is written: data chunk j, bytes from `off`, and the data (11 R291, 12 R315). -/
structure StripePiece where
  chunk : Nat
  off : Nat
  data : List Byte
  deriving DecidableEq, Repr

/-- A Read or Write command of a stripe write: the member, and the bytes of its chunk, at most MDTS of them (11 R269). -/
structure DriveCmd where
  member : Nat
  off : Nat
  len : Nat
  deriving DecidableEq, Repr

/-- The method of a stripe write (11 Table 11.8). -/
inductive StripeMethod where
  | full | reconstruct | rmw
  deriving DecidableEq, Repr

/-- A stripe write that holds, or waits for, a stripe lock (11 R289, R291; 12 R308). -/
structure StripeWrite where
  stripe : Nat
  /-- The lock and journal slot it holds, 0-255; none while it waits in request order. -/
  lock : Option Nat
  /-- SNAP_SEQ, taken when the lock is granted. [R315] -/
  snap : Nat
  /-- The data it writes. [R291, R315] -/
  pieces : List StripePiece
  /-- Its method. [Table 11.8] -/
  method : StripeMethod
  /-- False while the reads are outstanding, true once the writes are issued. [R291] -/
  writing : Bool
  /-- The drive commands of this write that have not completed, in order. [R269, R270, R291] -/
  outs : List DriveCmd
  /-- New P and Q of the stripe. [R291, R308] -/
  p : List Byte
  q : List Byte
  /-- ADMIT_SEQs of extents whose data met an uncorrectable read. [12 Corners] -/
  bad : List Nat
  deriving DecidableEq, Repr

/-- An occupied parity journal slot (12 R308). -/
structure JournalSlot where
  stripe : Nat
  snap : Nat
  p : List Byte
  q : List Byte
  deriving DecidableEq, Repr

/-- An extent of the cache log (12 R305). -/
structure Extent where
  admitSeq : Nat
  slot : Nat
  half : Nat
  epoch : W32
  /-- Array byte of its first byte. -/
  arrayByte : Nat
  /-- Offset of its data in the data area, in bytes. -/
  offset : Nat
  /-- Its length in bytes. [R305] -/
  length : Nat
  /-- Its data has been copied and its record written. [R306] -/
  ready : Bool
  /-- Every stripe of it is covered, or it is void: its room may be reused. [R305, R316] -/
  released : Bool
  /-- It holds no data to destage. [R306, R321, R328] -/
  void : Bool
  /-- Destage retries after an uncorrectable read of its data. [12 Corners] -/
  retries : Nat
  /-- Stripes covered by a completed stripe write with SNAP_SEQ at least ADMIT_SEQ. [R316] -/
  covered : List Nat
  /-- The tracker entry of its KEEP_WRITE, while it copies or, in write-through, until the extent is released. [R306] -/
  waiter : Option Nat
  deriving DecidableEq, Repr

/-- The body of a vault record (12 Table 12.6). -/
inductive VaultBody where
  | arm (uuid : BitVec 128) (generation : Nat) (n p chunk : Nat)
  | journal (stripe snap : Nat) (p q : List Byte)
  | extent (arrayByte admitSeq slot half : Nat) (epoch : W32) (data : List Byte)
  | seal (journals extents generation : Nat) (chain : W32)
  | replayed
  | discarded
  deriving DecidableEq, Repr

/-- A record of a vault area with the two CRCs of its header (12 Table 12.5). -/
structure VaultRec where
  imageSeq : Nat
  payloadCrc : W32
  headerCrc : W32
  body : VaultBody
  deriving DecidableEq, Repr

/-- IMAGE of PC_VAULT_STATUS (12 Table 12.9). -/
inductive ImageState where
  | none | awaiting | replaying | stale
  deriving DecidableEq, Repr

/-- The Keep engine. -/
structure Keep where
  /-- The eight drive ports. [R267-R272; reset no drive, log 3] -/
  ports : Vector DrivePort 8
  /-- The assembled array. [R281, R283; reset none] -/
  array : Option KArray
  /-- Ports that hold spares, bit q. [R295, Table 11.4; reset 0] -/
  spares : Byte
  /-- Stripe writes that hold or wait for a lock, in request order. [R289, R291; reset none] -/
  writes : List StripeWrite
  /-- KP_SCRUB_MISMATCHES, saturating. [R301; reset 0] -/
  scrubMismatches : W32
  /-- KP_SCRUB_PASS. [R302; reset 0] -/
  scrubPass : W64
  /-- The next stripe of the patrol scrub. [R302; reset 0] -/
  patrolNext : Nat
  /-- TIMEBASE of the last batch of cleared bitmap bits. [R279; reset 0; the model's own] -/
  lastClear : W64
  /-- KP_PORT_TEST in progress. [R492; reset none] -/
  portTest : PortTest
  /-- KP_PORT_TEST.PORTS. [Table 20.4; reset 0] -/
  testPorts : Byte
  /-- KP_PORT_TEST.TESTED. [Table 20.4; reset 0] -/
  testTested : Byte
  /-- KP_PORT_TEST.PASS. [Table 20.4; reset 0] -/
  testPass : Byte
  deriving DecidableEq, Repr

/-- The protected cache and the vault. -/
structure Cache where
  /-- Extents in ascending ADMIT_SEQ, from the log head. [R305; reset none] -/
  extents : List Extent
  /-- The largest ADMIT_SEQ in use or restored. [R305; reset 0] -/
  admitSeq : Nat
  /-- Log head and tail as running byte positions; the offset is taken modulo the data area. [R305; reset 0] -/
  head : Nat
  tail : Nat
  /-- The 256 parity journal slots. [R308; reset free] -/
  journal : Vector (Option JournalSlot) 256
  /-- PC_CONTROL.FORCE_WT. [Table 12.4; reset 0] -/
  forceWt : Bool
  /-- Halves that must fail their next KEEP_COMMIT because an extent was voided: slot and half. [12 Corners; reset none] -/
  poisonedHalves : List (Nat × Nat)
  /-- Whether the 16 FCLK cycles since HOLD_ASSURE fell are over is decided from this TIMEBASE stamp. [R17; reset none] -/
  assureFell : Option W64
  /-- The two vault areas, record by record. [R317, R318; reset erased, log 3] -/
  area0 : List VaultRec
  area1 : List VaultRec
  /-- PC_VAULT_STATUS.IMAGE. [Table 12.9; reset HW NONE] -/
  image : ImageState
  /-- PC_VAULT_STATUS.IMAGE_AREA. [Table 12.9; reset HW 0] -/
  imageArea : Bool
  /-- PC_VAULT_STATUS.ARMED with ARMED_AREA. [Table 12.9; reset not armed] -/
  armed : Option Bool
  /-- PC_VAULT_STATUS.UNSEALED_LAST. [Table 12.9; reset HW 0] -/
  unsealedLast : Bool
  /-- PC_VAULT_STATUS.DISCARDED. [Table 12.9; reset 0] -/
  discarded : Bool
  /-- A pending image is REPLAYING and its records have been restored. [R327; reset false; the model's own] -/
  restored : Bool
  /-- Whether a dump is under way and its SEAL not yet programmed. [R321; reset false] -/
  dumping : Bool
  /-- The array that an unsealed image names, to be resynced whole when next assembled. [R325; reset none] -/
  resyncUuid : Option (BitVec 128)
  deriving DecidableEq, Repr

end Sys2Proof.Machine
end

