-- ==== Sys2Proof/Machine/State/Lattice.lean ====
section
/-! DEFINITION. State of the Lattice, the finishing pipeline and the Spindle (07_lattice, 08_numbers_and_finishing,
09_spindle). -/

namespace Sys2Proof.Machine

/-- The ports of the tile unit (07 R193): four array lanes, L, C, S and D. -/
inductive Port where
  | a (lane : Fin 4)
  | l | c | s | d
  deriving DecidableEq, Repr

/-- A tile instruction with its captured register operands (07 R188, R189). -/
structure TileInstr where
  /-- The instruction word. [Table 7.3, Table 7.11] -/
  word : W32
  /-- ra, rb and rc as captured at RR. [R188] -/
  ra : W64
  rb : W64
  rc : W64
  /-- TC_TILE_OWNER when the instruction committed. [Table 7.11] -/
  owner : BitVec 10
  /-- The segment slot that it names, as it stood at commit. [R190, R202] -/
  seg : BitVec 128
  /-- The level at which it committed, for the side-stream checks. [R141, R202] -/
  priv : Bool
  /-- The rows or lines from which it (re)starts. [R204, R205] -/
  progress : Nat
  /-- The Turner's stores that committed before it, counted as `storesLeft` counts them. [05 R139; the model's own] -/
  storesBefore : Nat
  deriving DecidableEq, Repr

/-- The registers of the finishing pipeline that a drain reads row by row, as they stand from a cycle on (08 R224, R227). -/
structure FinishTables where
  /-- The CCLK cycle of the write. [R224, R227] -/
  since : Nat
  /-- bv0-bv3. [R224] -/
  bias : Memory
  /-- The eight table slots. [R225] -/
  pwl : Vector (Option Memory) 8
  deriving DecidableEq, Repr

/-- Where an issued tile instruction will stop: the rows complete by then, and the fault (07 R203, R204). -/
structure TileStop where
  progress : Nat
  subcode : Byte
  address : DevAddr
  deriving DecidableEq, Repr

/-- A tile instruction that has issued, in issue order until it and all before it are complete (07 R191, R193). -/
structure InFlight where
  port : Port
  instr : TileInstr
  /-- CCLK cycle of issue. [R194] -/
  issued : Nat
  /-- Fold mode at issue. [R198] -/
  fold : Bool
  /-- Formats as this instruction reads them. [R184] -/
  fmts : Vector (BitVec 4) 12
  /-- Whether its memory is not the operand store, so that its cycles are not fixed. [R194] -/
  far : Bool
  /-- The tiles before this instruction, in issue order. [R194, R195; the model's own] -/
  view : Memory
  /-- What it read of memory: the bytes of each row. [R192; the model's own] -/
  rows : List (List Byte)
  /-- The plane tags of its rows, from row `progress` on. [R186] -/
  tags : List Nat
  /-- The operand scales of its rows, from row `progress` on. [R186] -/
  scales : List (List Byte)
  /-- The finishing registers that its rows may meet, newest first. [08 R224, R227; the model's own] -/
  tables : List FinishTables
  /-- What it writes into tiles: address and byte. [R191] -/
  out : List (Nat × Byte)
  /-- Rows whose writes to memory and whose taps have been made. [R194; the model's own] -/
  done : Nat
  /-- What it still writes to memory, row by row: device address and bytes. [R191] -/
  mem : List (List (Nat × List Byte))
  /-- Tap values of the rows it still drains. [Table 8.4] -/
  taps : List (List W32)
  /-- Where it will stop with a fault. [R203] -/
  stop : Option TileStop
  /-- It has completed, or has stopped with its fault. [R191, R203] -/
  complete : Bool
  /-- The number of its free value. [R195; the model's own] -/
  free : Nat
  deriving DecidableEq, Repr

/-- The fault record LT_TFAULT (07 Table 7.11). -/
structure TileFault where
  instr : TileInstr
  subcode : Byte
  port : Port
  address : DevAddr
  progress : Nat
  deriving DecidableEq, Repr

/-- LT_CHUCKn, the source record of a plane (07 Table 7.15). -/
structure Chuck where
  loaded : Bool
  scales : Bool
  src : DevAddr
  pitch : W32
  scaleSrc : DevAddr
  deriving DecidableEq, Repr

/-- The Lattice. -/
structure Lattice where
  /-- Every tile, plane and scale store as one memory, as the instructions issued so far leave it: ot i at i MiB, at j at 8 + 4j MiB, cp k at 24 + k MiB, scale store k at 28 MiB + 64k KiB. [Table 7.1, R182; reset 0] -/
  tiles : Memory
  /-- Formats of ot0-ot7 (0-7) and cp0-cp3 (8-11). [Table 7.1, R182; reset 0x3] -/
  fmts : Vector (BitVec 4) 12
  /-- Fold mode. [R198, R182; reset false] -/
  fold : Bool
  /-- The 16-entry tile queue, head first. [R193, R182; reset empty] -/
  queue : List TileInstr
  /-- Instructions issued, in issue order, from the oldest that is not complete on. [R193; reset none] -/
  flight : List InFlight
  /-- Faulting instructions that RESUME restarts, ahead of the queue. [R205; reset none] -/
  restart : List TileInstr
  /-- CCLK cycle before which the next instruction does not issue. [R193, R197; reset 0] -/
  delayUntil : Nat
  /-- CCLK cycle from which the head of the queue has been its head. [09 R240; reset 0; the model's own] -/
  headSince : Nat
  /-- LT_STATUS.FAULTED with LT_TFAULT. [R203, Table 7.11, Table 7.12; reset none] -/
  fault : Option TileFault
  /-- The asynchronous fault is still to be taken at a commit boundary. [R203; reset false] -/
  faultPending : Bool
  /-- Faults on further ports that wait: the one-deep holding record first. [07 Corners; reset none] -/
  held : List TileFault
  /-- LT_STATUS.TOUCHED. [Table 7.12; reset 0] -/
  touched : BitVec 12
  /-- LT_CHUCK0-3. [Table 7.15; reset not loaded] -/
  chucks : Vector Chuck 4
  deriving DecidableEq, Repr

/-- One grain histogram set (08 R228-R231). -/
structure HistSet where
  /-- The 64 bins, saturating. [R229; reset 0] -/
  bins : Vector W32 64
  /-- ELEMENTS. [R229; reset 0] -/
  elements : W64
  /-- SAT_MAP. [R229; reset 0] -/
  satMap : W64
  /-- AMAX, an FP32 value. [R230; reset +0] -/
  amax : W32
  deriving DecidableEq, Repr

/-- The finishing pipeline's registers. -/
structure Finish where
  /-- bv0-bv3: 1,024 FP32 values each, value n of bv b at 4096b + 4n. [R224; reset +0] -/
  bias : Memory
  /-- The eight PWL table slots, byte i of a slot's table at i; none is the identity table. [R225, R227; reset the identity table] -/
  pwl : Vector (Option Memory) 8
  /-- NF_PWL_STAGE. [R227; reset 0] -/
  stage : Memory
  /-- NF_PWL_COMMIT.ERR. [Table 8.7; reset 0] -/
  commitErr : Bool
  /-- hs0-hs15. [R229, R231; reset cleared] -/
  hist : Vector HistSet 16
  deriving DecidableEq, Repr

/-- What a STEP reads for one stream (09 Table 9.6): its rows of X_IN and of H_IN, and its mask bit. -/
structure StreamIn where
  x : List Byte
  h : List Byte
  reset : Bool
  deriving DecidableEq, Repr

/-- A Spindle command that has issued and is not complete (09 R240). -/
structure SpCommand where
  /-- Ring index of its entry. [R239] -/
  index : Nat
  /-- The 64 bytes of its entry. [Table 9.5, Table 9.7] -/
  entry : BitVec 512
  /-- CCLK cycle of issue. [R248] -/
  issued : Nat
  /-- The PWL slots as they stood when the command issued. [R246] -/
  tables : Vector (Option Memory) 8
  /-- The tiles as they stood when the command issued, with the formats of the planes. [R248; the model's own] -/
  view : Memory
  /-- The formats of the planes when the command issued. [R248; the model's own] -/
  fmts : Vector (BitVec 4) 12
  /-- What it has read so far, stream by stream. [Table 9.6] -/
  inputs : List StreamIn
  /-- The slots it has read so far, stream by stream. [Table 9.6] -/
  slots : List (List Byte)
  /-- Streams that are wholly visible. [Table 9.6] -/
  done : Nat
  /-- TLOADCs in flight at its issue. [09 Corners; the model's own] -/
  loads : List InFlight
  /-- TLOADCs issued since. [09 Corners; the model's own] -/
  laterLoads : List InFlight
  /-- The number of its free value. [R195, R249; the model's own] -/
  free : Nat
  deriving DecidableEq, Repr

/-- The Spindle. -/
structure Spindle where
  /-- SP_RING.LOG2_SIZE. [Table 9.1; reset 4] -/
  log2 : BitVec 4
  /-- SP_RING.BASE as a device address. [Table 9.1; reset 0] -/
  base : DevAddr
  /-- SP_RING.HEAD. [Table 9.1; reset 0] -/
  head : BitVec 10
  /-- SP_RING.PHASE. [Table 9.1; reset 1] -/
  phase : Bool
  /-- SP_WINDOW. [R238; reset 0] -/
  window : BitVec 128
  /-- SP_SLOTS.FIRST and COUNT. [R238; reset 0] -/
  slotFirst : BitVec 12
  slotCount : Nat
  /-- SP_CONTROL.ENABLE. [Table 9.3; reset 0] -/
  enable : Bool
  /-- SP_STATUS.FAULTED. [Table 9.2; reset 0] -/
  faulted : Bool
  /-- SP_STATUS.CODE. [Table 9.2; reset 0] -/
  code : BitVec 7
  /-- SP_STATUS.PROGRESS. [Table 9.2; reset 0] -/
  progress : BitVec 11
  /-- SP_STATUS.FAULT_INDEX. [Table 9.2; reset 0] -/
  faultIndex : BitVec 10
  /-- Commands issued and not complete, oldest first; SP_STATUS.BUSY. [R240; reset none] -/
  running : List SpCommand
  /-- The CCLK cycle of the last store to each ring entry that has been stored to, for the 8-cycle eligibility. [R239; reset none;
  the model's own] -/
  storedAt : List (Nat × Nat)
  /-- CCLK cycle from which the entry at HEAD has been there, with ENABLE set. [R240; reset 0; the model's own] -/
  headSince : Nat
  deriving DecidableEq, Repr

end Sys2Proof.Machine
end

