-- ==== Sys2Proof/Machine/State/Operand.lean ====
section
/-! DEFINITION. The types of command operands that are not plain words: what a command brings from outside the
block (a detected memory error, a condition of an encoding). -/

namespace Sys2Proof.Machine

/-- Where an error of a line is met: the memory itself, or the Turner's copy of it in a cache (05 R137). -/
inductive EccUnit where
  | memory | l1i | l1d
  /-- The L2, in a line that is not modified, or is. -/
  | l2 | l2Modified
  deriving DecidableEq, Repr

/-- An error that the ECC of a memory line reports while a command reads it (19 R466, R477), or that the parity or SECDED of
a cache of the Turner reports for its copy of the line (05 R137). -/
structure Ecc where
  /-- The line number (device address / 64). -/
  line : Nat
  /-- True for an uncorrectable error, false for a corrected one. -/
  uncorrected : Bool
  /-- Where the error is met. -/
  unit : EccUnit := .memory
  deriving DecidableEq, Repr

/-- An error that the SECDED of a tile, plane or scale store reports while an instruction reads it (07 Table 7.10). -/
structure TileEcc where
  /-- The instance of Table 19.1: 0-7 ot, 8-11 at, 12-15 cp, 16-19 scale stores. -/
  store : Fin 20
  /-- The row, or line, of the instruction at which it is met. -/
  row : Nat
  /-- True for an uncorrectable error, false for a corrected one. -/
  uncorrected : Bool
  deriving DecidableEq, Repr

/-- A Keep operation in a tracker entry that meets drives that fail in it: the ports. -/
structure KeepRun where
  k : Fin 512
  failing : List (Fin 8)
  deriving DecidableEq, Repr

/-- The reads of the stripe write that holds a lock, and the members whose drives cannot read their chunk (11 R294). -/
structure StripeReads where
  lock : Fin 256
  bad : List (Fin 8)
  deriving DecidableEq, Repr

/-- A step of a rebuild: the members whose drives cannot read their chunk, and whether a Flush of the target ends with an error
(11 R294, R298). -/
structure RebuildRun where
  bad : List (Fin 8)
  flushFails : Bool
  deriving DecidableEq, Repr

/-- The AtomicOps that BAR4 completes (02 R36, R43). -/
inductive AtomicOp where
  | fetchAdd (v : Nat)
  | swap (v : Nat)
  /-- Compare with `old`, and write `new` where equal. -/
  | cas (old new : Nat)
  deriving DecidableEq, Repr

/-- A device read of host memory that the host answers, or does not (02 Table 2.4). -/
inductive DevRead where
  /-- The read of a host line, by its device line number, for the operation in a tracker entry. -/
  | op (k : Fin 512) (line : Nat)
  /-- A flush read of the operation in a tracker entry (10 R262). -/
  | flush (k : Fin 512)
  /-- An outstanding load of the Turner, by its place. -/
  | load (i : Nat)
  deriving DecidableEq, Repr

/-- The fields of configuration space that the specification names (02 Tables 2.1, 2.2, 2.5, 2.7). -/
inductive ConfigReg where
  /-- Device ID and Vendor ID. -/
  | id
  /-- Class code and Revision ID. -/
  | classRevision
  /-- Subsystem ID and Subsystem Vendor ID. -/
  | subsystem
  | serialLow | serialHigh
  | aerUncorrectable | aerCorrectable
  /-- The i-th double word of the AER header log, and of the TLP prefix log. -/
  | aerHeader (i : Fin 4)
  | aerPrefix (i : Fin 4)
  /-- The i-th Base Address Register: BAR0, BAR2 and BAR4 take two each. -/
  | bar (i : Fin 6)
  /-- The Command register: Memory Space Enable and Bus Master Enable. -/
  | command
  /-- Device Capabilities: Max_Payload_Size Supported and Function-Level Reset. -/
  | deviceCapabilities
  /-- Device Control: Enable Relaxed Ordering, Max_Payload_Size, Max_Read_Request_Size. -/
  | deviceControl
  /-- Device Capabilities 2: AtomicOp completer, 32 and 64 bits. -/
  | deviceCapabilities2
  /-- Device Capabilities 3: 14-bit tags, as completer and as requester. -/
  | deviceCapabilities3
  /-- The ASPM Support field of Link Capabilities, and the ASPM Control field of Link Control. -/
  | aspmSupport | aspmControl
  /-- Power Management Capabilities, and its control: power state and No_Soft_Reset. -/
  | pmCapabilities | pmControl
  /-- Resizable BAR Capability and Control of BAR4. -/
  | resizableCapability | resizableControl
  | atsCapability | atsControl
  | pasidCapability | pasidControl
  /-- MSI-X Message Control, and the places of its table and of its PBA. -/
  | msixControl | msixTable | msixPba
  /-- The Lane Margining capability: timing steps, voltage steps, the largest error count limit. -/
  | marginTimingSteps | marginVoltageSteps | marginErrorLimit
  /-- The DVSEC IDs that are present in CXL mode, and the Cache Size of CXL.cache in KiB. -/
  | cxlDvsecs | cxlCacheSize
  /-- A capability of Table 2.3: absent. -/
  | absent
  /-- Any other register. -/
  | other
  deriving DecidableEq, Repr

/-- A command of Lane Margining at the Receiver (02 Table 2.2), with the errors that the margined receiver then counts. -/
inductive Margin where
  /-- A timing step, left or right. -/
  | timing (right : Bool) (steps : Nat) (errors : Nat)
  /-- A voltage step, up or down. -/
  | voltage (up : Bool) (steps : Nat) (errors : Nat)
  | errorLimit (n : Nat)
  /-- Back to the normal setting. -/
  | normal
  deriving DecidableEq, Repr

/-- A configuration request of the host (02 R36-R57). -/
inductive ConfigReq where
  | read (r : ConfigReg)
  | memEnable (v : Bool)
  | busMaster (v : Bool)
  | pasidEnable (v : Bool)
  | atsEnable (v : Bool)
  | relaxedOrdering (v : Bool)
  | cxlCache (v : Bool)
  | backInvalidate (v : Bool)
  | msixEnable (v : Bool)
  | functionMask (v : Bool)
  | completionTimeout (v : BitVec 4)
  | bar0 (v : BitVec 64)
  | bar2 (v : BitVec 64)
  | bar4 (v : BitVec 64)
  /-- Max_Payload_Size and Max_Read_Request_Size of Device Control. -/
  | maxPayload (v : BitVec 3)
  | maxRead (v : BitVec 3)
  /-- ASPM Control: L1 enabled. -/
  | aspmL1 (v : Bool)
  /-- A margining command for a receive lane. -/
  | margin (lane : Fin 16) (m : Margin)
  /-- A DOE Discovery object that asks for an entry (02 Table 2.2). -/
  | doeDiscovery (index : BitVec 8)
  /-- A DOE object of CDAT Table Access that asks for an entry (02 Table 2.7). -/
  | cdatAccess (entry : BitVec 16)
  /-- Write 1 to clear bits of the AER Uncorrectable Error Status. -/
  | clearUncorrectable (v : BitVec 32)
  /-- Write 1 to clear bits of the AER Correctable Error Status. -/
  | clearCorrectable (v : BitVec 32)
  deriving DecidableEq, Repr

/-- How the host port and the lanes let the link train (02 R32-R35, R54). -/
structure LinkTrain where
  /-- The rate reached, as HL_LANE_STATUS.RATE codes it; 0 where the link does not train. -/
  rate : BitVec 4
  flit : Bool
  /-- The width that the host port accepts. -/
  width : Nat
  /-- Lanes that do not reach symbol lock, bit n for HOST_RXn. -/
  noLock : BitVec 16
  /-- Whether the port comes up in CXL mode. -/
  cxl : Bool
  /-- Whether the port shares the reference clock with the device. [R33] -/
  commonClock : Bool
  /-- Whether the port accepts lane reversal. [R35] -/
  reversal : Bool
  deriving DecidableEq, Repr

/-- What a start-up meets (17 R438-R442, Table 17.5). -/
structure StartUp where
  /-- The straps SLOT_ID and TRAY_ID, where an open pin reads 1. [18 R449] -/
  slot : BitVec 2
  tray : BitVec 5
  /-- Ports whose drive is not ready in time. [step 9] -/
  late : BitVec 8
  /-- A stack fails training three times. [R442] -/
  stackFails : Bool
  /-- First addresses of HBM rows that fail the test, in the order found. [step 5] -/
  badRows : List Nat
  /-- The retained region passes its CRC; of a retained power-on. [14 R354] -/
  retainedOk : Bool
  /-- Read-back of a pack record that is written holds. [13 R333] -/
  eepromOk : Bool
  /-- Self-test 0 passes and the first tick publishes: the first RESET_NOTICE arrives. [step 6] -/
  notice : Bool
  /-- How the link trains, if it does so now. [step 8] -/
  train : Option LinkTrain
  deriving DecidableEq, Repr

/-- The conditions of CB, codes 0 to 7 (15 R391). -/
inductive JCond where
  | eq | ne | lt | ge | ltu | geu | any | none
  deriving DecidableEq, Repr

/-- The conditions of CBZ, codes 0 to 5 (15 R391). -/
inductive JZCond where
  | eqz | nez | ltz | gez | gtz | lez
  deriving DecidableEq, Repr

/-- The operations of the flash controller (21 Table 21.10). -/
inductive FlashOp where
  | program | eraseSector | eraseBank
  deriving DecidableEq, Repr

/-- The sensors that PLDM Type 2 offers (14 R372). -/
inductive PldmSensor where
  /-- A temperature sensor of Table 14.10. -/
  | temperature (n : Fin 24)
  | inputVoltage | inputPower
  /-- A rail voltage, by its place in Table 18.8. -/
  | rail (n : Fin 15)
  | packEnergy | packSoc | dirtyLimit
  /-- The composite temperature of the drive at a port. -/
  | driveTemperature (port : Fin 8)
  | assurance | assuranceLockout | throttleLevel | trip | packPresence | packReplace
  deriving DecidableEq, Repr

/-- Which work of the Keep engine a drive command belongs to (11 R269, R291): a stripe write, by its lock, or another Write or Flush,
of metadata, rebuild, resync or scrub. -/
inductive DriveWork where
  | stripe (lock : Fin 256)
  | other
  deriving DecidableEq, Repr

/-- What the host clears or sets at MSI-X (03 R92). -/
inductive MsixChange where
  /-- The Mask bit of a vector cleared. -/
  | vector (v : Fin 64)
  /-- The Function Mask cleared. -/
  | function
  /-- MSI-X Enable set. -/
  | enable
  deriving DecidableEq, Repr

end Sys2Proof.Machine
end

