-- ==== Sys2Proof/Machine/State/Link.lean ====
section
/-! DEFINITION. State of the host link: lanes, configuration space, BAR4 window, ATS, the home agents and the
snoop directory, and what the device has sent to the host (02_host_link). -/

namespace Sys2Proof.Machine

/-- One receive lane HOST_RXn (02 R34, 20 R489). -/
structure Lane where
  /-- TIMEBASE stamps of the symbol errors kept for the one-second window, oldest first. [R34, R470; reset none] -/
  errors : List Nat
  /-- The count has met the threshold of R34 and the lane is to be retired. [R34; reset false; the model's own] -/
  due : Bool
  /-- Trainings in a row that failed to reach symbol lock. [R34; reset 0] -/
  lockFails : Nat
  /-- Whether the lane is retired; kept in the settings store over every reset. [R34, R35; reset false] -/
  retired : Bool
  deriving DecidableEq, Repr

/-- What a margining command has come to (02 Table 2.2). -/
inductive MarginStatus where
  /-- The receiver stands at its normal setting. -/
  | normal
  /-- The receiver stands at the step, with so many errors, at most 63. -/
  | margining (errors : Nat)
  /-- More errors than the limit: the receiver went back to its normal setting. -/
  | tooMany
  /-- A step or a limit that the device does not offer. -/
  | refused
  deriving DecidableEq, Repr

/-- The lane margining state of one receive lane. -/
structure MarginLane where
  /-- The error count limit. [Table 2.2; reset 4, the standard's, log 133] -/
  limit : Nat
  /-- What the last command came to. [Table 2.2; reset normal] -/
  status : MarginStatus
  deriving DecidableEq, Repr

/-- An entry of the CDAT table that the device gives over DOE (02 Table 2.7). -/
inductive CdatEntry where
  /-- The DSMAS of the shared window: base and size in bytes. -/
  | dsmas (base size : Nat)
  /-- The DSLBIS: read and write latency in ns, read and write bandwidth in MB/s. -/
  | latencyRead (ns : Nat)
  | latencyWrite (ns : Nat)
  | bandwidthRead (mbs : Nat)
  | bandwidthWrite (mbs : Nat)
  deriving DecidableEq, Repr

/-- A message the device has sent to the host, in the order sent (02 R50, R51). Data of writes stand in the
host memory; the message records who sent what where. -/
inductive HostMsg where
  /-- A posted write of `len` bytes at host address `addr`; `ro` is the Relaxed Ordering attribute. -/
  | write (pasid : Option (BitVec 20)) (addr : Nat) (len : Nat) (ro : Bool)
  /-- A posted write that carries poison. -/
  | poisonedWrite (pasid : Option (BitVec 20)) (addr : Nat) (len : Nat)
  /-- A flush read behind writes (10 R260). -/
  | flushRead (pasid : Option (BitVec 20)) (addr : Nat)
  /-- An MSI-X message of vector v. -/
  | msix (v : Nat) (addr : W64) (data : W32)
  /-- The completion of a host read or AtomicOp, with its data. -/
  | completion (data : List Byte) (poison : Bool)
  /-- The completion of a non-posted request as Unsupported Request. -/
  | unsupported
  /-- Request Retry Status for a configuration request. -/
  | retry
  /-- A configuration read's data. -/
  | configData (v : W32)
  /-- BISnpInv for a line held by the host. -/
  | biSnpInv (line : Nat)
  /-- The response to CXL.mem read: a line's data and whether it is poisoned. -/
  | memData (line : Nat) (data : List Byte) (poison : Bool)
  /-- The completion of a CXL.mem write. -/
  | memCmp (line : Nat)
  /-- The answer to a host snoop, with the line's data when it was modified. -/
  | snoopRsp (line : Nat) (dirty : Option (List Byte)) (poison : Bool)
  /-- An ATS Translation Request. -/
  | translationRequest (pasid : Option (BitVec 20)) (page : Nat)
  /-- An ATS Invalidate Completion. -/
  | invalidateCompletion (tag : Nat)
  /-- An AER error message. -/
  | aer (kind : Nat) (fatal : Bool) (correctable : Bool)
  /-- The answer of DOE Discovery: vendor, object type, next index; no vendor where the index names no entry. -/
  | doeProtocol (vendor : Option Nat) (kind next : Nat)
  /-- The answer of CDAT Table Access. -/
  | cdat (e : Option CdatEntry)
  /-- The status of a margined lane. -/
  | margin (lane : Fin 16) (status : MarginStatus)
  deriving DecidableEq, Repr

/-- One cached translation (02 R47): tagged by PASID and untranslated page (4 KiB). -/
structure Translation where
  /-- The PASID, none for a request without one. [R46, R47] -/
  pasid : Option (BitVec 20)
  /-- The untranslated 4 KiB page. [R47] -/
  page : Nat
  /-- The translated page. [R47] -/
  target : Nat
  /-- Read permission. [R47, R49] -/
  canRead : Bool
  /-- Write permission. [R47, R49] -/
  canWrite : Bool
  deriving DecidableEq, Repr

/-- Who asks: the requester of a translation, or of a line at a home agent (02 R49, R60). -/
inductive Requester where
  /-- The operation of an admission rank. -/
  | op (order : Nat)
  /-- The memory read of the grant of a ring whose first position is `first`. -/
  | scan (ring : Nat) (first : W32)
  /-- The status line of a ring. -/
  | status (ring : Nat)
  /-- The entry at a position of a completion ring. -/
  | completion (cr : Nat) (tail : W32)
  /-- A load or a store of the Turner at a device address. -/
  | turner (store : Bool) (a : Nat)
  /-- The Turner's fetch at a pc. -/
  | fetch (pc : Nat)
  /-- The tile instruction at the head of the tile queue. -/
  | tile
  /-- The reload of the retained runtime image. -/
  | reload
  deriving DecidableEq, Repr

/-- A Translation Request that is out: what it asks for, and who waits for it (02 R47, R49). -/
structure XlatAsk where
  pasid : Option (BitVec 20)
  page : Nat
  /-- Those whose accesses wait for the answer, in order. [the model's own] -/
  who : List Requester
  deriving DecidableEq, Repr

/-- A refused translation that a requester has still to meet (02 R49). -/
structure XlatRefusal where
  who : Requester
  pasid : Option (BitVec 20)
  page : Nat
  deriving DecidableEq, Repr

/-- An invalidation whose completion waits for reads (02 R48): its tag, and the pages it covers. -/
structure Invalidation where
  tag : Fin 32
  pasid : Option (BitVec 20)
  page : Nat
  count : Nat
  deriving DecidableEq, Repr

/-- The kinds of link error of Table 2.4 (02 R39). -/
inductive LinkErr where
  /-- A symbol error on the lane. -/
  | symbol (lane : Nat)
  /-- A bad FLIT, a replay, a timeout of the replay timer, and the lanes whose symbols were in error, bit n for HOST_RXn. -/
  | badFlit (lanes : W16)
  | replay (lanes : W16)
  | replayTimeout (lanes : W16)
  /-- A poisoned TLP: host write to BAR4 at the offset with the data, and the errors that its merges meet. -/
  | poisonedBar4 (offset : Nat) (data : List Byte) (ecc : List Ecc)
  /-- A poisoned TLP: host write to BAR0 or BAR2, dropped. -/
  | poisonedBar02
  /-- A poisoned completion to a device read. -/
  | poisonedRead (r : DevRead)
  /-- UR, or CA, for a device read. -/
  | refusedRead (r : DevRead) (ca : Bool)
  /-- A request to an address outside every BAR, or refused under R42. -/
  | unsupportedPosted | unsupportedNonPosted
  | malformedTlp | receiverOverflow | flowControl
  deriving DecidableEq, Repr

/-- The AER location classes the device records (02 R36, Table 2.4). -/
structure Aer where
  /-- Correctable error status bits as PCI Express numbers them. [R36, R39; reset 0] -/
  corr : W32
  /-- Uncorrectable error status bits as PCI Express numbers them. [R36, R39; reset 0] -/
  uncorr : W32
  /-- The header log and the TLP prefix log of the first error, with its bit of the status, while one is held. [R36; reset none] -/
  log : Option (Nat × BitVec 128 × BitVec 128)
  deriving DecidableEq, Repr

/-- MSI-X table entry (02 R36, 03 R92): address, data, mask. -/
structure MsixEntry where
  /-- Message address. [R36, R92] -/
  addr : W64
  /-- Message data. [R36, R92] -/
  data : W32
  /-- Vector control: the Mask bit. [R92] -/
  mask : Bool
  deriving DecidableEq, Repr

/-- The configuration space fields the specification names (02 Table 2.1, Table 2.2). -/
structure Config where
  /-- Memory Space Enable. [R40; reset false, log 3] -/
  memEnable : Bool
  /-- Bus Master Enable. [R101; reset false, log 3] -/
  busMaster : Bool
  /-- D3hot (true) or D0. [R38; reset D0] -/
  d3hot : Bool
  /-- PASID Enable. [R46; reset false, log 3] -/
  pasidEnable : Bool
  /-- ATS Enable. [R47; reset false, log 3] -/
  atsEnable : Bool
  /-- Enable Relaxed Ordering. [R51; reset true, log 3] -/
  relaxed : Bool
  /-- CXL.cache enabled by the host. [R56; reset false, log 3] -/
  cxlCache : Bool
  /-- Back-invalidate enabled by the host. [R57; reset false, log 3] -/
  biEnable : Bool
  /-- MSI-X Enable. [R92; reset false, log 3] -/
  msixEnable : Bool
  /-- MSI-X Function Mask. [R92; reset false, log 3] -/
  msixMask : Bool
  /-- Completion timeout range value of Device Control 2. [R39; reset 0, 50 ms] -/
  cplTimeout : BitVec 4
  /-- The Resizable BAR encoding of BAR4, 10-19. [R40; reset HW 16, 64 GiB] -/
  bar4Enc : Nat
  /-- Base addresses of BAR0, BAR2 and BAR4. [R40; reset 0, log 3] -/
  bar0 : W64
  bar2 : W64
  bar4 : W64
  /-- Max_Payload_Size of Device Control, as PCI Express codes it. [Table 2.1; reset 0, 128 bytes, log 3] -/
  maxPayload : BitVec 3
  /-- Max_Read_Request_Size of Device Control. [Table 2.1; reset 2, 512 bytes, log 3] -/
  maxRead : BitVec 3
  /-- ASPM Control: L1 enabled. [Table 2.2; reset false, log 3] -/
  aspmL1 : Bool
  deriving DecidableEq, Repr

/-- A host request at the home agents (02 R43, R60), with the errors that the ECC reports when it is served. -/
inductive HomeReq where
  /-- A CXL.mem read of a line. -/
  | memRead (line : Nat) (ecc : List Ecc)
  /-- A CXL.mem write or writeback of a whole line; `keep`: the host keeps a copy. -/
  | memWrite (line : Nat) (data : List Byte) (keep : Bool)
  /-- A BAR4 read at a device address. -/
  | bar4Read (addr len : Nat) (ecc : List Ecc)
  /-- A BAR4 posted write at a device address; `poison`: the TLP is poisoned. -/
  | bar4Write (addr : Nat) (data : List Byte) (poison : Bool) (ecc : List Ecc)
  /-- An AtomicOp at a device address, of 8 bytes or of 4. -/
  | atomic (addr : Nat) (op : AtomicOp) (is64 : Bool) (ecc : List Ecc)
  /-- An access of one of the device's own agents to a line, which waits in order with the host's requests (R60). -/
  | device (who : Requester) (line : Nat)
  deriving DecidableEq, Repr

/-- The state of the host link and the coherence machinery. -/
structure Link where
  /-- HOST_RX0 to HOST_RX15. [R34; reset every lane 0 errors, in service] -/
  lanes : Vector Lane 16
  /-- Whether the link is up (Data Link Layer Link Active). [R66, R441; reset true: WARM follows step 8] -/
  up : Bool
  /-- HL_LANE_STATUS.RATE, 0 down to 6 at 64 GT/s. [Table 21.3; reset 6, log 3] -/
  rate : BitVec 4
  /-- The highest rate at which the link has trained since power-on. [20 R487; reset 6, log 3] -/
  best : BitVec 4
  /-- HL_LANE_STATUS.FLIT. [Table 21.3; reset true, log 3] -/
  flit : Bool
  /-- The width trained: 16, 8, 4, 1, or 0 when down. [Table 21.3; reset 16, log 3] -/
  trained : Nat
  /-- HL_LANE_STATUS.IN_USE. [Table 21.3; reset 0xFFFF, log 3] -/
  inUse : W16
  /-- PERST_N is asserted at the connector. [R441; reset false, log 3] -/
  perst : Bool
  /-- A PERST_N asserted while FCLK was stopped, whose reset follows the relock. [17 R427, R435; reset false; the model's own] -/
  perstDue : Bool
  /-- HL_LANE_TEST.LANES. [Table 20.3; reset 0] -/
  testLanes : W16
  /-- HL_LANE_TEST.BUSY. [Table 20.3; reset 0] -/
  testBusy : Bool
  /-- HL_LANE_TEST.UNSUPPORTED. [Table 20.3; reset 0] -/
  testUnsupported : Bool
  /-- HL_LANE_TEST.TESTED. [Table 20.3; reset 0] -/
  tested : W16
  /-- HL_LANE_TEST.PASS. [Table 20.3; reset 0] -/
  passed : W16
  /-- Whether the port runs in CXL mode. [R54; reset false, log 3] -/
  cxlMode : Bool
  /-- The device has directed the link through Recovery, to retrain without a retired lane. [R34; reset false; the model's own] -/
  recovery : Bool
  /-- Lane margining. [Table 2.2; reset as given for MarginLane] -/
  margins : Vector MarginLane 16
  /-- The width the device offers: 16, 8, 4, 1, or 0 when none is left. [R35; reset 16] -/
  width : Nat
  /-- The first lane of the group in use. [R35; reset 0] -/
  firstLane : Nat
  /-- Whether the host port accepts lane reversal. [R35; reset true, log 3] -/
  reversalOk : Bool
  /-- The configuration space. [R36, Table 2.1; reset as given for Config] -/
  cfg : Config
  /-- The AER status. [R36; reset 0] -/
  aer : Aer
  /-- The 64 MSI-X table entries. [R36, R92; reset address 0, data 0, masked, log 3] -/
  msix : Vector MsixEntry 64
  /-- The pending bits of the 64 vectors, bit v for vector v. [R36, R92; reset 0] -/
  pba : W64
  /-- HL_BAR4_BASE.BASE. [R41, Table 2.6; reset HW: 0x10 with the Keep enabled, else 0] -/
  bar4Base : BitVec 18
  /-- HL_SHARED_WINDOW.SIZE. [R57, Table 2.8; reset HW 0] -/
  winSize : BitVec 9
  /-- HL_SHARED_WINDOW.BASE. [R57, Table 2.8; reset HW 0] -/
  winBase : BitVec 20
  /-- Whether the HDM decoder is committed. [R57; reset false] -/
  hdmCommitted : Bool
  /-- The HDM decoder's Commit Error. [R57; reset false] -/
  commitError : Bool
  /-- The 4,096-entry translation cache, most recently used first. [R47; reset empty] -/
  atc : List Translation
  /-- Translation Requests sent and not answered. [R47; reset none] -/
  xlatAsked : List XlatAsk
  /-- Translations refused, each of which its requester meets when it goes on. [R49; reset none; the model's own] -/
  xlatRefused : List XlatRefusal
  /-- Invalidations whose completion waits for the reads that used the translations. [R48; reset none] -/
  invalidations : List Invalidation
  /-- Snoop directory: host-held lines by line number, earliest allocated first; bank and set follow from the address. [R58, R59; reset empty] -/
  dir : List Nat
  /-- Lines whose back-invalidate waits for the host's response. [R59, R62; reset none] -/
  biPending : List Nat
  /-- Requests that wait at the home agents, in order of arrival. [R59, R60, R263; reset none] -/
  homeQueue : List HomeReq
  /-- HL_SNOOP_EVICTIONS, saturating. [R59; reset 0] -/
  snoopEvictions : W32
  /-- Host lines modified in the Turner L2: host line number and its 64 bytes, least recently used first. [R52, R56, 05 R137;
  reset none] -/
  l2Host : List (Nat × List Byte)
  /-- Those of them that hold the store of a poisoned register. [05 R130; reset none] -/
  l2Poison : List Nat
  /-- Messages sent to the host, oldest first. [R50; reset none; the model's own] -/
  sent : List HostMsg
  /-- Posted host requests that were dropped. [R39, R42; reset 0; the model's own] -/
  dropped : Nat
  deriving DecidableEq, Repr

end Sys2Proof.Machine
end

