-- ==== Sys2Proof/Machine/State/Mgmt.lean ====
section
/-! DEFINITION. State of the pack, gauge and charger (13_holdup_pack_gauge) and of the management plane
(14_management_plane). -/

namespace Sys2Proof.Machine

/-- The pack record of Table 13.1 (13 R331). -/
structure PackRecord where
  magicOk : Bool
  version : Nat
  chem : Nat
  designCap : Nat
  serial : List Byte
  writeSeq : Nat
  fcc : Nat
  ageRatio : Nat
  cycles : Nat
  residue : Nat
  /-- Entry (b, tau) at index 3b + tau: Z10 and Z200 in milliohms, 0xFFFF not measured. -/
  imp : Vector (Nat × Nat) 30
  /-- Whether the CRC is correct. -/
  crcOk : Bool
  deriving DecidableEq, Repr

/-- The phase of the charger (13 R335). -/
inductive ChargePhase where
  | off | constantCurrent | constantVoltage | paused
  deriving DecidableEq, Repr

/-- The phase of an impedance test (13 Table 13.3). -/
inductive ImpPhase where
  | idle
  /-- V0 sampled, the load on. -/
  | loaded (v0 : Nat)
  /-- V10 sampled. -/
  | sampled10 (v0 v10 : Nat)
  /-- V200 sampled, results stored at the next tick. -/
  | sampled200 (v0 v10 v200 : Nat)
  deriving DecidableEq, Repr

/-- One sample of the gauge (13 R337). -/
structure Sample where
  cell0 : Nat
  cell1 : Nat
  /-- mA, positive while charging. -/
  current : Int
  /-- Whole degrees C, rounded toward minus infinity. -/
  temp : Int
  /-- Whether every converter was in its range. [13 Corners, R455] -/
  inRange : Bool
  deriving DecidableEq, Repr

/-- The pack, gauge and charger. -/
structure Gauge where
  /-- PACK_PRSNT_N: whether a pack is present. [R349, R350; reset false, log 3] -/
  present : Bool
  /-- The pack EEPROM's record. [R331; reset none, log 3] -/
  eeprom : Option PackRecord
  /-- The flash mirror, most recently used first, at most eight. [R332; reset none, log 3] -/
  mirror : List PackRecord
  /-- The record in use. [R332; reset none] -/
  record : Option PackRecord
  /-- The serials whose EEPROM is EEPROM_RO. [R333; reset none] -/
  eepromRo : List (List Byte)
  /-- Consecutive failed EEPROM writes of the serial in use. [R333; reset 0] -/
  writeFails : Nat
  /-- Whether the pack FET is closed. [R330, R460; reset false] -/
  fetClosed : Bool
  /-- Whether the FET opened at cutoff. [R330; reset false] -/
  cutoff : Bool
  /-- The latest sample. [R337, R346; reset none] -/
  last : Option Sample
  /-- Sampling at 64 Hz. [R337; reset false] -/
  fast : Bool
  /-- Consecutive samples with |I| < 50 mA. [R337; reset 0] -/
  quiet : Nat
  /-- RC in 1/64 mA s. [R337; reset 0] -/
  rc : Nat
  /-- S_REP in 0.1 %. [R340; reset 0] -/
  sRep : Nat
  /-- Jiman tick of the last S_REP move. [R340; reset 0] -/
  repTick : Nat
  /-- UNRESTED. [R338, R349; reset false] -/
  unrested : Bool
  /-- Consecutive time at rest, in 1/64 s. [R338; reset 0] -/
  restTime : Nat
  /-- Time with |I| < 20 mA, in 1/64 s. [R341; reset 0] -/
  idleTime : Nat
  /-- The last anchor in this power-on: SoC it set and net counts since. [R339; reset none] -/
  anchor : Option (Nat × Int)
  /-- Whether the estimate has been made since insertion. [R346, R349; reset false] -/
  estimated : Bool
  /-- The hardware latch that R16 reads: the estimate is valid. [R346; reset false] -/
  validLatch : Bool
  /-- The phase of the charger. [R335; reset off] -/
  charge : ChargePhase
  /-- Jiman tick of the charge's start. [R336; reset 0] -/
  chargeStart : Nat
  /-- Jiman ticks of charge timeouts, with the serial. [R336; reset none] -/
  timeouts : List (Nat × List Byte)
  /-- CHARGE_LOCK with the serial it holds for. [R336; reset none] -/
  chargeLock : Option (List Byte)
  /-- HP_CONTROL.CHARGE_INHIBIT as in effect. [Table 13.6; reset 0] -/
  inhibit : Bool
  /-- HP_CONTROL.TEST asked for since the last test. [R341; reset false] -/
  testAsked : Bool
  /-- The phase of an impedance test. [R341, Table 13.3; reset idle] -/
  imp : ImpPhase
  /-- Jiman tick of the last test's start, none since insertion or power-on. [R341; reset none] -/
  lastTest : Option Nat
  /-- Jiman tick before which an abandoned test is not tried again. [R341; reset none] -/
  retryAt : Option Nat
  /-- Jiman tick of the last residue write. [R333; reset 0] -/
  residueTick : Nat
  /-- DISCH_RESIDUE and CYCLES live in the record; the record is dirty. [R333; reset false] -/
  dirty : Bool
  /-- HP_WARN and HP_CRIT armed. [R348; reset true] -/
  warnArmed : Bool
  critArmed : Bool
  /-- Published deliverable energy after derating, in J. [R345, R346; reset 0] -/
  energy : Nat
  /-- 1 Hz samples still to take in an insertion, and the lower cell voltages taken. [R349; reset none] -/
  inserting : Option (List Nat)
  deriving DecidableEq, Repr

/-- A Breadcrumb entry (14 Table 14.15). -/
structure Crumb where
  tick : W32
  location : W16
  severity : Byte
  event : Byte
  data : W64
  deriving DecidableEq, Repr

/-- A mailbox message (14 Table 14.12): its 64 bytes. -/
abbrev MboxMsg := BitVec 512

/-- An SR0 management operation that waits for its reply (14 R370). -/
structure MgmtOp where
  /-- Its tracker entry. -/
  entry : Nat
  /-- Request number SEQ. -/
  seq : W16
  /-- Whether OP_REQUEST has been sent since the last RESET_NOTICE. -/
  sent : Bool
  /-- Bytes of its DATA stream sent or received. -/
  offset : Nat
  deriving DecidableEq, Repr

/-- A management operation that the Jiman has received and not answered (14 R367, R370). -/
structure JOp where
  opcode : Byte
  seq : W16
  /-- Payload bytes 8-63 of its OP_REQUEST: the descriptor body. -/
  body : List Byte
  /-- Bytes of its DATA stream received so far. -/
  data : List Byte
  deriving DecidableEq, Repr

/-- One temperature sensor (14 R362, R366). -/
structure Sensor where
  /-- The last reading in 0.125 degrees C. [R362; reset 0 DESIGN CHOICE, log 2] -/
  value : Int
  /-- Consecutive failed ticks. [R366; reset 0] -/
  fails : Nat
  /-- Retired until power-on. [R366; reset false] -/
  retired : Bool
  deriving DecidableEq, Repr

/-- One port's NVMe-MI poll record (14 R374). -/
structure NvmePoll where
  fails : Nat
  responds : Bool
  smartWarn : Bool
  tempWarn : Bool
  reply : W64
  deriving DecidableEq, Repr

/-- A sideband message the module has sent (14 R371-R373). -/
structure SideMsg where
  /-- MCTP message type of Table 14.14. -/
  kind : Byte
  /-- The bytes of the message. [R371] -/
  data : List Byte
  deriving DecidableEq, Repr

/-- The management plane outside the Jiman core. -/
structure Mgmt where
  /-- The Jiman tick: a hardware counter. [R360; reset 0] -/
  tick : W32
  /-- PC_LIMIT_WORD, HP_PACK_WORD, MG_THERMAL_WORD, MG_DRIVE_WORD, MG_HEALTH_WORD. [Table 14.6; reset 0] -/
  words : Vector W64 5
  /-- Whether the dirty-limit word is stale as the data plane sees it. [R14, R313; reset false] -/
  stale : Bool
  /-- HOLD_ASSURE. [R16; reset low] -/
  holdAssure : Bool
  /-- MG_STATE.ASSURE as the data plane holds it. [R369; reset 0] -/
  assure : Bool
  /-- The assurance lockout. [R359; reset false] -/
  assureLock : Bool
  /-- Whether a mismatch has been reported since the last management reset. [R16; reset false] -/
  mismatch : Bool
  /-- Whether the latest self-test passed, and one has passed since the management reset. [R16, R355, R357; reset false] -/
  selftestOk : Bool
  /-- The self-test's number n. [R357; reset 0] -/
  selftestNo : Nat
  /-- Writes of the main copy are gated. [R358; reset false] -/
  gated : Bool
  /-- A management reset is in progress: it completes at the first tick's publish step. [R355; reset false: AWAIT] -/
  resetting : Bool
  /-- A management reset to be requested after the next tick's publish step. [R358; reset false] -/
  resetAsked : Bool
  /-- A self-test failure that the next tick reports. [Table 14.3; reset false] -/
  selftestFailed : Bool
  /-- Ticks of the management faults in the current 24 h window. [R358, R359; reset none] -/
  faultTicks : List W32
  /-- The hardware management fault counter. [Table 14.1, R377; reset 0] -/
  faultCounter : Nat
  /-- MGMT_RESETS. [Table 14.9; reset 0] -/
  resets : W16
  /-- LOOP_OVERRUNS. [R361; reset 0] -/
  overruns : BitVec 12
  /-- TIMEBASE of the last watchdog refresh. [R358; reset 0; the model's own] -/
  wdogAt : W64
  /-- Whether a tick is held because the previous one has not published. [R361; reset false] -/
  tickHeld : Bool
  /-- Whether the tick last begun has not reached its publish step. [R361; reset false] -/
  tickRunning : Bool
  /-- THROTTLE_REQ as the Jiman last wrote it. [R363; reset 0] -/
  level : BitVec 2
  /-- THROTTLE_REQ as driven, the trip included. [R365; reset 0] -/
  driven : BitVec 2
  /-- Consecutive ticks for which the exit conditions have held. [R363; reset 0] -/
  exitTicks : Nat
  /-- TRIP. [R365; reset false] -/
  trip : Bool
  /-- TRIP_N as driven at the connector. [R452; reset released] -/
  tripN : Bool
  /-- Input power samples of the last 10 ticks, in mW, newest first. [R363; reset none] -/
  power : List Nat
  /-- Sensors 0-23. [R362; reset 0, no failure, in service] -/
  sensors : Vector Sensor 24
  /-- Whether INLET is outside 20-45 degrees. [R364; reset false] -/
  inletOut : Bool
  /-- Voltage and power readings for the snapshot, in mV or mW, up to 20. [R362, Table 14.16; reset none] -/
  rails : List W32
  /-- Mailbox buffer to the Jiman, full where present. [R367; reset empty] -/
  toMg : Option MboxMsg
  /-- Mailbox buffer to the data plane. [R367; reset empty] -/
  toDp : Option MboxMsg
  /-- Whether the queue engine awaits the first RESET_NOTICE of the start. [14 Corners; reset 1] -/
  awaitNotice : Bool
  /-- SR0 management operations that wait for a reply. [R113, R370; reset none] -/
  ops : List MgmtOp
  /-- The last request SEQ used by the queue engine. [R370; reset 0] -/
  seq : W16
  /-- The request that the Jiman works on. [R367, R370; reset none] -/
  jop : Option JOp
  /-- FW_ACTIVATE has been answered: a management reset follows once its reply is taken. [R413; reset false] -/
  replyReset : Bool
  /-- A management reset has completed with every condition of R16 true, and HOLD_ASSURE is about to rise. [R16, R355; reset false] -/
  riseDue : Bool
  /-- The retained region's last completed SEQ and its stored reply. [R353, R370; reset none] -/
  retainedReply : Option (W16 × MboxMsg)
  /-- Whether the retained region passes its CRC. [R354; reset true] -/
  retainedOk : Bool
  /-- Latched host writes of HP_CONTROL and MG_FFR_CLEAR not yet delivered. [R368; reset none] -/
  latchHp : Option W32
  latchFfr : Option W32
  /-- HP_CONTROL as the Ohmim reads it back. [R501; reset 0] -/
  hpReg : W32
  /-- Register writes the Jiman has received, which take effect at its next tick. [R347, R501; reset none] -/
  hpCmd : Option W32
  ffrCmd : Bool
  /-- Messages the Jiman has to send, in precedence order when sent. [R368; reset none] -/
  outbox : List MboxMsg
  /-- DP_ALERT asserted, not yet logged. [R15; reset false] -/
  dpAlert : Bool
  /-- The Breadcrumb log: the newest 4,096 entries, oldest first. [R375; reset empty] -/
  crumbs : List Crumb
  /-- Entries ever written. [R375; reset 0] -/
  crumbCount : W32
  /-- The first-fault record, none while empty. [R376; reset HW none] -/
  ffr : Option (BitVec 512)
  /-- The power-on count. [R376, R432; reset HW 1] -/
  powerOns : W32
  /-- NVMe-MI polls of ports 0-7. [R374; reset not responding] -/
  polls : Vector NvmePoll 8
  /-- I3C dynamic address. [R371, Table 14.1; reset none] -/
  dynAddr : Option Byte
  /-- MCTP endpoint ID, 0 until assigned. [R371; reset 0] -/
  eid : Byte
  /-- Whether the bus is I3C (true) or SMBus. [R371; reset true, log 3] -/
  i3c : Bool
  /-- The receiver of PLDM events. [R372; reset none] -/
  eventReceiver : Option Byte
  /-- The SPDM connection: version negotiated, capabilities, algorithms. [R373; reset none] -/
  spdmVersion : Bool
  spdmCaps : Bool
  spdmAlgs : Bool
  /-- A DOE_SPDM message being assembled. [R367; reset none] -/
  doe : List Byte
  /-- DOE_SPDM fragments that the queue engine has still to send. [R368; reset none] -/
  doeOut : List (List Byte)
  /-- Messages sent on the sideband, oldest first. [R371; reset none; the model's own] -/
  side : List SideMsg
  deriving DecidableEq, Repr

end Sys2Proof.Machine
end

