-- ==== Sys2Proof/Machine/State/Queue.lean ====
section
/-! DEFINITION. State of the queue engine: submission and completion rings, push slots, the operation tracker,
device events, and the engines' records of running operations (03_descriptor_rings, 04_operations). -/

namespace Sys2Proof.Machine

/-- What an operation's completion reports (04 Table 4.2, Table 4.8). -/
structure Result where
  /-- STATUS of Table 4.7. -/
  status : Byte
  /-- KIND of the DETAIL record; 0 means no record (DETAIL = 0). -/
  kind : Byte
  /-- CODE of the DETAIL record. -/
  code : Byte
  /-- LOCATION of the DETAIL record (19 Table 19.1). -/
  location : W16
  /-- ADDRESS of the DETAIL record. -/
  address : W64
  /-- PROGRESS of the DETAIL record. -/
  progress : W64
  /-- INFO of the DETAIL record. -/
  info : W64
  deriving DecidableEq, Repr

/-- The phase of an admitted operation (04 R119-R125). -/
inductive Phase where
  /-- Consumed and admitted, not started. -/
  | admitted
  /-- Started: its block has taken it. -/
  | started
  /-- Finished: its status is decided; its completion entry waits to be written. -/
  | finished
  deriving DecidableEq, Repr

/-- One entry of the operation tracker in use (04 R117). -/
structure Op where
  /-- The submission ring that the descriptor came from. [R78] -/
  sr : Nat
  /-- SEQ of the descriptor. [R70] -/
  seq : W32
  /-- The 64 bytes of the descriptor; byte 0 is bits [7:0]. [R102] -/
  desc : BitVec 512
  /-- TIMEBASE at consumption. [R78] -/
  fetch : W64
  /-- Rank of admission over all rings: lower was admitted earlier. [R122; the model's own] -/
  order : Nat
  /-- Where the operation stands between admission and its completion entry. [R119, R125, Table 4.9] -/
  phase : Phase
  /-- WAIT, fixed at the start, or at the decision for an operation that never starts. [R119] -/
  wait : W16
  /-- Destination bytes written so far. [R116] -/
  progress : Nat
  /-- What the operation itself counts beside PROGRESS: stripes done, mismatches, pieces sent. [R301; the model's own] -/
  aux : Nat
  /-- What its start fixes for it: the address of the counter of a SIGNAL, or of the entry of a RELAY. [10 R256, R258] -/
  target : Option Nat
  /-- Members, bit i for member i, without which stripe writes of its stripes have completed. [11 R292] -/
  degraded : Nat
  /-- The engine of its block that performs it. [R121, R515; the model's own] -/
  engine : Nat
  /-- The last address written in each flush range, by the range's first address. [R262] -/
  flush : List (Nat × Nat)
  /-- The flush reads that are out: PASID and untranslated page of each. [R262, 02 R48] -/
  flushOut : List (Option (BitVec 20) × Nat)
  /-- The result it completes with once its flush reads have completed; its last write is made. [R262] -/
  closing : Option Result
  deriving DecidableEq, Repr

/-- A completion entry that waits to be written, in finishing order (03 R88, R90). -/
structure Cpl where
  /-- TAG. [Table 4.2] -/
  tag : W32
  /-- SEQ. [Table 4.2] -/
  seq : W32
  /-- TIMEBASE[41:10] at the decision. [R103] -/
  time : W32
  /-- WAIT. [R119, Table 4.2] -/
  wait : W16
  /-- What it reports. [Table 4.2, Table 4.8] -/
  result : Result
  /-- SR, the ring of the descriptor. [Table 4.2] -/
  sr : Nat
  /-- Whether it asks for a message at once. [R89, R91] -/
  notify : Bool
  /-- The PASID with which the completion ring is reached. [R69] -/
  pasid : Option (BitVec 20)
  /-- The tracker entry it releases when written; none for MALFORMED. [R90, R117] -/
  entry : Option Nat
  deriving DecidableEq, Repr

/-- A full push slot (03 R518): the position (as a sequence number) it is bound to and its copy. -/
structure PushSlot where
  /-- The position it is bound to, as a SEQ. [R518] -/
  position : W32
  /-- The descriptor pushed. [R79, R518] -/
  copy : BitVec 512
  deriving DecidableEq, Repr

/-- A grant being scanned (03 R77). -/
structure Grant where
  /-- SEQ of the first position of the grant. -/
  first : W32
  /-- Positions of the grant. -/
  count : Nat
  /-- Positions served so far. -/
  served : Nat
  /-- Shared tracker entries still reserved. [R77, R117] -/
  shared : Nat
  /-- Reserved-class tracker entries still reserved. [R77, R117] -/
  high : Nat
  /-- Whether the grant's one memory read is outstanding, from position `served` on. [R77, R81] -/
  reading : Bool
  deriving DecidableEq, Repr

/-- The mode of a ring reset in progress (03 R97, 04 R111). -/
inductive RingResetMode where
  | clear | replay | delete
  deriving DecidableEq, Repr

/-- One submission ring (03 Table 3.1, Table 3.5). -/
structure SubRing where
  /-- SR_STATUS.EXISTS. [Table 3.5; reset false] -/
  exists_ : Bool
  /-- Device address bits [47:0] of entry 0. [R68; reset 0] -/
  base : DevAddr
  /-- log2 of the number of entries, 6-16. [R68; reset 0] -/
  log2 : Nat
  /-- Priority 0-7. [R68; reset 0] -/
  prio : Nat
  /-- Home completion ring. [R68; reset 0] -/
  homeCr : Nat
  /-- PASID of a data ring. [R46; reset 0] -/
  pasid : BitVec 20
  /-- HEAD: SEQ of the next descriptor to be consumed, which is the scan point: positions are served in order. [R70, R71, R518; reset 0] -/
  head : W32
  /-- DOORBELL_PENDING. [R75; reset false] -/
  doorbell : Bool
  /-- TIMEBASE from which the ring is eligible. [R76; reset 0; the model's own] -/
  eligibleAt : W64
  /-- Push slots 0-3. [R79; reset empty] -/
  push : Vector (Option PushSlot) 4
  /-- PUSH_DROPS, saturating. [Table 3.5; reset 0] -/
  pushDrops : W32
  /-- STOPPED. [R71; reset false] -/
  stopped : Bool
  /-- DEVICE_HALTED in the status line. [Table 3.2; reset false] -/
  deviceHalted : Bool
  /-- STOP_SEQ. [Table 3.2; reset 0] -/
  stopSeq : W32
  /-- REASON. [Table 3.2, Table 3.7; reset 0] -/
  reason : Byte
  /-- The pending MALFORMED completion of the stop record. [R90; reset none] -/
  stopRecord : Option Cpl
  /-- RESETTING with its mode. [R97, R111; reset none] -/
  resetting : Option RingResetMode
  /-- The lowest SEQ that the reset in progress completed with ABORTED. [R99; reset none] -/
  abortedLow : Option W32
  /-- The grant being scanned. [R77; reset none] -/
  grant : Option Grant
  /-- The status line is to be written and waits for its memory. [R71; reset false; the model's own] -/
  linePending : Bool
  /-- HEAD in the status line last written. [R71; reset 0; the model's own] -/
  lineHead : W32
  deriving DecidableEq, Repr

/-- One completion ring (03 Table 3.1, Table 3.4, R91). -/
structure CplRing where
  /-- Whether the ring exists. [R68; reset false] -/
  exists_ : Bool
  /-- Device address of entry 0. [R68; reset 0] -/
  base : DevAddr
  /-- log2 of the number of entries. [R68; reset 0] -/
  log2 : Nat
  /-- MSI-X vector 0-62. [R91; reset 0] -/
  vector : Nat
  /-- Coalescing COUNT. [R91, Table 3.4; reset 1 for CR0, 0 otherwise] -/
  count : Nat
  /-- Coalescing TIME in units of 1,024 FCLK cycles. [R91; reset 0] -/
  time : Nat
  /-- Base of the detail area. [R115; reset 0] -/
  detailBase : DevAddr
  /-- CR_TAIL, the completion count. [R86; reset 0] -/
  tail : W32
  /-- CR_HEAD, the host's consumed count. [R86; reset 0] -/
  head : W32
  /-- SR_STATUS.BAD_CR_HEAD. [R86; reset false] -/
  badHead : Bool
  /-- Completions waiting to be written, in finishing order. [R88; reset none] -/
  waiting : List Cpl
  /-- PENDING: entries written since the last message. [R91; reset 0] -/
  pendingMsgs : Nat
  /-- TIMEBASE of the oldest of those entries. [R91; reset 0] -/
  oldest : W64
  deriving DecidableEq, Repr

/-- The queue engine and the tracker. -/
structure Queue where
  /-- QE_CONTROL.ENABLE. [R27, R72, R73; reset false] -/
  enable : Bool
  /-- QE_CONTROL.CONFIG_ERR. [R72; reset false] -/
  configErr : Bool
  /-- QE_SR0_CONFIG. [R72, Table 3.3; reset 0] -/
  sr0Config : W64
  /-- QE_CR0_CONFIG. [R72, Table 3.4; reset COUNT = 1] -/
  cr0Config : W64
  /-- QE_CR0_DETAIL. [R115; reset 0] -/
  cr0Detail : W64
  /-- Whether QE_SR0_CONFIG was written in WARM since the last check. [R73; reset false] -/
  sr0Written : Bool
  /-- Whether QE_CR0_CONFIG or QE_CR0_DETAIL was written in WARM since the last check. [R73; reset false] -/
  cr0Written : Bool
  /-- A doorbell of SR0 recorded in WARM before SR0 exists. [R82; reset false] -/
  sr0Doorbell : Bool
  /-- SR0 to SR31. [R67, Table 3.1; reset as given for SubRing] -/
  sr : Vector SubRing 32
  /-- CR0 to CR31. [R67, Table 3.1; reset as given for CplRing] -/
  cr : Vector CplRing 32
  /-- The round-robin pointers of priority levels 0-7. [R83; reset SR0] -/
  rr : Vector Nat 8
  /-- QE_EVENT. [R93, Table 3.6; reset 0] -/
  event : W32
  /-- QE_EVENT_ENABLE. [R93; reset 0] -/
  eventEnable : W32
  /-- QE_STOPPED_RINGS. [Table 3.6, R96; reset 0] -/
  stoppedRings : W32
  /-- The 512 tracker entries, none where free. [R117; reset all free] -/
  ops : Vector (Option Op) 512
  /-- Rank of the next admission. [R122; reset 0; the model's own] -/
  nextOrder : Nat
  /-- TIMEBASE when a SIGNAL or a RELAY was last issued. [04 Table 4.10; reset none; the model's own] -/
  issuedAt : Option W64
  deriving DecidableEq, Repr

end Sys2Proof.Machine
end

