-- ==== Sys2Proof/Machine/State/Turner.lean ====
section
/-! DEFINITION. State of the Turner core: registers, status, banks, shadow stacks, pending accesses, launch and
halt (05_turner_core, 06_turner_instruction_set). -/

namespace Sys2Proof.Machine

/-- The live status cstat (05 Table 5.5); the saved copies are raw words. -/
structure Cstat where
  /-- PRIV: true is S. [Table 5.5; reset 1] -/
  priv : Bool
  /-- IE. [Table 5.5; reset 0] -/
  ie : Bool
  /-- DET. [Table 5.5; reset 0] -/
  det : Bool
  /-- ENTRY. [Table 5.5; reset 0] -/
  entry : Bool
  /-- RESCUE. [Table 5.5; reset 0] -/
  rescue : Bool
  deriving DecidableEq, Repr

/-- A segment slot as Table 5.4 lays it out: 128 bits. -/
abbrev Segment := BitVec 128

/-- What a load writes from the bytes it read (06 R165): its width and whether it sign-extends. -/
structure LoadKind where
  /-- Bytes. [R165] -/
  width : Nat
  /-- Whether the result is sign-extended. [R165] -/
  signed : Bool
  deriving DecidableEq, Repr

/-- What a load has read (05 R129): its bytes, and whether they come with poison. -/
structure LoadData where
  /-- The bytes read. [R129] -/
  bytes : List Byte
  /-- Whether they came with poison. [R129] -/
  poison : Bool
  deriving DecidableEq, Repr

/-- A committed access that is not complete, in program order (05 R128-R130, R139). -/
inductive MemAccess where
  /-- A load or window read whose destination is reserved; `result` once it has been performed. `addr` is the device
  address; `pasid` that of a host access; `cached`: through the caches. -/
  | load (rd : BitVec 5) (addr : DevAddr) (kind : LoadKind) (pasid : Option (BitVec 20)) (cached : Bool)
      (result : Option LoadData)
  /-- A store not yet globally observed; `poison`: of a poisoned register; `slot` and `sBank`: the segment it went through,
  for estat (Table 5.5); `failed` at its destination. -/
  | store (addr : DevAddr) (data : List Byte) (poison : Bool) (pasid : Option (BitVec 20)) (cached : Bool)
      (slot : BitVec 3) (sBank : Bool) (failed : Bool)
  deriving DecidableEq, Repr

/-- The record of the image of the last successful RUNTIME_LOAD (05 R152). -/
structure Retained where
  addr : DevAddr
  length : Nat
  digest : BitVec 384
  loadBase : DevAddr
  deriving DecidableEq, Repr

/-- A kernel that is running: launched and not completed (04 R112). -/
structure Running where
  /-- KID: its tracker entry. [R117, Table 5.9] -/
  kid : Nat
  /-- SEG_TABLE, for reloads of the K bank. [R516] -/
  segTable : Nat
  /-- Priority of its ring. [R156] -/
  prio : Nat
  /-- PASID of its ring. [R143] -/
  pasid : Option (BitVec 20)
  /-- BUDGET, 0 for none. [R155] -/
  budget : W32
  /-- FCLK cycles during which it has been current. [R155] -/
  used : Nat
  /-- Whether BUDGET was raised for it. [R155] -/
  overBudget : Bool
  /-- ecause, estat and epc of its last exception at K, 0 before the first. [Table 5.7] -/
  lastCause : Byte
  lastEstat : W32
  lastEpc : W64
  deriving DecidableEq, Repr

/-- A completion the runtime asked for through TC_KERNEL_DONE, posted once stores and tiles are done (05 R154). -/
structure KernelDone where
  kid : Nat
  status : Byte
  code : Byte
  epc : W64
  ecause : Byte
  estat : W32
  deriving DecidableEq, Repr

/-- The core's run state (05 Table 5.7, R151). -/
inductive CoreMode where
  /-- In reset: no runtime loaded, or locked out. -/
  | stopped
  /-- Executing instructions. -/
  | running
  /-- Halted: the L2 writeback is in progress. -/
  | halted
  /-- The retained image is being read and checked. -/
  | reloading
  deriving DecidableEq, Repr

/-- The Turner core. -/
structure Turner where
  /-- Stopped, running, halted or held. [R151, Table 5.7; reset stopped] -/
  mode : CoreMode
  /-- g0-g31. [R160; reset 0] -/
  g : Vector W64 32
  /-- gpoison: bit n is the poison bit of gn. [R129, Table 6.7; reset 0] -/
  gpoison : W32
  /-- The device address of the load that set each poison bit. [R130; reset 0] -/
  poisonAddr : Vector DevAddr 32
  /-- lk. [R160; reset 0] -/
  lk : W64
  /-- The pc, an offset in s0. [R158; reset 0x200 at a runtime start] -/
  pc : W64
  /-- The live status. [Table 5.5; reset as given for Cstat] -/
  cstat : Cstat
  /-- PRIV and DET written by MTS and not yet in force. [R174; reset none] -/
  cstatNext : Option (Bool × Bool)
  /-- ecause, epc, estat, eaddr. [R145, R146, R175; reset 0 DESIGN CHOICE, log 2] -/
  ecause : W64
  epc : W64
  estat : W64
  eaddr : W64
  /-- xcause, xpc, xstat, xaddr. [R146; reset 0 DESIGN CHOICE, log 2] -/
  xcause : W64
  xpc : W64
  xstat : W64
  xaddr : W64
  /-- timercmp. [Table 6.7; reset 0] -/
  timercmp : W64
  /-- ipend bits BUDGET, PREEMPT, KERNEL_READY, TIMER. [R173; reset 0] -/
  ipend : BitVec 4
  /-- The last value of each interrupt's condition, for its edge. [R173; reset 0; the model's own] -/
  icond : BitVec 4
  /-- S-bank slots s0-s7. [Table 5.4; reset INVALID] -/
  sbank : Vector Segment 8
  /-- S-bank slot s7 as saved while RESCUE = 1. [R146, R147; reset INVALID] -/
  savedS7 : Segment
  /-- S-bank slots with MTS writes not yet in force. [R174; reset as sbank] -/
  sbankNext : Vector Segment 8
  /-- K-bank slots s0-s7. [Table 5.4; reset INVALID] -/
  kbank : Vector Segment 8
  /-- The 64 segment tables of eight slots. [R140; reset INVALID] -/
  segTables : Vector (Vector Segment 8) 64
  /-- The K shadow stack's entries, 0 at the bottom. [R148; reset 0] -/
  kss : Vector W64 1024
  /-- kss_depth. [R149, Table 6.7; reset 0] -/
  kssDepth : Nat
  /-- kss_sel. [Table 6.7; reset 0] -/
  kssSel : BitVec 10
  /-- The S shadow stack's entries. [R148; reset 0] -/
  sss : Vector W64 256
  /-- sss_depth. [Table 6.7; reset 0] -/
  sssDepth : Nat
  /-- The 4,096-byte Rescue stack in core-private SRAM. [R150; reset 0, log 5] -/
  rescueStack : Memory
  /-- Accesses that have committed and are not complete, oldest first, with at most eight loads. [R128, R139; reset none] -/
  accesses : List MemAccess
  /-- Stores that have left that list since the core was reset, so that a tile instruction knows which stores it waits for.
  [R139; reset 0; the model's own] -/
  storesLeft : Nat
  /-- RUNTIME_LOADED and the retained copy. [R152, Table 5.8; reset none] -/
  retained : Option Retained
  /-- Kernels that are running, whether current or preempted. [R112, R516; reset none] -/
  runningK : List Running
  /-- The current kernel's KID. [R516; reset none] -/
  current : Option Nat
  /-- Completions asked for through TC_KERNEL_DONE and not yet posted. [R154; reset none] -/
  done : List KernelDone
  /-- TC_TILE_OWNER; 0x3FF is no owner. [R157; reset 0x3FF] -/
  tileOwner : BitVec 10
  /-- TC_KERNEL_DONE word 1, EPC. [Table 21.5; reset 0] -/
  doneEpc : W64
  /-- TIMEBASE stamps of the halts in the current 600-second window, oldest first. [R151, Table 5.8; reset none] -/
  halts : List W64
  /-- LAST_HALT_CAUSE. [Table 5.8; reset 0] -/
  lastHaltCause : Byte
  /-- CORE_LOCKED, sticky. [R29; reset false] -/
  locked : Bool
  deriving DecidableEq, Repr

end Sys2Proof.Machine
end

