-- ==== Sys2Proof/Syntax.lean ====
section
/-! DEFINITION. The commands of the OM1 block, one constructor per row of the table of operations and events.
An operand carries what the event brings from outside the block. -/

namespace Sys2Proof
open Sys2Proof.Machine

/-- A command: one operation or event of the part. -/
inductive Instr where
  -- rings (03)
  /-- A write to a ring's BAR2 DOORBELL field sets DOORBELL_PENDING for that submission ring (R75). -/
  | doorbell (ring : Fin 32)
  /-- A write to a push slot is accepted or dropped; if accepted it fills the slot, binds it to a position and acts as a
  doorbell. `data` is none for a write that is not one 64-byte write TLP aligned to the slot (R79). -/
  | push (ring : Fin 32) (slot : Fin 4) (data : Option (BitVec 512))
  /-- A host write of CR_HEAD returns completion-ring credit or sets BAD_CR_HEAD; completions that were waiting for room
  are then written (R86). -/
  | crHead (ring : Fin 32) (value : W32)
  /-- The fetch arbiter grants one eligible ready ring, reserves tracker entries for it and starts a forward scan (R83). -/
  | fetchGrant
  /-- Positions are served in order from push slots or memory; each entry is decoded and admitted until a non-matching
  OWN, the end of the burst or a malformed entry (R76). -/
  | forwardScan (ring : Fin 32)
  /-- The single ring memory read of a grant returns, and the scan continues over the positions it covers, stopping the
  ring with reason 0x08 on a failed read (R81). -/
  | ringReadReturn (ring : Fin 32) (failed : Bool)
  /-- A finished operation's completion entry and detail record are written to its completion ring, or wait while the ring
  is full (R86). -/
  | completionWrite (cr : Fin 32) (refused : Bool)
  /-- The oldest pending entry of a completion ring reaches TIME units, and the ring's vector is sent (R91). -/
  | msixCoalesceTimer (cr : Fin 32)
  /-- A write of QE_CONTROL.ENABLE := 1 checks SR0 and CR0 and moves the module from WARM to ACTIVE, THROTTLED or LOCKOUT,
  or sets CONFIG_ERR (R72). -/
  | enableSet
  /-- A write of QE_CONTROL.ENABLE := 0 stops fetching at once and sets DRAINING (R73). -/
  | enableClear
  /-- The operation tracker becomes empty while DRAINING = 1, and the module enters WARM and stops its compute clocks
  (R27). -/
  | drainComplete
  -- operations (04)
  /-- The NOP descriptor completes SUCCESS at once (R105). -/
  | nop (k : Fin 512)
  /-- A copy engine moves ROWS rows of ROW_BYTES from SRC to DST in ascending order (R106). -/
  | copy (k : Fin 512) (ecc : List Ecc)
  /-- A convert engine decodes, scales and rounds COUNT elements into the destination format and offers amax (R219). -/
  | convert (k : Fin 512) (ecc : List Ecc)
  /-- A copy engine writes LENGTH bytes of PATTERN at DST in ascending address order (R106). -/
  | fill (k : Fin 512) (ecc : List Ecc)
  /-- A KERNEL descriptor becomes ready for the Turner, raising KERNEL_READY or PREEMPT and filling TC_LAUNCH (R153). -/
  | kernel (k : Fin 512)
  /-- A WAIT is evaluated against its counter at its home agent and finishes when the comparison holds (R255). -/
  | wait (k : Fin 512) (ecc : List Ecc)
  /-- A SIGNAL adds ADDEND to a registered counter atomically at its home agent (R256). -/
  | signal (k : Fin 512) (ecc : List Ecc)
  /-- A RELAY checks its relay entry and sends one posted write of VALUE to the entry's host address (R259). -/
  | relay (k : Fin 512)
  /-- A FENCE starts and finishes once the earlier operations of its scope have finished (R123). -/
  | fence (k : Fin 512)
  /-- The named stream slots are copied to an HBM image (R235). -/
  | streamPark (k : Fin 512) (ecc : List Ecc)
  /-- The named stream slots are restored from an HBM image (R235). -/
  | streamUnpark (k : Fin 512) (ecc : List Ecc)
  /-- A snapshot of a histogram set is written as a 320-byte record, and the set is cleared if CLEAR = 1 (R231). -/
  | histogramRead (k : Fin 512)
  /-- A KEEP_WRITE is admitted under the dirty limit or in write-through, takes an extent and copies its data into the
  protected cache (R312). -/
  | keepWrite (k : Fin 512) (ecc : List Ecc)
  /-- A committed epoch's half is read from the members, reconstructing where needed, into DST (R288). -/
  | keepRead (k : Fin 512) (bad : List (Nat × Fin 8))
  /-- The half is destaged and flushed, and a COMMITTED record is written to every present member (R287). `failing` are the
  ports whose Flush ends with an error. -/
  | keepCommit (run : KeepRun)
  /-- Stripes are read and their syndromes checked, or repaired in repair mode (R301). -/
  | keepScrub (k : Fin 512) (bad : List (Nat × Fin 8))
  /-- A data submission ring or completion ring is created with the given parameters (R110). -/
  | ringCreate (k : Fin 512)
  /-- A ring is deleted, after a clearing reset in the case of a submission ring (R111). -/
  | ringDelete (k : Fin 512)
  /-- A data ring is made ineligible, its unstarted operations are aborted, and it is cleared or replayed once its
  operations complete (R97). -/
  | ringReset (k : Fin 512)
  /-- One slot of one segment table is written, after every kernel that uses the table has finished (R140). -/
  | segmentSet (k : Fin 512)
  /-- A relay table entry is written or invalidated (R258). -/
  | relayTableSet (k : Fin 512)
  /-- A counter is registered, optionally written, or deregistered, and its line's watch changes to match (R253). -/
  | counterSet (k : Fin 512)
  /-- A signed runtime image is checked and copied to LOAD_BASE, the S bank is loaded and the core is started (R422). -/
  | runtimeLoad (k : Fin 512) (ecc : List Ecc)
  /-- A new array is written to the named members, recorded in the settings store and scheduled for full resync (R280). `failing`
  are the ports whose drives fail before its metadata is durable. -/
  | arrayCreate (run : KeepRun)
  /-- An array is assembled from the named ports, or the assembled array is detached when MEMBERS = 0 (R282). -/
  | arrayImport (k : Fin 512)
  /-- A rebuild of a member onto the drive on PORT starts at once (R296). -/
  | memberReplace (k : Fin 512)
  /-- Two halves of stripes are reserved for a checkpoint slot, or freed when DELETE = 1 (R284). -/
  | slotDefine (k : Fin 512)
  /-- A drive is made a spare by writing a spare superblock to it, or released when REMOVE = 1 (R295). -/
  | spareAdd (k : Fin 512)
  /-- A piece of a Tailstock firmware image is passed to the Jiman and programmed into the staging slot (R412). -/
  | fwStage (k : Fin 512) (ecc : List Ecc)
  /-- The staged image is verified, and the header and boot records are written, followed by a management reset (R413). -/
  | fwActivate (k : Fin 512)
  /-- A probation image is confirmed, and the revocation fuses it names are blown (R415). -/
  | fwConfirm (k : Fin 512)
  /-- The Jiman writes a 4 KiB snapshot record to DST (R377). -/
  | telemetrySnapshot (k : Fin 512)
  /-- A waiting vault image, or the unreleased extents of a FAILED array, is discarded (R328). -/
  | vaultDiscard (k : Fin 512)
  -- host link (02)
  /-- A host read through BAR4 is served coherently by the home agents, or refused as UR (R43). -/
  | bar4Read (offset : Nat) (len : Nat) (ecc : List Ecc)
  /-- A host posted write through BAR4 is performed at the home agents, marking lines poisoned if the TLP is poisoned
  (R43). -/
  | bar4Write (offset : Nat) (data : List Byte) (poison : Bool) (ecc : List Ecc)
  /-- A host FetchAdd, Swap or CAS to BAR4 is performed atomically at the home agent (R43). -/
  | atomicop (bar4 : Bool) (offset : Nat) (op : AtomicOp) (is64 : Bool) (ecc : List Ecc)
  /-- A host CXL.mem read of the shared window is serialised at its home agent and tracked in the snoop directory (R60). -/
  | cxlMemRead (line : Nat) (ecc : List Ecc)
  /-- A host CXL.mem write or writeback to the shared window is serialised at its home agent (R60). -/
  | cxlMemWrite (line : Nat) (data : Vector Byte 64) (keep : Bool)
  /-- The host's back-invalidate response arrives, and the directory entry and the waiting request proceed (R59). -/
  | backInvalidateResponse (line : Nat)
  /-- No back-invalidate response arrives within 1 ms; the line is poisoned and released, and an internal error is
  reported (R62). -/
  | backInvalidateTimeout (line : Nat)
  /-- A host snoop of a host line held in the Turner L2 is answered within 64 FCLK cycles (R55). -/
  | hostSnoop (line : Nat) (bad : Bool)
  /-- Matching translations stop being used, and the Invalidate Completion is sent behind the reads and writes that used
  them (R48). -/
  | atsInvalidateRequest (tag : Fin 32) (pasid : Option (BitVec 20)) (page count : Nat)
  /-- A Translation Completion arrives, filling the translation cache, or refusing the operation under R49 (R47). -/
  | translationCompletion (pasid : Option (BitVec 20)) (page : Nat) (result : Option (BitVec 34 × Bool × Bool))
  /-- A device read receives no completion within the host-set range, and its operation completes with FAULT_ACCESS (R39). -/
  | completionTimeout (r : DevRead)
  /-- A link error is detected and handled as Table 2.4 gives (R39). -/
  | linkError (e : LinkErr)
  /-- A receive lane's symbol-error count or lock failures reach their threshold; the lane is retired and the link
  retrains without it (R34). -/
  | laneRetire (lane : Fin 16)
  /-- The host commits the HDM decoder, which succeeds only with SIZE not 0 and back-invalidate enabled (R57). -/
  | hdmDecoderCommit
  /-- The host changes the BAR4 size through the Resizable BAR control (R40). -/
  | resizableBarWrite (enc : Nat)
  /-- A configuration request before WARM completes with Request Retry Status (R441). -/
  | configurationRequest (r : ConfigReq)
  /-- The host moves the function to D3hot, or back to D0, which performs a function-level reset (R38). -/
  | powerStateWrite (d3hot : Bool)
  /-- The host link is lost while input stays present, with the effects of a function-level reset (R66). -/
  | linkLoss
  /-- A function-level reset stops fetching, resets the core, aborts operations, writes completions and returns the module
  to WARM (R435). -/
  | functionLevelReset
  /-- A fundamental reset acts as a function-level reset, also resets the link, and applies the held settings image
  (R435). -/
  | perstN
  /-- The queue engine takes delivered counter values and compares them with every waiting WAIT on that counter (R255). -/
  | counterValueTaken
  -- Turner instructions (06)
  /-- rd := ra + rb (R161). -/
  | add (rd ra rb : BitVec 5) (w : Bool)
  /-- rd := ra − rb (R161). -/
  | sub (rd ra rb : BitVec 5) (w : Bool)
  /-- Bitwise and (R161). -/
  | and (rd ra rb : BitVec 5)
  /-- Bitwise or (R161). -/
  | or (rd ra rb : BitVec 5)
  /-- Bitwise exclusive or (R161). -/
  | xor (rd ra rb : BitVec 5)
  /-- rd := ra and not rb (R161). -/
  | andn (rd ra rb : BitVec 5)
  /-- Logical shift left (R161). -/
  | sll (rd ra rb : BitVec 5) (w : Bool)
  /-- Logical shift right (R161). -/
  | srl (rd ra rb : BitVec 5) (w : Bool)
  /-- Arithmetic shift right (R161). -/
  | sra (rd ra rb : BitVec 5) (w : Bool)
  /-- Rotate right (R161). -/
  | ror (rd ra rb : BitVec 5) (w : Bool)
  /-- Signed set-less-than (R161). -/
  | slt (rd ra rb : BitVec 5)
  /-- Unsigned set-less-than (R161). -/
  | sltu (rd ra rb : BitVec 5)
  /-- Signed minimum (R161). -/
  | min (rd ra rb : BitVec 5)
  /-- Signed maximum (R161). -/
  | max (rd ra rb : BitVec 5)
  /-- Unsigned minimum (R161). -/
  | minu (rd ra rb : BitVec 5)
  /-- Unsigned maximum (R161). -/
  | maxu (rd ra rb : BitVec 5)
  /-- Count leading zero bits (R161). -/
  | clz (rd ra : BitVec 5)
  /-- Count trailing zero bits (R161). -/
  | ctz (rd ra : BitVec 5)
  /-- Count one bits (R161). -/
  | popc (rd ra : BitVec 5)
  /-- Low 64 bits of the product (R163). -/
  | mul (rd ra rb : BitVec 5) (w : Bool)
  /-- High 64 bits of the signed product (R163). -/
  | mulh (rd ra rb : BitVec 5)
  /-- High 64 bits of the unsigned product (R163). -/
  | mulhu (rd ra rb : BitVec 5)
  /-- Signed quotient, with no exception (R163). -/
  | div (rd ra rb : BitVec 5) (w : Bool)
  /-- Unsigned quotient (R163). -/
  | divu (rd ra rb : BitVec 5) (w : Bool)
  /-- Signed remainder (R163). -/
  | rem (rd ra rb : BitVec 5) (w : Bool)
  /-- Unsigned remainder (R163). -/
  | remu (rd ra rb : BitVec 5) (w : Bool)
  /-- Add a sign-extended immediate (R164). -/
  | addi (rd ra : BitVec 5) (imm : BitVec 16)
  /-- And with a zero-extended immediate (R164). -/
  | andi (rd ra : BitVec 5) (imm : BitVec 16)
  /-- Or with a zero-extended immediate (R164). -/
  | ori (rd ra : BitVec 5) (imm : BitVec 16)
  /-- Exclusive or with a zero-extended immediate (R164). -/
  | xori (rd ra : BitVec 5) (imm : BitVec 16)
  /-- Signed compare with an immediate (R164). -/
  | slti (rd ra : BitVec 5) (imm : BitVec 16)
  /-- Unsigned compare with a sign-extended immediate (R164). -/
  | sltiu (rd ra : BitVec 5) (imm : BitVec 16)
  /-- Load a sign-extended immediate (R164). -/
  | movi (rd : BitVec 5) (imm : BitVec 16)
  /-- Shift left 16 and or in an immediate (R164). -/
  | sloi (rd ra : BitVec 5) (imm : BitVec 16)
  /-- rd := pc + sext(imm16) (R164). -/
  | addpc (rd : BitVec 5) (imm : BitVec 16)
  /-- Shift left by an immediate (R164). -/
  | slli (rd ra : BitVec 5) (n : BitVec 6) (w : Bool)
  /-- Logical shift right by an immediate (R164). -/
  | srli (rd ra : BitVec 5) (n : BitVec 6) (w : Bool)
  /-- Arithmetic shift right by an immediate (R164). -/
  | srai (rd ra : BitVec 5) (n : BitVec 6) (w : Bool)
  /-- Rotate right by an immediate (R164). -/
  | rori (rd ra : BitVec 5) (n : BitVec 6) (w : Bool)
  /-- Load a sign-extended byte through a segment (R165). -/
  | ldB (rd ra : BitVec 5) (seg : BitVec 3) (k : Bool) (disp : BitVec 12) (late : Bool) (ecc : List Ecc)
  /-- Load a zero-extended byte (R165). -/
  | ldBu (rd ra : BitVec 5) (seg : BitVec 3) (k : Bool) (disp : BitVec 12) (late : Bool) (ecc : List Ecc)
  /-- Load a sign-extended halfword (R165). -/
  | ldH (rd ra : BitVec 5) (seg : BitVec 3) (k : Bool) (disp : BitVec 12) (late : Bool) (ecc : List Ecc)
  /-- Load a zero-extended halfword (R165). -/
  | ldHu (rd ra : BitVec 5) (seg : BitVec 3) (k : Bool) (disp : BitVec 12) (late : Bool) (ecc : List Ecc)
  /-- Load a sign-extended word (R165). -/
  | ldW (rd ra : BitVec 5) (seg : BitVec 3) (k : Bool) (disp : BitVec 12) (late : Bool) (ecc : List Ecc)
  /-- Load a zero-extended word (R165). -/
  | ldWu (rd ra : BitVec 5) (seg : BitVec 3) (k : Bool) (disp : BitVec 12) (late : Bool) (ecc : List Ecc)
  /-- Load a doubleword (R165). -/
  | ldD (rd ra : BitVec 5) (seg : BitVec 3) (k : Bool) (disp : BitVec 12) (late : Bool) (ecc : List Ecc)
  /-- Store a byte through a segment (R165). -/
  | stB (rs ra : BitVec 5) (seg : BitVec 3) (k : Bool) (disp : BitVec 12)
  /-- Store a halfword (R165). -/
  | stH (rs ra : BitVec 5) (seg : BitVec 3) (k : Bool) (disp : BitVec 12)
  /-- Store a word (R165). -/
  | stW (rs ra : BitVec 5) (seg : BitVec 3) (k : Bool) (disp : BitVec 12)
  /-- Store a doubleword (R165). -/
  | stD (rs ra : BitVec 5) (seg : BitVec 3) (k : Bool) (disp : BitVec 12)
  /-- Branch if equal (R167). -/
  | cbEq (ra rb : BitVec 5) (off : BitVec 16)
  /-- Branch if not equal (R167). -/
  | cbNe (ra rb : BitVec 5) (off : BitVec 16)
  /-- Branch if signed less than (R167). -/
  | cbLt (ra rb : BitVec 5) (off : BitVec 16)
  /-- Branch if signed greater or equal (R167). -/
  | cbGe (ra rb : BitVec 5) (off : BitVec 16)
  /-- Branch if unsigned less than (R167). -/
  | cbLtu (ra rb : BitVec 5) (off : BitVec 16)
  /-- Branch if unsigned greater or equal (R167). -/
  | cbGeu (ra rb : BitVec 5) (off : BitVec 16)
  /-- Branch if equal to an immediate (R167). -/
  | cbiEq (ra : BitVec 5) (imm : BitVec 5) (off : BitVec 16)
  /-- Branch if not equal to an immediate (R167). -/
  | cbiNe (ra : BitVec 5) (imm : BitVec 5) (off : BitVec 16)
  /-- Branch if signed less than an immediate (R167). -/
  | cbiLt (ra : BitVec 5) (imm : BitVec 5) (off : BitVec 16)
  /-- Branch if signed greater or equal to an immediate (R167). -/
  | cbiGe (ra : BitVec 5) (imm : BitVec 5) (off : BitVec 16)
  /-- Jump relative (R168). -/
  | j (off : BitVec 26)
  /-- Call relative, pushing the return offset onto the shadow stack (R168). -/
  | call (off : BitVec 26)
  /-- Jump to a register (R168). -/
  | jr (ra : BitVec 5)
  /-- Call through a register, pushing the return offset onto the shadow stack (R168). -/
  | callr (ra : BitVec 5)
  /-- Return to lk after checking it against the shadow stack (R168). -/
  | ret
  /-- rd := lk (R168). -/
  | rdlk (rd : BitVec 5)
  /-- lk := ra (R168). -/
  | wrlk (ra : BitVec 5)
  /-- System-group no-operation (R170). -/
  | turnerNop
  /-- Raise TRAP with a code; TRAP 0 is a kernel's exit (R170). -/
  | trap (code : BitVec 8)
  /-- Raise BREAKPOINT (R170). -/
  | tBreak
  /-- Restore cstat from estat and continue at epc (R147). -/
  | eret
  /-- Return from the Rescue handler, restoring xstat, xpc and S-bank s7 (R147). -/
  | eretX
  /-- Launch the kernel in TC_LAUNCH as one step, or do nothing if none is ready (R153). -/
  | eretL
  /-- Complete when every earlier access is globally observed (R139). -/
  | sync
  /-- Discard younger fetched instructions, apply pending changes and refetch (R170). -/
  | isync
  /-- Read a system register or a TC window register (R172). -/
  | mfs (rd : BitVec 5) (sel : BitVec 12)
  /-- Write a system register or a TC window register (R174). -/
  | mts (sel : BitVec 12) (ra : BitVec 5)
  -- Turner events (05)
  /-- A pending Turner interrupt is taken at a commit boundary (R146). -/
  | interruptEntry
  /-- An out-of-order load completes after commit and writes its register, poisoning it on error (R129). -/
  | loadCompletion (index : Nat) (ecc : List Ecc)
  /-- A store fails at its destination after commit and raises an asynchronous BUS_ERROR (R130). -/
  | asyncStoreFailure
  /-- The halt's L2 writeback ends; running kernels complete with FAULT_KERNEL, and the halt is counted (R151). -/
  | haltWritebackComplete
  /-- The retained runtime image is re-read and its digest checked, and the runtime is restarted or the halt counted again
  (R423). -/
  | runtimeReload (ecc : List Ecc) (failed : Bool)
  /-- The budget counter passes BUDGET, and the BUDGET interrupt is raised (R155). -/
  | budgetExceeded
  /-- The runtime has not completed an over-budget kernel within 1 ms, and a core halt is taken (R155). -/
  | budgetGraceTimeout
  /-- TIMEBASE reaches a non-zero timercmp, and the TIMER bit of ipend is set (R173). -/
  | timercmpReached
  /-- The runtime's write of word 0 completes the current kernel (R507). -/
  | tcKernelDone (value : BitVec 64)
  /-- A write makes a preempted kernel current again (R516). -/
  | tcResume (value : BitVec 64)
  -- Lattice (07, 08)
  /-- Load operand tile rows from memory (R191). -/
  | tload (ot seg : BitVec 3) (fmt : BitVec 4) (ra rb rc : BitVec 5)
  /-- Store operand tile rows to memory (R191). -/
  | tstore (ot seg : BitVec 3) (ra rb rc : BitVec 5)
  /-- One matrix pass of operand rows through a plane into accumulator rows (R185). -/
  | tmma (at_ : BitVec 2) (ot : BitVec 3) (cp quad : BitVec 2) (acc v : Bool) (seg : BitVec 3) (rb rc : BitVec 5)
  /-- Load a chuck plane and its scales, and set its source record (R191). -/
  | tloadc (cp : BitVec 2) (seg : BitVec 3) (fmt : BitVec 4) (ra rb rc : BitVec 5)
  /-- Drain accumulator rows through the finishing pipeline to memory or to a tile (R222). -/
  | tdrain (at_ : BitVec 2) (d : Bool) (sel : BitVec 3) (ra rb rc : BitVec 5)
  /-- Save a whole tile to memory (R191). -/
  | tsave (acc : Bool) (index seg : BitVec 3) (ra : BitVec 5)
  /-- Restore a whole tile from memory (R191). -/
  | trest (acc : Bool) (index seg : BitVec 3) (fmt : BitVec 4) (ra : BitVec 5)
  /-- Wait at commit until the named ports are idle (R191). -/
  | tbar (ports : BitVec 5)
  /-- Zero accumulator rows (R191). -/
  | tzero (at_ : BitVec 2) (rb : BitVec 5)
  /-- Set or clear quarter-fold mode once earlier tile instructions complete (R198). -/
  | tfold (f : Bool)
  /-- Delay the next tile instruction's issue by n CCLK cycles (R197). -/
  | tdly (n : BitVec 16)
  /-- The head of the tile queue issues to its port when the port is free and any delay has run (R193). -/
  | tileIssue (ecc : List Ecc) (tecc : List TileEcc)
  /-- A tile instruction's last write becomes visible and its port frees (R191). -/
  | tileInstructionComplete (j : Nat)
  /-- An asynchronous tile fault stops the port, sets FAULTED and is taken at the next commit boundary (R203). -/
  | tileAsyncFault (j : Nat)
  /-- LT_TQ_CONTROL.RESUME restarts the faulting tile instruction from PROGRESS (R205). -/
  | resume
  /-- LT_TQ_CONTROL.DISCARD drops the faulting tile instruction and those behind it (R205). -/
  | tileDiscard
  /-- The staged PWL table is checked and copied into a table slot, or ERR is set (R227). -/
  | nfPwlCommit (value : W32)
  -- Spindle (09)
  /-- SP_CONTROL.ENABLE is written, starting or stopping examination of the Spindle ring (R238). -/
  | spindleEnable (on : Bool)
  /-- SP_CONTROL.CONTINUE clears FAULTED, and examination resumes (R242). -/
  | spContinue
  /-- SP_CONTROL.CLEAR resets HEAD, PHASE and FAULTED (R238). -/
  | spClear
  /-- The Spindle issues a STEP command advancing B streams by one four-gate cell step (R245). -/
  | spStep
  /-- The Spindle issues a SCAN command solving a diagonal linear recurrence over a chunk (R251). -/
  | spScan
  /-- A Spindle command's writes become visible, and its STATUS byte is written with DONE (R241). -/
  | spindleCommandComplete (ecc : List Ecc) (tecc : List TileEcc)
  -- Keep and cache (11, 12, 20)
  /-- Destage starts a stripe write for the oldest unreleased extent when a stripe lock is free (R314). -/
  | destageStripeStart (ecc : List Ecc)
  /-- A held stripe lock is granted to the next requester in request order (R289). -/
  | stripeLockGrant (ecc : List Ecc)
  /-- The reads of a stripe write complete; parity is computed and journalled, and the writes are issued (R291). `bad` are members
  whose drives cannot read their chunk (R294). -/
  | stripeReadsComplete (reads : StripeReads)
  /-- A stripe write's member writes complete; the lock is released and covered extents may be released (R291). -/
  | stripeWritesComplete (lock : Fin 256)
  /-- An NVMe command completes on a member, with an error or without (R269). -/
  | driveCommandCompletion (work : DriveWork) (member : Fin 8) (error : Bool)
  /-- A command not completed within 8 s fails its member (R271). -/
  | driveCommandTimeout (work : DriveWork) (member : Fin 8)
  /-- A member's port link or presence is lost, and its commands wait (R519). -/
  | driveLinkDown (port : Fin 8)
  /-- A member's link or presence has been lost for 100 ms, and the member is failed (R271). -/
  | driveLinkDownTimeout (port : Fin 8)
  /-- Link or presence returns within 100 ms; the controller is reset, Identify is repeated and commands are reissued
  (R519). -/
  | driveLinkReturn (port : Fin 8) (found : Option Drive)
  /-- Controller Fatal Status or a failed controller reset fails the member (R271). -/
  | driveControllerFatal (port : Fin 8)
  /-- A chunk range is reconstructed from parity and rewritten, and the error is counted toward member failure (R294). -/
  | unrecoveredReadError (port : Fin 8) (stripe off len : Nat) (others : List (Fin 8))
  /-- A drive appears on a port; it may be re-added as a member, or it triggers assembly again while an image awaits
  (R297). -/
  | driveInsertion (port : Fin 8) (drive : Drive)
  /-- A member failed for 30 s with a spare available starts a rebuild onto that spare (R296). -/
  | rebuildAutoStart
  /-- The rebuild reconstructs the target's chunk of the next stripe and records its progress (R298). `bad` are members whose drives
  cannot read their chunk; `flushFails`: the Flush of the target ends with an error. -/
  | rebuildStep (run : RebuildRun)
  /-- The resync rewrites the parity of the next stripe of a set region, or skips a stripe it cannot resync (R299). -/
  | resyncStep (bad : List (Fin 8))
  /-- The patrol scrub checks and repairs the next stripe at its pace (R302). -/
  | patrolScrubStep (bad : List (Fin 8))
  /-- Bitmap bits eligible for clearing are written in a batch, at most once per second (R279). -/
  | bitmapClearBatch
  /-- The 24 h test interval of an eligible drive port expires, and its loopback BER test runs (R492). -/
  | drivePortTestDaily (port : Fin 8)
  /-- KP_PORT_TEST.START tests the named eligible ports one at a time (R492). -/
  | kpPortTestStart (ports : BitVec 8)
  /-- A drive port's 10 s test ends, recording pass or failure, and locking out the port on failure (R493). -/
  | portTestEnd (lock : Bool) (errors0 errors1 tenths : Nat)
  -- assurance, power, clock (01, 12, 17, 18)
  /-- HOLD_ASSURE falls, ASSURE drops, and the cache is write-through 16 FCLK cycles later (R17). -/
  | holdAssureFall
  /-- HOLD_ASSURE rises at the completion of a management reset with every condition true (R16). -/
  | holdAssureRise
  /-- The dirty-limit word's tick has not changed for 3 ms, and the limit is treated as zero (R14). -/
  | statusWordStale
  /-- A change of THROTTLE_REQ is synchronised and applies a new CCLK pulse pattern and state (R445). -/
  | throttleReqChange
  /-- Input loss asserts PWR_LOSS; the module enters HOLDUP or OFF, and fetching and drive commands stop (R321). -/
  | pwrLoss
  /-- After the compute domains are shed, the vault DMA appends JOURNAL and EXTENT records and then the SEAL (R321). -/
  | vaultDumpStart
  /-- The SEAL is programmed, the vault is sealed, and the module enters OFF if input is still absent (R321). -/
  | vaultSeal (eepromOk : Bool)
  /-- Input returns during HOLDUP, and start-up continues once the dump is sealed (R323). -/
  | inputReturn
  /-- A cell stays below 3,000 mV for 1 ms; the pack FET opens, and any dump ends unsealed (R330). -/
  | packCutoff
  /-- Overcurrent or overtemperature opens the pack FET in hardware (R330). -/
  | packProtectionTrip
  /-- A pending image is restored into the cache, its journalled stripes are rewritten, and the log is destaged (R327). -/
  | vaultReplay
  /-- EPO_N opens the input switch and pack FET in hardware and latches (R437). -/
  | emergencyOff
  /-- PWR_PRSNT_N breaks; PWR_LOSS is asserted and the input switch opens 5 µs later (R457). -/
  | pwrPrsntNBreak
  /-- Input above 62 V for 100 µs opens the input switch and is handled as input loss (R456). -/
  | inputOvervoltage
  /-- A rail more than 5 % low for 10 µs is treated as input loss (R462). -/
  | railOutOfLimits
  /-- The hold-up rail falls below 10.8 V, and the hold-up slice is dropped, leaving the vault unsealed (R459). -/
  | holdupRailLow
  /-- A cold power-on runs the start-up sequence from input good to WARM (R438). -/
  | startUp (e : StartUp)
  /-- Input returns to a powered Tailstock; the dump completes and start-up continues from the compute rails (R439). -/
  | retainedPowerOn (e : StartUp)
  /-- The root PLL loses lock; CCLK and FCLK stop and MCLK switches to bypass (R427). -/
  | pllLockLoss
  /-- The PLL relocks within 1 ms, and CCLK and FCLK resume at a common edge (R427). -/
  | pllRelock
  /-- The PLL does not relock within 1 ms; the compute domains are shed and the module starts again as a power-on (R427). -/
  | pllRelockTimeout (e : StartUp)
  -- gauge (13)
  /-- The gauge samples the cells, current and temperature, and updates RC and the cycle residue (R337). -/
  | gaugeSample (x : Sample) (eepromOk : Bool)
  /-- After 30 min at rest, the SoC is corrected from OCV and FCC may be updated (R338). -/
  | restCorrection (eepromOk : Bool)
  /-- A charge starts or resumes when SoC is low and every condition holds (R335). -/
  | chargeStart
  /-- The constant-voltage current falls below 20 mA, the charge ends and RC is set full (R335). -/
  | chargeEnd (eepromOk : Bool)
  /-- A charge not ended within 3 h is stopped and counted, and may set CHARGE_LOCK (R336). -/
  | chargeTimeout
  /-- The charger pauses, V0 is sampled and the 2.0 A test load is switched on (R341). -/
  | impedanceTestStart (v0 : Nat)
  /-- V10 is sampled 10 ms into the impedance test (R341). -/
  | impedanceV10Sample (v10 : Nat)
  /-- V200 is sampled at 200 ms, and the test load is switched off (R341). -/
  | impedanceV200Sample (v200 : Nat)
  /-- One hour after an abandoned test, the test is tried again (R341). -/
  | impedanceRetry (v0 : Nat)
  /-- A pack's presence asserts; the record is read, the first estimate published, and a management reset requested
  (R349). -/
  | packInsertion (eeprom : Option PackRecord)
  /-- Pack presence deasserts; the estimate becomes invalid and HOLD_ASSURE falls (R350). -/
  | packRemoval
  /-- LIMIT has stayed above the re-arm level for 1 s, and HP_WARN or HP_CRIT is armed again (R348). -/
  | hpEventRearm (crit : Bool)
  /-- A write of HP_CONTROL.TEST requests an impedance test at the next opportunity (R347). -/
  | hpControlTest (inhibit : Bool)
  /-- A write of HP_CONTROL.CHARGE_INHIBIT holds the charger off or releases it (R347). -/
  | chargeInhibit (inhibit : Bool)
  -- management (14)
  /-- The 1 ms tick runs the gauge, the throttle decision, status-word publication, mailbox service and the Breadcrumb
  entries (R360). -/
  | controlLoopTick (publish : Bool) (readings : Vector (Option Int) 24) (power : Nat) (rails : List W32) (retainedOk eepromOk : Bool)
  /-- Every 10 ms the comparator injects a difference and checks that it is reported (R357). -/
  | comparatorSelftest (pass : Bool)
  /-- The comparator detects a mismatch; writes are gated, HOLD_ASSURE falls, and a management reset is asserted (R358). -/
  | lockstepMismatch (retainedOk : Bool)
  /-- No watchdog refresh for 5 ms is handled as a mismatch (R358). -/
  | watchdogTimeout (retainedOk : Bool)
  /-- A sensor at 105 °C or above forces throttle level 3 in hardware and asserts TRIP_N (R365). -/
  | thermalTrip (sensor : Fin 20) (value : Int)
  /-- All junction and HBM sensors read below 102 °C for 100 ms, and TRIP clears (R365). -/
  | tripClear (readings : Vector Int 20)
  /-- A drive port is polled over NVMe-MI once per second (R374). -/
  | nvmeMiPoll (port : Fin 8) (reply : Option (Bool × Bool × W64))
  /-- The Jiman receives an SR0 management operation from the queue engine (R367). -/
  | opRequest
  /-- A mailbox DATA message carries image or snapshot bytes (R367). -/
  | mbxData (toJiman : Bool)
  /-- The Jiman receives a latched host write of HP_CONTROL or MG_FFR_CLEAR (R368). -/
  | regWrite
  /-- The Jiman receives the cause behind DP_ALERT or a fault event, and logs it (R472). -/
  | alert
  /-- A fragment of an SPDM message carried over DOE crosses the mailbox (R373). -/
  | doeSpdm (fragment : Option (List Byte)) (last : Bool)
  /-- The queue engine receives the status of a management operation and posts its completion (R113). -/
  | opReply
  /-- The queue engine receives the assurance state, and MG_STATE.ASSURE follows it (R369). -/
  | assureNotice
  /-- The queue engine learns that a management reset has completed, applies the settings image and resends pending
  requests (R370). -/
  | resetNotice
  /-- The Jiman clears TO_MG_FULL after reading a message (R367). -/
  | mbxTake
  /-- The Jiman sets TO_DP_FULL and raises MBX_TO_DP (R367). -/
  | mbxSend
  /-- The staged 64 bits are stored atomically into one status word (R14). -/
  | pubWrite (value : W16)
  /-- A write to the WDOG port refreshes the watchdog (R358). -/
  | wdog
  /-- The flash controller starts a program or erase operation (R511). -/
  | flashCommand (op : FlashOp)
  /-- A flash operation completes and raises interrupt line 6 (R511). -/
  | flashOperationDone
  /-- The signature unit checks an image (R407). -/
  | signatureCommand
  /-- A key-slot revocation fuse is blown in OTP (R408). -/
  | blowRevoke (slot : Fin 2)
  /-- The one-shot timer expires and raises interrupt line 7 (R511). -/
  | oneshotTimerExpiry
  /-- A read of TICK_LO latches TICK_HI (R400). -/
  | tickLoRead (d : BitVec 3)
  -- sideband (14, 16)
  /-- The module takes its I3C dynamic address (R371). -/
  | entdaa (addr : Byte)
  /-- MCTP control command that sets the endpoint ID (R371). -/
  | setEndpointId (eid : Byte)
  /-- MCTP control command that returns the endpoint ID (R371). -/
  | getEndpointId
  /-- MCTP control command that returns the supported versions (R371). -/
  | getMctpVersionSupport
  /-- MCTP control command that returns the supported message types (R371). -/
  | getMessageTypeSupport
  /-- MCTP control command that returns vendor-defined message support (R371). -/
  | getVendorDefinedMessageSupport
  /-- A PLDM Type 0 base command is answered (R371). -/
  | pldmBaseCommand (cmd : Byte)
  /-- A PLDM Type 2 request reads a numeric or state sensor (R372). -/
  | pldmSensorRead (sensor : PldmSensor)
  /-- Names the receiver of PLDM threshold events (R372). -/
  | setEventReceiver (receiver : Byte)
  /-- PLDM RequestUpdate opens a PLDM-owned update, or is refused (R414). -/
  | requestUpdate
  /-- PLDM PassComponentTable for the single Tailstock component (R414). -/
  | passComponentTable
  /-- PLDM UpdateComponent sets the session owner to PLDM (R414). -/
  | updateComponent
  /-- The response to a RequestFirmwareData delivers a 512-byte piece into the staging session (R412). -/
  | requestFirmwareData (offset : Nat) (data : List Byte)
  /-- PLDM ActivateFirmware writes the boot record and requests a management reset (R414). -/
  | activateFirmware
  /-- PLDM CancelUpdate discards the session (R414). -/
  | cancelUpdate
  /-- SPDM GET_VERSION (R373). -/
  | getVersion
  /-- SPDM GET_CAPABILITIES (R373). -/
  | getCapabilities
  /-- SPDM NEGOTIATE_ALGORITHMS (R373). -/
  | negotiateAlgorithms
  /-- SPDM GET_DIGESTS (R373). -/
  | getDigests
  /-- SPDM GET_CERTIFICATE (R373). -/
  | getCertificate
  /-- SPDM CHALLENGE, signed with the identity key (R373). -/
  | challenge
  /-- SPDM GET_MEASUREMENTS, covering firmware, boot monitor, runtime and settings (R373). -/
  | getMeasurements
  /-- A vendor-defined command that reads the Breadcrumb log (R371). -/
  | breadcrumbRead (index : BitVec 12)
  /-- A vendor-defined command that reads the first-fault record (R376). -/
  | firstFaultRead
  /-- A vendor-defined command that empties the first-fault record (R376). -/
  | firstFaultClear
  /-- A vendor-defined command that reads settings items (R420). -/
  | settingsRead
  /-- A vendor-defined command that checks and writes a new copy of the active settings slot (R420). -/
  | settingsWrite (keepOn : Option Bool) (bar4 : Option Nat) (window : Option W64) (smbus : Option (BitVec 7))
  -- registers, tests, rows (19, 20, 21)
  /-- A host write of the confirmation value is latched and sent to empty the first-fault record (R376). -/
  | mgFfrClear (value : W32)
  /-- A queued HBM row is repaired by post-package repair while requests to its bank are held (R474). -/
  | hbmRowRetirement (stack : Fin 8) (lost : List Nat) (fails : Bool)
  /-- HL_LANE_TEST.START runs a loopback PRBS31 test on the named host lanes (R487). -/
  | hlLaneTestStart (lanes : BitVec 16)
  /-- The 10 s host lane test ends; results are recorded, lanes are retired or restored, and the link retrains (R489). -/
  | laneTestEnd (locks : BitVec 16) (errors : Vector Nat 16)
  /-- The host port does not enter Loopback within 24 ms; UNSUPPORTED is set (R489). -/
  | loopbackTimeout
  /-- A 4-byte read of the low half latches the high half for the path (R509). -/
  | ckTimebaseRead (host high : Bool)
  /-- A write to a register with no behaviour of its own, taking effect under the width, writer and state rules (R499). -/
  | registerWrite (turner : Bool) (offset : BitVec 26) (data : List Byte)
  -- Jiman (15)
  /-- A pending enabled interrupt line is taken in 7 MCLK cycles, abandoning the current unit (R400). -/
  | jimanInterruptEntry
  /-- Prefix that widens the field of the next instruction (R381). -/
  | jimanPfx (p : BitVec 11)
  /-- Branch relative, with a delay slot (R391). -/
  | jimanB (off : BitVec 10)
  /-- Call relative, building a frame and pushing the shadow stack (R393). -/
  | jimanCall (off : BitVec 10)
  /-- Compare-and-branch on one of eight conditions (R391). -/
  | jimanCb (cond : JCond) (dx dy : BitVec 3) (off : BitVec 3)
  /-- Branch on a d-register compared with zero (R391). -/
  | jimanCbz (cond : JZCond) (d : BitVec 3) (off : BitVec 4)
  /-- Decrement and branch if not zero (R391). -/
  | jimanDbnz (d : BitVec 3) (off : BitVec 4)
  /-- Read a port into a d-register (R386). -/
  | jimanIn (d : BitVec 3) (port : BitVec 3)
  /-- Write a d-register to a port (R386). -/
  | jimanOut (d : BitVec 3) (port : BitVec 3)
  /-- Load through a segment (R384). -/
  | jimanLd (inc : Bool) (seg : BitVec 2) (a d : BitVec 3) (bad : Bool)
  /-- Store through a segment (R384). -/
  | jimanSt (inc : Bool) (seg : BitVec 2) (a d : BitVec 3)
  /-- Load from the stack (R384). -/
  | jimanLds (d : BitVec 3) (off : BitVec 5) (bad : Bool)
  /-- Store to the stack (R384). -/
  | jimanSts (d : BitVec 3) (off : BitVec 5)
  /-- Fractional multiply into an accumulator (R388). -/
  | jimanMpy (ac : Bool) (dx dy : BitVec 3)
  /-- Fractional multiply-accumulate (R388). -/
  | jimanMac (ac : Bool) (dx dy : BitVec 3)
  /-- Fractional multiply-subtract (R388). -/
  | jimanMsu (ac : Bool) (dx dy : BitVec 3)
  /-- Unsigned integer multiply into an accumulator (R388). -/
  | jimanMpyu (ac : Bool) (dx dy : BitVec 3)
  /-- Name registers to save in the frame of the following call (R393). -/
  | jimanCallm (m : BitVec 8)
  /-- No-operation (R396). -/
  | jimanNop
  /-- Enable interrupts (R396). -/
  | jimanEi
  /-- Disable interrupts (R396). -/
  | jimanDi
  /-- Wait until an interrupt is taken (R399). -/
  | jimanIdle
  /-- Request a management reset (R402). -/
  | jimanGrst
  /-- Return through a plain frame, checking the shadow stack (R393). -/
  | jimanRet (bad : Bool)
  /-- Return, restoring the registers saved by CALLM (R393). -/
  | jimanRetm (bad : Bool)
  /-- Return from an interrupt, restoring st (R400). -/
  | jimanReti (bad : Bool)
  /-- Return from the Guard handler (R401). -/
  | jimanRetg (bad : Bool)
  /-- Branch to an a-register (R391). -/
  | jimanBr (a : BitVec 3)
  /-- Call through an a-register (R393). -/
  | jimanCallr (a : BitVec 3)
  /-- String move of rpc words (R396). -/
  | jimanMovb (ss sd : BitVec 2) (elems : W16) (bad : Option W16)
  /-- String fill of rpc words (R396). -/
  | jimanFillb (sd : BitVec 2) (d : BitVec 3) (elems : W16)
  /-- String multiply-accumulate over rpc pairs (R396). -/
  | jimanMacb (ac : Bool) (ss sd : BitVec 2) (elems : W16) (bad : Option W16)
  /-- Round and saturate an accumulator into a d-register (R389). -/
  | jimanMvac (ac : Bool) (d : BitVec 3)
  /-- Move accumulator bits [31:16] (R388). -/
  | jimanMvach (ac : Bool) (d : BitVec 3)
  /-- Move accumulator bits [15:0] (R388). -/
  | jimanMvacl (ac : Bool) (d : BitVec 3)
  /-- Load an accumulator from a d-register shifted 16 (R388). -/
  | jimanLdac (ac : Bool) (d : BitVec 3)
  /-- Load accumulator bits [15:0] (R388). -/
  | jimanLdacl (ac : Bool) (d : BitVec 3)
  /-- Shift an accumulator (R388). -/
  | jimanShac (ac : Bool) (n : BitVec 4)
  /-- Clear an accumulator (R388). -/
  | jimanClrac (ac : Bool)
  /-- Negate an accumulator (R388). -/
  | jimanNegac (ac : Bool)
  /-- Add the other accumulator (R388). -/
  | jimanAddac (ac : Bool)
  /-- Subtract the other accumulator (R388). -/
  | jimanSubac (ac : Bool)
  /-- Absolute value of an accumulator (R388). -/
  | jimanAbsac (ac : Bool)
  /-- One restoring division step (R390). -/
  | jimanDivs (ac : Bool) (d : BitVec 3)
  /-- Read a system register (R378). -/
  | jimanMvr (d : BitVec 3) (sys : BitVec 4)
  /-- Write a system register (R378). -/
  | jimanMvs (sys : BitVec 4) (d : BitVec 3)
  /-- dx := dy (R387). -/
  | jimanMov (dx dy : BitVec 3)
  /-- Wrapping add (R387). -/
  | jimanAdd (dx dy : BitVec 3)
  /-- Saturating add (R387). -/
  | jimanAdds (dx dy : BitVec 3)
  /-- Wrapping subtract (R387). -/
  | jimanSub (dx dy : BitVec 3)
  /-- Saturating subtract (R387). -/
  | jimanSubs (dx dy : BitVec 3)
  /-- Bitwise and (R387). -/
  | jimanAnd (dx dy : BitVec 3)
  /-- Bitwise or (R387). -/
  | jimanOr (dx dy : BitVec 3)
  /-- Bitwise exclusive or (R387). -/
  | jimanXor (dx dy : BitVec 3)
  /-- dx and not dy (R387). -/
  | jimanAndn (dx dy : BitVec 3)
  /-- Shift left by a register (R387). -/
  | jimanShl (dx dy : BitVec 3)
  /-- Logical shift right by a register (R387). -/
  | jimanShr (dx dy : BitVec 3)
  /-- Arithmetic shift right by a register (R387). -/
  | jimanSar (dx dy : BitVec 3)
  /-- Saturating shift left by a register (R387). -/
  | jimanShls (dx dy : BitVec 3)
  /-- Signed minimum (R387). -/
  | jimanMin (dx dy : BitVec 3)
  /-- Signed maximum (R387). -/
  | jimanMax (dx dy : BitVec 3)
  /-- Negate (R387). -/
  | jimanNeg (d dx : BitVec 3)
  /-- Saturating negate (R387). -/
  | jimanNegs (d dx : BitVec 3)
  /-- Absolute value (R387). -/
  | jimanAbs (d dx : BitVec 3)
  /-- Saturating absolute value (R387). -/
  | jimanAbss (d dx : BitVec 3)
  /-- Bitwise complement (R387). -/
  | jimanNot (d dx : BitVec 3)
  /-- Count leading sign bits (R387). -/
  | jimanCls (d dx : BitVec 3)
  /-- d := ax (R387). -/
  | jimanMovda (d ax : BitVec 3)
  /-- ad := dx (R387). -/
  | jimanMovad (ad dx : BitVec 3)
  /-- Load an immediate (R387). -/
  | jimanMovi (d : BitVec 3) (imm : BitVec 6)
  /-- Add an immediate (R387). -/
  | jimanAddi (d : BitVec 3) (imm : BitVec 6)
  /-- Shift left by an immediate (R387). -/
  | jimanShli (d : BitVec 3) (n : BitVec 4)
  /-- Logical shift right by an immediate (R387). -/
  | jimanShri (d : BitVec 3) (n : BitVec 4)
  /-- Arithmetic shift right by an immediate (R387). -/
  | jimanSari (d : BitVec 3) (n : BitVec 4)
  /-- Saturating shift left by an immediate (R387). -/
  | jimanShlsi (d : BitVec 3) (n : BitVec 4)
  /-- Add a signed immediate to an a-register (R380). -/
  | jimanAdda (a : BitVec 3) (imm : BitVec 5)
  /-- Load an immediate into an a-register (R380). -/
  | jimanMovia (a : BitVec 3) (imm : BitVec 5)
  /-- a := ax (R380). -/
  | jimanMova (a ax : BitVec 3)
  /-- a := a + dx (R380). -/
  | jimanAddaD (a dx : BitVec 3)
  /-- a := a − dx (R380). -/
  | jimanSuba (a dx : BitVec 3)
  /-- Read a program-flash word and post-increment (R385). -/
  | jimanLdf (a d : BitVec 3) (bad : Bool)
  /-- Repeat a body an immediate number of times (R395). -/
  | jimanRpti (count : BitVec 4) (len : BitVec 3)
  /-- Repeat a body d times (R395). -/
  | jimanRpt (d : BitVec 3) (len : BitVec 4)
  -- others
  /-- The Turner decodes an encoding that Table 6.9 makes illegal, such as major 0x00 or 0x3F, and raises ILLEGAL_OPCODE
  at DE (R177). -/
  | illegalOpcode (word : BitVec 32)
  /-- The host link completes training, including after a link loss, a lane retirement or a lane test, and Data Link Layer
  Link Active is reached (R66). -/
  | linkTrained (x : LinkTrain)
  /-- PERST_N is released at the connector; the release is latched before step 7 of start-up, or link training begins, and
  the 100 ms bound starts (R441). -/
  | perstNDeassertion
  /-- With EPO_N released, input falls below 20 V and the emergency-off latch clears, so that the next input good can
  start the module cold (R437). -/
  | epoLatchClear
  /-- The host unmasks an MSI-X vector or the function, or sets MSI-X Enable, and each pending message held in the PBA is
  sent (R92). -/
  | msixVectorUnmask (what : MsixChange)
  /-- A drive that is not a member, such as a spare or an unassigned drive, leaves its port; it stops being a spare and
  its port status changes (R295). -/
  | driveRemoval (port : Fin 8)
  deriving DecidableEq, Repr

end Sys2Proof
end

