-- ==== Sys2Proof/Decode.lean ====
section
/-! DEFINITION. The command that a word spells by the table's bits, and the command that an instruction word of the Turner or of the
Jiman spells by the binding formats of the spec (06 Tables 6.1-6.6, 07 Table 7.3, 15 Tables 15.4-15.8). -/

namespace Sys2Proof
open Sys2Proof.Machine

/-- No row of spec/opcode_table.json gives bits, so no word spells a command. -/
def decodeTableWord (_nbits _w : Nat) : Option Instr := none

/-- What a load brings besides its instruction word. -/
structure Outside where
  /-- A load misses the L1D. -/
  late : Bool
  /-- Errors of the lines that a load reads. -/
  ecc : List Ecc
  deriving DecidableEq, Repr

/-- A form that an encoding has only where some bits are 0. -/
def onlyIf (c : Bool) (i : Instr) : Option Instr := if c then some i else none

/-! ### The Turner (06) -/

/-- The integer group, by func and W (Table 6.3). -/
def turnerInteger (func : Nat) (w : Bool) (rd ra rb : BitVec 5) : Option Instr :=
  let plain := onlyIf (!w)
  let unary := onlyIf (!w && decide (rb = 0))
  match func with
  | 0x00 => some (.add rd ra rb w)
  | 0x01 => some (.sub rd ra rb w)
  | 0x02 => plain (.and rd ra rb)
  | 0x03 => plain (.or rd ra rb)
  | 0x04 => plain (.xor rd ra rb)
  | 0x05 => plain (.andn rd ra rb)
  | 0x06 => some (.sll rd ra rb w)
  | 0x07 => some (.srl rd ra rb w)
  | 0x08 => some (.sra rd ra rb w)
  | 0x09 => some (.ror rd ra rb w)
  | 0x0A => plain (.slt rd ra rb)
  | 0x0B => plain (.sltu rd ra rb)
  | 0x0C => plain (.min rd ra rb)
  | 0x0D => plain (.max rd ra rb)
  | 0x0E => plain (.minu rd ra rb)
  | 0x0F => plain (.maxu rd ra rb)
  | 0x10 => unary (.clz rd ra)
  | 0x11 => unary (.ctz rd ra)
  | 0x12 => unary (.popc rd ra)
  | _ => none

/-- The multiply and divide group, by func and W (Table 6.4). -/
def turnerMulDiv (func : Nat) (w : Bool) (rd ra rb : BitVec 5) : Option Instr :=
  match func with
  | 0 => some (.mul rd ra rb w)
  | 1 => onlyIf (!w) (.mulh rd ra rb)
  | 2 => onlyIf (!w) (.mulhu rd ra rb)
  | 3 => some (.div rd ra rb w)
  | 4 => some (.divu rd ra rb w)
  | 5 => some (.rem rd ra rb w)
  | 6 => some (.remu rd ra rb w)
  | _ => none

/-- Shift by immediate: kind in [7:6], W in [8] (R164). -/
def turnerShift (imm : BitVec 16) (rd ra : BitVec 5) : Option Instr :=
  let n := imm.extractLsb' 0 6
  let w := imm.getLsbD 8
  if imm.extractLsb' 9 7 ≠ 0 ∨ (w ∧ imm.getLsbD 5) then none
  else match (imm.extractLsb' 6 2).toNat with
    | 0 => some (.slli rd ra n w)
    | 1 => some (.srli rd ra n w)
    | 2 => some (.srai rd ra n w)
    | _ => some (.rori rd ra n w)

/-- Register control, by func (R168). -/
def turnerControl (func : Nat) (rd ra rb : BitVec 5) : Option Instr :=
  match func with
  | 0 => onlyIf (decide (rd = 0 ∧ rb = 0)) (.jr ra)
  | 1 => onlyIf (decide (rd = 0 ∧ rb = 0)) (.callr ra)
  | 2 => onlyIf (decide (rd = 0 ∧ ra = 0 ∧ rb = 0)) .ret
  | 3 => onlyIf (decide (ra = 0 ∧ rb = 0)) (.rdlk rd)
  | 4 => onlyIf (decide (rd = 0 ∧ rb = 0)) (.wrlk ra)
  | _ => none

/-- The system group, by func and sel (Table 6.6). -/
def turnerSystem (func : Nat) (sel : BitVec 12) (rd ra : BitVec 5) : Option Instr :=
  let alone := onlyIf (decide (rd = 0 ∧ ra = 0 ∧ sel = 0))
  match func with
  | 0 => alone .turnerNop
  | 1 => onlyIf (decide (rd = 0 ∧ ra = 0 ∧ sel.extractLsb' 8 4 = 0)) (.trap (sel.extractLsb' 0 8))
  | 2 => alone .tBreak
  | 3 =>
    if rd = 0 ∧ ra = 0 then
      match sel.toNat with
      | 0 => some .eret
      | 1 => some .eretX
      | 2 => some .eretL
      | _ => none
    else none
  | 4 => alone .sync
  | 5 => alone .isync
  | 6 => onlyIf (decide (ra = 0)) (.mfs rd sel)
  | 7 => onlyIf (decide (rd = 0)) (.mts sel ra)
  | _ => none

/-- A format code of a tile or plane in memory (Table 7.3). -/
def tileFormat (fmt : BitVec 4) : Bool := decide (1 ≤ fmt.toNat ∧ fmt.toNat ≤ 0xA)

/-- A format code with block scales (Table 7.1). -/
def mxFormat (fmt : BitVec 4) : Bool := decide (5 ≤ fmt.toNat ∧ fmt.toNat ≤ 9)

/-- The tile instructions, by the low three bits of the major opcode (Table 7.3). -/
def turnerTile (major : Nat) (word : W32) : Option Instr :=
  let r (lo : Nat) : BitVec 5 := word.extractLsb' lo 5
  let three (lo : Nat) : BitVec 3 := word.extractLsb' lo 3
  let two (lo : Nat) : BitVec 2 := word.extractLsb' lo 2
  let fmt (lo : Nat) : BitVec 4 := word.extractLsb' lo 4
  let bit := word.getLsbD
  match major with
  | 0 => onlyIf (tileFormat (fmt 16) && !bit 0) (.tload (three 23) (three 20) (fmt 16) (r 11) (r 6) (r 1))
  | 1 => onlyIf (decide (fmt 16 = 0) && !bit 0) (.tstore (three 23) (three 20) (r 11) (r 6) (r 1))
  | 2 => onlyIf (decide (two 0 = 0)) (.tmma (two 24) (three 21) (two 19) (two 17) (bit 16) (bit 15) (three 12) (r 7) (r 2))
  | 3 =>
    onlyIf (tileFormat (fmt 17) && !bit 16 && !bit 0 && (decide (r 1 = 0) || mxFormat (fmt 17)))
      (.tloadc (two 24) (three 21) (fmt 17) (r 11) (r 6) (r 1))
  | 4 =>
    onlyIf (decide (fmt 16 = 0) && !bit 0 && (!bit 23 || decide (r 11 = 0)))
      (.tdrain (two 24) (bit 23) (three 20) (r 11) (r 6) (r 1))
  | 5 =>
    if word.extractLsb' 0 9 ≠ 0 ∨ (bit 24 ∧ 3 < (three 21).toNat) then none
    else if bit 25 then
      onlyIf (if bit 24 then decide (fmt 14 = 0) else tileFormat (fmt 14)) (.trest (bit 24) (three 21) (three 18) (fmt 14) (r 9))
    else onlyIf (decide (fmt 14 = 0)) (.tsave (bit 24) (three 21) (three 18) (r 9))
  | 6 => onlyIf (decide (word.extractLsb' 5 21 = 0)) (.tbar (r 0))
  | 7 =>
    match (fmt 22).toNat with
    | 0 => onlyIf (decide (fmt 16 = 0 ∧ word.extractLsb' 0 11 = 0)) (.tzero (two 20) (r 11))
    | 1 => onlyIf (decide (word.extractLsb' 0 21 = 0)) (.tfold (bit 21))
    | 2 => onlyIf (decide (word.extractLsb' 16 6 = 0 ∧ word.extractLsb' 0 16 ≠ 0)) (.tdly (word.extractLsb' 0 16))
    | _ => none
  | _ => none

/-- The command that an instruction word of the Turner spells (R158-R178, R188): none for an illegal encoding (Table 6.9). -/
def turnerDecode (x : Outside) (word : W32) : Option Instr :=
  let major := (word.extractLsb' 26 6).toNat
  let rd : BitVec 5 := word.extractLsb' 21 5
  let ra : BitVec 5 := word.extractLsb' 16 5
  let rb : BitVec 5 := word.extractLsb' 11 5
  let imm : BitVec 16 := word.extractLsb' 0 16
  let seg : BitVec 3 := word.extractLsb' 13 3
  let k := word.getLsbD 12
  let disp : BitVec 12 := word.extractLsb' 0 12
  match major with
  | 0x01 => if word.extractLsb' 7 4 = 0 then turnerInteger (word.extractLsb' 0 6).toNat (word.getLsbD 6) rd ra rb else none
  | 0x02 => some (.addi rd ra imm)
  | 0x03 => some (.andi rd ra imm)
  | 0x04 => some (.ori rd ra imm)
  | 0x05 => some (.xori rd ra imm)
  | 0x06 => some (.slti rd ra imm)
  | 0x07 => some (.sltiu rd ra imm)
  | 0x08 => onlyIf (decide (ra = 0)) (.movi rd imm)
  | 0x09 => some (.sloi rd ra imm)
  | 0x0A => turnerShift imm rd ra
  | 0x0B => onlyIf (decide (ra = 0)) (.addpc rd imm)
  | 0x0C => if word.extractLsb' 5 6 = 0 then turnerMulDiv (word.extractLsb' 0 4).toNat (word.getLsbD 4) rd ra rb else none
  | 0x10 => some (.ldB rd ra seg k disp x.late x.ecc)
  | 0x11 => some (.ldBu rd ra seg k disp x.late x.ecc)
  | 0x12 => some (.ldH rd ra seg k disp x.late x.ecc)
  | 0x13 => some (.ldHu rd ra seg k disp x.late x.ecc)
  | 0x14 => some (.ldW rd ra seg k disp x.late x.ecc)
  | 0x15 => some (.ldWu rd ra seg k disp x.late x.ecc)
  | 0x16 => some (.ldD rd ra seg k disp x.late x.ecc)
  | 0x18 => some (.stB rd ra seg k disp)
  | 0x19 => some (.stH rd ra seg k disp)
  | 0x1A => some (.stW rd ra seg k disp)
  | 0x1B => some (.stD rd ra seg k disp)
  | 0x20 => some (.cbEq rd ra imm)
  | 0x21 => some (.cbNe rd ra imm)
  | 0x22 => some (.cbLt rd ra imm)
  | 0x23 => some (.cbGe rd ra imm)
  | 0x24 => some (.cbLtu rd ra imm)
  | 0x25 => some (.cbGeu rd ra imm)
  | 0x26 => some (.cbiEq rd ra imm)
  | 0x27 => some (.cbiNe rd ra imm)
  | 0x28 => some (.cbiLt rd ra imm)
  | 0x29 => some (.cbiGe rd ra imm)
  | 0x2C => some (.j (word.extractLsb' 0 26))
  | 0x2D => some (.call (word.extractLsb' 0 26))
  | 0x2E => turnerControl (word.extractLsb' 0 11).toNat rd ra rb
  | 0x2F => turnerSystem (word.extractLsb' 12 4).toNat disp rd ra
  | n => if 0x30 ≤ n ∧ n ≤ 0x37 then turnerTile (n - 0x30) word else none

/-! ### The Jiman (15) -/

/-- The code of a condition of CB (R391). -/
def JCond.code : JCond → BitVec 3
  | .eq => 0
  | .ne => 1
  | .lt => 2
  | .ge => 3
  | .ltu => 4
  | .geu => 5
  | .any => 6
  | .none => 7

/-- The code of a condition of CBZ (R391). -/
def JZCond.code : JZCond → BitVec 3
  | .eqz => 0
  | .nez => 1
  | .ltz => 2
  | .gez => 3
  | .gtz => 4
  | .lez => 5

/-- One bit. -/
def bit1 (b : Bool) : BitVec 1 := BitVec.ofBool b

/-- A word of the control group (Table 15.8). -/
def jControl (n : BitVec 8) : BitVec 14 := 0b010010#6 ++ n
/-- A word of the accumulator group (Table 15.6). -/
def jAcc (op : BitVec 3) (ac : Bool) (low : BitVec 4) : BitVec 14 := 0b010001#6 ++ op ++ bit1 ac ++ low
/-- A word of the multiply-accumulate group (Table 15.6). -/
def jMul (op : BitVec 2) (ac : Bool) (dx dy : BitVec 3) : BitVec 14 := 0b01010#5 ++ op ++ bit1 ac ++ dx ++ dy
/-- A word of the ALU group (Table 15.5). -/
def jAlu (op : BitVec 4) (dx dy : BitVec 3) : BitVec 14 := 0b0011#4 ++ op ++ dx ++ dy
/-- A word of the unary group (Table 15.5). -/
def jUnary (op d x : BitVec 3) : BitVec 14 := 0b00011#5 ++ op ++ d ++ x
/-- A word of the shifts by an immediate (Table 15.5). -/
def jShift (op : BitVec 2) (d : BitVec 3) (n : BitVec 4) : BitVec 14 := 0b00010#5 ++ op ++ d ++ n
/-- A word of the a-register group, and of LDF. -/
def jPtr (op : BitVec 2) (a x : BitVec 3) : BitVec 14 := 0b000001#6 ++ op ++ a ++ x

/-- The instruction word that spells a command of the Jiman (R380, Tables 15.4 to 15.8): none for the other commands. The words that
no command has are the reserved encodings of R403. -/
def jimanWord : Instr → Option (BitVec 14)
  | .jimanPfx p => some (0b111#3 ++ p)
  | .jimanB off => some (0b1100#4 ++ off)
  | .jimanCall off => some (0b1101#4 ++ off)
  | .jimanCb c dx dy off => some (0b10#2 ++ JCond.code c ++ dx ++ dy ++ off)
  | .jimanCbz c d off => some (0b0111#4 ++ JZCond.code c ++ d ++ off)
  | .jimanDbnz d off => some (0b0111110#7 ++ d ++ off)
  | .jimanIn d port => some (0b0111111#7 ++ d ++ 0b0#1 ++ port)
  | .jimanOut d port => some (0b0111111#7 ++ d ++ 0b1#1 ++ port)
  | .jimanLd inc seg a d _ => some (0b01100#5 ++ bit1 inc ++ seg ++ a ++ d)
  | .jimanSt inc seg a d => some (0b01101#5 ++ bit1 inc ++ seg ++ a ++ d)
  | .jimanLds d off _ => some (0b010110#6 ++ d ++ off)
  | .jimanSts d off => some (0b010111#6 ++ d ++ off)
  | .jimanMpy ac dx dy => some (jMul 0 ac dx dy)
  | .jimanMac ac dx dy => some (jMul 1 ac dx dy)
  | .jimanMsu ac dx dy => some (jMul 2 ac dx dy)
  | .jimanMpyu ac dx dy => some (jMul 3 ac dx dy)
  | .jimanCallm m => some (0b010011#6 ++ m)
  | .jimanNop => some (jControl 0x00)
  | .jimanEi => some (jControl 0x01)
  | .jimanDi => some (jControl 0x02)
  | .jimanIdle => some (jControl 0x03)
  | .jimanGrst => some (jControl 0x04)
  | .jimanRet _ => some (jControl 0x05)
  | .jimanRetm _ => some (jControl 0x06)
  | .jimanReti _ => some (jControl 0x07)
  | .jimanRetg _ => some (jControl 0x08)
  | .jimanBr a => some (jControl (0b00010#5 ++ a))
  | .jimanCallr a => some (jControl (0b00011#5 ++ a))
  | .jimanMovb ss sd _ _ => some (jControl (0xB#4 ++ ss ++ sd))
  | .jimanFillb sd d _ => some (jControl (0b110#3 ++ sd ++ d))
  | .jimanMacb ac ss sd _ _ => some (jControl (0b111#3 ++ bit1 ac ++ ss ++ sd))
  | .jimanMvac ac d => some (jAcc 0 ac (0#1 ++ d))
  | .jimanMvach ac d => some (jAcc 1 ac (0#1 ++ d))
  | .jimanMvacl ac d => some (jAcc 2 ac (0#1 ++ d))
  | .jimanLdac ac d => some (jAcc 3 ac (0#1 ++ d))
  | .jimanLdacl ac d => some (jAcc 4 ac (0#1 ++ d))
  | .jimanShac ac n => some (jAcc 5 ac n)
  | .jimanClrac ac => some (jAcc 6 ac 0)
  | .jimanNegac ac => some (jAcc 6 ac 1)
  | .jimanAddac ac => some (jAcc 6 ac 2)
  | .jimanSubac ac => some (jAcc 6 ac 3)
  | .jimanAbsac ac => some (jAcc 6 ac 4)
  | .jimanDivs ac d => some (jAcc 7 ac (0#1 ++ d))
  | .jimanMvr d sys => some (0b0100000#7 ++ sys ++ d)
  | .jimanMvs sys d => some (0b0100001#7 ++ sys ++ d)
  | .jimanMov dx dy => some (jAlu 0x0 dx dy)
  | .jimanAdd dx dy => some (jAlu 0x1 dx dy)
  | .jimanAdds dx dy => some (jAlu 0x2 dx dy)
  | .jimanSub dx dy => some (jAlu 0x3 dx dy)
  | .jimanSubs dx dy => some (jAlu 0x4 dx dy)
  | .jimanAnd dx dy => some (jAlu 0x5 dx dy)
  | .jimanOr dx dy => some (jAlu 0x6 dx dy)
  | .jimanXor dx dy => some (jAlu 0x7 dx dy)
  | .jimanAndn dx dy => some (jAlu 0x8 dx dy)
  | .jimanShl dx dy => some (jAlu 0x9 dx dy)
  | .jimanShr dx dy => some (jAlu 0xA dx dy)
  | .jimanSar dx dy => some (jAlu 0xB dx dy)
  | .jimanShls dx dy => some (jAlu 0xC dx dy)
  | .jimanMin dx dy => some (jAlu 0xD dx dy)
  | .jimanMax dx dy => some (jAlu 0xE dx dy)
  | .jimanNeg d dx => some (jUnary 0 d dx)
  | .jimanNegs d dx => some (jUnary 1 d dx)
  | .jimanAbs d dx => some (jUnary 2 d dx)
  | .jimanAbss d dx => some (jUnary 3 d dx)
  | .jimanNot d dx => some (jUnary 4 d dx)
  | .jimanCls d dx => some (jUnary 5 d dx)
  | .jimanMovda d ax => some (jUnary 6 d ax)
  | .jimanMovad ad dx => some (jUnary 7 ad dx)
  | .jimanMovi d imm => some (0b00100#5 ++ d ++ imm)
  | .jimanAddi d imm => some (0b00101#5 ++ d ++ imm)
  | .jimanShli d n => some (jShift 0 d n)
  | .jimanShri d n => some (jShift 1 d n)
  | .jimanSari d n => some (jShift 2 d n)
  | .jimanShlsi d n => some (jShift 3 d n)
  | .jimanAdda a imm => some (0b000010#6 ++ a ++ imm)
  | .jimanMovia a imm => some (0b000011#6 ++ a ++ imm)
  | .jimanMova a ax => some (jPtr 0 a ax)
  | .jimanAddaD a dx => some (jPtr 1 a dx)
  | .jimanSuba a dx => some (jPtr 2 a dx)
  | .jimanLdf a d _ => some (jPtr 3 a d)
  | .jimanRpti count len => some (0b0000000#7 ++ count ++ len)
  | .jimanRpt d len => some (0b0000001#7 ++ d ++ len)
  | _ => none

end Sys2Proof
end

