-- ==== Sys2Proof/Config.lean ====
section
/-! DEFINITION. What the specification leaves open: free values and functions with no body, of which nothing can be
proved. -/

namespace Sys2Proof.Cfg

/-- A free value of w bits for each use: State counts the uses (log entry 4). -/
opaque freeBits (w : Nat) : Nat → BitVec w

/-- SHA-384 (00 R9's reference standards, 16 R407): the function itself is not in the specification. -/
opaque sha384 : List Byte → BitVec 384

/-- ECDSA P-384 verification: public key, digest of the signed message, signature (16 R407). -/
opaque ecdsaP384 : List Byte → BitVec 384 → List Byte → Bool

/-- Where in Jiman data RAM the 256 words of the retained region begin (14 R353 gives its size only). -/
opaque retainedBase : BitVec 15

/-- What a word of program flash holds after a program operation onto a word that is neither erased nor equal: old
word, new word (16 R412 calls the session BROKEN and gives no word). -/
opaque flashClash : BitVec 14 → BitVec 14 → BitVec 14

/-- Repairs that a pseudo-channel offers beyond 64, by stack and pseudo-channel (19 R475). -/
opaque repairsBeyond64 : Nat → Nat → Nat

end Sys2Proof.Cfg
end

