-- ==== Sys2Proof/Machine/State/Fault.lean ====
section
/-! DEFINITION. State of the fault unit, of HBM row retirement and of poison (19_faults_and_long_runs). -/

namespace Sys2Proof.Machine

/-- The counters of one MG_FAULT_CLASSn (19 Table 19.3). -/
structure FaultClass where
  /-- CORRECTED. [Table 19.3; reset 0] -/
  corrected : W16
  /-- UNCORRECTED. [Table 19.3; reset 0] -/
  uncorrected : W16
  /-- ACTIONS. [Table 19.3; reset 0] -/
  actions : W16
  deriving DecidableEq, Repr

/-- One HBM row (19 R513). -/
structure HbmRow where
  stack : Nat
  pc : Nat
  bank : Nat
  row : Nat
  deriving DecidableEq, Repr

/-- A tracked row with the kept stamps of R470, oldest first (19 R473). -/
structure RowTrack where
  row : HbmRow
  stamps : List W64
  /-- It has met its threshold and waits for a place in its stack's queue. [19 Corners] -/
  due : Bool
  deriving DecidableEq, Repr

/-- An ALERT that waits to be sent (19 R472). -/
structure Alert where
  location : W16
  severity : Byte
  /-- The device address of the event, 0 where there is none. -/
  address : W64
  deriving DecidableEq, Repr

/-- Repairs used in one pseudo-channel (19 R475). -/
structure RepairUse where
  stack : Nat
  pc : Nat
  used : Nat
  deriving DecidableEq, Repr

/-- The fault unit. -/
structure FaultUnit where
  /-- MG_FAULT_CLASS1-9, entry n - 1 for class n. [R469, Table 19.3; reset 0] -/
  classes : Vector FaultClass 9
  /-- ALERTs not yet sent, oldest first, at most 32. [R472; reset none] -/
  alerts : List Alert
  /-- MG_FAULT_CLASS5.ALERTS_LOST, saturating. [R472, Table 19.3; reset 0] -/
  alertsLost : Byte
  /-- The rows tracked by the HBM controllers, newest stamp last, at most 512 of one stack. [R473; reset none] -/
  rows : List RowTrack
  /-- Rows that wait for retirement, in the order they reached their threshold. [R474; reset none] -/
  retireQueue : List HbmRow
  /-- Rows retired, in the stacks for good. [R474; reset HW none, log 3] -/
  retired : List HbmRow
  /-- Repairs used in each pseudo-channel that has used any. [R475; reset HW none, log 3] -/
  repairs : List RepairUse
  /-- Poisoned lines of HBM and of the operand store, by line number (address / 64), rising. [R477; reset none] -/
  poison : List Nat
  deriving DecidableEq, Repr

end Sys2Proof.Machine
end

