-- ==== Sys2Proof/Machine/State/Jiman.lean ====
section
/-! DEFINITION. State of the Jiman core: registers, data RAM, program flash, unit and interrupt state
(15_jiman_instruction_set), and the Tailstock port registers of 21 Table 21.10. -/

namespace Sys2Proof.Machine

/-- The registers that a unit changes together at its end (15 R382). -/
structure JRegs where
  /-- d0-d7. [R378, Table 15.1; reset 0] -/
  d : Vector W16 8
  /-- a0-a7; a7 is the stack pointer. [R378, Table 15.1; reset 0] -/
  a : Vector W16 8
  /-- ac0, ac1. [R378, Table 15.1; reset 0] -/
  ac : Vector (BitVec 40) 2
  /-- pc. [R378, R379; reset 0] -/
  pc : BitVec 17
  /-- st.IE. [Table 15.3; reset 0] -/
  ie : Bool
  /-- st.RM. [Table 15.3; reset 0] -/
  rm : BitVec 2
  /-- st.G. [Table 15.3; reset 0] -/
  g : Bool
  /-- st.RA. [Table 15.3; reset 0] -/
  ra : Bool
  /-- rpc, rps and rpe. [Table 15.2; reset 0] -/
  rpc : W16
  rps : W16
  rpe : W16
  /-- fpg. [Table 15.2; reset 0] -/
  fpg : Bool
  /-- vb. [Table 15.2; reset 0] -/
  vb : BitVec 14
  /-- gsb and gsl. [Table 15.2; reset 0x7F00, 0x00FF] -/
  gsb : W16
  gsl : W16
  /-- sgb0-sgb3. [Table 15.2; reset 0] -/
  sgb : Vector W16 4
  /-- sgl0-sgl3. [Table 15.2; reset 0x7FFF] -/
  sgl : Vector W16 4
  /-- The return shadow stack, top first, at most 32. [R394; reset empty] -/
  shadow : List (BitVec 17)
  deriving DecidableEq, Repr

/-- What a branch does after its delay slot (15 R392). -/
structure JBranch where
  /-- The target of a taken branch, none for one that is not taken. -/
  target : Option (BitVec 17)
  deriving DecidableEq, Repr

/-- The Jiman core. -/
structure Jiman where
  /-- The registers. [R378; reset as given for JRegs] -/
  regs : JRegs
  /-- The registers as they stood before the unit in progress, none between units. [R382; reset none; the model's own] -/
  unit : Option JRegs
  /-- The prefix that waits for its instruction. [R381; reset none] -/
  pfx : Option (BitVec 11)
  /-- A CALLM that waits for its CALL. [R393; reset none] -/
  callm : Option (BitVec 8)
  /-- A branch whose delay slot is next. [R392; reset none] -/
  branch : Option JBranch
  /-- Data RAM: byte 2w of word w is its low byte. [R383; reset 0, log 5] -/
  ram : Memory
  /-- Program flash, stored as (0x3FFF xor word) so that an erased word is not listed: byte 2w of word w is its low byte. [R404; reset erased, log 3] -/
  flash : Memory
  /-- The bank that a program or erase operation works on. [R385, R398; reset none] -/
  flashBusy : Option Bool
  /-- Waiting in IDLE. [R399; reset false] -/
  idle : Bool
  /-- INT_PEND. [R400, Table 15.7; reset 0] -/
  intPend : Byte
  /-- INT_EN. [R400, Table 15.7; reset 0] -/
  intEn : Byte
  /-- TICK_HI as the last read of TICK_LO latched it. [R400, Table 15.7; reset 0 DESIGN CHOICE, log 2] -/
  tickHi : W16
  /-- PUB_STAGE0-3 as one word. [R511, Table 21.10; reset 0 DESIGN CHOICE, log 2] -/
  stage : W64
  /-- MBX_OUT0-31 as written, before MBX_SEND. [R511, Table 21.10; reset 0 DESIGN CHOICE, log 2] -/
  mbxOut : BitVec 512
  /-- GAUGE_CTRL.TEST_LOAD. [Table 21.10; reset 0 DESIGN CHOICE, log 2] -/
  testLoad : Bool
  /-- CHG_CTRL.ENABLE, LOW_RATE and BLEED as bits 0-2. [Table 21.10; reset 0 DESIGN CHOICE, log 2] -/
  chgCtrl : BitVec 3
  /-- SAMPLE_SEQ. [Table 21.10; reset 0 DESIGN CHOICE, log 2] -/
  sampleSeq : W16
  /-- The flash controller's ADDR_LO and ADDR_HI as one address, DATA and CMD. [Table 21.10; reset 0 DESIGN CHOICE, log 2] -/
  flashAddr : W32
  flashData : W16
  flashCmd : W16
  /-- The signature unit's image address and length, and the last result: none busy or idle, some pass. [Table 21.10; reset 0 DESIGN CHOICE, log 2] -/
  sigAddr : W32
  sigLen : W32
  sigResult : Option Bool
  /-- OTP KEY_SLOT_SEL and the index of HASH_WORD. [Table 21.10; reset 0 DESIGN CHOICE, log 2] -/
  keySel : W16
  hashIndex : W16
  /-- ONESHOT_MS: milliseconds loaded, 0 when idle. [Table 21.10; reset 0 DESIGN CHOICE, log 2] -/
  oneshot : W16
  /-- LOG_INDEX and FFR_INDEX. [Table 21.10; reset 0 DESIGN CHOICE, log 2] -/
  logIndex : W16
  ffrIndex : W16
  /-- Last values written to the sideband, SMBus and pack-bus control ports, by port number. [Table 21.10; reset none] -/
  busPorts : List (Nat × W16)
  deriving DecidableEq, Repr

end Sys2Proof.Machine
end

