-- ==== Sys2Proof/Machine/State/Power.lean ====
section
/-! DEFINITION. State of the module as a whole: its state of Table 1.8, its power inputs and domains, its straps
and identity (01, 17, 18_module_interface, 21 Table 21.2). -/

namespace Sys2Proof.Machine

/-- The module state, the power path and the identity. -/
structure Power where
  /-- MG_STATE.STATE. [R26, R27, Table 1.9; reset WARM] -/
  state : ModState
  /-- MG_STATE.DRAINING. [R27, Table 1.9; reset 0] -/
  draining : Bool
  /-- A start-up has begun and WARM is not yet entered (steps 8 to 10 of Table 17.5 are left). [R438; reset false] -/
  starting : Bool
  /-- Start-up stopped before step 7 because a stack failed. [R442; reset false] -/
  hbmFailed : Bool
  /-- Input power is good. [R456, Table 17.5; reset true, log 3] -/
  input : Bool
  /-- The input switch is closed. [R457; reset true, log 3] -/
  inputSwitch : Bool
  /-- EPO_N is asserted at the connector. [R437, R454; reset false, log 3] -/
  epoN : Bool
  /-- The emergency-off latch. [R437; reset false] -/
  epoLatch : Bool
  /-- The latest loss of power was an emergency off: the next start has START_KIND 2. [R437; reset false] -/
  afterEpo : Bool
  /-- PWR_PRSNT_N is tied low by the tray. [R457; reset true, log 3] -/
  present : Bool
  /-- PWR_LOSS is asserted. [R15, Table 1.1; reset false] -/
  pwrLoss : Bool
  /-- The Tailstock is powered. [R430, R432; reset true] -/
  tailstock : Bool
  /-- Retention mode: only the Tailstock runs, from the pack. [R430; reset false] -/
  retention : Bool
  /-- The hold-up slice is powered. [R429, Table 17.2; reset true] -/
  holdup : Bool
  /-- The compute domains are powered; their isolation clamps are released. [R429, R431, Table 17.2; reset true] -/
  compute : Bool
  /-- HBM stacks 1-7 are in self-refresh. [R443; reset true (WARM)] -/
  selfRefresh : Bool
  /-- DRVq_REFCLK is driven. [R450; reset true] -/
  drvRefclk : Bool
  /-- ID_LOCATION: the straps as sampled at power-on. [R449, Table 21.2; reset HW 0, log 3] -/
  slotId : BitVec 2
  trayId : BitVec 5
  /-- The SKU fuses. [R1, R438; reset OM1-384, log 3] -/
  sku : Sku
  /-- ID_SERIAL.SERIAL. [R32, R506, Table 21.2; reset HW 0, log 3] -/
  serial : W64
  /-- ID_DEVICE.REVISION. [Table 21.2; reset HW 0xC0, log 3] -/
  revision : Byte
  /-- The Keep setting in force since the last power-on or PERST_N. [R23; reset HW true, log 3] -/
  keepEnabled : Bool
  deriving DecidableEq, Repr

end Sys2Proof.Machine
end

