-- ==== Sys2Proof/Machine/State.lean ====
section
/-! DEFINITION. The state of the OM1 as one structure of plain data, what can stop a step, and the state after
reset. -/

namespace Sys2Proof.Machine

/-- Faults: none. Every command of the table has an effect that the specification gives, so no command stops the
machine (log entry 1). -/
inductive Fault where
  deriving DecidableEq, Repr

/-- Why a command has no meaning. -/
inductive Refusal where
  /-- Raised by an arm of the dispatch whose command has no meaning yet. Safe: the machine stops. -/
  | notModelled (mnemonic : String)
  deriving DecidableEq, Repr

/-- The whole state of the OM1. -/
structure State where
  clocks : Clocks
  power : Power
  link : Link
  queue : Queue
  turner : Turner
  lattice : Lattice
  finish : Finish
  spindle : Spindle
  scale : ScaleOut
  keep : Keep
  cache : Cache
  gauge : Gauge
  mgmt : Mgmt
  jiman : Jiman
  firmware : Firmware
  faults : FaultUnit
  /-- HBM, the operand store and the Spindle state store by device address. [R20, Table 1.5; reset 0: R438 zeroes them] -/
  dev : Memory
  /-- Host memory by host address, 46 bits. [R45; reset 0, the host's, log 5] -/
  host : Memory
  /-- How many free values have been taken. [the model's own; reset 0 DESIGN CHOICE, log 4] -/
  freeCtr : Nat
  /-- The commands that wait, first in, first out. [the model's own; reset empty] -/
  pending : List Instr
  deriving DecidableEq, Repr

namespace Reset

def clocks : Clocks :=
  { timebase := 0, cclk := 0, phase := 0, pllLocked := true, level := 0, startKind := 0, lockLosses := 0,
    cclkStopped := true, latchHost := none, latchTurner := none }

def power : Power :=
  { state := .warm, draining := false, starting := false, hbmFailed := false, input := true, inputSwitch := true,
    epoN := false, epoLatch := false, afterEpo := false, present := true, pwrLoss := false, tailstock := true, retention := false,
    holdup := true, compute := true, selfRefresh := true, drvRefclk := true,
    slotId := 0, trayId := 0, sku := .om1_384, serial := 0, revision := 0xC0, keepEnabled := true }

def config : Config :=
  { memEnable := false, busMaster := false, d3hot := false, pasidEnable := false, atsEnable := false,
    relaxed := true, cxlCache := false, biEnable := false, msixEnable := false, msixMask := false,
    cplTimeout := 0, bar4Enc := 16, bar0 := 0, bar2 := 0, bar4 := 0, maxPayload := 0, maxRead := 2, aspmL1 := false }

def link : Link :=
  { lanes := Vector.replicate 16 { errors := [], due := false, lockFails := 0, retired := false }
    up := true, rate := 6, best := 6, flit := true, trained := 16, inUse := 0xFFFF, perst := false, perstDue := false, testLanes := 0,
    testBusy := false, testUnsupported := false, tested := 0, passed := 0, cxlMode := false, width := 16,
    firstLane := 0, reversalOk := true, recovery := false, margins := Vector.replicate 16 { limit := 4, status := .normal }
    cfg := config, aer := { corr := 0, uncorr := 0, log := none }
    msix := Vector.replicate 64 { addr := 0, data := 0, mask := true }
    pba := 0, bar4Base := 0x10, winSize := 0, winBase := 0, hdmCommitted := false, commitError := false,
    atc := [], xlatAsked := [], xlatRefused := [], invalidations := [], dir := [], biPending := [], homeQueue := [],
    snoopEvictions := 0, l2Host := [], l2Poison := [], sent := [], dropped := 0 }

def subRing : SubRing :=
  { exists_ := false, base := 0, log2 := 0, prio := 0, homeCr := 0, pasid := 0, head := 0, doorbell := false,
    eligibleAt := 0, push := Vector.replicate 4 none, pushDrops := 0, stopped := false,
    deviceHalted := false, stopSeq := 0, reason := 0, stopRecord := none, resetting := none, abortedLow := none,
    grant := none, linePending := false, lineHead := 0 }

def cplRing : CplRing :=
  { exists_ := false, base := 0, log2 := 0, vector := 0, count := 0, time := 0, detailBase := 0, tail := 0,
    head := 0, badHead := false, waiting := [], pendingMsgs := 0, oldest := 0 }

def queue : Queue :=
  { enable := false, configErr := false, sr0Config := 0, cr0Config := 0x0001000000000000, cr0Detail := 0,
    sr0Written := false, cr0Written := false, sr0Doorbell := false, sr := Vector.replicate 32 subRing,
    cr := Vector.replicate 32 cplRing, rr := Vector.replicate 8 0, event := 0, eventEnable := 0,
    stoppedRings := 0, ops := Vector.replicate 512 none, nextOrder := 0, issuedAt := none }

def turner : Turner :=
  { mode := .stopped, g := Vector.replicate 32 0, gpoison := 0, poisonAddr := Vector.replicate 32 0, lk := 0,
    pc := 0x200, cstat := { priv := true, ie := false, det := false, entry := false, rescue := false }
    cstatNext := none, ecause := 0, epc := 0, estat := 0, eaddr := 0, xcause := 0, xpc := 0, xstat := 0,
    xaddr := 0, timercmp := 0, ipend := 0, icond := 0,
    sbank := Vector.replicate 8 0, savedS7 := 0, sbankNext := Vector.replicate 8 0, kbank := Vector.replicate 8 0,
    segTables := Vector.replicate 64 (Vector.replicate 8 0), kss := Vector.replicate 1024 0, kssDepth := 0,
    kssSel := 0, sss := Vector.replicate 256 0, sssDepth := 0, rescueStack := [], accesses := [], storesLeft := 0,
    retained := none, runningK := [], current := none, done := [], tileOwner := 0x3FF,
    doneEpc := 0, halts := [], lastHaltCause := 0, locked := false }

def lattice : Lattice :=
  { tiles := [], fmts := Vector.replicate 12 3, fold := false, queue := [], flight := [], restart := [],
    delayUntil := 0, headSince := 0,
    fault := none, faultPending := false, held := [], touched := 0,
    chucks := Vector.replicate 4 { loaded := false, scales := false, src := 0, pitch := 0, scaleSrc := 0 } }

def finish : Finish :=
  { bias := [], pwl := Vector.replicate 8 none, stage := [], commitErr := false,
    hist := Vector.replicate 16 { bins := Vector.replicate 64 0, elements := 0, satMap := 0, amax := 0 } }

def spindle : Spindle :=
  { log2 := 4, base := 0, head := 0, phase := true, window := 0, slotFirst := 0, slotCount := 0, enable := false,
    faulted := false, code := 0, progress := 0, faultIndex := 0, running := [], storedAt := [], headSince := 0 }

def scale : ScaleOut :=
  { counters := [], delivered := [],
    relays := Vector.replicate 256 { valid := false, usePasid := false, pasid := 0, addr := 0 }
    peerBase := Vector.replicate 8 0, peerLimit := Vector.replicate 8 0 }

def drivePort : DrivePort :=
  { drive := none, lost := none, dropouts := [], locked := false, readErrors := [],
    lastTest := 0, perst := false }

def keep : Keep :=
  { ports := Vector.replicate 8 drivePort, array := none, spares := 0, writes := [], scrubMismatches := 0,
    scrubPass := 0, patrolNext := 0, lastClear := 0, portTest := { queue := [], running := none }
    testPorts := 0, testTested := 0, testPass := 0 }

def cache : Cache :=
  { extents := [], admitSeq := 0, head := 0, tail := 0, journal := Vector.replicate 256 none, forceWt := false,
    poisonedHalves := [], assureFell := none, area0 := [], area1 := [], image := .none, imageArea := false,
    armed := none, unsealedLast := false, discarded := false, restored := false, dumping := false, resyncUuid := none }

def gauge : Gauge :=
  { present := false, eeprom := none, mirror := [], record := none, eepromRo := [], writeFails := 0,
    fetClosed := false, cutoff := false, last := none, fast := false, quiet := 0, rc := 0, sRep := 0,
    repTick := 0, unrested := false, restTime := 0, idleTime := 0, anchor := none, estimated := false,
    validLatch := false, charge := .off, chargeStart := 0, timeouts := [], chargeLock := none, inhibit := false,
    testAsked := false, imp := .idle, lastTest := none, retryAt := none, residueTick := 0, dirty := false,
    warnArmed := true, critArmed := true, energy := 0, inserting := none }

def mgmt : Mgmt :=
  { tick := 0, words := Vector.replicate 5 0, stale := false, holdAssure := false, assure := false,
    assureLock := false, mismatch := false, selftestOk := false, selftestNo := 0, gated := false,
    resetting := false, resetAsked := false, selftestFailed := false, faultTicks := [], faultCounter := 0,
    resets := 0, overruns := 0, wdogAt := 0, tickHeld := false, tickRunning := false, level := 0, driven := 0, exitTicks := 0, trip := false,
    tripN := false, power := [], sensors := Vector.replicate 24 { value := 0, fails := 0, retired := false }
    inletOut := false, rails := [], toMg := none, toDp := none, awaitNotice := true, ops := [], seq := 0,
    jop := none, replyReset := false, riseDue := false, retainedReply := none, retainedOk := true, latchHp := none, latchFfr := none,
    hpReg := 0, hpCmd := none, ffrCmd := false, outbox := [],
    dpAlert := false, crumbs := [], crumbCount := 0, ffr := none, powerOns := 1,
    polls := Vector.replicate 8 { fails := 0, responds := false, smartWarn := false, tempWarn := false, reply := 0 }
    dynAddr := none, eid := 0, i3c := true, eventReceiver := none, spdmVersion := false, spdmCaps := false,
    spdmAlgs := false, doe := [], doeOut := [], side := [] }

def jregs : JRegs :=
  { d := Vector.replicate 8 0, a := Vector.replicate 8 0, ac := Vector.replicate 2 0, pc := 0, ie := false,
    rm := 0, g := false, ra := false, rpc := 0, rps := 0, rpe := 0, fpg := false, vb := 0, gsb := 0x7F00,
    gsl := 0x00FF, sgb := Vector.replicate 4 0, sgl := Vector.replicate 4 0x7FFF, shadow := [] }

def jiman : Jiman :=
  { regs := jregs, unit := none, pfx := none, callm := none, branch := none, ram := [], flash := [],
    flashBusy := none, idle := false, intPend := 0, intEn := 0, tickHi := 0, stage := 0, mbxOut := 0,
    testLoad := false, chgCtrl := 0, sampleSeq := 0, flashAddr := 0, flashData := 0, flashCmd := 0, sigAddr := 0,
    sigLen := 0, sigResult := none, keySel := 0, hashIndex := 0, oneshot := 0, logIndex := 0, ffrIndex := 0,
    busPorts := [] }

/-- The settings items at their factory values (log entry 3). -/
def settings : Settings :=
  { keepEnabled := true, bar4Enc := 16, window := 0, lanes := 0, uuid := 0, smbus := 0x4C }

/-- The header of the image programmed at manufacture: MAGIC, FORMAT 1, KEY_SLOT 0, CODE_WORDS 61,440, every other
field 0 (log entry 3). -/
def factoryHeader : BitVec 4096 := 0x0000F000000000000000000157465354

def firmware : Firmware :=
  { boot := #v[some { seq := 1, active := false, state := .confirmed, boots := 0, activeSettings := false,
                      previous := false, previousSettings := false, rolledBack := false, recovery := false,
                      actSeq := 0 }, none]
    headers := #v[some factoryHeader, none]
    factory := #v[true, false]
    session := { state := .none, pldm := false, target := false, codeWords := 0, header := 0, units := 0 }
    pldm := .idle
    slots := #v[#v[some { format := 0, actSeq := 0, copySeq := 1, items := settings }, none], #v[none, none]]
    inUse := settings, unreadable := false, recovery := false, image := settings, imageTaken := true,
    revoked := 0, ohmimRevoked := 0, keyHash := #v[0, 0], status := 0 }

def faults : FaultUnit :=
  { classes := Vector.replicate 9 { corrected := 0, uncorrected := 0, actions := 0 }
    alerts := [], alertsLost := 0, rows := [], retireQueue := [], retired := [], repairs := [], poison := [] }

end Reset

/-- The machine right after reset: a module that has completed a cold power-on and stands in WARM, every register at
its Reset column, HW values at the factory settings of log entry 3. CK_STATUS.LOCKED and HL_LANE_STATUS, which report the PLL and the link as
they are, read what WARM implies: the PLL has locked and the link has trained (01 Table 1.8, R438; log entry 3). -/
def State.reset : State :=
  { clocks := Reset.clocks, power := Reset.power, link := Reset.link, queue := Reset.queue,
    turner := Reset.turner, lattice := Reset.lattice, finish := Reset.finish, spindle := Reset.spindle,
    scale := Reset.scale, keep := Reset.keep, cache := Reset.cache, gauge := Reset.gauge, mgmt := Reset.mgmt,
    jiman := Reset.jiman, firmware := Reset.firmware, faults := Reset.faults, dev := [], host := [],
    freeCtr := 0, pending := [] }

end Sys2Proof.Machine
end

