-- ==== Sys2Proof/Machine/Ops.lean ====
section
/-! DEFINITION. The named operations over memory, vectors and the blocks of the state. -/

namespace Sys2Proof.Machine
open Sys2Proof

/-! ### Sparse memory -/

/-- The byte at an address; an unlisted address reads 0 (log entry 5). -/
def Memory.read : Memory → Nat → Byte
  | [], _ => 0
  | (a, b) :: m, k => if a = k then b else Memory.read m k

/-- Write one byte, keeping the canonical form: addresses strictly rising, no zero listed. -/
def Memory.write : Memory → Nat → Byte → Memory
  | [], k, v => if v = 0 then [] else [(k, v)]
  | (a, b) :: m, k, v =>
    if k < a then (if v = 0 then (a, b) :: m else (k, v) :: (a, b) :: m)
    else if k = a then (if v = 0 then m else (k, v) :: m)
    else (a, b) :: Memory.write m k v

/-- The bytes at k, k + 1, …, n of them. -/
def Memory.readN (m : Memory) (k : Nat) : Nat → List Byte
  | 0 => []
  | n + 1 => m.read k :: Memory.readN m (k + 1) n

/-- Write a list of bytes from k upward. -/
def Memory.writeN (m : Memory) (k : Nat) : List Byte → Memory
  | [] => m
  | b :: bs => Memory.writeN (m.write k b) (k + 1) bs

/-- Whether every listed address is at least k, addresses rise strictly and no listed byte is 0. -/
def Memory.wfFrom (k : Nat) : Memory → Bool
  | [] => true
  | (a, b) :: m => decide (k ≤ a) && decide (b ≠ 0) && Memory.wfFrom (a + 1) m

/-- The canonical form of a memory. -/
def Memory.wf (m : Memory) : Bool := Memory.wfFrom 0 m

/-- Little-endian bytes to a number (00 R4). -/
def bytesToNat : List Byte → Nat
  | [] => 0
  | b :: bs => b.toNat + 256 * bytesToNat bs

/-- The n low bytes of a number, little-endian (00 R4). -/
def natToBytes (x : Nat) : Nat → List Byte
  | 0 => []
  | n + 1 => BitVec.ofNat 8 x :: natToBytes (x / 256) n

/-- n bytes at k as a little-endian number. -/
def Memory.readLE (m : Memory) (k n : Nat) : Nat := bytesToNat (m.readN k n)

/-- Write the n low bytes of x at k, little-endian. -/
def Memory.writeLE (m : Memory) (k n x : Nat) : Memory := m.writeN k (natToBytes x n)

/-! ### CRC32C (00's reference standards; PRESUMED, log entry 19) -/

/-- One bit of the reflected CRC with polynomial 0x82F63B78. -/
def crcBit (c : W32) : W32 := if c.getLsbD 0 then (c >>> 1) ^^^ 0x82F63B78 else c >>> 1

/-- One byte of the CRC. -/
def crcByte (c : W32) (b : Byte) : W32 :=
  let x := c ^^^ b.setWidth 32
  crcBit (crcBit (crcBit (crcBit (crcBit (crcBit (crcBit (crcBit x)))))))

/-- CRC32C of a list of bytes. -/
def crc32c (bs : List Byte) : W32 := ~~~(bs.foldl crcByte 0xFFFFFFFF)

/-- Bytes followed by their CRC32C. -/
def withCrc (bs : List Byte) : List Byte := bs ++ natToBytes (crc32c bs).toNat 4

/-! ### Vectors and lists -/

/-- Element i of a vector, d beyond its end. -/
def vget {α : Type} {n : Nat} (v : Vector α n) (i : Nat) (d : α) : α := v[i]?.getD d

/-- The vector with element i replaced; unchanged where i is beyond its end. -/
def vset {α : Type} {n : Nat} (v : Vector α n) (i : Nat) (x : α) : Vector α n := v.setIfInBounds i x

/-- Put a number into a rising list without repeats. -/
def insertNat (x : Nat) : List Nat → List Nat
  | [] => [x]
  | y :: ys => if x < y then x :: y :: ys else if x = y then y :: ys else y :: insertNat x ys

/-! ### Bit fields -/

/-- Bits [lo + w - 1 : lo] of a number. -/
def bitsOf (x lo w : Nat) : Nat := x / 2 ^ lo % 2 ^ w

/-- Bytes [b, b + n) of a descriptor, little-endian (04 R102, R104). -/
def fld (d : BitVec 512) (b n : Nat) : Nat := (d.extractLsb' (8 * b) (8 * n)).toNat

/-- A saturating increment. -/
def satInc {w : Nat} (x : BitVec w) : BitVec w := if x = BitVec.allOnes w then x else x + 1

/-! ### Updates of one block -/

def State.setClocks (s : State) (x : Clocks) : State := { s with clocks := x }
def State.setPower (s : State) (x : Power) : State := { s with power := x }
def State.setLink (s : State) (x : Link) : State := { s with link := x }
def State.setQueue (s : State) (x : Queue) : State := { s with queue := x }
def State.setTurner (s : State) (x : Turner) : State := { s with turner := x }
def State.setLattice (s : State) (x : Lattice) : State := { s with lattice := x }
def State.setFinish (s : State) (x : Finish) : State := { s with finish := x }
def State.setSpindle (s : State) (x : Spindle) : State := { s with spindle := x }
def State.setScale (s : State) (x : ScaleOut) : State := { s with scale := x }
def State.setKeep (s : State) (x : Keep) : State := { s with keep := x }
def State.setCache (s : State) (x : Cache) : State := { s with cache := x }
def State.setGauge (s : State) (x : Gauge) : State := { s with gauge := x }
def State.setMgmt (s : State) (x : Mgmt) : State := { s with mgmt := x }
def State.setJiman (s : State) (x : Jiman) : State := { s with jiman := x }
def State.setFirmware (s : State) (x : Firmware) : State := { s with firmware := x }
def State.setFaults (s : State) (x : FaultUnit) : State := { s with faults := x }
def State.setDev (s : State) (x : Memory) : State := { s with dev := x }
def State.setHost (s : State) (x : Memory) : State := { s with host := x }
def State.setFreeCtr (s : State) (x : Nat) : State := { s with freeCtr := x }

/-- Take a free value of w bits (log entry 4). -/
def State.free (s : State) (w : Nat) : BitVec w := Cfg.freeBits w s.freeCtr

/-- Count a free value as taken. -/
def State.tookFree (s : State) : State := s.setFreeCtr (s.freeCtr + 1)

/-! ### Access to rings and tracker entries (03 R68, 04 R117) -/

def State.sr (s : State) (k : Nat) : SubRing := vget s.queue.sr k Reset.subRing
def State.cr (s : State) (k : Nat) : CplRing := vget s.queue.cr k Reset.cplRing
def State.op (s : State) (k : Nat) : Option Op := vget s.queue.ops k none

def State.setSr (s : State) (k : Nat) (r : SubRing) : State := s.setQueue { s.queue with sr := vset s.queue.sr k r }
def State.setCr (s : State) (k : Nat) (r : CplRing) : State := s.setQueue { s.queue with cr := vset s.queue.cr k r }
def State.setOp (s : State) (k : Nat) (o : Option Op) : State :=
  s.setQueue { s.queue with ops := vset s.queue.ops k o }

/-- The tracker entries in use, as (entry, operation), in entry order. -/
def State.opList (s : State) : List (Nat × Op) :=
  (List.range 512).filterMap fun i => (s.op i).map fun o => (i, o)

/-- The PASID of the ring an operation came from; SR0 has none (R46). -/
def State.opPasid (s : State) (o : Op) : Option (BitVec 20) := if o.sr = 0 then none else some (s.sr o.sr).pasid

/-! ### The device address map (01 R19, R20, Table 1.5) -/

/-- Bytes of one HBM stack (R19). -/
def stackBytes : Sku → Nat
  | .om1_384 => 0x000C00000000
  | .om1_192 => 0x000600000000

/-- HBM_END (R20). -/
def hbmEnd (k : Sku) : Nat := 8 * stackBytes k

/-- The regions of Table 1.5. -/
inductive Region where
  | cache | kernels | operand | spindle | control | host | unmapped
  deriving DecidableEq, Repr

/-- The region of a device address under the SKU and the Keep setting (R20). -/
def regionOf (sku : Sku) (keepOn : Bool) (a : Nat) : Region :=
  if a < 0x000400000000 then (if keepOn then .cache else .kernels)
  else if a < hbmEnd sku then .kernels
  else if a < 0x800000000000 then .unmapped
  else if a < 0x80000A000000 then .operand
  else if a < 0x800040000000 then .unmapped
  else if a < 0x800041000000 then .spindle
  else if a < 0x800080000000 then .unmapped
  else if a < 0x800084000000 then .control
  else if a < 0xC00000000000 then .unmapped
  else if a < 0x1000000000000 then .host
  else .unmapped

/-- The region of a device address in a state. -/
def State.region (s : State) (a : Nat) : Region := regionOf s.power.sku s.power.keepEnabled a

/-- Whether all of the bytes a … a + n - 1 lie in one region r. The regions are intervals, so the ends decide. -/
def State.inRegion (s : State) (a n : Nat) (r : Region) : Bool :=
  decide (0 < n) && decide (s.region a = r) && decide (s.region (a + n - 1) = r)

/-- Whether a shared window of SIZE units of 256 MiB from BASE may be written: SIZE at most 256, and the range within HBM
for kernels (02 R57, 16 R420). SIZE 0 is no window. -/
def windowOk (sku : Sku) (keepOn : Bool) (size base : Nat) : Bool :=
  decide (size ≤ 256) &&
    (decide (size = 0) ||
      (decide (regionOf sku keepOn (base * 2 ^ 28) = .kernels) &&
        decide (regionOf sku keepOn ((base + size) * 2 ^ 28 - 1) = .kernels)))

/-- The Ohmim's compute domains run: powered, PWR_LOSS is not asserted, and FCLK is not stopped (R15, R63, R427). -/
def State.running (s : State) : Bool := s.power.compute && !s.power.pwrLoss && s.clocks.pllLocked

/-- TIMEBASE as a number. -/
def State.now (s : State) : Nat := s.clocks.timebase.toNat

end Sys2Proof.Machine
end

