-- ==== Sys2Proof/Machine/Numbers.lean ====
section
/-! DEFINITION. Exact arithmetic on the number formats: decoding, rounding, conversion, the Lattice cell, piecewise-linear
tables, grain histograms and the next scale (08_numbers_and_finishing). -/

namespace Sys2Proof.Machine
open Sys2Proof

/-! ### Exact values -/

/-- An exact value: NaN, an infinity, or (−1)^neg × m × 2^e. -/
inductive Val where
  | nan
  | inf (neg : Bool)
  | fin (neg : Bool) (m : Nat) (e : Int)
  deriving DecidableEq, Repr

/-- 2^n for an integer that is not negative. -/
def pow2 (n : Int) : Nat := 2 ^ n.toNat

/-- Product, with Inf × 0 = NaN (R215). -/
def Val.mul : Val → Val → Val
  | .nan, _ => .nan
  | _, .nan => .nan
  | .inf a, .inf b => .inf (a != b)
  | .inf a, .fin b m _ => if m = 0 then .nan else .inf (a != b)
  | .fin a m _, .inf b => if m = 0 then .nan else .inf (a != b)
  | .fin a m e, .fin b n f => .fin (a != b) (m * n) (e + f)

/-- Exact sum; a zero sum is −0 only where both terms are negative zeros. -/
def Val.add : Val → Val → Val
  | .nan, _ => .nan
  | _, .nan => .nan
  | .inf a, .inf b => if a = b then .inf a else .nan
  | .inf a, .fin _ _ _ => .inf a
  | .fin _ _ _, .inf b => .inf b
  | .fin a m e, .fin b n f =>
    let g := min e f
    let x := m * pow2 (e - g)
    let y := n * pow2 (f - g)
    if a = b then .fin a (x + y) g
    else if y < x then .fin a (x - y) g
    else if x < y then .fin b (y - x) g
    else .fin false 0 g

/-- Multiply by 2^k. -/
def Val.scale (v : Val) (k : Int) : Val := match v with | .fin a m e => .fin a m (e + k) | x => x

/-- |v| as an exact value. -/
def Val.abs : Val → Val
  | .nan => .nan
  | .inf _ => .inf false
  | .fin _ m e => .fin false m e

/-- Whether one finite magnitude is less than another. -/
def magLt (m : Nat) (e : Int) (n : Nat) (f : Int) : Bool :=
  let g := min e f
  decide (m * pow2 (e - g) < n * pow2 (f - g))

/-- ⌊log₂⌋ of a magnitude that is not 0. -/
def magLog (m : Nat) (e : Int) : Int := (Nat.log2 m : Int) + e

/-- An integer as an exact value. -/
def Val.ofInt (x : Int) : Val := .fin (decide (x < 0)) x.natAbs 0

/-! ### Formats (R209, Table 8.1) -/

/-- How a format treats its top exponent. -/
inductive Top where
  /-- As IEEE 754: infinities and NaNs. -/
  | ieee
  /-- E4M3: the one code S.1111.111 is NaN. -/
  | oneNan
  /-- Neither. -/
  | plain
  deriving DecidableEq, Repr

/-- A floating-point layout: exponent bits, mantissa bits, bias, top exponent. -/
structure Layout where
  eb : Nat
  mb : Nat
  bias : Int
  top : Top
  deriving DecidableEq, Repr

def fp32 : Layout := { eb := 8, mb := 23, bias := 127, top := .ieee }

/-- The layout of a floating-point format code of Table 4.5. -/
def layoutOf (code : Nat) : Layout :=
  match code with
  | 0x0 => fp32
  | 0x1 => { eb := 5, mb := 10, bias := 15, top := .ieee }
  | 0x2 => { eb := 8, mb := 7, bias := 127, top := .ieee }
  | 0x3 => { eb := 4, mb := 3, bias := 7, top := .oneNan }
  | 0x5 => { eb := 4, mb := 3, bias := 7, top := .oneNan }
  | 0x4 => { eb := 5, mb := 2, bias := 15, top := .ieee }
  | 0x6 => { eb := 5, mb := 2, bias := 15, top := .ieee }
  | 0x7 => { eb := 3, mb := 2, bias := 3, top := .plain }
  | 0x8 => { eb := 2, mb := 3, bias := 1, top := .plain }
  | _ => { eb := 2, mb := 1, bias := 1, top := .plain }

/-- Whether a format code is an MX format. -/
def isMxFmt (code : Nat) : Bool := decide (5 ≤ code ∧ code ≤ 9)

/-- Bits of an element in memory (Table 4.5). -/
def fmtBits (code : Nat) : Nat :=
  match code with
  | 0x0 => 32 | 0x1 => 16 | 0x2 => 16 | 0x7 => 6 | 0x8 => 6 | 0x9 => 4 | 0xB => 32 | _ => 8

/-- Decode the bits of a layout. -/
def Layout.decode (l : Layout) (x : Nat) : Val :=
  let man := x % 2 ^ l.mb
  let ex := x / 2 ^ l.mb % 2 ^ l.eb
  let neg := (x / 2 ^ (l.mb + l.eb)) % 2 = 1
  if l.top = .ieee ∧ ex = 2 ^ l.eb - 1 then (if man = 0 then .inf neg else .nan)
  else if l.top = .oneNan ∧ ex = 2 ^ l.eb - 1 ∧ man = 2 ^ l.mb - 1 then .nan
  else if ex = 0 then .fin neg man (1 - l.bias - l.mb)
  else .fin neg (2 ^ l.mb + man) (ex - l.bias - l.mb)

/-- The largest finite magnitude of a layout, as its bits without the sign. -/
def Layout.maxBits (l : Layout) : Nat :=
  match l.top with
  | .ieee => (2 ^ l.eb - 1) * 2 ^ l.mb - 1
  | .oneNan => 2 ^ (l.eb + l.mb) - 2
  | .plain => 2 ^ (l.eb + l.mb) - 1

/-- The infinity of a layout, or the canonical NaN where it has none, without the sign. -/
def Layout.infBits (l : Layout) : Nat := (2 ^ l.eb - 1) * 2 ^ l.mb

/-- The canonical NaN (R212). -/
def Layout.nanBits (l : Layout) : Nat :=
  match l.top with
  | .ieee => (2 ^ l.eb - 1) * 2 ^ l.mb + 2 ^ (l.mb - 1)
  | _ => 2 ^ (l.eb + l.mb) - 1

/-- The rounding modes of R216. -/
inductive Round where
  | nearest | towardZero
  /-- Stochastic with the drawn value u. -/
  | stochastic (u : Nat)
  deriving DecidableEq, Repr

/-- Round a magnitude to a multiple of 2^q (R216, R217): the multiple. -/
def roundMag (mode : Round) (m : Nat) (e q : Int) : Nat :=
  if q ≤ e then m * pow2 (e - q)
  else
    let p := pow2 (q - e)
    let k := m / p
    let r := m % p
    match mode with
    | .nearest => if p < 2 * r ∨ (p = 2 * r ∧ k % 2 = 1) then k + 1 else k
    | .towardZero => k
    | .stochastic u => if 65536 ≤ r * 65536 / p + u then k + 1 else k

/-- The exponent of the last retained bit at a magnitude. -/
def Layout.quantum (l : Layout) (m : Nat) (e : Int) : Int :=
  if m = 0 then 1 - l.bias - l.mb else max (magLog m e - l.mb) (1 - l.bias - l.mb)

/-- The bits of k × 2^q where it is representable, without the sign. -/
def Layout.pack (l : Layout) (k : Nat) (q : Int) : Nat :=
  if k = 0 then 0
  else
    let ex := magLog k q
    if ex < 1 - l.bias then k * pow2 (q - (1 - l.bias - l.mb))
    else
      let man := if ex - l.mb ≤ q then k * pow2 (q - (ex - l.mb)) else k / pow2 (ex - l.mb - q)
      (ex + l.bias).toNat * 2 ^ l.mb + (man - 2 ^ l.mb)

/-- The sign bit of a layout. -/
def Layout.signBit (l : Layout) (neg : Bool) : Nat := if neg then 2 ^ (l.eb + l.mb) else 0

/-- Convert an exact value into a floating-point format (R216, Table 8.2). -/
def Layout.encode (l : Layout) (mode : Round) (sat : Bool) (v : Val) : Nat :=
  match v with
  | .nan => l.nanBits
  | .inf neg => if l.top = .ieee then l.infBits + l.signBit neg else l.nanBits
  | .fin neg m e =>
    let q := l.quantum m e
    let k := roundMag mode m e q
    match l.decode l.maxBits with
    | .fin _ mm me =>
      if magLt mm me k q then
        if l.top = .plain || sat || decide (mode = .towardZero) then l.maxBits + l.signBit neg
        else if l.top = .ieee then l.infBits + l.signBit neg
        else l.nanBits
      else l.pack k q + l.signBit neg
    | _ => 0

/-- Convert an exact value into an integer of w bits: rounded, then clamped (Table 8.2); NaN gives 0. -/
def encodeInt (w : Nat) (mode : Round) (v : Val) : Nat :=
  let hi : Int := 2 ^ (w - 1) - 1
  let lo : Int := -(2 ^ (w - 1))
  match v with
  | .nan => 0
  | .inf neg => (BitVec.ofInt w (if neg then lo else hi)).toNat
  | .fin neg m e =>
    let k : Int := roundMag mode m e 0
    (BitVec.ofInt w (max lo (min hi (if neg then -k else k)))).toNat

/-- An FP32 value's exact value. -/
def val32 (x : W32) : Val := fp32.decode x.toNat

/-- Round an exact value to FP32, nearest-even (R213). -/
def rne32 (v : Val) : W32 := BitVec.ofNat 32 (fp32.encode .nearest false v)

/-- The exact value of an element of a format that is not scaled: a float or an integer. -/
def decodeElem (code x : Nat) : Val :=
  if code = 0xA then .ofInt (BitVec.ofNat 8 x).toInt
  else if code = 0xB then .ofInt (BitVec.ofNat 32 x).toInt
  else (layoutOf code).decode x

/-- The exact value of an MX element under its block scale (R211). -/
def decodeMx (code x scale : Nat) : Val :=
  if scale = 0xFF then .nan else ((layoutOf code).decode x).scale ((scale : Int) - 127)

/-- Convert an exact value into a format that is not MX. -/
def encodeElem (code : Nat) (mode : Round) (sat : Bool) (v : Val) : Nat :=
  if code = 0xA then encodeInt 8 mode v
  else if code = 0xB then encodeInt 32 mode v
  else (layoutOf code).encode mode sat v

/-- The 16 bits that stochastic rounding draws (R217). -/
def stochasticBits (seed idx : Nat) : Nat :=
  let z0 : W64 := BitVec.ofNat 64 (seed * 2 ^ 32 + idx)
  let z1 := z0 ^^^ (z0 >>> 33)
  let z2 := z1 * 0xFF51AFD7ED558CCD
  let z3 := z2 ^^^ (z2 >>> 33)
  let z4 := z3 * 0xC4CEB9FE1A85EC53
  let z5 := z4 ^^^ (z4 >>> 33)
  z5.toNat % 65536

/-- The rounding mode of a ROUND field, with its seed and index. -/
def roundOf (mode seed idx : Nat) : Round :=
  match mode with
  | 0 => .nearest
  | 1 => .towardZero
  | _ => .stochastic (stochasticBits seed idx)

/-! ### MX blocks (R218) -/

/-- emax of an MX element format. -/
def mxEmax (code : Nat) : Int :=
  match code with
  | 0x5 => 8 | 0x6 => 15 | 0x7 => 4 | _ => 2

/-- The larger of two finite magnitudes. -/
def magMax (a b : Nat × Int) : Nat × Int := if magLt a.1 a.2 b.1 b.2 then b else a

/-- The block scale for 32 values (R218, step 1). -/
def mxScale (code : Nat) (vs : List Val) : Nat :=
  if vs.any fun v => match v with | .fin _ _ _ => false | _ => true then 0xFF
  else
    let a := vs.foldl (fun acc v => match v with | .fin _ m e => magMax acc (m, e) | _ => acc) (0, 0)
    if a.1 = 0 then 0 else (max 0 (min 254 (magLog a.1 a.2 - mxEmax code + 127))).toNat

/-- The elements of a block and its scale (R218); `mode i` is the rounding of element i. -/
def mxBlock (code : Nat) (mode : Nat → Round) (vs : List Val) : List Nat × Nat :=
  let x := mxScale code vs
  if x = 0xFF then (vs.map fun _ => 0, x)
  else (vs.mapIdx fun i v => (layoutOf code).encode (mode i) true (v.scale (127 - (x : Int))), x)

/-! ### Packing (R210) -/

/-- Pack elements of w bits into bytes, element 0 in the lowest bits. -/
def packElems (w : Nat) (xs : List Nat) : List Byte :=
  let n := xs.foldr (fun x acc => x % 2 ^ w + 2 ^ w * acc) 0
  natToBytes n ((xs.length * w + 7) / 8)

/-- Unpack n elements of w bits from bytes. -/
def unpackElems (w n : Nat) (bs : List Byte) : List Nat :=
  let x := bytesToNat bs
  (List.range n).map fun i => x / 2 ^ (w * i) % 2 ^ w

/-! ### The Lattice cell (R213-R215) -/

/-- Clamp to 32 bits. -/
def sat32 (x : Int) : W32 := BitVec.ofInt 32 (max (-2147483648) (min 2147483647 x))

/-- One accumulation of a cell: operand and weight of two formats of one class, under their block scales. -/
def cell (fa fw : Nat) (acc : W32) (a w xa xw : Nat) : W32 :=
  if fa = 0xA then sat32 (acc.toInt + (BitVec.ofNat 8 a).toInt * (BitVec.ofNat 8 w).toInt)
  else
    let s := val32 acc
    let v := ((layoutOf fa).decode a).mul ((layoutOf fw).decode w)
    if isMxFmt fa then
      if xa = 0xFF ∨ xw = 0xFF then fp32.nanBits
      else rne32 (s.add (val32 (rne32 (v.scale ((xa : Int) + xw - 254)))))
    else if fa = 0x2 then rne32 (s.add (val32 (rne32 v)))
    else rne32 (s.add v)

/-- The class of a format (07 Table 7.2). -/
inductive FmtClass where
  | int8 | fp8 | mx8 | mx4 | bf16 | fp16 | none
  deriving DecidableEq, Repr

/-- The class of a format code of Table 4.5. -/
def classOf (code : Nat) : FmtClass :=
  match code with
  | 0x1 => .fp16 | 0x2 => .bf16 | 0x3 => .fp8 | 0x4 => .fp8 | 0x5 => .mx8 | 0x6 => .mx8 | 0x7 => .mx8 | 0x8 => .mx8
  | 0x9 => .mx4 | 0xA => .int8 | _ => .none

/-- Bits of an element as a tile or a plane holds it (07 R184): MXFP6 one per byte. -/
def heldBits (code : Nat) : Nat := if code = 0x7 ∨ code = 0x8 then 8 else fmtBits code

/-- Element idx of bits b, from a row of bytes that begins at base (07 R184, R210). -/
def heldElem (rd : Nat → Byte) (b base idx : Nat) : Nat :=
  if b = 16 then (rd (base + 2 * idx)).toNat + 256 * (rd (base + 2 * idx + 1)).toNat
  else if b = 4 then (rd (base + idx / 2)).toNat / 16 ^ (idx % 2) % 16
  else (rd (base + idx)).toNat

/-! ### Piecewise-linear tables (R225-R227) -/

/-- An FP32 field of a table. -/
def pwlWord (m : Memory) (off : Nat) : W32 := BitVec.ofNat 32 (m.readLE off 4)

/-- Whether an exact value is less than another; comparisons with NaN are false. -/
def Val.lt : Val → Val → Bool
  | .nan, _ => false
  | _, .nan => false
  | .inf a, .inf b => a && !b
  | .inf a, .fin _ _ _ => a
  | .fin _ _ _, .inf b => !b
  | .fin a m e, .fin b n f =>
    match a, b with
    | false, false => magLt m e n f
    | true, true => magLt n f m e
    | true, false => decide (m ≠ 0 ∨ n ≠ 0)
    | false, true => false

/-- The segment of x: ⌊(x − xmin) / 2^e⌋, at most the number of segments; x is not below xmin. -/
def pwlSegment (x xmin : Val) (e : Int) (segs : Nat) : Nat :=
  match x.add (match xmin with | .fin a m f => .fin (!a) m f | v => v) with
  | .fin _ m f =>
    let sh := f - e
    if 0 ≤ sh then min segs (m * pow2 sh) else min segs (m / pow2 (-sh))
  | _ => segs

/-- The value of a table for an FP32 input (R226). -/
def pwlTable (t : Memory) (x : W32) : W32 :=
  let flags := (t.read 5).toNat
  let segs := if flags.testBit 0 then 64 else 16
  let xmin := val32 (pwlWord t 0)
  let v := val32 x
  if v = .nan then fp32.nanBits
  else if v.lt xmin && flags.testBit 1 then pwlWord t 8
  else
    let i := if v.lt xmin then 0 else pwlSegment v xmin (t.read 4).toInt segs
    if segs ≤ i && flags.testBit 2 then pwlWord t 12
    else
      let j := min i (segs - 1)
      rne32 (((val32 (pwlWord t (32 + 8 * j))).mul v).add (val32 (pwlWord t (36 + 8 * j))))

/-- The value of a table slot: one that holds the identity table gives 1.0 × x + 0 (R227). -/
def pwlEval (slot : Option Memory) (x : W32) : W32 :=
  match slot with
  | some t => pwlTable t x
  | none => rne32 ((val32 x).add (.fin false 0 0))

/-- The checks of a staged table (R227). -/
def pwlOk (stage : Memory) : Bool :=
  let e := (stage.read 4).toInt
  (match val32 (pwlWord stage 0) with | .fin _ _ _ => true | _ => false) &&
    decide (-126 ≤ e ∧ e ≤ 127) && decide ((stage.read 5).toNat < 8) && decide (stage.readLE 6 2 = 0) &&
    decide (stage.readLE 16 16 = 0)

/-! ### Grain histogram and amax (R228-R232) -/

/-- The bin of an FP32 value (Table 8.8). -/
def binOf (x : W32) : Nat :=
  match val32 x with
  | .fin _ m e =>
    if m = 0 then 0
    else
      let l := magLog m e
      if l < -40 then 1 else if 20 ≤ l then 62 else (l + 42).toNat
  | _ => 63

/-- The larger of AMAX and |x|, where x is finite (R230). -/
def amaxOffer (amax x : W32) : W32 :=
  match val32 x with
  | .fin _ m e =>
    match val32 amax with
    | .fin _ n f => if magLt n f m e then x &&& 0x7FFFFFFF else amax
    | _ => amax
  | _ => amax

/-- Count one value into a set's bins (R229). -/
def histCount (h : HistSet) (x : W32) : HistSet :=
  let b := binOf x
  let c := vget h.bins b 0
  if c = 0xFFFFFFFF then { h with satMap := h.satMap ||| BitVec.twoPow 64 b }
  else { h with bins := vset h.bins b (c + 1) }

/-- A cleared set. -/
def histClear : HistSet := { bins := Vector.replicate 64 0, elements := 0, satMap := 0, amax := 0 }

/-- The next scale for a target's largest finite value fmax, with h = 1, m = 0 and prev = 1.0, as FP32 bits (R232). -/
def nextScale (amax : W32) (fmax : Nat) : W32 :=
  match val32 amax with
  | .fin _ m e =>
    if m = 0 then 0x3F800000
    else
      let k := magLog fmax 0 - magLog m e
      let x := if magLt fmax 0 m (e + k) then k - 1 else k
      BitVec.ofNat 32 ((max (-126) (min 127 x) + 127).toNat * 2 ^ 23)
  | _ => 0x3F800000

end Sys2Proof.Machine
end

