-- ==== Sys2Proof/Machine/FaultOps.lean ====
section
/-! DEFINITION. The single fault path: fault events, their counters and ALERTs, thresholds on HBM rows, and poison
(19_faults_and_long_runs). -/

namespace Sys2Proof.Machine
open Sys2Proof

/-- Queue an ALERT, or count it as lost when 32 wait (R472). -/
def pushAlert (f : FaultUnit) (a : Alert) : FaultUnit :=
  if f.alerts.length < 32 then { f with alerts := f.alerts ++ [a] }
  else { f with alertsLost := satInc f.alertsLost }

/-- The counters of a class after an event of a severity (R469, Table 19.3). -/
def countEvent (c : FaultClass) (sev : Nat) (action : Bool) : FaultClass :=
  { corrected := if sev = 1 then satInc c.corrected else c.corrected
    uncorrected := if sev = 2 ∨ sev = 3 then satInc c.uncorrected else c.uncorrected
    actions := if action then satInc c.actions else c.actions }

/-- Whether this event is the first that saturates a reporting counter (R472). -/
def saturates (c : FaultClass) (sev : Nat) (action : Bool) : Bool :=
  let c' := countEvent c sev action
  decide (c'.corrected = 0xFFFF ∧ c.corrected ≠ 0xFFFF) || decide (c'.uncorrected = 0xFFFF ∧ c.uncorrected ≠ 0xFFFF)
    || decide (c'.actions = 0xFFFF ∧ c.actions ≠ 0xFFFF)

/-- One fault event at a location with a severity and a device address: the class counter advances, and an ALERT goes
out for severity 2 or 3 or with an action, which raises it to severity 3 (R466-R472). -/
def faultUnitEvent (f : FaultUnit) (loc : W16) (sev : Nat) (addr : W64) (action : Bool) : FaultUnit :=
  let n := loc.toNat / 4096
  let c := vget f.classes (n - 1) { corrected := 0, uncorrected := 0, actions := 0 }
  let counted := if 1 ≤ n ∧ n ≤ 9 then { f with classes := vset f.classes (n - 1) (countEvent c sev action) } else f
  let alerted :=
    if action then pushAlert counted { location := loc, severity := 3, address := addr }
    else if 2 ≤ sev then pushAlert counted { location := loc, severity := BitVec.ofNat 8 sev, address := addr }
    else counted
  if 1 ≤ n ∧ n ≤ 9 ∧ saturates c sev action then
    pushAlert alerted { location := loc, severity := 0, address := addr }
  else alerted

/-- A fault event in the state, with no action of Table 19.2. -/
def faultEvent (s : State) (loc : W16) (sev : Nat) (addr : W64 := 0) : State :=
  s.setFaults (faultUnitEvent s.faults loc sev addr false)

/-- A fault event that triggers an action of Table 19.2. -/
def faultAction (s : State) (loc : W16) (sev : Nat) (addr : W64 := 0) : State :=
  s.setFaults (faultUnitEvent s.faults loc sev addr true)

/-- The rule of R470 for "n within w": whether to act, and the kept stamps, oldest first. -/
def threshold (n w : Nat) (kept : List Nat) (t : Nat) : Bool × List Nat :=
  if kept.length = n - 1 ∧ t - kept.headD t ≤ w then (true, [])
  else
    let k := kept ++ [t]
    (false, if n - 1 < k.length then k.drop 1 else k)

/-- FCLK cycles in a number of seconds (00 R7). -/
def fclkSeconds (n : Nat) : Nat := n * 1200000000

/-! ### HBM rows and repairs -/

/-- The row of an HBM address (R513). -/
def hbmRow (sku : Sku) (a : Nat) : HbmRow :=
  let o := a % stackBytes sku
  let inPc := o / 16384 * 256 + o % 256
  { stack := a / stackBytes sku, pc := o / 256 % 64, bank := inPc / 1024 % 16, row := inPc / 16384 }

/-- The location code of a device address of HBM, the operand store or the Spindle state store (Table 19.1). -/
def memLocation (s : State) (a : Nat) : W16 :=
  if a < hbmEnd s.power.sku then
    let r := hbmRow s.power.sku a
    BitVec.ofNat 16 (0x1000 + r.stack * 512 + r.pc * 8)
  else if a < 0x80000A000000 then 0x4000 else 0x4001

/-- Repairs used in a pseudo-channel. -/
def repairsUsed (f : FaultUnit) (stack pc : Nat) : Nat :=
  ((f.repairs.find? fun r => r.stack = stack ∧ r.pc = pc).map (·.used)).getD 0

/-- Whether a pseudo-channel has used its last repair (R475): it offers 64 or more. -/
def pcExhausted (f : FaultUnit) (stack pc : Nat) : Bool :=
  decide (64 + Cfg.repairsBeyond64 stack pc ≤ repairsUsed f stack pc)

/-- Put a row that met its threshold into its stack's retirement queue, of at most 16 rows (R474 and its corner). -/
def enqueueRow (f : FaultUnit) (r : HbmRow) : FaultUnit :=
  if f.retireQueue.contains r then f
  else if (f.retireQueue.filter fun q => q.stack = r.stack).length < 16 then
    { f with retireQueue := f.retireQueue ++ [r], rows := f.rows.filter fun t => t.row ≠ r }
  else
    { f with rows := (f.rows.filter fun t => t.row ≠ r) ++
        [{ row := r, stamps := ((f.rows.find? fun t => t.row = r).map (·.stamps)).getD [], due := true }] }

/-- The kept stamps of a row after a corrected error: at most 512 rows are tracked in a stack, and the row whose newest
stamp is oldest, first in the list, is replaced (R473). -/
def trackRow (f : FaultUnit) (r : HbmRow) (stamps : List W64) : FaultUnit :=
  let others := f.rows.filter fun t => t.row ≠ r
  let full := !(f.rows.any fun t => t.row = r) && decide (512 ≤ (f.rows.filter fun t => t.row.stack = r.stack).length)
  let kept := if full then others.eraseP fun t => t.row.stack = r.stack else others
  { f with rows := kept ++ [{ row := r, stamps := stamps, due := false }] }

/-- An error on an HBM line: 1 uncorrected, or 4 corrected within 24 h, retires the row (Table 19.2); in an exhausted
pseudo-channel the event becomes severity 3 with no action (R475). -/
def hbmError (s : State) (a : Nat) (uncorrected : Bool) : State :=
  let r := hbmRow s.power.sku a
  let loc := memLocation s a
  let addr := BitVec.ofNat 64 a
  let kept := ((s.faults.rows.find? fun t => t.row = r).map (·.stamps)).getD []
  let act := if uncorrected then (true, []) else threshold 4 (fclkSeconds 86400) (kept.map (·.toNat)) s.now
  if act.1 then
    if pcExhausted s.faults r.stack r.pc then faultEvent s loc 3 addr
    else
      let s1 := faultAction s loc (if uncorrected then 2 else 1) addr
      s1.setFaults (enqueueRow s1.faults r)
  else
    let s1 := faultEvent s loc 1 addr
    s1.setFaults (trackRow s1.faults r (act.2.map (BitVec.ofNat 64)))

/-! ### Poison (R477, R479) -/

/-- Whether the line of an address is poisoned. -/
def State.poisoned (s : State) (a : Nat) : Bool := s.faults.poison.contains (a / 64)

/-- Mark the line of an address of HBM or of the operand store. -/
def markPoison (s : State) (a : Nat) : State :=
  s.setFaults { s.faults with poison := insertNat (a / 64) s.faults.poison }

/-- Clear the mark of the line of an address. -/
def clearPoison (s : State) (a : Nat) : State :=
  s.setFaults { s.faults with poison := s.faults.poison.filter (· ≠ a / 64) }

/-- The ECC event of a line that is read: it is counted at the line, an uncorrectable one marks the line poisoned at
detection, and HBM rows meet their thresholds (R466, R471, R477). A line that is already marked gives no new event. -/
def eccEvent (s : State) (e : Ecc) : State :=
  let a := 64 * e.line
  match s.region a with
  | .cache | .kernels =>
    if s.poisoned a then s else if e.uncorrected then hbmError (markPoison s a) a true else hbmError s a false
  | .operand =>
    if s.poisoned a then s
    else if e.uncorrected then faultEvent (markPoison s a) 0x4000 2 (BitVec.ofNat 64 a) else faultEvent s 0x4000 1
  | .spindle => faultEvent s 0x4001 (if e.uncorrected then 2 else 1) (BitVec.ofNat 64 a)
  | _ => s

end Sys2Proof.Machine
end

