-- ==== Sys2Proof/Machine/Home.lean ====
section
/-! DEFINITION. The home agents: what the device can send to the host, lines held by the host and their recall (R59), watched
lines (R254), and the requests that wait at the home agents in order of arrival (02_host_link R43, R57-R62, R263). -/

namespace Sys2Proof.Machine
open Sys2Proof

/-! ### What can be sent (R38, R63, R101) -/

/-- Whether the device sends anything to the host at all: the link is up and not in a Recovery that the device has directed,
input is present, D0 (R34, R38, R63). -/
def linkRequests (s : State) : Bool := s.link.up && s.running && !s.link.cfg.d3hot && !s.link.recovery

/-- Whether the device can send CXL.io requests to the host: Bus Master Enable is 1 as well (R101). -/
def hostReachable (s : State) : Bool := linkRequests s && s.link.cfg.busMaster

/-- Whether the host reaches BAR0 and BAR2: memory space is enabled, the link up and the function in D0 (R498, R504). -/
def barReachable (s : State) : Bool := s.running && s.link.up && s.link.cfg.memEnable && !s.link.cfg.d3hot

/-- Append a message to the host. -/
def sendHost (s : State) (m : HostMsg) : State := s.setLink { s.link with sent := s.link.sent ++ [m] }

/-- The PASID a request carries (R46). -/
def effPasid (s : State) (p : Option (BitVec 20)) : Option (BitVec 20) := if s.link.cfg.pasidEnable then p else none

/-- An error of a request that the host makes, counted at 0x6101 (R39, 19 R515). -/
def hostRequestError (s : State) (a : Nat) : State := faultEvent s 0x6101 2 (BitVec.ofNat 64 a)

/-! ### Lines held by the host and watched lines (R57, R59, R254) -/

/-- The home agent asks for a line that the host holds, once (R59). -/
def recallLine (s : State) (line : Nat) : State :=
  if s.link.biPending.contains line || !linkRequests s then s
  else sendHost (s.setLink { s.link with biPending := s.link.biPending ++ [line] }) (.biSnpInv line)

/-- The shared window in bytes, as first address and size; none while SIZE is 0 (02 Table 2.8). -/
def sharedWindow (s : State) : Option (Nat × Nat) :=
  if s.link.winSize = 0 then none else some (s.link.winBase.toNat * 2 ^ 28, s.link.winSize.toNat * 2 ^ 28)

/-- Whether an address lies in the shared window. -/
def inShared (s : State) (a : Nat) : Bool :=
  match sharedWindow s with
  | none => false
  | some w => decide (w.1 ≤ a ∧ a < w.1 + w.2)

/-- The registered counters in a line (R254). -/
def watchers (s : State) (line : Nat) : List Counter :=
  s.scale.counters.filter fun c => c.addr.toNat / 64 = line

/-- Pass the value of every registered counter of a line to the queue engine (R254). -/
def deliver (s : State) (line : Nat) : State :=
  s.setScale { s.scale with
    delivered := s.scale.delivered ++ (watchers s line).map fun c =>
      (c.index, BitVec.ofNat 64 (s.dev.readLE c.addr.toNat 8)) }

/-- Whether the store of delivered values has room for a write to a line (10 Corners: at most 1,024). -/
def watchRoom (s : State) (line : Nat) : Bool :=
  decide (s.scale.delivered.length + (watchers s line).length ≤ 1024)

/-- A write performed at the home agent of one line: bytes, poison mark, delivered values (R254, R479). -/
def homeWrite (s : State) (a : Nat) (data : List Byte) : State :=
  let s1 := s.setDev (s.dev.writeN a data)
  let s2 := if data.length = 64 then clearPoison s1 a else s1
  deliver s2 (a / 64)

/-- Bytes from a up to the end of its 64-byte line, at most n. -/
def linePart (a n : Nat) : Nat := min n (64 - a % 64)

/-! ### Requests that wait at the home agents (R60, R263) -/

/-- The line numbers of n bytes at an address. -/
def linesOf (a n : Nat) : List Nat :=
  if n = 0 then [] else (List.range ((a % 64 + n + 63) / 64)).map fun i => a / 64 + i

/-- The line numbers a request touches. -/
def HomeReq.lines : HomeReq → List Nat
  | .memRead l _ => [l]
  | .memWrite l _ _ => [l]
  | .bar4Read a n _ => linesOf a n
  | .bar4Write a d _ _ => linesOf a d.length
  | .atomic a _ is64 _ => linesOf a (if is64 then 8 else 4)
  | .device _ l => [l]

/-- Whether a request came through BAR4. -/
def HomeReq.isBar4 : HomeReq → Bool
  | .memRead _ _ | .memWrite _ _ _ | .device _ _ => false
  | .bar4Read _ _ _ | .bar4Write _ _ _ _ | .atomic _ _ _ _ => true

/-- Whether a request is the host's writeback of a line that is being recalled: it is in flight, and completes before the
requests that wait for the line (R60). -/
def HomeReq.isWriteback (s : State) : HomeReq → Bool
  | .memWrite l _ _ => s.link.biPending.contains l
  | _ => false

/-- Whether a request waits behind an earlier one: requests for one line go in order of arrival, and so do BAR4 requests
(R60, R263). -/
def waitsBehind (s : State) (r e : HomeReq) : Bool :=
  (r.isBar4 && e.isBar4) || (!r.isWriteback s && r.lines.any fun l => e.lines.contains l)

/-- Whether the home agent of a line has 256 of these requests in its queue, so that a further one waits in the fabric or on
the link (R58, R60). -/
def agentFull (waiting : List HomeReq) (line : Nat) : Bool :=
  decide (256 ≤ (waiting.filter fun e => e.lines.any fun l => l % 8 = line % 8).length)

/-- Whether one of the device's agents still waits for what it asked for: its access has not been abandoned. -/
def stillAsks (s : State) : Requester → Bool
  | .op n => s.opList.any fun q => decide (q.2.order = n) && decide (q.2.phase ≠ .finished)
  | .scan k first => match (s.sr k).grant with | some g => g.reading && decide (g.first = first) | none => false
  | .status k => (s.sr k).linePending
  | .completion c tail => decide ((s.cr c).tail = tail) && !(s.cr c).waiting.isEmpty
  | .turner store a => s.turner.accesses.any fun x => match x with
      | .load _ b _ _ _ _ => !store && decide (b.toNat = a)
      | .store b .. => store && decide (b.toNat = a)
  | .fetch pc => decide (s.turner.mode = .running) && decide (s.turner.pc.toNat = pc)
  | .tile => !s.lattice.queue.isEmpty
  | .reload => decide (s.turner.mode = .reloading)

/-- Whether a waiting request counts: a host's does, a device's while its agent waits. -/
def HomeReq.stands (s : State) : HomeReq → Bool
  | .device w _ => stillAsks s w
  | _ => true

/-- Whether one of the device's agents has its turn at a line: nothing that arrived earlier waits for it, and there is room in
the home agent's queue (R60). -/
def homeTurn (s : State) (w : Requester) (line : Nat) : Bool :=
  let earlier := (s.link.homeQueue.takeWhile fun e => decide (e ≠ .device w line)).filter fun e => e.stands s
  !(earlier.any fun e => e.lines.contains line) && !agentFull earlier line

/-- The access of one of the device's agents to a line waits in order at the home agent (R60). -/
def joinHome (s : State) (w : Requester) (line : Nat) : State :=
  if s.link.homeQueue.contains (.device w line) then s
  else s.setLink { s.link with homeQueue := s.link.homeQueue ++ [.device w line] }

/-- Where the access of one of the device's agents to a line of device memory has to wait, the state in which it does: the host
holds the line, and the home agent asks for it back, or an earlier request waits for it (R59, R60). -/
def awaitLine (s : State) (w : Requester) (line : Nat) : Option State :=
  if s.link.dir.contains line then some (recallLine (joinHome s w line) line)
  else if homeTurn s w line then none
  else some (joinHome s w line)

/-- The home agents ask the host for every line of a list that it holds (R59). -/
def recallAll (s : State) (ls : List Nat) : State :=
  ls.foldl (fun s l => if s.link.dir.contains l then recallLine s l else s) s

/-- Whether the host holds one of the lines. -/
def hostHolds (s : State) (ls : List Nat) : Bool := ls.any fun l => s.link.dir.contains l

/-- Whether the store of delivered values has room for a write to every line of a list. -/
def roomFor (s : State) (ls : List Nat) : Bool :=
  decide (s.scale.delivered.length + (ls.map fun l => (watchers s l).length).sum ≤ 1024)

/-- The home agent reads a line for the host: the ECC event, and poison that the host consumes (19 R477). -/
def homeRead (s : State) (ecc : List Ecc) (line : Nat) : State :=
  if s.poisoned (64 * line) then hostRequestError s (64 * line)
  else
    match ecc.find? fun e => e.line = line with
    | some e => eccEvent s e
    | none => s

/-- The home agent reads every line of a list for the host. -/
def homeReads (s : State) (ecc : List Ecc) (ls : List Nat) : State := ls.foldl (fun s l => homeRead s ecc l) s

/-- Write bytes at the home agents, line by line; a write narrower than a line meets that line's error (19 R479). -/
def homeWrites : Nat → State → List Ecc → Nat → List Byte → State
  | 0, s, _, _, _ => s
  | fuel + 1, s, ecc, a, d =>
    if d = [] then s
    else
      let n := linePart a d.length
      let s1 := if n < 64 then
          (match ecc.find? fun e => e.line = a / 64 with
            | some e => eccEvent s e
            | none => s)
        else s
      homeWrites fuel (homeWrite s1 a (d.take n)) ecc (a + n) (d.drop n)

/-- The value an AtomicOp leaves in a word of w bytes. -/
def AtomicOp.result (op : AtomicOp) (w x : Nat) : Nat :=
  match op with
  | .fetchAdd v => (x + v) % 256 ^ w
  | .swap v => v % 256 ^ w
  | .cas old new => if x = old % 256 ^ w then new % 256 ^ w else x

/-- The set and bank of a line in the snoop directory: address bits [23:6] (R58). -/
def dirSet (line : Nat) : Nat := line % 262144

/-- The host-held lines of a set, earliest allocated first. -/
def dirWays (s : State) (line : Nat) : List Nat := s.link.dir.filter fun l => dirSet l = dirSet line

/-- A directory entry for a line, if there is one or room for one. In a full set the earliest allocated entry is the victim:
its back-invalidate goes out, once (R59). -/
def allocate (s : State) (line : Nat) : Bool × State :=
  if s.link.dir.contains line then (true, s)
  else if (dirWays s line).length < 16 then (true, s.setLink { s.link with dir := s.link.dir ++ [line] })
  else if ((dirWays s line).any fun l => s.link.biPending.contains l) || !linkRequests s then (false, s)
  else
    let s1 := recallAll s ((dirWays s line).take 1)
    (false, s1.setLink { s1.link with snoopEvictions := satInc s1.link.snoopEvictions })

/-- Serve a host request, or leave it waiting with what it has asked for: whether it is served, and the state. A watched
line is granted to no host cache (R254). A device's access is made by its agent, when that goes on. -/
def serve (s : State) (r : HomeReq) : Bool × State :=
  match r with
  | .memRead line ecc =>
    if s.link.biPending.contains line then (false, s)
    else
      let e := if watchers s line = [] then allocate s line else (true, s)
      if e.1 then
        let s1 := homeRead e.2 ecc line
        (true, sendHost s1 (.memData line (s1.dev.readN (64 * line) 64) (s1.poisoned (64 * line))))
      else e
  | .memWrite line data keep =>
    if !watchRoom s line then (false, s)
    else
      let e := if keep && decide (watchers s line = []) then allocate s line
        else (true, s.setLink { s.link with dir := if keep then s.link.dir else s.link.dir.erase line })
      if e.1 then (true, sendHost (homeWrite e.2 (64 * line) data) (.memCmp line)) else e
  | .bar4Read a n ecc =>
    let ls := linesOf a n
    if hostHolds s ls then (false, recallAll s ls)
    else
      let s1 := homeReads s ecc ls
      (true, sendHost s1 (.completion (s1.dev.readN a n) (ls.any fun l => s1.poisoned (64 * l))))
  | .bar4Write a d poison ecc =>
    let ls := linesOf a d.length
    if hostHolds s ls then (false, recallAll s ls)
    else if !roomFor s ls then (false, s)
    else
      let s1 := homeWrites (ls.length + 1) s ecc a d
      (true, if poison then ls.foldl (fun s l => markPoison s (64 * l)) s1 else s1)
  | .atomic a op is64 ecc =>
    let w := if is64 then 8 else 4
    if hostHolds s [a / 64] then (false, recallAll s [a / 64])
    else if !roomFor s [a / 64] then (false, s)
    else
      let s1 := homeRead s ecc (a / 64)
      let x := s1.dev.readLE a w
      (true, sendHost (homeWrite s1 a (natToBytes (op.result w x) w))
        (.completion (natToBytes x w) (s1.poisoned a)))
  | .device _ _ => (false, s)

/-- Whether a request has to wait because of those that arrived earlier and still wait (R60, R263). -/
def heldBack (s : State) (kept : List HomeReq) (r : HomeReq) : Bool :=
  (kept.any fun e => waitsBehind s r e) || (!r.isWriteback s && r.lines.any fun l => agentFull kept l)

/-- Try requests in order of arrival: those that cannot be served yet are kept, abandoned ones go. -/
def serveAll : List HomeReq → List HomeReq → State → State
  | [], kept, s => s.setLink { s.link with homeQueue := kept }
  | r :: rs, kept, s =>
    if !r.stands s then serveAll rs kept s
    else if heldBack s kept r then serveAll rs (kept ++ [r]) s
    else
      let x := serve s r
      serveAll rs (if x.1 then kept else kept ++ [r]) x.2

/-- Try the waiting requests again. -/
def retryHome (s : State) : State := serveAll s.link.homeQueue [] s

/-- A host request arrives at the home agents. -/
def submit (s : State) (r : HomeReq) : State := serveAll [r] s.link.homeQueue s

/-- The access of one of the device's agents to a line is made: what waited behind it goes on (R60). -/
def leaveHome (s : State) (w : Requester) (line : Nat) : State :=
  if s.link.homeQueue.contains (.device w line) then
    retryHome (s.setLink { s.link with homeQueue := s.link.homeQueue.erase (.device w line) })
  else s

end Sys2Proof.Machine
end

