-- ==== Sys2Proof/Machine/Bus.lean ====
section
/-! DEFINITION. Accesses of the device's agents to device memory and to host memory: refusals (R21, R42), translation
(R47, R49), lines held by the host (R59), poison (R478, R479), watched lines (R254) and what is sent to the host. -/

namespace Sys2Proof.Machine
open Sys2Proof

/-- An agent that makes accesses (R515): who it is, the PASID of its ring (R46), the regions it may reach, its location code. -/
structure Agent where
  who : Requester
  pasid : Option (BitVec 20)
  /-- Regions of Table 1.5 it may reach. -/
  reach : List Region
  /-- Its location code (R515). -/
  loc : W16
  /-- Whether its writes may carry Relaxed Ordering (R51). -/
  relaxed : Bool
  /-- The errors that the ECC of device memory reports when its present command reads a line. -/
  ecc : List Ecc
  /-- The host line (device line number) whose read the host does not serve, with the status and code that follow. -/
  hostErr : Option (Nat × Byte × Byte) := none

/-- The outcome of an access. -/
inductive Access (α : Type) where
  /-- Served. -/
  | ok (v : α) (s : State)
  /-- Not served yet: a translation, a back-invalidate, host reachability or room is awaited. -/
  | wait (s : State)
  /-- Not served: a status and its DETAIL code (Table 4.7). -/
  | fail (status code : Byte) (s : State)

/-- The state after an access. -/
def Access.state {α : Type} : Access α → State
  | .ok _ s => s
  | .wait s => s
  | .fail _ _ s => s

/-- A refusal counted at the agent's location with severity 2 (R515). -/
def refuse {α : Type} (s : State) (ag : Agent) (status code : Byte) (a : Nat) : Access α :=
  .fail status code (faultEvent s ag.loc 2 (BitVec.ofNat 64 a))

/-! ### Host reads that are out, and translation (R32, R45-R49) -/

/-- The memory read of a ring's grant while it is out, where the ring lies in host memory. -/
def ringReads (s : State) (k : Nat) : List (Option (BitVec 20) × Nat) :=
  match (s.sr k).grant with
  | none => []
  | some g =>
    let r := s.sr k
    let a := r.base.toNat + 64 * (r.head.toNat % 2 ^ r.log2)
    if g.reading && decide (0xC00000000000 ≤ a) then
      [(effPasid s (if k = 0 then none else some r.pasid), (a - 0xC00000000000) / 4096)]
    else []

/-- The host reads that are out, by PASID and untranslated page: flush reads, reads of rings, and loads of the Turner that have
not returned. -/
def hostReads (s : State) : List (Option (BitVec 20) × Nat) :=
  (s.opList.flatMap fun q => q.2.flushOut) ++ (List.range 32).flatMap (ringReads s) ++
    s.turner.accesses.filterMap fun x => match x with
      | .load _ a _ p _ (some _) =>
        if 0xC00000000000 ≤ a.toNat then some (effPasid s p, (a.toNat - 0xC00000000000) / 4096) else none
      | _ => none

/-- The non-posted requests that are out: host reads and Translation Requests. At 1,024 of them no further one is issued (R32,
Table 2.1). -/
def nonPosted (s : State) : Nat := s.link.xlatAsked.length + (hostReads s).length

/-- Whether a Translation Request asks for a page. -/
def XlatAsk.isFor (x : XlatAsk) (p : Option (BitVec 20)) (page : Nat) : Bool := decide (x.pasid = p) && decide (x.page = page)

/-- A requester waits for the translation of a page: it joins those that wait for the answer, or a Translation Request goes out
for it (R47). -/
def askXlat (s : State) (w : Requester) (p : Option (BitVec 20)) (page : Nat) : State :=
  if s.link.xlatAsked.any fun x => x.isFor p page then
    let joined (x : XlatAsk) : XlatAsk := if x.isFor p page && !x.who.contains w then { x with who := x.who ++ [w] } else x
    s.setLink { s.link with xlatAsked := s.link.xlatAsked.map joined }
  else if nonPosted s < 1024 then
    sendHost (s.setLink { s.link with xlatAsked := s.link.xlatAsked ++ [{ pasid := p, page := page, who := [w] }] })
      (.translationRequest p page)
  else s

/-- The host address to which a host-window access at host address h goes (R45, R47, R49). -/
def translate (s : State) (ag : Agent) (h : Nat) (isWrite : Bool) : Access Nat :=
  if !hostReachable s then .wait s
  else if !s.link.cfg.atsEnable then .ok h s
  else
    let p := effPasid s ag.pasid
    let page := h / 4096
    let refusal : XlatRefusal := { who := ag.who, pasid := p, page := page }
    if s.link.xlatRefused.contains refusal then
      refuse (s.setLink { s.link with xlatRefused := s.link.xlatRefused.erase refusal }) ag 0x21 0x11 (0xC00000000000 + h)
    else
      match s.link.atc.find? fun t => t.pasid = p ∧ t.page = page with
      | some t =>
        if (if isWrite then t.canWrite else t.canRead) then
          .ok (t.target * 4096 + h % 4096) (s.setLink { s.link with atc := t :: s.link.atc.erase t })
        else refuse s ag 0x21 0x11 (0xC00000000000 + h)
      | none => .wait (askXlat s ag.who p page)

/-- Whether an agent's read is counted among those that are out already: the read of a ring's grant. -/
def Requester.isOut : Requester → Bool
  | .scan _ _ => true
  | _ => false

/-- The host address of a read, which waits at 1,024 non-posted requests (R32). -/
def translateRead (s : State) (ag : Agent) (h : Nat) : Access Nat :=
  match translate s ag h false with
  | .ok t s1 => if nonPosted s1 < 1024 || ag.who.isOut then .ok t s1 else .wait s1
  | x => x

/-! ### Reads and writes of one line -/

/-- The error that the ECC reports when an agent reads a line of device memory, if any. -/
def Agent.eccAt (ag : Agent) (line : Nat) : Option Ecc := ag.ecc.find? fun e => e.line = line ∧ e.unit = .memory

/-- The state once the ECC event of a line that an agent reads has been counted, if there is one. -/
def eccSeen (s : State) (ag : Agent) (line : Nat) : State :=
  match ag.eccAt line with
  | some e => eccEvent s e
  | none => s

/-- Whether an agent finds a line uncorrectable that is not marked yet. -/
def freshLoss (s : State) (ag : Agent) (line : Nat) : Bool :=
  !s.poisoned (64 * line) && (match ag.eccAt line with
    | some e => e.uncorrected
    | none => false)

/-- Read len bytes at device address a, within one line. -/
def busRead (s : State) (ag : Agent) (a len : Nat) : Access (List Byte) :=
  if !(ag.reach.any fun r => s.inRegion a len r) then refuse s ag 0x21 0x10 a
  else if s.region a = .host then
    let h := a - 0xC00000000000
    match translateRead s ag h with
    | .ok t s1 =>
      if s1.link.l2Host.any fun p => p.1 = t / 64 then .wait s1
      else
        match ag.hostErr with
        | some e => if e.1 = a / 64 then refuse s1 ag e.2.1 e.2.2 a else .ok (s1.host.readN t len) s1
        | none => .ok (s1.host.readN t len) s1
    | .wait s1 => .wait s1
    | .fail st c s1 => .fail st c s1
  else
    match awaitLine s ag.who (a / 64) with
    | some s1 => .wait s1
    | none =>
      if freshLoss s ag (a / 64) then .fail 0x22 0x20 (leaveHome (eccSeen s ag (a / 64)) ag.who (a / 64))
      else if s.poisoned a then refuse (leaveHome s ag.who (a / 64)) ag 0x22 0x21 a
      else .ok (s.dev.readN a len) (leaveHome (eccSeen s ag (a / 64)) ag.who (a / 64))

/-- Write bytes at device address a, within one line. A write narrower than a line of device memory reads the line to merge
into it (R479). -/
def busWrite (s : State) (ag : Agent) (a : Nat) (data : List Byte) : Access Unit :=
  if !(ag.reach.any fun r => s.inRegion a data.length r) then refuse s ag 0x21 0x10 a
  else if s.region a = .host then
    let h := a - 0xC00000000000
    match translate s ag h true with
    | .ok t s1 =>
      if s1.link.l2Host.any fun p => p.1 = t / 64 then .wait s1
      else
        .ok () (sendHost (s1.setHost (s1.host.writeN t data))
          (.write (effPasid s1 ag.pasid) t data.length (ag.relaxed && s1.link.cfg.relaxed)))
    | .wait s1 => .wait s1
    | .fail st c s1 => .fail st c s1
  else
    match awaitLine s ag.who (a / 64) with
    | some s1 => .wait s1
    | none =>
      if !watchRoom s (a / 64) then .wait (joinHome s ag.who (a / 64))
      else .ok () (leaveHome (homeWrite (if data.length < 64 then eccSeen s ag (a / 64) else s) a data) ag.who (a / 64))

/-- Read n bytes from a on, line by line. `fuel` bounds the number of lines. -/
def busReadN : Nat → State → Agent → Nat → Nat → Access (List Byte)
  | 0, s, _, _, _ => .ok [] s
  | fuel + 1, s, ag, a, n =>
    if n = 0 then .ok [] s
    else
      let k := linePart a n
      match busRead s ag a k with
      | .ok bs s1 =>
        match busReadN fuel s1 ag (a + k) (n - k) with
        | .ok rest s2 => .ok (bs ++ rest) s2
        | .wait s2 => .wait s2
        | .fail st c s2 => .fail st c s2
      | .wait s1 => .wait s1
      | .fail st c s1 => .fail st c s1

/-- Read n bytes from a on, line by line. -/
def busReadAll (s : State) (ag : Agent) (a n : Nat) : Access (List Byte) := busReadN (n / 64 + 2) s ag a n

/-- Write bytes from a on, line by line, and count those written before a wait or a failure. -/
def busWriteN : Nat → State → Agent → Nat → List Byte → Nat → Nat × Access Unit
  | 0, s, _, _, _, done => (done, .ok () s)
  | fuel + 1, s, ag, a, data, done =>
    if data = [] then (done, .ok () s)
    else
      let k := linePart a data.length
      match busWrite s ag a (data.take k) with
      | .ok _ s1 => busWriteN fuel s1 ag (a + k) (data.drop k) (done + k)
      | .wait s1 => (done, .wait s1)
      | .fail st c s1 => (done, .fail st c s1)

/-- Write bytes from a on, line by line: how many were written, and the outcome. -/
def busWriteAll (s : State) (ag : Agent) (a : Nat) (data : List Byte) : Nat × Access Unit :=
  busWriteN (data.length / 64 + 2) s ag a data 0

/-! ### Peer windows and flush ranges (10 R260, R262) -/

/-- The valid ranges with FLUSH = 1, as first and last device addresses. -/
def flushRanges (s : State) : List (Nat × Nat) :=
  (List.range 8).filterMap fun i =>
    let b := (vget s.scale.peerBase i 0).toNat
    let l := (vget s.scale.peerLimit i 0).toNat
    let first := bitsOf b 12 36 * 4096
    let last := bitsOf l 12 36 * 4096 + 4095
    if b % 2 = 1 ∧ b / 2 % 2 = 1 ∧ first ≤ last ∧ 0xC00000000000 ≤ first then some (first, last) else none

/-- Whether an address lies in a valid peer window (R261). -/
def inPeerWindow (s : State) (a : Nat) : Bool :=
  (List.range 8).any fun i =>
    let b := (vget s.scale.peerBase i 0).toNat
    let l := (vget s.scale.peerLimit i 0).toNat
    let first := bitsOf b 12 36 * 4096
    let last := bitsOf l 12 36 * 4096 + 4095
    decide (b % 2 = 1 ∧ first ≤ last ∧ 0xC00000000000 ≤ first ∧ first ≤ a ∧ a ≤ last)

/-- Grow the range [x, …] with every range that overlaps or touches it. -/
def growRange (rs : List (Nat × Nat)) : Nat → Nat × Nat → Nat × Nat
  | 0, r => r
  | fuel + 1, r =>
    growRange rs fuel (rs.foldl (fun acc q =>
      if q.1 ≤ acc.2 + 1 ∧ acc.1 ≤ q.2 + 1 then (min acc.1 q.1, max acc.2 q.2) else acc) r)

/-- The first address of the merged flush range that covers an address (R262). -/
def flushRangeOf (s : State) (a : Nat) : Option Nat :=
  let rs := flushRanges s
  (rs.find? fun r => decide (r.1 ≤ a ∧ a ≤ r.2)).map fun r => (growRange rs 8 r).1

/-- Record the last address written, a, in its flush range. -/
def noteFlush (s : State) (fl : List (Nat × Nat)) (a : Nat) : List (Nat × Nat) :=
  match flushRangeOf s a with
  | none => fl
  | some r => (fl.filter fun p => p.1 ≠ r) ++ [(r, a)]

/-- Record what a write of n bytes at a, at most a page long, has last written in each flush range: ranges consist of whole pages. -/
def noteWrite (s : State) (fl : List (Nat × Nat)) (a n : Nat) : List (Nat × Nat) :=
  if n = 0 then fl
  else
    let first := a / 4096 * 4096 + 4095
    noteFlush s (if first < a + n - 1 then noteFlush s fl first else fl) (a + n - 1)

/-- Where the flush reads of R262 go: page and host address of each. Nothing is sent before every translation is there. -/
def flushTargets : List (Nat × Nat) → State → Agent → Access (List (Nat × Nat))
  | [], s, _ => .ok [] s
  | q :: rest, s, ag =>
    let h := q.2 - 0xC00000000000
    match translate s ag h false with
    | .fail st c s1 => .fail st c s1
    | .wait s1 =>
      match flushTargets rest s1 ag with
      | .ok _ s2 => .wait s2
      | x => x
    | .ok t s1 =>
      match flushTargets rest s1 ag with
      | .ok ts s2 => .ok ((h / 4096, t) :: ts) s2
      | x => x

/-- Send the zero-length reads of R262, all at once. -/
def sendFlushes (s : State) (p : Option (BitVec 20)) (ts : List (Nat × Nat)) : State :=
  ts.foldl (fun s x => sendHost s (.flushRead (effPasid s p) x.2)) s

/-- Whether an outstanding host read uses a translation of an invalidation (R48). -/
def Invalidation.inUse (s : State) (i : Invalidation) : Bool :=
  (hostReads s).any fun r => decide (r.1 = i.pasid ∧ i.page ≤ r.2 ∧ r.2 < i.page + i.count)

/-- The invalidations whose reads have all completed are answered (R48). -/
def settleInvalidations (s : State) : State :=
  let done := s.link.invalidations.filter fun i => !i.inUse s
  s.setLink { s.link with
    invalidations := s.link.invalidations.filter fun i => i.inUse s
    sent := s.link.sent ++ done.map fun i => .invalidateCompletion i.tag }

/-! ### MSI-X and device events (03 R92, R93) -/

/-- Send a vector, or hold it in the PBA while it is masked or cannot be sent (R92). -/
def sendVector (s : State) (v : Nat) : State :=
  let e := vget s.link.msix v { addr := 0, data := 0, mask := true }
  if s.link.cfg.msixEnable && !s.link.cfg.msixMask && !e.mask && hostReachable s then
    sendHost s (.msix v e.addr e.data)
  else s.setLink { s.link with pba := s.link.pba ||| BitVec.twoPow 64 v }

/-- Set a bit of QE_EVENT, and send vector 63 when it becomes set while enabled (R93). -/
def deviceEvent (s : State) (bit : Nat) : State :=
  if s.queue.event.getLsbD bit then s
  else
    let s1 := s.setQueue { s.queue with event := s.queue.event ||| BitVec.twoPow 32 bit }
    if s.queue.eventEnable.getLsbD bit then sendVector s1 63 else s1

end Sys2Proof.Machine
end

