-- ==== Sys2Proof/Machine/QueueOps.lean ====
section
/-! DEFINITION. The operation tracker: start and finish of operations, completions that wait, stop records and ring
resets (03_descriptor_rings, 04_operations). -/

namespace Sys2Proof.Machine
open Sys2Proof

/-! ### Access to rings and tracker entries -/

/-- Header fields (Table 4.1). -/
def Op.opcode (o : Op) : Nat := fld o.desc 0 1
def Op.flags (o : Op) : Nat := fld o.desc 1 1
def Op.ordered (o : Op) : Bool := o.flags.testBit 1
def Op.notify (o : Op) : Bool := o.flags.testBit 2
def Op.silent (o : Op) : Bool := o.flags.testBit 3
def Op.crIndex (o : Op) : Nat := fld o.desc 2 2 % 32
def Op.tag (o : Op) : W32 := BitVec.ofNat 32 (fld o.desc 4 4)

/-! ### Blocks and order of start (04 R121-R124) -/

/-- The blocks of Table 4.10; `issue` is the queue engine as it issues SIGNALs and RELAYs, one per FCLK cycle. -/
inductive Block where
  | queue | issue | copy | convert | turner | readout | keep | admin
  deriving DecidableEq, Repr

/-- The block that performs an opcode (Table 4.10). -/
def blockOf (opcode : Nat) : Block :=
  if opcode = 0x01 ∨ opcode = 0x03 ∨ opcode = 0x18 ∨ opcode = 0x19 then .copy
  else if opcode = 0x02 then .convert
  else if opcode = 0x08 then .turner
  else if opcode = 0x11 ∨ opcode = 0x12 then .issue
  else if opcode = 0x1C then .readout
  else if 0x20 ≤ opcode ∧ opcode ≤ 0x23 then .keep
  else if 0x40 ≤ opcode then .admin
  else .queue

/-- How many operations a block runs at once, under the throttle level (Table 4.10, Table 17.7); none is unlimited. -/
def blockLimit (level : BitVec 2) : Block → Option Nat
  | .copy => some (match level.toNat with | 0 => 16 | 1 => 16 | 2 => 8 | _ => 4)
  | .convert => some (match level.toNat with | 0 => 4 | 1 => 4 | 2 => 2 | _ => 1)
  | .readout => some 1
  | _ => none

/-- An operation has not finished. -/
def Op.live (o : Op) : Bool := o.phase ≠ .finished

/-- Whether some unfinished operation admitted before `order` satisfies p. -/
def State.earlierLive (s : State) (order : Nat) (p : Op → Bool) : Bool :=
  s.opList.any fun q => q.2.live && decide (q.2.order < order) && p q.2

/-- Whether the order rules let an admitted operation start: SR0 serial (R124), ORDERED and FENCE (R123), RUNTIME_LOAD
before later KERNELs (R112). -/
def orderAllows (s : State) (o : Op) : Bool :=
  if o.sr = 0 then !s.earlierLive o.order (fun q => q.sr = 0)
  else
    !(o.ordered && s.earlierLive o.order (fun q => q.sr = o.sr)) &&
    !s.earlierLive o.order (fun q => decide (q.sr = o.sr) && decide (q.opcode = 0x13)) &&
    !(decide (o.opcode = 0x08) && s.earlierLive o.order (fun q => q.opcode = 0x48)) &&
    !(decide (o.opcode = 0x13) && decide (fld o.desc 8 1 = 0) && s.earlierLive o.order (fun q => q.sr = o.sr)) &&
    !(decide (o.opcode = 0x13) && decide (fld o.desc 8 1 = 1) && s.earlierLive o.order (fun _ => true))

/-- The rank of R122 as a key, lower first: SR0, priority descending, fetch time, SR index. -/
def rankKey (s : State) (o : Op) : Nat × Nat × Nat × Nat :=
  (if o.sr = 0 then 0 else 1, 7 - (s.sr o.sr).prio, o.fetch.toNat, o.sr * 2 ^ 32 + o.order)

/-- Lexicographic order of rank keys. -/
def keyLt (a b : Nat × Nat × Nat × Nat) : Bool :=
  decide (a.1 < b.1) || (decide (a.1 = b.1) && (decide (a.2.1 < b.2.1) || (decide (a.2.1 = b.2.1) &&
    (decide (a.2.2.1 < b.2.2.1) || (decide (a.2.2.1 = b.2.2.1) && decide (a.2.2.2 < b.2.2.2))))))

/-- Whether an operation is ready: admitted and free of the order rules. -/
def opReady (s : State) (o : Op) : Bool := decide (o.phase = .admitted) && orderAllows s o

/-- Operations of a block that have started and not finished. -/
def runningIn (s : State) (b : Block) : List Op :=
  (s.opList.filter fun q => decide (q.2.phase = .started) && decide (blockOf q.2.opcode = b)).map (·.2)

/-- The ready operations of the block of the operation in entry k that rank ahead of it (R122). -/
def aheadOf (s : State) (k : Nat) (o : Op) : List Op :=
  (s.opList.filter fun q => decide (q.1 ≠ k) && decide (blockOf q.2.opcode = blockOf o.opcode) && opReady s q.2 &&
    keyLt (rankKey s q.2) (rankKey s o)).map (·.2)

/-- Whether a block can take an operation before the ready ones that rank ahead of it: never one of its own ring (R123); an
engine has to be left after them; SIGNALs and RELAYs go one by one, each in an FCLK cycle of its own; a KEEP_WRITE has an order
of its own, and the others of the Keep engine do not wait for it (R121, R122, Table 4.10). -/
def blockTakes (s : State) (o : Op) (ahead : List Op) : Bool :=
  match blockOf o.opcode with
  | .issue => ahead.isEmpty && decide (s.queue.issuedAt ≠ some s.clocks.timebase)
  | .keep => decide (o.opcode = 0x20) || !(ahead.any fun q => decide (q.sr = o.sr) && decide (q.opcode ≠ 0x20))
  | b =>
    match blockLimit s.clocks.level b with
    | none => true
    | some lim => !(ahead.any fun q => decide (q.sr = o.sr)) && decide ((runningIn s b).length + ahead.length < lim)

/-- Whether the operation in an entry may start now: it is ready, and its block takes it (R121-R124). -/
def mayStart (s : State) (k : Nat) : Bool :=
  match s.op k with
  | none => false
  | some o => s.running && opReady s o && blockTakes s o (aheadOf s k o)

/-! ### Ready kernels and the interrupts they raise (05 R153, R156, 06 R173) -/

/-- The kernel that is current (R516). -/
def Turner.currentK (t : Turner) : Option Running :=
  match t.current with
  | none => none
  | some k => t.runningK.find? fun r => r.kid = k

/-- Whether a KERNEL is ready for the core: no order rule holds it, and it is not launched (05 R153). -/
def kernelReady (s : State) (o : Op) : Bool := decide (o.opcode = 0x08) && opReady s o

/-- The ready KERNEL that fills TC_LAUNCH: the oldest under R122 (05 R153). -/
def nextLaunch (s : State) : Option (Nat × Op) :=
  s.opList.foldl (fun best q =>
    if kernelReady s q.2 then
      match best with
      | none => some q
      | some b => if keyLt (rankKey s q.2) (rankKey s b.2) then some q else best
    else best) none

/-- The conditions of PREEMPT and KERNEL_READY: a KERNEL of higher ring priority than the current one's is ready; a KERNEL
is ready and none is running (05 R156, R153). -/
def kernelConds (s : State) : Bool × Bool :=
  let t := s.turner
  let ready := s.opList.filter fun q => kernelReady s q.2
  (match t.currentK with
   | some r => ready.any fun q => decide (r.prio < (s.sr q.2.sr).prio)
   | none => false,
   !ready.isEmpty && t.runningK.isEmpty)

/-- Set the ipend bits of the conditions that have become true (06 R173). -/
def raiseKernelBits (s : State) : State :=
  let t := s.turner
  if t.mode ≠ .running then s
  else
    let c := kernelConds s
    let rise (i : Nat) (v : Bool) : BitVec 4 := if v && !t.icond.getLsbD i then BitVec.twoPow 4 i else 0
    let keep := t.icond &&& 0b1001#4
    s.setTurner { t with
      ipend := t.ipend ||| rise 1 c.1 ||| rise 2 c.2
      icond := keep ||| (if c.1 then 2 else 0) ||| (if c.2 then 4 else 0) }

/-! ### Starting -/

/-- WAIT from a fetch time to now (R119). -/
def waitUnits (s : State) (fetch : W64) : W16 := BitVec.ofNat 16 (min ((s.now - fetch.toNat) / 1024) 65535)

/-- The lowest engine number of a block that is free. -/
def freeEngine (s : State) (b : Block) : Nat :=
  let used := (runningIn s b).map (·.engine)
  ((List.range 16).find? fun i => !used.contains i).getD 0

/-- Start the operation in an entry: its WAIT is fixed and an engine takes it (R119, R121). -/
def startOp (s : State) (k : Nat) (o : Op) : State × Op :=
  let o' := { o with phase := .started, wait := waitUnits s o.fetch, engine := freeEngine s (blockOf o.opcode) }
  let s1 := if blockOf o.opcode = .issue then s.setQueue { s.queue with issuedAt := some s.clocks.timebase } else s
  (s1.setOp k (some o'), o')

/-- An operation as it is admitted: a NOP of a data ring that no order rule holds has started (Table 4.10). -/
def admitOp (s : State) (o : Op) : Op :=
  if decide (o.opcode = 0) && decide (o.sr ≠ 0) && orderAllows s o then { o with phase := .started } else o

/-- Operations in the order in which those that finish together take completion positions: by SR index, then by SEQ, which is the
order of their admission (03 R88's corner). -/
def finishOrder (s : State) : List (Nat × Op) :=
  s.opList.foldr (fun q l =>
    let before (x : Nat × Op) : Bool :=
      decide (x.2.sr < q.2.sr) || (decide (x.2.sr = q.2.sr) && decide (x.2.order < q.2.order))
    l.filter before ++ q :: l.filter fun x => !before x) []

/-- The location code of the agent that performs an operation (R515). -/
def opLocation (o : Op) : W16 :=
  match blockOf o.opcode with
  | .copy => BitVec.ofNat 16 (0x5020 + o.engine)
  | .convert => BitVec.ofNat 16 (0x5030 + o.engine)
  | .readout => 0x5040
  | .keep => 0x8002
  | _ => 0x5010

/-! ### Results -/

def Result.ok : Result := { status := 0, kind := 0, code := 0, location := 0, address := 0, progress := 0, info := 0 }

/-- SUCCESS with a note (Table 4.7, KIND 0x05). -/
def Result.note (code : Byte) (info : Nat) : Result :=
  { Result.ok with kind := 5, code := code, info := BitVec.ofNat 64 info }

/-- A refusal (Table 4.7, KIND 0x02). -/
def Result.refused (status code : Byte) : Result := { Result.ok with status := status, kind := 2, code := code }

/-- A fault (Table 4.7, KIND 0x03). -/
def Result.fault (status code : Byte) (loc : W16) (addr progress : Nat) : Result :=
  { status := status, kind := 3, code := code, location := loc, address := BitVec.ofNat 64 addr,
    progress := BitVec.ofNat 64 progress, info := 0 }

/-- ABORTED: 0x00 before start, 0x01 after it. -/
def Result.aborted (started : Bool) (progress : Nat) : Result :=
  { Result.ok with status := 0x30, kind := 4, code := if started then 1 else 0, progress := BitVec.ofNat 64 progress }

/-! ### Status lines (03 R71) -/

/-- The queue engine as an agent that reaches the memory of rings (R69); a write the host refuses is counted on the host
link (R515). -/
def ringAgent (w : Requester) (p : Option (BitVec 20)) (loc : W16) : Agent :=
  { who := w, pasid := p, reach := [.kernels, .host], loc := loc, relaxed := false, ecc := [] }

/-- The 64 bytes of a status line (Table 3.2). -/
def statusLine (r : SubRing) : List Byte :=
  natToBytes r.head.toNat 4 ++ natToBytes r.stopSeq.toNat 4 ++
    [(if r.stopped then 1 else 0) ||| (if r.deviceHalted then 2 else 0), r.reason] ++ List.replicate 54 0

/-- Write the status line of ring k, or leave it pending while its memory is awaited. A write that fails is not repeated. -/
def writeStatusLine (s : State) (k : Nat) : State :=
  let r := s.sr k
  let a := r.base.toNat + 64 * 2 ^ r.log2
  match busWrite s (ringAgent (.status k) (if k = 0 then none else some r.pasid) 0x6101) a (statusLine r) with
  | .ok _ s1 => s1.setSr k { s1.sr k with linePending := false, lineHead := r.head }
  | .wait s1 => s1.setSr k { s1.sr k with linePending := true }
  | .fail _ _ s1 => s1.setSr k { s1.sr k with linePending := false, lineHead := r.head }

/-- Whether the status line that a completion of ring k has to follow has been written: one with HEAD beyond its SEQ, or the one
that records a stop (R71). -/
def lineWritten (s : State) (k : Nat) (c : Cpl) : Bool :=
  let r := s.sr k
  !r.linePending && (c.entry.isNone || decide ((r.lineHead - 1 - c.seq).toNat < 2 ^ 31))

/-- Try again every status line that is pending. -/
def writePendingLines (s : State) : State :=
  (List.range 32).foldl (fun s k => if (s.sr k).linePending then writeStatusLine s k else s) s

/-! ### Ring reset and deletion (03 R97-R100, 04 R111) -/

/-- How far a SEQ lies behind HEAD. -/
def seqBehind (head x : W32) : Nat := (head - x).toNat

/-- HEAD after a REPLAY: the lowest of STOP_SEQ and the aborted SEQs that exist (R99). -/
def replayHead (r : SubRing) : W32 :=
  match r.abortedLow with
  | some x => if r.stopped && decide (seqBehind r.head x < seqBehind r.head r.stopSeq) then r.stopSeq else x
  | none => if r.stopped then r.stopSeq else r.head

/-- Ring i as its reset in a mode leaves it (R97-R99). DOORBELL_PENDING stands as it is: a doorbell recorded during the reset makes
the ring ready (R100), and so does one that was pending when the reset began (log entry 136). -/
def ringAfterReset (r : SubRing) (mode : RingResetMode) : SubRing :=
  { r with head := if mode = .replay then replayHead r else 0
           push := Vector.replicate 4 none, stopped := false, resetting := none, abortedLow := none, grant := none
           stopRecord := none }

/-- The data ring whose reset or deletion an operation asks for: RING_RESET, and RING_DELETE of a submission ring. -/
def Op.resets (o : Op) : Option Nat :=
  if o.opcode = 0x42 ∨ (o.opcode = 0x41 ∧ fld o.desc 8 1 = 0) then some (fld o.desc 9 1) else none

/-- Ring i deleted: a status line that still waits for its memory is kept until it is written. -/
def deletedRing (r : SubRing) : SubRing :=
  if r.linePending then
    { Reset.subRing with base := r.base, log2 := r.log2, pasid := r.pasid, linePending := true }
  else Reset.subRing

/-- The reset in progress of ring i takes effect: its mode, its push slots, STOPPED and RESETTING, and the status line; a deletion
first acts as a reset in CLEAR mode (R97, 04 R111). -/
def applyReset (s : State) (i : Nat) : State :=
  match (s.sr i).resetting with
  | none => s
  | some m =>
    let s1 := s.setSr i (ringAfterReset (s.sr i) m)
    let s2 := writeStatusLine (s1.setQueue { s1.queue with stoppedRings := s1.queue.stoppedRings &&& ~~~(BitVec.twoPow 32 i) }) i
    if m = .delete then s2.setSr i (deletedRing (s2.sr i)) else s2

/-- Free a tracker entry whose operation has completed successfully or not; the completion of a ring reset is the moment at which
its mode takes effect (R97). -/
def freeEntryOf (s : State) (k : Nat) (ok : Bool) : State :=
  (match (s.op k).bind Op.resets with
    | some i => if ok then applyReset s i else s
    | none => s).setOp k none

/-! ### Finishing -/

/-- The completion of an operation with a result, decided now (R103, R119). -/
def cplOf (s : State) (k : Nat) (o : Op) (r : Result) : Cpl :=
  { tag := o.tag, seq := o.seq, time := s.clocks.timebase.extractLsb' 10 32
    wait := if o.phase = .admitted then waitUnits s o.fetch else o.wait
    result := r, sr := o.sr, notify := o.notify, pasid := s.opPasid o, entry := some k }

/-- Decide the status of the operation in an entry: a silent success releases its entry at once, any other waits for
its completion entry in finishing order (R88, R89, R117). -/
def decideOp (s : State) (k : Nat) (r : Result) : State :=
  match s.op k with
  | none => s
  | some o =>
    if o.silent && decide (r.status = 0) then freeEntryOf s k true
    else
      let c := cplOf s k o r
      let ring := s.cr o.crIndex
      (s.setOp k (some { o with phase := .finished, wait := c.wait, flushOut := [] })).setCr o.crIndex
        { ring with waiting := ring.waiting ++ [c] }

/-- Queue a MALFORMED completion on a ring's home completion ring and clear its stop record (R90). -/
def releaseStop (s : State) (i : Nat) : State :=
  let r := s.sr i
  match r.stopRecord with
  | none => s
  | some c =>
    let home := s.cr r.homeCr
    (s.setSr i { r with stopRecord := none }).setCr r.homeCr { home with waiting := home.waiting ++ [c] }

/-- Whether the stop record of ring i may be posted: for a data ring after its own completions, for SR0 after every
other completion of the device (R71, R96). -/
def stopDue (s : State) (i : Nat) : Bool :=
  (s.sr i).stopRecord.isSome &&
  if i = 0 then
    s.opList.isEmpty && ((List.range 32).all fun c => (s.cr c).waiting.isEmpty) &&
      ((List.range 31).all fun j => (s.sr (j + 1)).stopRecord.isNone)
  else !(s.opList.any fun q => q.2.sr = i)

/-- Queue every MALFORMED completion that is due, data rings first. -/
def releaseStops (s : State) : State :=
  let s1 := (List.range 31).foldl (fun s i => if stopDue s (i + 1) then releaseStop s (i + 1) else s) s
  if stopDue s1 0 then releaseStop s1 0 else s1

/-- The ring reset in progress, if every operation of its ring has posted its completion, the stop record too: its SR0 entry.
`aux` 1 marks the operation that began the reset (R97). -/
def resetDue (s : State) : Option Nat :=
  (s.opList.find? fun q => decide (q.2.phase = .started) && decide (q.2.aux = 1) &&
      match q.2.resets with
      | none => false
      | some i =>
        !(s.opList.any fun p => p.2.sr = i) && (s.sr i).stopRecord.isNone &&
          !((List.range 32).any fun c => (s.cr c).waiting.any fun w => w.sr = i)).map (·.1)

/-- What follows whenever a tracker entry or a waiting completion goes: invalidations whose reads have returned, stop records
that are due, the end of a ring reset, and the conditions of the core's kernel interrupts. -/
def settle (s : State) : State :=
  let s1 := releaseStops (settleInvalidations s)
  raiseKernelBits (match resetDue s1 with
    | none => s1
    | some k => releaseStops (decideOp s1 k Result.ok))

/-- Decide the status of the operation in an entry, and what follows from it. -/
def completeOp (s : State) (k : Nat) (r : Result) : State := settle (decideOp s k r)

/-- The agent that sends an operation's flush reads. -/
def flushAgent (s : State) (o : Op) : Agent :=
  { who := .op o.order, pasid := s.opPasid o, reach := [.host], loc := opLocation o, relaxed := false, ecc := [] }

/-- The result of an operation whose flush read is refused or fails: a fault, unless its status is a fault already (R262). -/
def flushFault (o : Op) (r : Result) (code : Byte) : Result :=
  if r.status = 0 then Result.fault 0x21 code (opLocation o) 0 o.progress else r

/-- The last write of the operation in entry k is made, and r is what it completes with: its flush reads go out, all at once, as
soon as their translations are there, the host is reachable and there is room for them among the non-posted requests (R262,
02 R32, R38, R47, R49). -/
def flushOp (s : State) (k : Nat) (o : Op) (r : Result) : State :=
  match flushTargets o.flush s (flushAgent s o) with
  | .fail _ c s1 => completeOp s1 k (flushFault o r c)
  | .wait s1 => s1.setOp k (some { o with closing := some r })
  | .ok ts s1 =>
    if nonPosted s1 + ts.length ≤ 1024 then
      (sendFlushes s1 (s1.opPasid o) ts).setOp k
        (some { o with flush := [], flushOut := ts.map fun x => (effPasid s1 (s1.opPasid o), x.1), closing := some r })
    else s1.setOp k (some { o with closing := some r })

/-- Finish the operation in an entry with a result: where it has written into flush ranges, it first sends its flush reads
and waits for them (R262). -/
def finishOp (s : State) (k : Nat) (r : Result) : State :=
  match s.op k with
  | none => s
  | some o => if o.flush = [] then completeOp s k r else flushOp s k o r

/-- What an operation does whose result is decided but for its flush reads: those that could not be sent go out; those that are
out have returned, and it completes (R262). -/
def closeOp (s : State) (k : Nat) (o : Op) (r : Result) : State :=
  if o.flush = [] then completeOp s k r else flushOp s k o r

/-- Run the operation in entry k if it has this opcode and is started, or may start now; otherwise nothing happens
(log entry 7). An operation whose flush reads are out completes: they have returned (R262). -/
def runOp (s : State) (k opcode : Nat) (body : State → Op → State) : State :=
  match s.op k with
  | none => s
  | some o =>
    if o.opcode ≠ opcode then s
    else if !s.running then s
    else if o.phase = .started then
      match o.closing with
      | some r => closeOp s k o r
      | none => body s o
    else if mayStart s k then let p := startOp s k o; body p.1 p.2
    else s

/-- Keep what a started operation has done so far. -/
def saveOp (s : State) (k : Nat) (o : Op) : State := s.setOp k (some o)

end Sys2Proof.Machine
end

