-- ==== Sys2Proof/Machine/Descriptor.lean ====
section
/-! DEFINITION. The checks of a descriptor: the header checks of 03 Table 3.7 and the body checks of 04 Table 4.3 in
their order. -/

namespace Sys2Proof.Machine
open Sys2Proof

/-- The data opcodes (Table 4.4). -/
def dataOpcodes : List Nat :=
  [0x00, 0x01, 0x02, 0x03, 0x08, 0x10, 0x11, 0x12, 0x13, 0x18, 0x19, 0x1C, 0x20, 0x21, 0x22, 0x23]

/-- The admin opcodes (Table 4.6). -/
def adminOpcodes : List Nat :=
  [0x40, 0x41, 0x42, 0x44, 0x45, 0x46, 0x48, 0x50, 0x51, 0x52, 0x53, 0x54, 0x58, 0x59, 0x5A, 0x60, 0x61]

/-- The header checks in the order of Table 3.7 (R94): the first that fails. -/
def headerCheck (s : State) (k : Nat) (d : BitVec 512) : Option Byte :=
  let op := fld d 0 1
  let flags := fld d 1 1
  let cr := fld d 2 2
  if !(dataOpcodes.contains op || adminOpcodes.contains op) then some 0x01
  else if (k ≠ 0 ∧ adminOpcodes.contains op) ∨ (k = 0 ∧ dataOpcodes.contains op ∧ op ≠ 0) then some 0x02
  else if flags / 16 ≠ 0 then some 0x03
  else if flags.testBit 3 && flags.testBit 2 then some 0x04
  else if cr / 32 ≠ 0 then some 0x05
  else if (k = 0 ∧ cr ≠ 0) ∨ (k ≠ 0 ∧ (cr = 0 ∨ !(s.cr cr).exists_)) then some 0x06
  else none

/-- The body bits a body table names, as (first byte, first bit, width); KIND of RING_CREATE chooses its fields. -/
def bodyFields (op : Nat) (d : BitVec 512) : List (Nat × Nat × Nat) :=
  let by_ (b n : Nat) : Nat × Nat × Nat := (b, 0, 8 * n)
  let addr (b : Nat) : Nat × Nat × Nat := (b, 0, 48)
  match op with
  | 0x01 => [addr 8, addr 16, by_ 24 4, by_ 28 4, by_ 32 8, by_ 40 8]
  | 0x02 => [addr 8, addr 16, addr 24, addr 32, by_ 40 4, by_ 44 1, by_ 45 1, by_ 46 1, (47, 0, 4), (47, 7, 1),
             by_ 48 4, by_ 52 4]
  | 0x03 => [addr 8, by_ 16 8, by_ 24 8]
  | 0x08 => [by_ 8 8, by_ 16 2, (18, 0, 1), by_ 20 4, by_ 24 40]
  | 0x10 => [by_ 8 2, by_ 10 1, by_ 16 8]
  | 0x11 => [by_ 8 2, by_ 16 8]
  | 0x12 => [by_ 8 1, by_ 9 1, by_ 16 8]
  | 0x13 => [by_ 8 1]
  | 0x18 | 0x19 => [by_ 8 2, by_ 10 2, addr 16]
  | 0x1C => [by_ 8 1, (9, 0, 1), addr 16]
  | 0x20 => [by_ 8 2, (10, 0, 1), by_ 12 4, addr 16, by_ 24 8, by_ 32 4]
  | 0x21 => [by_ 8 2, by_ 12 4, addr 16, by_ 24 8, by_ 32 4]
  | 0x22 => [by_ 8 2, by_ 12 4, by_ 24 8]
  | 0x23 => [by_ 8 1, by_ 16 8, by_ 24 8]
  | 0x40 => [by_ 8 1, by_ 9 1, by_ 10 1, by_ 11 1, addr 16] ++
      (if fld d 8 1 = 1 then [by_ 12 1, by_ 13 1, addr 32] else [(12, 0, 20), by_ 24 2])
  | 0x41 => [by_ 8 1, by_ 9 1]
  | 0x42 => [by_ 9 1, by_ 10 1]
  | 0x44 => [by_ 8 2, by_ 10 1, by_ 11 1, (12, 0, 4), addr 16, by_ 24 8]
  | 0x45 => [by_ 8 1, (9, 0, 2), (12, 0, 20), addr 16]
  | 0x46 => [by_ 8 2, (10, 0, 2), addr 16, by_ 24 8]
  | 0x48 => [addr 16, by_ 24 4]
  | 0x50 => [by_ 8 1, by_ 9 1, by_ 10 1]
  | 0x51 => [by_ 8 1, (9, 0, 1)]
  | 0x52 => [by_ 8 1, by_ 9 1]
  | 0x53 => [by_ 8 2, (10, 0, 1), by_ 16 8]
  | 0x54 => [by_ 8 1, (9, 0, 1)]
  | 0x58 => [by_ 8 1, addr 16, by_ 24 4, by_ 28 4]
  | 0x59 => [by_ 8 1]
  | 0x5A => [(8, 0, 1)]
  | 0x60 => [addr 16]
  | 0x61 => [by_ 8 4]
  | _ => []

/-- The mask of the named bits, with the header. -/
def bodyMask (op : Nat) (d : BitVec 512) : BitVec 512 :=
  (bodyFields op d).foldl (fun m f =>
    m ||| ((BitVec.allOnes 512 >>> (512 - f.2.2)) <<< (8 * f.1 + f.2.1))) (BitVec.allOnes 512 >>> (448 : Nat))

/-- Whether ring memory of n bytes at base lies wholly in the host windows or wholly in HBM for kernels (R69). -/
def ringMemOk (s : State) (base n : Nat) : Bool := s.inRegion base n .host || s.inRegion base n .kernels

/-- An MX format code (Table 4.5). -/
def isMx (f : Nat) : Bool := decide (5 ≤ f ∧ f ≤ 9)

/-- The range checks of the body tables (reason 0x11). -/
def rangeOk (s : State) (op : Nat) (d : BitVec 512) : Bool :=
  match op with
  | 0x01 => decide (1 ≤ fld d 24 4 ∧ 1 ≤ fld d 28 4 ∧ (fld d 28 4 = 1 ∨ fld d 24 4 ≤ fld d 40 8))
  | 0x02 => decide (1 ≤ fld d 40 4 ∧ fld d 44 1 ≤ 0xB ∧ fld d 45 1 ≤ 0xB ∧ fld d 46 1 ≤ 2 ∧
      (fld d 46 1 = 2 ∨ fld d 52 4 = 0) ∧ (isMx (fld d 44 1) ∨ fld d 24 8 = 0) ∧
      (isMx (fld d 45 1) ∨ fld d 32 8 = 0))
  | 0x03 => decide (1 ≤ fld d 16 8 ∧ fld d 16 8 ≤ 2 ^ 40)
  | 0x08 => decide (fld d 16 2 ≤ 63)
  | 0x10 => decide (fld d 8 2 ≤ 1023 ∧ fld d 10 1 ≤ 1)
  | 0x11 => decide (fld d 8 2 ≤ 1023)
  | 0x12 => decide (fld d 9 1 = 4 ∨ fld d 9 1 = 8)
  | 0x13 => decide (fld d 8 1 ≤ 1)
  | 0x18 | 0x19 => decide (fld d 8 2 ≤ 4095 ∧ 1 ≤ fld d 10 2 ∧ fld d 10 2 ≤ 4096 ∧ fld d 8 2 + fld d 10 2 ≤ 4096)
  | 0x1C => decide (fld d 8 1 ≤ 15)
  | 0x20 => decide (fld d 8 2 ≤ 1023 ∧ 1 ≤ fld d 12 4 ∧ fld d 12 4 ≤ 0xFFFFFFFE ∧ kib 4 ≤ fld d 32 4 ∧
      fld d 32 4 ≤ mib 64)
  | 0x21 => decide (fld d 8 2 ≤ 1023 ∧ kib 4 ≤ fld d 32 4 ∧ fld d 32 4 ≤ mib 64)
  | 0x22 => decide (fld d 8 2 ≤ 1023 ∧ 1 ≤ fld d 12 4 ∧ fld d 12 4 ≤ 0xFFFFFFFE)
  | 0x23 => decide (fld d 8 1 ≤ 1)
  | 0x40 =>
    decide (fld d 8 1 ≤ 1 ∧ 1 ≤ fld d 9 1 ∧ fld d 9 1 ≤ 31 ∧ 6 ≤ fld d 10 1 ∧ fld d 10 1 ≤ 16) &&
    (if fld d 8 1 = 0 then
      decide (fld d 11 1 ≤ 7 ∧ 1 ≤ fld d 24 2 ∧ fld d 24 2 ≤ 31) &&
        ringMemOk s (fld d 16 8) (64 * 2 ^ fld d 10 1 + 64)
     else
      decide (fld d 11 1 ≤ 62) && ringMemOk s (fld d 16 8) (16 * 2 ^ fld d 10 1) &&
        ringMemOk s (fld d 32 8) (32 * 2 ^ fld d 10 1))
  | 0x41 => decide (fld d 8 1 ≤ 1 ∧ 1 ≤ fld d 9 1 ∧ fld d 9 1 ≤ 31)
  | 0x42 => decide (1 ≤ fld d 9 1 ∧ fld d 9 1 ≤ 31 ∧ fld d 10 1 ≤ 1)
  | 0x44 => decide (fld d 8 2 ≤ 63 ∧ fld d 10 1 ≤ 7 ∧ fld d 11 1 ≤ 2 ∧
      (fld d 11 1 = 0 ∨ (64 ≤ fld d 24 8 ∧ fld d 16 8 + fld d 24 8 ≤ 2 ^ 48)))
  | 0x45 => decide ((fld d 9 1 % 2 = 1 ∨ (fld d 16 8 = 0 ∧ fld d 12 4 = 0)) ∧
      (fld d 9 1 / 2 % 2 = 1 ∨ fld d 12 4 = 0))
  | 0x46 => decide (fld d 8 2 ≤ 1023 ∧ (fld d 10 1 % 2 = 1 ∨ (fld d 16 8 = 0 ∧ fld d 24 8 = 0)))
  | 0x48 => decide (64 ≤ fld d 24 4 ∧ fld d 24 4 ≤ mib 16)
  | 0x50 =>
    let n := ((List.range 8).filter fun i => (fld d 8 1).testBit i).length
    decide (3 ≤ n ∧ 1 ≤ fld d 9 1 ∧ fld d 9 1 ≤ 2 ∧ fld d 9 1 < n - 1 ∧ fld d 10 1 ≤ 1)
  | 0x52 => decide (fld d 8 1 ≤ 7 ∧ fld d 9 1 ≤ 7)
  | 0x53 => decide (fld d 8 2 ≤ 1023 ∧
      (if fld d 10 1 % 2 = 1 then fld d 16 8 = 0 else mib 1 ≤ fld d 16 8))
  | 0x54 => decide (fld d 8 1 ≤ 7)
  | 0x58 => decide (fld d 8 1 = 0 ∧ 64 ≤ fld d 28 4 ∧ fld d 28 4 ≤ mib 1)
  | 0x59 => decide (fld d 8 1 = 0)
  | _ => true

/-- The alignment checks of the body tables (reason 0x12). -/
def alignOk (op : Nat) (d : BitVec 512) : Bool :=
  match op with
  | 0x02 => !(isMx (fld d 44 1) || isMx (fld d 45 1)) || decide (fld d 40 4 % 32 = 0)
  | 0x08 => decide (fld d 8 8 % 4 = 0)
  | 0x18 | 0x19 => decide (fld d 16 8 % 4096 = 0)
  | 0x1C => decide (fld d 16 8 % 64 = 0)
  | 0x20 | 0x21 => decide (fld d 16 8 % 4096 = 0 ∧ fld d 24 8 % 4096 = 0 ∧ fld d 32 4 % 4096 = 0)
  | 0x22 => decide (fld d 24 8 % 4096 = 0)
  | 0x40 => decide (fld d 16 8 % 4096 = 0 ∧ (fld d 8 1 = 0 ∨ fld d 32 8 % 4096 = 0))
  | 0x44 => decide (fld d 16 8 % 64 = 0 ∧ (fld d 11 1 = 0 ∨ fld d 24 8 % 64 = 0))
  | 0x45 | 0x46 => decide (fld d 16 8 % 8 = 0)
  | 0x48 => decide (fld d 24 4 % 64 = 0)
  | 0x53 => decide (fld d 16 8 % mib 1 = 0)
  | 0x58 => decide (fld d 24 4 % 64 = 0 ∧ fld d 28 4 % 64 = 0)
  | 0x60 => decide (fld d 16 8 % 4096 = 0)
  | _ => true

/-- Whether a counter is registered. -/
def counterReg (s : State) (i : Nat) : Bool := s.scale.counters.any fun c => c.index = i

/-- The check of a slot: with an array assembled it must, or must not, be defined; with none the operation is refused at its
start, as MEMBER_REPLACE is (Table 4.6, R268). -/
def slotCheck (s : State) (i : Nat) (defined : Bool) : Option Byte :=
  match s.keep.array with
  | none => none
  | some a => if (a.slots.any fun e => e.slot = i) = defined then none else some (if defined then 0x13 else 0x14)

/-- The checks against what exists, 0x13 and 0x14 (Table 4.3). -/
def existCheck (s : State) (op : Nat) (d : BitVec 512) : Option Byte :=
  let must (b : Bool) : Option Byte := if b then none else some 0x13
  let mustNot (b : Bool) : Option Byte := if b then some 0x14 else none
  match op with
  | 0x10 | 0x11 => must (counterReg s (fld d 8 2))
  | 0x12 => must (vget s.scale.relays (fld d 8 1) { valid := false, usePasid := false, pasid := 0, addr := 0 }).valid
  | 0x20 | 0x21 | 0x22 => slotCheck s (fld d 8 2) true
  | 0x40 =>
    if fld d 8 1 = 0 then
      if (s.cr (fld d 24 2)).exists_ then mustNot (s.sr (fld d 9 1)).exists_ else some 0x13
    else mustNot (s.cr (fld d 9 1)).exists_
  | 0x41 => must (if fld d 8 1 = 0 then (s.sr (fld d 9 1)).exists_ else (s.cr (fld d 9 1)).exists_)
  | 0x42 => must (s.sr (fld d 9 1)).exists_
  | 0x46 => if fld d 10 1 % 2 = 1 then mustNot (counterReg s (fld d 8 2)) else must (counterReg s (fld d 8 2))
  | 0x52 => match s.keep.array with
    | none => none
    | some a => must (decide (fld d 8 1 < a.n))
  | 0x53 => slotCheck s (fld d 8 2) (decide (fld d 10 1 % 2 = 1))
  | _ => none

/-- The pairs of formats that CONVERT allows (R107). -/
def convertPairOk (src dst : Nat) : Bool :=
  decide (src ≤ 9 ∧ dst ≤ 9) || decide (10 ≤ src ∧ (dst = 0 ∨ 10 ≤ dst)) || decide (10 ≤ dst ∧ (src = 0 ∨ 10 ≤ src))

/-- R22: the ranges a segment of a type may have. -/
def segmentOk (s : State) (ty base size : Nat) : Bool :=
  if ty = 2 then s.inRegion base size .host
  else if ty = 1 then decide (base + size ≤ 0xC00000000000) && !(s.power.keepEnabled && decide (base < 0x000400000000))
  else true

/-- The special checks 0x15 to 0x17 (Table 4.3). -/
def specialCheck (s : State) (op : Nat) (d : BitVec 512) : Option Byte :=
  match op with
  | 0x02 => if convertPairOk (fld d 44 1) (fld d 45 1) then none else some 0x15
  | 0x44 => if segmentOk s (fld d 11 1) (fld d 16 8) (fld d 24 8) then none else some 0x16
  | 0x61 => if fld d 8 4 = 0x56444953 then none else some 0x17
  | _ => none

/-- The body checks in the order of Table 4.3; NOP's body is not checked (R104, R105). -/
def bodyCheck (s : State) (d : BitVec 512) : Option Byte :=
  let op := fld d 0 1
  if op = 0 then none
  else if d &&& ~~~(bodyMask op d) ≠ 0 then some 0x10
  else if !rangeOk s op d then some 0x11
  else if !alignOk op d then some 0x12
  else (existCheck s op d).or (specialCheck s op d)

/-- The reason code of the first failing check of an entry on ring k (R94). -/
def entryCheck (s : State) (k : Nat) (d : BitVec 512) : Option Byte := (headerCheck s k d).or (bodyCheck s d)

end Sys2Proof.Machine
end

