-- ==== Sys2Proof/Machine/Rings.lean ====
section
/-! DEFINITION. The rings: doorbells, push window, arbitration, forward scans, completion writing, MSI-X, enabling and
draining, and the ring operations of SR0 (03_descriptor_rings, 04 R110-R111, 01 R27-R31). -/

namespace Sys2Proof.Machine
open Sys2Proof

/-! ### Doorbells, push slots, credit -/

/-- Set DOORBELL_PENDING of ring k; the ring is eligible 4 FCLK cycles after it becomes set (R75, R76). -/
def ringDoorbell (s : State) (k : Nat) : State :=
  let r := s.sr k
  s.setSr k { r with doorbell := true, eligibleAt := if r.doorbell then r.eligibleAt else s.clocks.timebase + 4 }

/-- DOORBELL: recorded for an existing ring, and for SR0 in WARM before it exists or is created anew; else dropped (R72, R75, R82,
01 R31). -/
def execDoorbell (ring : Fin 32) (s : State) : Host.Outcome State Fault Refusal :=
  .next (if !barReachable s then s
    else
      let s1 := if ring = 0 ∧ s.power.state = .warm then s.setQueue { s.queue with sr0Doorbell := true } else s
      if (s1.sr ring).exists_ then ringDoorbell s1 ring else s1)

/-- The position that an accepted push into slot j binds to: the first at or after the scan point with that index
modulo 4 (R518). -/
def pushPosition (r : SubRing) (j : Nat) : W32 :=
  r.head + BitVec.ofNat 32 ((j + 4 - r.head.toNat % 4) % 4)

/-- PUSH: accepted into an empty slot of an existing ring that is neither stopped nor being reset, as a doorbell too;
else, or when it is not one 64-byte write TLP aligned to the slot (`data` none), dropped and counted (R79, R518). -/
def execPush (ring : Fin 32) (slot : Fin 4) (data : Option (BitVec 512)) (s : State) : Host.Outcome State Fault Refusal :=
  let r := s.sr ring
  let drop := s.setSr ring { r with pushDrops := satInc r.pushDrops }
  .next (if !barReachable s then s
    else match data with
      | none => drop
      | some d =>
        if !r.exists_ || r.stopped || r.resetting.isSome || (vget r.push slot none).isSome then drop
        else
          ringDoorbell (s.setSr ring
            { r with push := vset r.push slot (some { position := pushPosition r slot, copy := d }) }) ring)

/-- CR_HEAD: credit is taken when CR_TAIL − v ≤ N, else BAD_CR_HEAD is set (R86). -/
def execCrHead (ring : Fin 32) (value : W32) (s : State) : Host.Outcome State Fault Refusal :=
  let r := s.cr ring
  .next (if !barReachable s || !r.exists_ then s
    else if (r.tail - value).toNat ≤ 2 ^ r.log2 then s.setCr ring { r with head := value, badHead := false }
    else s.setCr ring { r with badHead := true })

/-- What a read of a field of the BAR2 page of ring k returns, by the field's offset: the fields of SRk where it exists, those of
CRk where that exists, and 0 elsewhere, in DOORBELL and in PUSH0-PUSH3 (R82, Table 3.5). -/
def pageRead (s : State) (k offset : Nat) : W32 :=
  let r := s.sr k
  let c := s.cr k
  let bit (b : Bool) (i : Nat) : W32 := if b then BitVec.twoPow 32 i else 0
  if offset = 0x008 then (if c.exists_ then c.head else 0)
  else if offset = 0x01C then (if c.exists_ then c.tail else 0)
  else if !r.exists_ then 0
  else if offset = 0x010 then
    1 ||| bit r.stopped 1 ||| bit r.resetting.isSome 2 ||| bit r.doorbell 3 ||| bit (vget r.push 0 none).isSome 4 |||
      bit (vget r.push 1 none).isSome 5 ||| bit (vget r.push 2 none).isSome 6 ||| bit (vget r.push 3 none).isSome 7 |||
      (r.reason.setWidth 32 <<< 8) ||| bit c.badHead 16
  else if offset = 0x014 then r.stopSeq
  else if offset = 0x018 then r.head
  else if offset = 0x020 then r.pushDrops
  else 0

/-! ### Arbitration -/

/-- Whether fetching is on: the queue engine is enabled and the device serves rings (R85, Table 1.8). -/
def fetching (s : State) : Bool :=
  s.running && s.queue.enable &&
    (s.power.state = .active || s.power.state = .throttled || s.power.state = .lockout)

/-- The grants in progress. -/
def grantsOf (s : State) : List (Nat × Grant) :=
  (List.range 32).filterMap fun k => (s.sr k).grant.map fun g => (k, g)

/-- Shared tracker entries neither held nor reserved by a grant (R77, R117). -/
def sharedFree (s : State) : Nat :=
  448 - (s.opList.filter fun q => q.1 < 448).length - ((grantsOf s).map fun g => g.2.shared).sum

/-- Reserved tracker entries neither held nor reserved by a grant. -/
def highFree (s : State) : Nat :=
  64 - (s.opList.filter fun q => 448 ≤ q.1).length - ((grantsOf s).map fun g => g.2.high).sum

/-- Reserved entries that rings at priorities 6-7 hold or have reserved (R117). -/
def highHeld (s : State) : Nat :=
  (s.opList.filter fun q => 448 ≤ q.1 ∧ q.2.sr ≠ 0 ∧ 6 ≤ (s.sr q.2.sr).prio).length +
    ((grantsOf s).map fun g => if g.1 ≠ 0 ∧ 6 ≤ (s.sr g.1).prio then g.2.high else 0).sum

/-- The reserved entries that the admission rule would give ring k (R117). -/
def highRoom (s : State) (k : Nat) : Nat :=
  if k = 0 then highFree s
  else if 6 ≤ (s.sr k).prio then min (highFree s) (56 - highHeld s) else 0

/-- The tracker entries that the admission rule would give ring k now (R77, R117). -/
def room (s : State) (k : Nat) : Nat := sharedFree s + highRoom s k

/-- Whether ring k may be granted now (R83, R85). -/
def grantable (s : State) (k : Nat) : Bool :=
  let r := s.sr k
  r.exists_ && r.doorbell && !r.stopped && r.resetting.isNone && r.grant.isNone &&
    decide (r.eligibleAt.toNat ≤ s.now) && decide (1 ≤ room s k)

/-- The ring that the arbiter grants at a level: the grantable ring with the smallest index above the one last granted
there, wrapping past SR31 to SR1 (R83). -/
def pickLevel (s : State) (level : Nat) : Option Nat :=
  let cand := (List.range 31).map (· + 1) |>.filter fun k => grantable s k && decide ((s.sr k).prio = level)
  let last := vget s.queue.rr level 0
  match cand.find? (fun k => last < k) with
  | some k => some k
  | none => cand.head?

/-- The ring that the arbiter grants: SR0, else the highest level with a grantable ring (R83). -/
def pickRing (s : State) : Option Nat :=
  if grantable s 0 then some 0
  else [7, 6, 5, 4, 3, 2, 1, 0].findSome? (pickLevel s)

/-- Grant ring k: n positions and n tracker entries are reserved, DOORBELL_PENDING is cleared (R76, R77). -/
def grantRing (s : State) (k : Nat) : State :=
  let r := s.sr k
  let n := min 8 (min (2 ^ r.log2 - r.head.toNat % 2 ^ r.log2) (room s k))
  let sh := min n (sharedFree s)
  let s1 := s.setSr k { r with
    doorbell := false
    grant := some { first := r.head, count := n, served := 0, shared := sh, high := n - sh, reading := false } }
  if k = 0 then s1 else s1.setQueue { s1.queue with rr := vset s1.queue.rr r.prio k }

/-- FETCH_GRANT (R83). -/
def execFetchGrant (s : State) : Host.Outcome State Fault Refusal :=
  .next (if fetching s then match pickRing s with
    | none => s
    | some k => grantRing s k
  else s)

/-! ### Scans -/

/-- The phase of the position with sequence number q on a ring of 2^log2 entries (R70). -/
def phaseOf (q : W32) (log2 : Nat) : Bool := decide (q.toNat / 2 ^ log2 % 2 = 0)

/-- The lowest free tracker entry in [lo, hi). -/
def freeEntry (s : State) (lo hi : Nat) : Option Nat :=
  ((List.range hi).drop lo).find? fun i => (s.op i).isNone

/-- Consume the descriptor at HEAD of ring k with grant g: the lowest free entry of the class that the grant reserved
takes it, HEAD advances (R78, R117). -/
def consume (s : State) (k : Nat) (g : Grant) (d : BitVec 512) : State :=
  let r := s.sr k
  let useShared := decide (0 < g.shared)
  let entry := if useShared then freeEntry s 0 448 else freeEntry s 448 512
  match entry with
  | none => s
  | some e =>
    let o : Op := { sr := k, seq := r.head, desc := d, fetch := s.clocks.timebase, order := s.queue.nextOrder,
                    phase := .admitted, wait := 0, progress := 0, aux := 0, target := none, degraded := 0, engine := 0, flush := [], flushOut := [], closing := none }
    let s1 := s.setOp e (some (admitOp s o))
    let s2 := s1.setQueue { s1.queue with nextOrder := s1.queue.nextOrder + 1 }
    s2.setSr k { r with
      head := r.head + 1
      push := vset r.push (r.head.toNat % 4) (match vget r.push (r.head.toNat % 4) none with
        | some p => if p.position = r.head then none else some p
        | none => none)
      grant := some { g with served := g.served + 1
                             shared := if useShared then g.shared - 1 else g.shared
                             high := if useShared then g.high else g.high - 1 } }

/-- The MALFORMED completion of ring k with a reason and a TAG (R90, R95). -/
def malformedCpl (s : State) (k : Nat) (reason : Byte) (tag : W32) : Cpl :=
  { tag := tag, seq := (s.sr k).head, time := s.clocks.timebase.extractLsb' 10 32, wait := 0
    result := { Result.ok with status := 0x3F, kind := 1, code := reason }
    sr := k, notify := false, pasid := if k = 0 then none else some (s.sr k).pasid, entry := none }

/-- Assert DP_ALERT: recorded at the Tailstock, interrupt line 2 (R15, Table 1.1, Table 15.11). -/
def dpAlert (s : State) : State :=
  (s.setMgmt { s.mgmt with dpAlert := true }).setJiman { s.jiman with intPend := s.jiman.intPend ||| 4 }

/-- Every ring's scan ends, its unused reservations return and its status line is written; a ring whose scan had not ended is
ready again (R73). -/
def endScans (s : State) : State :=
  (List.range 32).foldl (fun s k =>
    match (s.sr k).grant with
    | none => s
    | some _ =>
      writeStatusLine (s.setSr k { s.sr k with grant := none, doorbell := true }) k) s

/-- A malformed entry on SR0 puts the device in HALTED: fetching stops, DEVICE_HALTED is set on every ring, the event and
DP_ALERT are raised (R30, R96). -/
def deviceHalt (s : State) : State :=
  let s1 := endScans s
  let s2 := s1.setPower { s1.power with state := .halted, draining := false }
  let s3 := (List.range 32).foldl (fun s k =>
    if (s.sr k).exists_ then writeStatusLine (s.setSr k { s.sr k with deviceHalted := true }) k else s) s2
  dpAlert (faultEvent (deviceEvent s3 0) 0x5010 3)

/-- Stop ring k as malformed at HEAD with a reason (R95, R96): the stop record holds its MALFORMED completion, the status
line records the stop. -/
def stopRing (s : State) (k : Nat) (reason : Byte) (tag : W32) : State :=
  let r := s.sr k
  let s1 := s.setSr k { r with stopped := true, stopSeq := r.head, reason := reason, grant := none,
                               stopRecord := some (malformedCpl s k reason tag) }
  if k = 0 then settle (deviceHalt s1)
  else
    let s2 := s1.setQueue { s1.queue with stoppedRings := s1.queue.stoppedRings ||| BitVec.twoPow 32 k }
    settle (deviceEvent (writeStatusLine s2 k) 1)

/-- The end of a scan of ring k: the grant's unused reservations return and the status line is written if an entry was
consumed; a burst used in full makes the ring ready again from the next cycle (R71, R76, R77). -/
def endScan (s : State) (k : Nat) (g : Grant) (full : Bool) : State :=
  let r := s.sr k
  let s1 := s.setSr k { r with grant := none
                               doorbell := r.doorbell || full
                               eligibleAt := if full && !r.doorbell then s.clocks.timebase + 1 else r.eligibleAt }
  if 0 < g.served then writeStatusLine s1 k else s1

/-- Whether an entry's OWN equals the phase of the position at HEAD (R70). -/
def ownMatches (r : SubRing) (d : BitVec 512) : Bool := d.getLsbD 8 == phaseOf r.head r.log2

/-- Ring reads outstanding over all rings. -/
def readsOut (s : State) : Nat := ((grantsOf s).filter fun g => g.2.reading).length

/-- The grant's one read is issued, where there is room for it: at most 16 ring reads are out, and host memory is read with at most
1,024 non-posted requests out (R77, 02 R32). -/
def startRead (s : State) (k : Nat) (g : Grant) : State :=
  if readsOut s < 16 ∧ (s.inRegion (s.sr k).base.toNat 1 .kernels ∨ nonPosted s < 1024) then
    s.setSr k { s.sr k with grant := some { g with reading := true } }
  else s

/-- Serve positions from push slots until one needs memory, the burst ends or an entry is malformed (R81). -/
def scanSlots : Nat → State → Nat → State
  | 0, s, _ => s
  | fuel + 1, s, k =>
    let r := s.sr k
    match r.grant with
    | none => s
    | some g =>
      if g.count ≤ g.served then endScan s k g true
      else
        match vget r.push (r.head.toNat % 4) none with
        | some p =>
          if p.position = r.head then
            if ownMatches r p.copy then
              match entryCheck s k p.copy with
              | none => scanSlots fuel (consume s k g p.copy) k
              | some reason => stopRing s k reason (BitVec.ofNat 32 (fld p.copy 4 4))
            else
              startRead (s.setSr k { r with push := vset r.push (r.head.toNat % 4) none, pushDrops := satInc r.pushDrops }) k g
          else startRead s k g
        | none => startRead s k g

/-- FORWARD_SCAN of ring k: positions are served from the push slots; the first that needs memory issues the grant's one
read when there is room for it (R76, R77, R81). -/
def execForwardScan (ring : Fin 32) (s : State) : Host.Outcome State Fault Refusal :=
  .next (match (s.sr ring).grant with
    | none => s
    | some g => if fetching s && !g.reading then scanSlots 9 s ring else s)

/-- Serve the positions of a grant from the data of its read, and empty their push slots with them; a scan that ends at an entry
whose OWN does not match leaves the slots of later positions full, since those are not served (R76, R81, R518; log entry 136). -/
def scanData : List (BitVec 512) → State → Nat → State
  | [], s, k => match (s.sr k).grant with
    | none => s
    | some g => endScan s k g true
  | d :: ds, s, k =>
    match (s.sr k).grant with
    | none => s
    | some g =>
      if ownMatches (s.sr k) d then
        match entryCheck s k d with
        | none => scanData ds (consume s k g d) k
        | some reason => stopRing s k reason (BitVec.ofNat 32 (fld d 4 4))
      else endScan s k g false

/-- Cut bytes into descriptors of 64 bytes; byte 0 is bits [7:0]. -/
def toDescriptors : Nat → List Byte → List (BitVec 512)
  | 0, _ => []
  | n + 1, bs => BitVec.ofNat 512 (bytesToNat (bs.take 64)) :: toDescriptors n (bs.drop 64)

/-- RING_READ_RETURN: the read returns and the scan goes on over its positions; a read that fails, at the host
(`failed`), by a refusal or by poison, stops the ring with reason 0x08 and TAG 0 (R77, R81). -/
def execRingReadReturn (ring : Fin 32) (failed : Bool) (s : State) : Host.Outcome State Fault Refusal :=
  .next (match (s.sr ring).grant with
    | none => s
    | some g =>
      if !(fetching s && g.reading) then s
      else
        let r := s.sr ring
        let n := g.count - g.served
        let a := r.base.toNat + 64 * (r.head.toNat % 2 ^ r.log2)
        let ag := ringAgent (.scan ring g.first) (if ring = 0 then none else some r.pasid) 0x5010
        settleInvalidations (if failed then stopRing (faultEvent s 0x5010 2 (BitVec.ofNat 64 a)) ring 0x08 0
        else match busReadAll s ag a (64 * n) with
          | .ok bs s1 => scanData (toDescriptors n bs) s1 ring
          | .wait s1 => s1
          | .fail _ _ s1 => stopRing s1 ring 0x08 0))

/-! ### Completion entries and their messages -/

/-- The 32 bytes of a DETAIL record (Table 4.8). -/
def detailRecord (c : Cpl) : List Byte :=
  [c.result.kind, c.result.code] ++ natToBytes c.result.location.toNat 2 ++ natToBytes c.seq.toNat 4 ++
    natToBytes c.result.address.toNat 8 ++ natToBytes c.result.progress.toNat 8 ++ natToBytes c.result.info.toNat 8

/-- The 16 bytes of a completion entry at the position with count q of a ring (Table 4.2). -/
def completionEntry (c : Cpl) (q : W32) (log2 : Nat) : List Byte :=
  natToBytes c.tag.toNat 4 ++ natToBytes c.seq.toNat 4 ++ natToBytes c.time.toNat 4 ++ natToBytes c.wait.toNat 2 ++
    [c.result.status, BitVec.ofNat 8 ((if phaseOf q log2 then 1 else 0) + (if c.result.kind = 0 then 0 else 2) + 4 * c.sr)]

/-- Whether a completion ring's COUNT or TIME asks for its vector (R91). -/
def vectorDue (s : State) (r : CplRing) : Bool :=
  (decide (r.count ≠ 0) && decide (r.count ≤ r.pendingMsgs)) ||
    (decide (r.time ≠ 0) && decide (0 < r.pendingMsgs) && decide (r.time * 1024 ≤ s.now - r.oldest.toNat))

/-- Send a completion ring's vector: one message, which resets PENDING of that ring and of every ring that shares the vector and asks
for it in the same cycle (R91 and its corner). -/
def sendRingVector (s : State) (cr : Nat) : State :=
  let v := (s.cr cr).vector
  sendVector ((List.range 32).foldl (fun s j =>
    let r := s.cr j
    if j = cr ∨ (r.exists_ ∧ r.vector = v ∧ vectorDue s r) then s.setCr j { r with pendingMsgs := 0 } else s) s) v

/-- The completion ring after one more entry has been written: its position is used, PENDING counts it, the tracker
entry is free, a ring reset takes effect, and the vector goes out when COUNT, TIME, NOTIFY or MALFORMED asks for it (R86, R91, R97,
R117). -/
def entryWritten (s : State) (cr : Nat) (c : Cpl) : State :=
  let r := s.cr cr
  let pend := r.pendingMsgs + 1
  let s1 := s.setCr cr { r with tail := r.tail + 1, waiting := r.waiting.drop 1, pendingMsgs := pend
                                oldest := if r.pendingMsgs = 0 then s.clocks.timebase else r.oldest }
  let s2 := match c.entry with
    | some e => freeEntryOf s1 e (decide (c.result.status = 0))
    | none => s1
  let s3 := if vectorDue s2 (s2.cr cr) ∨ c.notify ∨ c.result.status = 0x3F then sendRingVector s2 cr else s2
  settle s3

/-- Write an entry or a record at a completion ring's memory: whether it is done or its memory is awaited, and the state;
a refusal by the host is counted on the host link and the write is not repeated (R90's corner). -/
def ringWrite (s : State) (w : Requester) (p : Option (BitVec 20)) (a : Nat) (data : List Byte) (refused : Bool) : Bool × State :=
  if refused then (true, faultEvent s 0x6101 2 (BitVec.ofNat 64 a))
  else match busWrite s (ringAgent w p 0x6101) a data with
    | .ok _ s1 => (true, s1)
    | .wait s1 => (false, s1)
    | .fail _ _ s1 => (true, s1)

/-- The DETAIL record, then the entry of the completion that has waited longest on completion ring cr are written when the ring
has room and the status line of its source ring has been written (R71, R86, R88, R115). `refused`: the host answers the entry's
write with UR, CA or a refusal. -/
def writeOldest (s : State) (cr : Nat) (refused : Bool) : State :=
  let r := s.cr cr
  match r.waiting with
  | [] => s
  | c :: _ =>
    if !s.running || !r.exists_ || decide ((r.tail - r.head).toNat = 2 ^ r.log2) || !lineWritten s c.sr c then s
    else
      let i := r.tail.toNat % 2 ^ r.log2
      let d := if c.result.kind = 0 then (true, s)
        else ringWrite s (.completion cr r.tail) c.pasid (r.detailBase.toNat + 32 * i) (detailRecord c) refused
      if !d.1 then d.2
      else
        let e := ringWrite d.2 (.completion cr r.tail) c.pasid (r.base.toNat + 16 * i) (completionEntry c r.tail r.log2) refused
        if e.1 then entryWritten e.2 cr c else e.2

/-- COMPLETION_WRITE on completion ring cr. -/
def execCompletionWrite (cr : Fin 32) (refused : Bool) (s : State) : Host.Outcome State Fault Refusal :=
  .next (writeOldest (writePendingLines s) cr.val refused)

/-- MSIX_COALESCE_TIMER: the vector goes out when the oldest pending entry is at least TIME units old (R91). -/
def execMsixCoalesceTimer (cr : Fin 32) (s : State) : Host.Outcome State Fault Refusal :=
  let r := s.cr cr
  .next (if s.running ∧ r.exists_ ∧ vectorDue s r then sendRingVector s cr else s)

/-- Send every pending message that can be sent now (R92). -/
def sendPendingVectors (s : State) : State :=
  (List.range 64).foldl (fun s v =>
    if s.link.pba.getLsbD v then
      sendVector (s.setLink { s.link with pba := s.link.pba &&& ~~~(BitVec.twoPow 64 v) }) v
    else s) s

/-- MSIX_VECTOR_UNMASK: a vector or the function is unmasked, or MSI-X Enable set, and each pending message that may go
is sent (R92). -/
def execMsixVectorUnmask (what : MsixChange) (s : State) : Host.Outcome State Fault Refusal :=
  let l := s.link
  .next (if !(match what with | .vector _ => barReachable s | _ => s.running && s.link.up) then s else
    sendPendingVectors (s.setLink (match what with
      | .vector v => { l with msix := vset l.msix v { vget l.msix v { addr := 0, data := 0, mask := true } with mask := false } }
      | .function => { l with cfg := { l.cfg with msixMask := false } }
      | .enable => { l with cfg := { l.cfg with msixEnable := true } })))

/-! ### Enable and drain -/

/-- Whether QE_SR0_CONFIG passes Table 3.1 and R69. -/
def sr0Ok (s : State) : Bool :=
  let c := s.queue.sr0Config.toNat
  let n := bitsOf c 0 5
  decide (6 ≤ n ∧ n ≤ 16) && ringMemOk s (bitsOf c 12 36 * 4096) (64 * 2 ^ n + 64)

/-- Whether QE_CR0_CONFIG and QE_CR0_DETAIL pass Table 3.1, R69, R91 and R115. -/
def cr0Ok (s : State) : Bool :=
  let c := s.queue.cr0Config.toNat
  let n := bitsOf c 0 5
  decide (6 ≤ n ∧ n ≤ 16 ∧ bitsOf c 5 6 ≤ 62) && ringMemOk s (bitsOf c 12 36 * 4096) (16 * 2 ^ n) &&
    ringMemOk s (bitsOf s.queue.cr0Detail.toNat 12 36 * 4096) (32 * 2 ^ n)

/-- A new SR0 (R72). -/
def newSr0 (s : State) : SubRing :=
  let c := s.queue.sr0Config.toNat
  { Reset.subRing with exists_ := true, base := BitVec.ofNat 48 (bitsOf c 12 36 * 4096), log2 := bitsOf c 0 5,
                       doorbell := s.queue.sr0Doorbell, eligibleAt := s.clocks.timebase + 4 }

/-- A new CR0 (R72). -/
def newCr0 (s : State) : CplRing :=
  let c := s.queue.cr0Config.toNat
  { Reset.cplRing with exists_ := true, base := BitVec.ofNat 48 (bitsOf c 12 36 * 4096), log2 := bitsOf c 0 5,
                       vector := bitsOf c 5 6, count := bitsOf c 48 8, time := bitsOf c 56 8,
                       detailBase := BitVec.ofNat 48 (bitsOf s.queue.cr0Detail.toNat 12 36 * 4096) }

/-- The state that serves rings: LOCKOUT, THROTTLED or ACTIVE (Table 1.10). -/
def servingState (s : State) : ModState :=
  if s.turner.locked then .lockout else if s.clocks.level ≠ 0 then .throttled else .active

/-- A write of QE_CONTROL.ENABLE := 1: in WARM the configuration is checked where it was written or a ring does not exist; if
it passes, SR0 and CR0 exist and the module serves rings, else CONFIG_ERR is set (R72, R73, R443, Table 1.10). -/
def enableSet (s : State) : State :=
  let q := s.queue
  let sr0New := !(s.sr 0).exists_ || q.sr0Written
  let cr0New := !(s.cr 0).exists_ || q.cr0Written
  if s.power.state ≠ .warm || s.power.draining then s
  else if (sr0New || cr0New) && !(sr0Ok s && cr0Ok s) then s.setQueue { q with configErr := true }
  else
    let q1 := { q with
      enable := true, configErr := false, sr0Written := false, cr0Written := false
      sr0Doorbell := false
      sr := if sr0New then vset q.sr 0 (newSr0 s) else q.sr
      cr := if cr0New then vset q.cr 0 (newCr0 s) else q.cr }
    ((s.setQueue q1).setPower { s.power with state := servingState s, selfRefresh := false }).setClocks
      { s.clocks with cclkStopped := false }

/-- ENABLE_SET (R72): a host write of QE_CONTROL with ENABLE = 1. -/
def execEnableSet (s : State) : Host.Outcome State Fault Refusal := .next (if barReachable s then enableSet s else s)

/-- A write of QE_CONTROL.ENABLE := 0: fetching stops at once and DRAINING is set (R73, Table 1.10). -/
def enableClear (s : State) : State :=
  if (s.power.state = .active || s.power.state = .throttled || s.power.state = .lockout) && !s.power.draining then
    let s1 := endScans s
    (s1.setQueue { s1.queue with enable := false }).setPower { s1.power with draining := true }
  else s

/-- ENABLE_CLEAR (R73): a host write of QE_CONTROL with ENABLE = 0. -/
def execEnableClear (s : State) : Host.Outcome State Fault Refusal := .next (if barReachable s then enableClear s else s)

/-- Write back every host line modified in the Turner L2 (R65, R435). -/
def writeBackHostLines (s : State) : State :=
  let s1 := s.setHost (s.link.l2Host.foldl (fun m p => m.writeN (64 * p.1) p.2) s.host)
  s1.setLink { s1.link with
    l2Host := [], l2Poison := [], sent := s1.link.sent ++ s.link.l2Poison.map fun l => .poisonedWrite none (64 * l) 64 }

/-- DRAIN_COMPLETE: with the tracker empty, the module enters WARM, host lines in the L2 are written back, CCLK to the
compute blocks stops and stacks 1-7 enter self-refresh (R27, R65, R443). -/
def execDrainComplete (s : State) : Host.Outcome State Fault Refusal :=
  .next (if s.running && s.power.draining && s.opList.isEmpty then
    let s1 := writeBackHostLines s
    (s1.setPower { s1.power with state := .warm, draining := false, selfRefresh := true }).setClocks
      { s1.clocks with cclkStopped := true }
  else s)

/-! ### Operations of the queue engine -/

/-- NOP completes SUCCESS at once (R105). -/
def execNop (k : Fin 512) (s : State) : Host.Outcome State Fault Refusal :=
  .next (runOp s k 0x00 fun s _ => finishOp s k Result.ok)

/-- FENCE finishes at its start (R123). -/
def execFence (k : Fin 512) (s : State) : Host.Outcome State Fault Refusal :=
  .next (runOp s k 0x13 fun s _ => finishOp s k Result.ok)

/-- REFUSED_NOT_READY code 0x26: what decode found has changed (R104). -/
def changedSince : Result := Result.refused 0x12 0x26

/-- A data submission ring as RING_CREATE asks for it (Table 4.6). -/
def createdSr (d : BitVec 512) : SubRing :=
  { Reset.subRing with exists_ := true, base := BitVec.ofNat 48 (fld d 16 8), log2 := fld d 10 1, prio := fld d 11 1,
                       homeCr := fld d 24 2, pasid := BitVec.ofNat 20 (fld d 12 4) }

/-- A completion ring as RING_CREATE asks for it (Table 4.6). -/
def createdCr (d : BitVec 512) : CplRing :=
  { Reset.cplRing with exists_ := true, base := BitVec.ofNat 48 (fld d 16 8), log2 := fld d 10 1, vector := fld d 11 1,
                       count := fld d 12 1, time := fld d 13 1, detailBase := BitVec.ofNat 48 (fld d 32 8) }

/-- RING_CREATE (R68, R110); what decode found is tested again (R104). -/
def execRingCreate (k : Fin 512) (s : State) : Host.Outcome State Fault Refusal :=
  .next (runOp s k 0x40 fun s o =>
    let i := fld o.desc 9 1
    if fld o.desc 8 1 = 0 then
      if (s.sr i).exists_ || !(s.cr (fld o.desc 24 2)).exists_ then finishOp s k changedSince
      else finishOp (s.setSr i (createdSr o.desc)) k Result.ok
    else if (s.cr i).exists_ then finishOp s k changedSince
    else finishOp (s.setCr i (createdCr o.desc)) k Result.ok)

/-- The lowest of two SEQs relative to HEAD. -/
def lowerSeq (head : W32) (a : Option W32) (b : W32) : Option W32 :=
  match a with
  | none => some b
  | some x => if seqBehind head x < seqBehind head b then some b else some x

/-- Begin the reset of ring i in a mode, for the SR0 operation in entry k: the ring becomes ineligible, a scan in progress ends, and
its unstarted operations complete with ABORTED (R97). -/
def beginReset (s : State) (k : Nat) (o : Op) (i : Nat) (mode : RingResetMode) : State :=
  let s1 := (saveOp s k { o with aux := 1 }).setSr i { s.sr i with resetting := some mode, grant := none, abortedLow := none }
  let s2 := if (s.sr i).grant.any fun g => decide (0 < g.served) then writeStatusLine s1 i else s1
  (finishOrder s2).foldl (fun s q =>
    if q.2.sr = i ∧ q.2.phase = .admitted then
      let r := s.sr i
      decideOp (s.setSr i { r with abortedLow := lowerSeq r.head r.abortedLow q.2.seq }) q.1 (Result.aborted false 0)
    else s) s2

/-- Whether the reset of the ring that an operation which has not started would reset is still in progress: it waits behind it (R100). -/
def behindReset (s : State) (k : Nat) : Bool :=
  match s.op k with
  | none => false
  | some o => decide (o.phase = .admitted) && (o.resets.any fun i => (s.sr i).resetting.isSome)

/-- RING_RESET or RING_DELETE of submission ring i: begin the reset, or go on with it (R97, R111). -/
def resetRing (s : State) (k : Nat) (o : Op) (i : Nat) (mode : RingResetMode) : State :=
  if o.aux = 1 then settle s
  else if !(s.sr i).exists_ then finishOp s k changedSince
  else settle (beginReset s k o i mode)

/-- RING_RESET (R97-R100): its status is decided once every operation of the ring has posted its completion. -/
def execRingReset (k : Fin 512) (s : State) : Host.Outcome State Fault Refusal :=
  .next (if behindReset s k then s else runOp s k 0x42 fun s o =>
    resetRing s k o (fld o.desc 9 1) (if fld o.desc 10 1 = 0 then .clear else .replay))

/-- RING_DELETE (R111): a submission ring is reset and deleted; a completion ring that is in use is refused. -/
def execRingDelete (k : Fin 512) (s : State) : Host.Outcome State Fault Refusal :=
  .next (if behindReset s k then s else runOp s k 0x41 fun s o =>
    let i := fld o.desc 9 1
    if fld o.desc 8 1 = 0 then resetRing s k o i .delete
    else if !(s.cr i).exists_ then finishOp s k changedSince
    else if ((List.range 32).any fun j => (s.sr j).exists_ && decide ((s.sr j).homeCr = i)) ||
        (s.opList.any fun q => decide (q.2.crIndex = i)) then finishOp s k (Result.refused 0x12 0x23)
    else finishOp (s.setCr i Reset.cplRing) k Result.ok)

end Sys2Proof.Machine
end

