-- ==== Sys2Proof/Machine/Data.lean ====
section
/-! DEFINITION. The data movers: COPY, FILL, CONVERT and HISTOGRAM_READ (04 R106, R107, R109, R116; 08 R219, R231). -/

namespace Sys2Proof.Machine
open Sys2Proof

/-- What a series of accesses of an operation comes to: the operation with its progress, the device address of the
access last tried, and how that access went. -/
structure Run where
  op : Op
  addr : Nat
  out : Access Unit

/-- A run that is served and complete. -/
def Run.done (o : Op) (s : State) : Run := { op := o, addr := 0, out := .ok () s }

/-- The DETAIL of a failed access: an uncorrectable line of HBM or of the operand store is reported at its memory, every
other failure at the agent that made the access (19 R515). -/
def failResult (s : State) (loc : W16) (status code : Byte) (addr progress : Nat) : Result :=
  Result.fault status code (if code = 0x20 then memLocation s addr else loc) addr progress

/-- What becomes of the operation in entry k after a run: it completes, waits with what it has done, or faults (R116). -/
def endRun (k : Nat) (r : Run) : State :=
  match r.out with
  | .ok _ s => finishOp (saveOp s k r.op) k Result.ok
  | .wait s => saveOp s k r.op
  | .fail st c s => finishOp (saveOp s k r.op) k (failResult s (opLocation r.op) st c r.addr r.op.progress)

/-- The agent that performs an operation, with the errors that its command meets; a copy engine, a convert engine
and the readout reach HBM for kernels, the operand store and the host windows (01 R21, 04 R116). -/
def moverAgent (s : State) (o : Op) (ecc : List Ecc) (hostErr : Option (Nat × Byte × Byte) := none) : Agent :=
  { who := .op o.order, pasid := s.opPasid o, reach := [.kernels, .operand, .host], loc := opLocation o, relaxed := true,
    ecc := ecc, hostErr := hostErr }

/-- Write bytes within one line for an operation whose progress then advances by `n`. -/
def moverWrite (s : State) (ag : Agent) (o : Op) (a : Nat) (data : List Byte) (n : Nat) : Run :=
  match busWrite s ag a data with
  | .ok _ s1 =>
    { op := { o with progress := o.progress + n, flush := noteFlush s1 o.flush (a + data.length - 1) }
      addr := a, out := .ok () s1 }
  | .wait s1 => { op := o, addr := a, out := .wait s1 }
  | .fail st c s1 => { op := o, addr := a, out := .fail st c s1 }

/-! ### COPY and FILL -/

/-- COPY from PROGRESS on: row i, byte b at each turn, one access of at most the rest of the source line, of the
destination line and of the row (R106, R116). -/
def copyLoop : Nat → State → Agent → Op → Run
  | 0, s, _, o => Run.done o s
  | fuel + 1, s, ag, o =>
    let rowBytes := fld o.desc 24 4
    if rowBytes * fld o.desc 28 4 ≤ o.progress then Run.done o s
    else
      let i := o.progress / rowBytes
      let b := o.progress % rowBytes
      let src := (fld o.desc 8 8 + i * fld o.desc 32 8 + b) % 2 ^ 64
      let dst := (fld o.desc 16 8 + i * fld o.desc 40 8 + b) % 2 ^ 64
      let n := linePart src (linePart dst (rowBytes - b))
      match busRead s ag src n with
      | .wait s1 => { op := o, addr := src, out := .wait s1 }
      | .fail st c s1 => { op := o, addr := src, out := .fail st c s1 }
      | .ok bs s1 =>
        let r := moverWrite s1 ag o dst bs n
        match r.out with
        | .ok _ s2 => copyLoop fuel s2 ag r.op
        | _ => r

/-- What a COPY does from its progress on. -/
def copyRun (s : State) (o : Op) (ag : Agent) : Run :=
  copyLoop (fld o.desc 28 4 * (fld o.desc 24 4 / 32 + 4)) s ag o

/-- COPY: ROWS rows of ROW_BYTES from SRC to DST in ascending order (R106). `ecc` are the errors that its reads of device
memory detect. -/
def execCopy (k : Fin 512) (ecc : List Ecc) (s : State) : Host.Outcome State Fault Refusal :=
  .next (runOp s k 0x01 fun s o =>
    endRun k (copyRun s o (moverAgent s o ecc)))

/-- Bytes of PATTERN from address a on (Table 4.4): the byte at an address is PATTERN byte (address mod 8). -/
def patternBytes (pattern : BitVec 64) (a n : Nat) : List Byte :=
  (List.range n).map fun j => pattern.extractLsb' (8 * ((a + j) % 8)) 8

/-- FILL from PROGRESS on, one access of at most a line each turn (R106, R116). -/
def fillLoop : Nat → State → Agent → Op → Run
  | 0, s, _, o => Run.done o s
  | fuel + 1, s, ag, o =>
    let len := fld o.desc 16 8
    if len ≤ o.progress then Run.done o s
    else
      let a := fld o.desc 8 8 + o.progress
      let n := linePart a (len - o.progress)
      let r := moverWrite s ag o a (patternBytes (BitVec.ofNat 64 (fld o.desc 24 8)) a n) n
      match r.out with
      | .ok _ s1 => fillLoop fuel s1 ag r.op
      | _ => r

/-- FILL: LENGTH bytes of PATTERN at DST in ascending address order (R106). -/
def execFill (k : Fin 512) (ecc : List Ecc) (s : State) : Host.Outcome State Fault Refusal :=
  .next (runOp s k 0x03 fun s o => endRun k (fillLoop (fld o.desc 16 8 / 64 + 2) s (moverAgent s o ecc) o))

/-! ### CONVERT -/

/-- The fields of a CONVERT (Table 4.4). -/
structure ConvertJob where
  src : Nat
  dst : Nat
  srcScales : Nat
  dstScales : Nat
  count : Nat
  srcFmt : Nat
  dstFmt : Nat
  round : Nat
  amax : Nat
  scale : W32
  seed : Nat

/-- The fields of a CONVERT descriptor (Table 4.4). -/
def convertJob (d : BitVec 512) : ConvertJob :=
  { src := fld d 8 8, dst := fld d 16 8, srcScales := fld d 24 8, dstScales := fld d 32 8, count := fld d 40 4,
    srcFmt := fld d 44 1, dstFmt := fld d 45 1, round := fld d 46 1, amax := fld d 47 1,
    scale := BitVec.ofNat 32 (fld d 48 4), seed := fld d 52 4 }

/-- Whether a conversion copies integers and ignores SCALE (R219). -/
def ConvertJob.intCopy (j : ConvertJob) : Bool := decide (10 ≤ j.srcFmt ∧ 10 ≤ j.dstFmt)

/-- Read n bytes from a on, one access per line, with the address of the access last tried. -/
def readRun : Nat → State → Agent → Nat → Nat → Nat × Access (List Byte)
  | 0, s, _, a, _ => (a, .ok [] s)
  | fuel + 1, s, ag, a, n =>
    if n = 0 then (a, .ok [] s)
    else
      let k := linePart a n
      match busRead s ag a k with
      | .ok bs s1 =>
        match readRun fuel s1 ag (a + k) (n - k) with
        | (b, .ok rest s2) => (b, .ok (bs ++ rest) s2)
        | x => x
      | x => (a, x)

/-- Elements of a format that are packed together into whole bytes: four of 6 bits, two of 4 bits. -/
def packGroup (fmt : Nat) : Nat := match fmtBits fmt with | 6 => 4 | 4 => 2 | _ => 1

/-- Read the n elements at index i of a run, whole packed groups at a time (R210, R116). -/
def readElems (s : State) (ag : Agent) (base fmt i n : Nat) : Nat × Access (List Nat) :=
  let w := fmtBits fmt
  let g := packGroup fmt
  let i0 := i - i % g
  let m := (n + i % g + g - 1) / g * g
  match readRun (w * m / 512 + 2) s ag (base + w * i0 / 8) (w * m / 8) with
  | (a, .ok bs s1) => (a, .ok (((unpackElems w m bs).drop (i % g)).take n) s1)
  | (a, .wait s1) => (a, .wait s1)
  | (a, .fail st c s1) => (a, .fail st c s1)

/-- The exact values of the n elements at index i of a source, all of one MX block (R219, R211). -/
def sourceVals (s : State) (ag : Agent) (j : ConvertJob) (i n : Nat) : Nat × Access (List Val) :=
  match readElems s ag j.src j.srcFmt i n with
  | (a, .wait s1) => (a, .wait s1)
  | (a, .fail st c s1) => (a, .fail st c s1)
  | (a, .ok xs s1) =>
    if isMxFmt j.srcFmt then
      let sa := j.srcScales + i / 32
      match busRead s1 ag sa 1 with
      | .ok bs s2 => (sa, .ok (xs.map fun x => decodeMx j.srcFmt x (bytesToNat bs)) s2)
      | .wait s2 => (sa, .wait s2)
      | .fail st c s2 => (sa, .fail st c s2)
    else (a, .ok (xs.map (decodeElem j.srcFmt)) s1)

/-- Destination bytes before element i. -/
def ConvertJob.offset (j : ConvertJob) (i : Nat) : Nat := fmtBits j.dstFmt * i / 8

/-- Elements handled as one piece from element i on: a whole block for an MX destination, else as many as lie in one
access of the destination, within the block and the run. -/
def pieceLen (j : ConvertJob) (i : Nat) : Nat :=
  if isMxFmt j.dstFmt then 32
  else
    let w := fmtBits j.dstFmt / 8
    max 1 (min (32 - i % 32) (min (j.count - i) ((64 - (j.dst + w * i) % 64) / w)))

/-- The product with SCALE, exact (R219, step 3); a copy of integers ignores SCALE. -/
def ConvertJob.scaled (j : ConvertJob) (v : Val) : Val := if j.intCopy then v else v.mul (val32 j.scale)

/-- The destination bytes of a piece from element i on and, for an MX destination, its scale byte (R219, step 4). CONVERT
always saturates (R216). -/
def destBytes (j : ConvertJob) (i : Nat) (vs : List Val) : List Byte × Option Byte :=
  let mode (e : Nat) := roundOf j.round j.seed (i + e)
  if isMxFmt j.dstFmt then
    let b := mxBlock j.dstFmt mode (vs.map j.scaled)
    (packElems (fmtBits j.dstFmt) b.1, some (BitVec.ofNat 8 b.2))
  else (packElems (fmtBits j.dstFmt) (vs.mapIdx fun e v => encodeElem j.dstFmt (mode e) true (j.scaled v)), none)

/-- Offer a tap to the amax of set n (R230). -/
def offerTap (s : State) (n : Nat) (tap : W32) : State :=
  let h := vget s.finish.hist n histClear
  s.setFinish { s.finish with hist := vset s.finish.hist n { h with amax := amaxOffer h.amax tap } }

/-- Whether bytes within one line could be written now, without writing them: the refusals and waits of a write. -/
def busProbe (s : State) (ag : Agent) (a n : Nat) : Access Unit :=
  if !(ag.reach.any fun r => s.inRegion a n r) then refuse s ag 0x21 0x10 a
  else if s.region a = .host then
    match translate s ag (a - 0xC00000000000) true with
    | .ok t s1 => if s1.link.l2Host.any fun p => p.1 = t / 64 then .wait s1 else .ok () s1
    | .wait s1 => .wait s1
    | .fail st c s1 => .fail st c s1
  else
    match awaitLine s ag.who (a / 64) with
    | some s1 => .wait s1
    | none => if watchRoom s (a / 64) then .ok () s else .wait (joinHome s ag.who (a / 64))

/-- Probe n bytes from a on, line by line. -/
def probeRun : Nat → State → Agent → Nat → Nat → Nat × Access Unit
  | 0, s, _, a, _ => (a, .ok () s)
  | fuel + 1, s, ag, a, n =>
    if n = 0 then (a, .ok () s)
    else
      match busProbe s ag a (linePart a n) with
      | .ok _ s1 => probeRun fuel s1 ag (a + linePart a n) (n - linePart a n)
      | x => (a, x)

/-- Write an MX block at a and its scale byte at sa, both or neither (R116). -/
def writeBlock (s : State) (ag : Agent) (o : Op) (a sa : Nat) (bs : List Byte) (x : Byte) : Run :=
  match probeRun 3 s ag a bs.length with
  | (_, .wait s1) => { op := o, addr := a, out := .wait s1 }
  | (_, .fail st c s1) => { op := o, addr := a, out := .fail st c s1 }
  | (_, .ok _ s1) =>
    match busProbe s1 ag sa 1 with
    | .wait s2 => { op := o, addr := sa, out := .wait s2 }
    | .fail st c s2 => { op := o, addr := sa, out := .fail st c s2 }
    | .ok _ s2 =>
      match busWriteAll s2 ag a bs with
      | (_, .ok _ s3) =>
        match busWrite s3 ag sa [x] with
        | .ok _ s4 =>
          { op := { o with progress := o.progress + bs.length
                           flush := noteFlush s4 (noteWrite s4 o.flush a bs.length) sa }
            addr := sa, out := .ok () s4 }
        | _ => { op := o, addr := sa, out := .wait s2 }
      | _ => { op := o, addr := a, out := .wait s2 }

/-- Write the bytes of the piece from element i on: a block with its scale, or the bytes of the piece that are not written
yet, access by access. -/
def writePiece (s : State) (ag : Agent) (o : Op) (j : ConvertJob) (i : Nat) (p : List Byte × Option Byte) : Run :=
  match p.2 with
  | some x => writeBlock s ag o (j.dst + j.offset i) (j.dstScales + i / 32) p.1 x
  | none =>
    let a := j.dst + o.progress
    let w := busWriteAll s ag a (p.1.drop (o.progress - j.offset i))
    { op := { o with progress := o.progress + w.1
                     flush := noteWrite s o.flush a w.1 }
      addr := a + w.1, out := w.2 }

/-- CONVERT piece by piece. `aux` is the next element plus 2^40 times the largest tap of its group of 64 so far; the
offer is made when the group's last element is converted (R219, R230). -/
def convertLoop : Nat → State → Agent → ConvertJob → Op → Run
  | 0, s, _, _, o => Run.done o s
  | fuel + 1, s, ag, j, o =>
    let i := o.aux % 2 ^ 40
    if j.count ≤ i then Run.done o s
    else
      let n := pieceLen j i
      match sourceVals s ag j i n with
      | (a, .wait s1) => { op := o, addr := a, out := .wait s1 }
      | (a, .fail st c s1) => { op := o, addr := a, out := .fail st c s1 }
      | (_, .ok vs s1) =>
        let r := writePiece s1 ag o j i (destBytes j i vs)
        match r.out with
        | .ok _ s2 =>
          let tap := (vs.map rne32).foldl amaxOffer (BitVec.ofNat 32 (o.aux / 2 ^ 40))
          let close := decide ((i + n) % 64 = 0 ∨ j.count ≤ i + n)
          let s3 := if close && j.amax.testBit 7 then offerTap s2 (j.amax % 16) tap else s2
          convertLoop fuel s3 ag j { r.op with aux := i + n + (if close then 0 else 2 ^ 40 * tap.toNat) }
        | _ => r

/-- What a CONVERT does from its progress on. -/
def convertRun (s : State) (o : Op) (ag : Agent) : Run :=
  convertLoop ((convertJob o.desc).count + 1) s ag (convertJob o.desc) o

/-- CONVERT of COUNT elements (R107, R219). -/
def execConvert (k : Fin 512) (ecc : List Ecc) (s : State) : Host.Outcome State Fault Refusal :=
  .next (runOp s k 0x02 fun s o =>
    endRun k (convertRun s o (moverAgent s o ecc)))

/-! ### HISTOGRAM_READ -/

/-- The 320-byte record of set n (Table 8.9). -/
def histRecord (s : State) (n : Nat) (clear : Bool) : List Byte :=
  let h := vget s.finish.hist n histClear
  h.bins.toList.flatMap (fun (b : W32) => natToBytes b.toNat 4) ++ natToBytes h.amax.toNat 4 ++
    natToBytes (nextScale h.amax 448).toNat 4 ++ natToBytes (nextScale h.amax 57344).toNat 4 ++
    [BitVec.ofNat 8 n, (if h.satMap = 0 then 0 else 1) ||| (if clear then 2 else 0), (0 : Byte), 0] ++
    natToBytes h.satMap.toNat 8 ++ natToBytes h.elements.toNat 8 ++
    natToBytes (s.clocks.timebase.extractLsb' 10 32).toNat 4 ++ List.replicate 28 (0 : Byte)

/-- Clear set n (R231). -/
def clearHist (s : State) (n : Nat) : State :=
  s.setFinish { s.finish with hist := vset s.finish.hist n histClear }

/-- HISTOGRAM_READ: the record of the set as it stands when its last line is written, and the clear; a clear takes effect
too where the record cannot be written (R109, R231). -/
def execHistogramRead (k : Fin 512) (s : State) : Host.Outcome State Fault Refusal :=
  .next (runOp s k 0x1C fun s o =>
    let n := fld o.desc 8 1
    let clear := decide (fld o.desc 9 1 = 1)
    let a := fld o.desc 16 8
    let w := busWriteAll s (moverAgent s o []) a (histRecord s n clear)
    let cleared (s : State) := if clear then clearHist s n else s
    match w.2 with
    | .ok _ s1 => endRun k (Run.done { o with progress := 320, flush := noteWrite s1 o.flush a 320 } (cleared s1))
    | .wait s1 => saveOp s1 k o
    | .fail st c s1 =>
      endRun k { op := { o with progress := w.1, flush := noteWrite s1 o.flush a w.1 }, addr := a + w.1, out := .fail st c (cleared s1) })

end Sys2Proof.Machine
end

