-- ==== Sys2Proof/Machine/FirmwareOps.lean ====
section
/-! DEFINITION. Program flash, firmware images, the boot record, the boot monitor, the staging session and the
settings store (16_firmware_and_settings). -/

namespace Sys2Proof.Machine
open Sys2Proof

/-! ### Program flash (R385, R404) -/

/-- The word of program flash at a 17-bit word address; an erased word reads 0x3FFF. -/
def flashWord (m : Memory) (a : Nat) : BitVec 14 := 0x3FFF ^^^ BitVec.ofNat 14 (m.readLE (2 * a) 2)

/-- Store a word of program flash. -/
def setFlashWord (m : Memory) (a : Nat) (w : BitVec 14) : Memory := m.writeLE (2 * a) 2 (0x3FFF ^^^ w).toNat

/-- Program a word: an erased word takes the value; programming a word onto another one is left open (R412). -/
def programWord (m : Memory) (a : Nat) (w : BitVec 14) : Memory :=
  let old := flashWord m a
  setFlashWord m a (if old = 0x3FFF ∨ old = w then w else Cfg.flashClash old w)

/-- Erase the words [a, a + n). -/
def eraseFlash (m : Memory) (a n : Nat) : Memory := m.filter fun c => decide (c.1 < 2 * a ∨ 2 * (a + n) ≤ c.1)

/-- The base of a firmware slot in program flash (Table 16.1). -/
def slotBase (slot : Bool) : Nat := if slot then 0x11000 else 0x01000

/-- Words of a firmware slot (R404). -/
def slotWords : Nat := 61440

/-- The code bytes of an image of n words in a slot: two bytes a word, little-endian (R406). -/
def codeBytes (m : Memory) (slot : Bool) (n : Nat) : List Byte :=
  (List.range n).flatMap fun k => natToBytes (flashWord m (slotBase slot + k)).toNat 2

/-! ### Image headers (R406, R407, Table 16.3) -/

/-- Bytes [b, b + n) of a 512-byte header, little-endian. -/
def hfld (h : BitVec 4096) (b n : Nat) : Nat := (h.extractLsb' (8 * b) (8 * n)).toNat

/-- Bytes [b, b + n) of a 512-byte header as a list. -/
def hbytes (h : BitVec 4096) (b n : Nat) : List Byte := (List.range n).map fun i => h.extractLsb' (8 * (b + i)) 8

/-- The header with bytes 128-223 taken as 0: the first part of the signed message. -/
def signedHeader (h : BitVec 4096) : List Byte := hbytes h 0 128 ++ List.replicate 96 0 ++ hbytes h 224 288

/-- Whether a key slot counts as revoked: either die's fuse is blown (R408). -/
def keyRevoked (f : Firmware) (k : Nat) : Bool := (f.revoked ||| f.ohmimRevoked).getLsbD k

/-- The key and signature part of R407 for a header and the bytes after it. -/
def signatureOk (f : Firmware) (h : BitVec 4096) (body : List Byte) : Bool :=
  let k := hfld h 5 1
  decide (k ≤ 1) && decide (Cfg.sha384 (hbytes h 32 96) = vget f.keyHash k 0) && !keyRevoked f k &&
    Cfg.ecdsaP384 (hbytes h 32 96) (Cfg.sha384 (signedHeader h ++ body)) (hbytes h 128 96)

/-- The field part of R407 (Table 16.3). -/
def headerOk (h : BitVec 4096) : Bool :=
  let words := hfld h 12 4
  decide (hfld h 0 4 = 0x57465354) && decide (hfld h 4 1 = 1) && decide (hfld h 5 1 ≤ 1) &&
    !(hfld h 6 1).testBit (hfld h 5 1) && decide (32 ≤ words ∧ words ≤ slotWords ∧ words % 32 = 0) &&
    decide (hfld h 16 4 < words) && decide (hfld h 20 2 % 8 = 0)

/-- Whether the image of a header in a slot passes its check (R407); the image programmed at manufacture does (log
entry 3). -/
def imagePasses (f : Firmware) (flash : Memory) (slot : Bool) (h : BitVec 4096) : Bool :=
  headerOk h && (vget f.factory slot.toNat false || signatureOk f h (codeBytes flash slot (hfld h 12 4)))

/-! ### The boot record (R409) -/

/-- The winner taken when neither copy is valid (R409). -/
def bootDefault : BootRec :=
  { seq := 0, active := false, state := .confirmed, boots := 0, activeSettings := false, previous := false,
    previousSettings := false, rolledBack := false, recovery := false, actSeq := 0 }

/-- The winning boot record: the valid copy with the higher SEQ (R409). -/
def bootWinner (f : Firmware) : BootRec :=
  match vget f.boot 0 none, vget f.boot 1 none with
  | some a, some b => if a.seq < b.seq then b else a
  | some a, none => a
  | none, some b => b
  | none, none => bootDefault

/-- The index of the copy that a new record goes into: the one that does not hold the winner. -/
def bootOther (f : Firmware) : Nat :=
  match vget f.boot 0 none, vget f.boot 1 none with
  | some a, some b => if a.seq < b.seq then 0 else 1
  | some _, none => 1
  | _, _ => 0

/-- Write a boot record with SEQ one above the winner's (R409); in recovery it carries FLAGS.RECOVERY (R411). -/
def writeBoot (f : Firmware) (r : BootRec) : Firmware :=
  let n := (bootWinner f).seq + 1
  { f with boot := vset f.boot (bootOther f) (some { r with seq := n, recovery := f.recovery }) }

/-- The same for a record that makes an activation: its ACT_SEQ is its own SEQ (R413). -/
def writeActivation (f : Firmware) (r : BootRec) : Firmware :=
  writeBoot f { r with actSeq := (bootWinner f).seq + 1 }

/-! ### Settings slots (R417, R418) -/

/-- The settings items at their factory values (log entry 3). -/
def factorySettings : Settings := Reset.settings

/-- The content of a settings slot: its valid copy with the higher COPY_SEQ. -/
def slotContent (f : Firmware) (i : Bool) : Option SettingsCopy :=
  let v := vget f.slots i.toNat #v[none, none]
  match vget v 0 none, vget v 1 none with
  | some a, some b => if a.copySeq < b.copySeq then some b else some a
  | some a, none => some a
  | none, some b => some b
  | none, none => none

/-- Write new items into the copy of the active settings slot that does not hold the content (R417); nothing is written
while the settings are unreadable (R418). -/
def writeSettings (f : Firmware) (items : Settings) : Firmware :=
  let slot := (bootWinner f).activeSettings
  let v := vget f.slots slot.toNat #v[none, none]
  if f.unreadable then { f with inUse := items }
  else
    match slotContent f slot with
    | none => { f with inUse := items }
    | some c =>
      let other := if vget v 0 none = some c then 1 else 0
      { f with inUse := items,
               slots := vset f.slots slot.toNat (vset v other (some { c with copySeq := c.copySeq + 1, items := items })) }

/-- Erase both copies of a settings slot and write copy 0 with COPY_SEQ 1 (R417). -/
def migrateInto (f : Firmware) (slot : Bool) (format actSeq : Nat) (items : Settings) : Firmware :=
  { f with inUse := items, unreadable := false,
           slots := vset f.slots slot.toNat
             #v[some { format := format, actSeq := actSeq, copySeq := 1, items := items }, none] }

/-- The header record of a slot, 0 where it is not valid. -/
def slotHeader (f : Firmware) (slot : Bool) : BitVec 4096 := (vget f.headers slot.toNat none).getD 0

/-- What the image does with the settings at its start (R418). -/
def startSettings (f : Firmware) : Firmware :=
  let w := bootWinner f
  let h := slotHeader f w.active
  let migrated :=
    match slotContent f w.previousSettings with
    | some p =>
      if hfld h 24 2 ≤ p.format ∧ p.format ≤ hfld h 22 2 then
        some (migrateInto f w.activeSettings (hfld h 22 2) w.actSeq p.items)
      else none
    | none => none
  match slotContent f w.activeSettings with
  | some c =>
    if c.actSeq = w.actSeq then { f with inUse := c.items, unreadable := false }
    else migrated.getD (writeBoot { f with inUse := factorySettings, unreadable := true } { w with state := .rollback })
  | none => migrated.getD (writeBoot { f with inUse := factorySettings, unreadable := true } { w with state := .rollback })

/-! ### The boot monitor (R410, R411) -/

/-- Blow the fuses that a confirmed image's REVOKE names (R415). -/
def blowConfirmed (f : Firmware) : Firmware :=
  if (bootWinner f).state = .confirmed then
    { f with revoked := f.revoked ||| BitVec.ofNat 2 (hfld (slotHeader f (bootWinner f).active) 6 1) }
  else f

/-- The record part of R410: a rollback or one more entry in probation. The record of a rollback carries the ACT_SEQ of
the settings slot it makes active, which R418's last paragraph asks for (log entry 20). -/
def bootCount (f : Firmware) : Firmware :=
  let w := bootWinner f
  if w.state = .rollback ∨ (w.state = .probation ∧ w.boots = 3) then
    writeBoot f { w with active := w.previous, activeSettings := w.previousSettings, previous := w.active,
                         previousSettings := w.activeSettings, state := .confirmed, boots := 0,
                         rolledBack := true,
                         actSeq := ((slotContent f w.previousSettings).map (·.actSeq)).getD w.actSeq }
  else if w.state = .probation then writeBoot f { w with boots := w.boots + 1 }
  else f

/-- Whether the header record of a slot is valid and the image in the slot passes R407. -/
def slotPasses (f : Firmware) (flash : Memory) (slot : Bool) : Bool :=
  match vget f.headers slot.toNat none with
  | none => false
  | some h => imagePasses f flash slot h

/-- The boot monitor's work at a management reset (R410), and what the image does with its settings and its revocation
bits once entered (R412, R415, R418). -/
def bootMonitor (f : Firmware) (flash : Memory) : Firmware :=
  let f0 := bootCount f
  let w := bootWinner f0
  let enter (g : Firmware) : Firmware :=
    let g1 := blowConfirmed (startSettings { g with recovery := false })
    if g1.session.target = (bootWinner g1).active then { g1 with session := { g1.session with state := .none } } else g1
  if slotPasses f0 flash w.active then enter f0
  else if slotPasses f0 flash (!w.active) then
    enter (writeBoot f0 { w with active := !w.active, state := .confirmed, boots := 0 })
  else { f0 with recovery := true }

/-! ### Staging (R412) -/

/-- Image bytes of a session (R406). -/
def sessionBytes (x : Session) : Nat := 512 + 2 * min x.codeWords slotWords

/-- The 64-byte units of a session's image. -/
def sessionUnits (x : Session) : Nat := (sessionBytes x + 63) / 64

/-- Put the bytes of a piece that fall below 512 into the session's header. -/
def headerPiece (h : BitVec 4096) : Nat → List Byte → BitVec 4096
  | _, [] => h
  | o, b :: bs =>
    headerPiece (if o < 512 then (h &&& ~~~(BitVec.ofNat 4096 0xFF <<< (8 * o))) ||| (b.setWidth 4096 <<< (8 * o)) else h)
      (o + 1) bs

/-- Program the code bytes of a piece, and whether some word clashed. `o` is even. -/
def codePiece (m : Memory) (slot : Bool) : Nat → List Byte → Bool → Memory × Bool
  | o, b0 :: b1 :: bs, bad =>
    if o < 512 then codePiece m slot (o + 2) bs bad
    else
      let a := slotBase slot + (o - 512) / 2
      let w := BitVec.ofNat 14 (b0.toNat + 256 * b1.toNat)
      let old := flashWord m a
      codePiece (programWord m a w) slot (o + 2) bs (bad || decide (old ≠ 0x3FFF ∧ old ≠ w))
  | _, _, bad => (m, bad)

/-- Whether a piece opens a session: it covers image byte 0 and none is OPEN (R412). -/
def pieceOpens (f : Firmware) (o len : Nat) : Bool := decide (o = 0 ∧ 0 < len ∧ f.session.state ≠ .open)

/-- Open a session: the target slot, its header record and the session record are erased (R412). -/
def openSession (f : Firmware) (flash : Memory) (pldm : Bool) (data : List Byte) : Firmware × Memory :=
  let target := !(bootWinner f).active
  ({ f with
      headers := vset f.headers target.toNat none
      factory := vset f.factory target.toNat false
      session := { state := .open, pldm := pldm, target := target, codeWords := bytesToNat ((data.drop 12).take 4),
                   header := 0, units := 0 } },
   eraseFlash flash (slotBase target) slotWords)

/-- The units that a piece covers. -/
def unitMask (o len : Nat) : BitVec 2048 :=
  (List.range ((len + 63) / 64)).foldl (fun m i => m ||| BitVec.twoPow 2048 (o / 64 + i)) 0

/-- One piece of an image from one of the two paths (R412). -/
def stagePiece (f : Firmware) (flash : Memory) (pldm : Bool) (o : Nat) (data : List Byte) : Firmware × Memory :=
  if (bootWinner f).state = .probation then (f, flash)
  else
    let p := if pieceOpens f o data.length then openSession f flash pldm data else (f, flash)
    let x := p.1.session
    if x.state ≠ .open ∨ x.pldm ≠ pldm ∨ sessionBytes x < o + data.length then p
    else
      let q := codePiece p.2 x.target o data false
      let units := x.units ||| unitMask o data.length
      let st : SessionState :=
        if q.2 then .broken
        else if (List.range (sessionUnits x)).all units.getLsbD then .complete else .open
      ({ p.1 with session := { x with header := headerPiece x.header o data, units := units, state := st } }, q.1)

/-! ### Activation and confirmation (R413, R415) -/

/-- Step 1 of R413: the refusal code, if any: 0x24 not COMPLETE, 0x30 fails R407. -/
def activateCheck (f : Firmware) (flash : Memory) : Option Nat :=
  if f.session.state ≠ .complete then some 0x24
  else if imagePasses f flash f.session.target f.session.header then none else some 0x30

/-- Step 2 of R413: the header record of the target. -/
def writeHeader (f : Firmware) : Firmware :=
  { f with headers := vset f.headers f.session.target.toNat (some f.session.header) }

/-- Steps 3 and 4 of R413: the boot record, and the session closed. -/
def activate (f : Firmware) : Firmware :=
  let w := bootWinner f
  let g := writeActivation f
    { w with active := f.session.target, activeSettings := !w.activeSettings, previous := w.active,
             previousSettings := w.activeSettings, state := .probation, boots := 0, rolledBack := false }
  { g with session := { g.session with state := .none } }

/-- Step 1 of R415: whether FW_CONFIRM is refused. -/
def confirmRefused (f : Firmware) (withDefaults : Bool) : Bool :=
  decide ((bootWinner f).state = .confirmed) || (f.unreadable && !withDefaults)

/-- Steps 1 to 3 of R415. -/
def confirm (f : Firmware) (withDefaults : Bool) : Firmware :=
  let w := bootWinner f
  let f1 :=
    if f.unreadable && withDefaults then
      migrateInto f w.activeSettings (hfld (slotHeader f w.active) 22 2) w.actSeq factorySettings
    else f
  blowConfirmed (writeBoot f1 { w with state := .confirmed, boots := 0 })

/-! ### FW_STATUS and the settings image (Table 16.6, Table 17.6) -/

/-- STATE of a boot record as a number (Table 16.4). -/
def BootState.code : BootState → Nat
  | .confirmed => 0
  | .probation => 1
  | .rollback => 2

/-- SESSION of FW_STATUS as a number (Table 16.6). -/
def SessionState.code : SessionState → Nat
  | .none => 0
  | .open => 1
  | .complete => 2
  | .broken => 3

/-- Units still to receive, in thousands, rounded up. -/
def unitsMissingK (x : Session) : Nat :=
  if x.state = .none then 0
  else (((List.range (sessionUnits x)).filter fun u => !x.units.getLsbD u).length + 999) / 1000

/-- The FW_STATUS value that the Jiman sends (Table 16.6). -/
def fwStatus (f : Firmware) : W64 :=
  let w := bootWinner f
  BitVec.ofNat 64 (w.active.toNat + 2 * w.state.code + 8 * (w.boots % 4) + 32 * f.session.state.code +
    128 * f.session.pldm.toNat + 256 * f.unreadable.toNat + 512 * w.rolledBack.toNat + 1024 * f.revoked.toNat +
    4096 * (unitsMissingK f.session % 512) + 2 ^ 32 * hfld (slotHeader f w.active) 8 4)

/-- Payload bytes 16-63 of a RESET_NOTICE: the revocation bits and the settings image (R408, Table 17.6). -/
def noticeBytes (f : Firmware) : List Byte :=
  let x := f.inUse
  natToBytes f.revoked.toNat 1 ++ natToBytes x.keepEnabled.toNat 1 ++ natToBytes x.bar4Enc 1 ++
    natToBytes x.window.toNat 8 ++ natToBytes x.lanes.toNat 2 ++ natToBytes x.uuid.toNat 16 ++ List.replicate 19 0

/-- The settings image that a RESET_NOTICE message carries; the SMBus address does not cross. -/
def imageOf (m : BitVec 512) (smbus : BitVec 7) : Settings :=
  { keepEnabled := (fld m 17 1).testBit 0, bar4Enc := fld m 18 1, window := BitVec.ofNat 64 (fld m 19 8),
    lanes := BitVec.ofNat 16 (fld m 27 2), uuid := BitVec.ofNat 128 (fld m 29 16), smbus := smbus }

end Sys2Proof.Machine
end

