-- ==== Sys2Proof/Machine/GaugeOps.lean ====
section
/-! DEFINITION. The gauge's arithmetic, record selection, charger conditions and deliverable energy
(13_holdup_pack_gauge). -/

namespace Sys2Proof.Machine
open Sys2Proof

/-! ### Chemistry table 0x01 (R334, Table 13.2) -/

/-- OCV at table point j, in mV per cell. -/
def ocvPoint (j : Nat) : Nat :=
  [3300, 3550, 3640, 3700, 3750, 3800, 3870, 3950, 4020, 4070, 4100].getD j 4100

/-- Default Z200 for SoC band b and temperature band t, in milliohms. -/
def defaultZ200 (b t : Nat) : Nat :=
  ([[150, 62, 50], [138, 56, 45], [125, 50, 40], [115, 46, 37], [110, 44, 35], [105, 42, 34], [102, 41, 33],
    [100, 40, 32], [100, 40, 32], [100, 40, 32]].getD b [100, 40, 32]).getD t 32

/-- The temperature band: cold below 15, mid to 34, warm from 35 degrees C (R334). -/
def tempBand (t : Int) : Nat := if t < 15 then 0 else if t ≤ 34 then 1 else 2

/-- OCV of an integer SoC x in percent (R334). -/
def ocv (x : Nat) : Nat :=
  if x = 100 then ocvPoint 10
  else let j := x / 10
    ocvPoint j + (ocvPoint (j + 1) - ocvPoint j) * (x - 10 * j) / 10

/-- The SoC, in 0.1 %, of a rested cell voltage (R338). -/
def socOfVoltage (v : Nat) : Nat :=
  if v < 3300 then 0
  else if 4100 ≤ v then 1000
  else
    let j := ((List.range 10).find? fun j => decide (ocvPoint j ≤ v ∧ v < ocvPoint (j + 1))).getD 0
    100 * j + 100 * (v - ocvPoint j) / (ocvPoint (j + 1) - ocvPoint j)

/-! ### The record (R331-R333) -/

/-- A copy is valid (R332). -/
def PackRecord.valid (r : PackRecord) : Bool := r.magicOk && decide (r.version = 1) && r.crcOk && decide (r.chem = 1)

/-- FCC_COUNTS (R337). -/
def fccCounts (r : PackRecord) : Nat := r.fcc * 230400

/-- Put a record at the front of the mirror, which holds at most eight (R332). -/
def mirrorPut (m : List PackRecord) (r : PackRecord) : List PackRecord :=
  (r :: m.filter fun q => decide (q.serial ≠ r.serial)).take 8

/-- Select the record when a pack is read (R332); a serial that is EEPROM_RO uses its mirror (R333). -/
def selectRecord (g : Gauge) : Gauge :=
  let e := g.eeprom.bind fun r => if r.valid && !g.eepromRo.contains r.serial then some r else none
  let m := g.eeprom.bind fun r => g.mirror.find? fun q => decide (q.serial = r.serial) && q.valid
  match e, m with
  | some a, some b =>
    let r := if a.writeSeq < b.writeSeq then b else a
    { g with record := some r, mirror := mirrorPut g.mirror r }
  | some a, none => { g with record := some a, mirror := mirrorPut g.mirror a }
  | none, some b =>
    { g with record := some b, mirror := mirrorPut g.mirror b,
             eeprom := if g.eepromRo.contains b.serial then g.eeprom else some b }
  | none, none => { g with record := none }

/-- Write the record with WRITE_SEQ + 1, to the EEPROM and then to the mirror; the third consecutive failed read-back
sets EEPROM_RO for the serial (R333). `ok` is the read-back of the EEPROM. -/
def writeRecord (g : Gauge) (r : PackRecord) (ok : Bool) : Gauge :=
  let r1 := { r with writeSeq := r.writeSeq + 1, crcOk := true }
  let ro := g.eepromRo.contains r.serial
  let fails := if ro then g.writeFails else if ok then 0 else g.writeFails + 1
  { g with
    record := some r1
    mirror := mirrorPut g.mirror r1
    eeprom := if ro then g.eeprom else if ok then some r1 else some { r1 with crcOk := false }
    writeFails := fails
    eepromRo := if !ro && decide (3 ≤ fails) then g.eepromRo ++ [r.serial] else g.eepromRo
    dirty := false }

/-- The lower cell voltage of a sample. -/
def Sample.low (x : Sample) : Nat := min x.cell0 x.cell1

/-- Pack voltage of a sample: the sum of the cells. -/
def Sample.pack (x : Sample) : Nat := x.cell0 + x.cell1

/-- The internal SoC in 0.1 % (R337). -/
def sInt (g : Gauge) : Nat :=
  match g.record with
  | some r => if fccCounts r = 0 then 0 else 1000 * g.rc / fccCounts r
  | none => 0

/-! ### Anchors (R339) -/

/-- FCC after two anchors: it moves toward the measured value by at most 8 mAh within 200-420 (R339). -/
def newFcc (fcc s1 s2 : Nat) (dc : Int) : Nat :=
  let ds : Int := (s2 : Int) - s1
  if 400 ≤ ds.natAbs ∧ ((0 < ds ∧ 0 < dc) ∨ (ds < 0 ∧ dc < 0)) then
    let meas := dc.natAbs * 1000 / (ds.natAbs * 230400)
    let moved := if fcc < meas then min (fcc + 8) meas else max (fcc - 8) meas
    max 200 (min 420 moved)
  else fcc

/-- Take an anchor at SoC s2, and write the record when FCC changes (R333, R339). RC follows the SoC under the new FCC. -/
def takeAnchor (g : Gauge) (s2 : Nat) (eepromOk : Bool) : Gauge :=
  match g.record with
  | none => g
  | some r =>
    let fcc := match g.anchor with
      | none => r.fcc
      | some (s1, dc) => newFcc r.fcc s1 s2 dc
    let g1 := if fcc = r.fcc then g else writeRecord g { r with fcc := fcc } eepromOk
    let r1 := g1.record.getD r
    { g1 with anchor := some (s2, 0), rc := s2 * fccCounts r1 / 1000 }

/-! ### Impedance and energy (R342-R346) -/

/-- Entry (b, t) of the record's impedance table: Z10 and Z200. -/
def impEntry (r : PackRecord) (b t : Nat) : Nat × Nat := vget r.imp (3 * b + t) (0xFFFF, 0xFFFF)

/-- The resistance used for band b and temperature band t (R342). -/
def zUsed (r : PackRecord) (b t : Nat) : Nat :=
  let m := (impEntry r b t).2
  let d := (defaultZ200 b t * r.ageRatio + 1023) / 1024
  if m = 0xFFFF then d else max m d

/-- One step of the integer square root: bit k. -/
def isqrtGo (n : Nat) : Nat → Nat → Nat
  | 0, acc => acc
  | k + 1, acc => isqrtGo n k (if (acc + 2 ^ k) * (acc + 2 ^ k) ≤ n then acc + 2 ^ k else acc)

/-- The integer square root rounded down, for numbers below 2^64. -/
def isqrt (n : Nat) : Nat := isqrtGo n 32 0

/-- The energy in millijoules that the steps from SoC s downward deliver (R345). -/
def energySteps (r : PackRecord) (t : Nat) : Nat → Nat
  | 0 => 0
  | x + 1 =>
    let v := 2 * ocv x
    let res := (5 * zUsed r (min (x / 10) 9) t + 3) / 4
    if v * v < 4 * res * 98000 then 0
    else
      let i := (500 * (v - isqrt (v * v - 4 * res * 98000)) + (res - 1)) / res
      if 16333 < i then 0 else 90 * (r.fcc * 36000 / i) + energySteps r t x

/-- Whether the estimate is valid (R346). -/
def estimateValid (g : Gauge) : Bool :=
  match g.last with
  | none => false
  | some x => g.present && g.record.isSome && x.inRange && decide (-40 ≤ x.temp ∧ x.temp ≤ 125) && g.estimated

/-- The deliverable energy in joules after derating (R345, R346). -/
def deliverable (g : Gauge) : Nat :=
  match g.record, g.last with
  | some r, some x =>
    if estimateValid g then
      let e0 := energySteps r (tempBand x.temp) (min (sInt g) g.sRep / 10) / 1000
      let e1 := if g.unrested then e0 * 7 / 10 else e0
      if 65 ≤ x.temp ∨ x.temp < -20 then 0
      else if 45 < x.temp then e1 * (65 - x.temp).toNat / 20
      else e1
    else 0
  | _, _ => 0

/-- LIMIT in 4 KiB units from the deliverable energy (12 R310). -/
def dirtyLimit (e : Nat) : Nat := min (781250 * (4 * e - 675) / 450) 4194304

/-! ### The charger (R335, R336) -/

/-- CHARGE_LOCK as in effect: it holds for its serial (R336). -/
def chargeLocked (g : Gauge) : Bool :=
  match g.chargeLock, g.record with
  | some l, some r => decide (l = r.serial)
  | _, _ => false

/-- Whether every condition of a running charge holds (R335); the charger stays off until the first estimate. -/
def chargeAllowed (g : Gauge) (pwrLoss : Bool) : Bool :=
  match g.last with
  | none => false
  | some x =>
    !pwrLoss && g.present && g.record.isSome && g.estimated && decide (5 ≤ x.temp ∧ x.temp ≤ 44) && !g.inhibit &&
      !chargeLocked g && decide (g.imp = .idle)

/-- An impedance test may begin (R341), apart from the request or the time that asks for it. -/
def testAllowed (g : Gauge) (pwrLoss : Bool) : Bool :=
  match g.last with
  | none => false
  | some x =>
    !pwrLoss && g.present && g.record.isSome && g.estimated && decide (500 < sInt g) && decide (60 * 64 ≤ g.idleTime) &&
      decide (0 ≤ x.temp ∧ x.temp ≤ 55) && decide (g.imp = .idle)

/-- Whether a test is asked for: 24 h since the last one, none since insertion, or HP_CONTROL.TEST (R341). -/
def testWanted (g : Gauge) (tick : Nat) : Bool :=
  g.testAsked || (match g.lastTest with | none => true | some t => decide (86400000 ≤ tick - t))

/-- Abandon a test in progress: it is tried again after 1 h (R341). -/
def abandonTest (g : Gauge) (tick : Nat) : Gauge :=
  if g.imp = .idle then g else { g with imp := .idle, retryAt := some (tick + 3600000) }

/-- Pause the charge when a condition fails (R335). -/
def pauseCharge (g : Gauge) : Gauge :=
  if g.charge = .constantCurrent ∨ g.charge = .constantVoltage then { g with charge := .paused } else g

/-! ### Insertion and removal (R349, R350) -/

/-- Begin the insertion procedure: the record is read and the charger held off for four 1 Hz samples (R349). -/
def startInsertion (g : Gauge) : Gauge :=
  let g1 := selectRecord g
  { g1 with charge := .off, imp := .idle, last := none, estimated := false, validLatch := false, anchor := none,
            lastTest := none, retryAt := none, unrested := true, restTime := 0, idleTime := 0, energy := 0,
            inserting := some []
            chargeLock := match g.chargeLock, g1.record with
              | some l, some r => if l = r.serial then some l else none
              | x, _ => x }

/-- The gauge without a pack (R350). -/
def packGone (g : Gauge) : Gauge :=
  { g with present := false, fetClosed := false, record := none, eeprom := none, last := none, estimated := false,
           validLatch := false, charge := .off, imp := .idle, inserting := none, energy := 0 }

/-- RC from a SoC in 0.1 % (R338). -/
def rcOf (r : PackRecord) (s : Nat) : Nat := s * fccCounts r / 1000

end Sys2Proof.Machine
end

