-- ==== Sys2Proof/Machine/MgmtOps.lean ====
section
/-! DEFINITION. Shared operations of the management plane: the Breadcrumb log, hold-up assurance, management faults and
the management reset, the status words and the mailbox (14_management_plane). -/

namespace Sys2Proof.Machine
open Sys2Proof

/-! ### The Breadcrumb log and the first-fault record (R375, R376) -/

/-- Append a Breadcrumb entry; its event-specific DATA is a free value, since no layout is given (log entry 21). -/
def logCrumb (s : State) (loc : W16) (sev ev : Byte) : State :=
  let m := s.mgmt
  let c : Crumb := { tick := m.tick, location := loc, severity := sev, event := ev, data := s.free 64 }
  let kept := if m.crumbs.length < 4096 then m.crumbs else m.crumbs.drop 1
  (s.setMgmt { m with crumbs := kept ++ [c], crumbCount := m.crumbCount + 1 }).tookFree

/-- A fault of a management location: it is counted in the Breadcrumb log (R469); its EVENT is not given and is free. -/
def mgmtFaultEvent (s : State) (loc : W16) (sev : Byte) : State := logCrumb s loc sev (s.free 8)

/-- The first-fault record written while it is empty (R376): the first eight bytes of a Breadcrumb entry, its data (a free
value), the power-on count, zeros. -/
def writeFfr (s : State) (loc : W16) (sev ev : Byte) : State :=
  let m := s.mgmt
  match m.ffr with
  | some _ => s
  | none =>
    let head := m.tick.toNat + 2 ^ 32 * loc.toNat + 2 ^ 48 * sev.toNat + 2 ^ 56 * ev.toNat
    (s.setMgmt { m with ffr := some (BitVec.ofNat 512 (head + 2 ^ 64 * (s.free 64).toNat + 2 ^ 128 * m.powerOns.toNat)) }).tookFree

/-- A PLDM Type 2 threshold event, sent to the receiver if one is named (R372). `n` names the sensor. -/
def pldmEvent (s : State) (n : Nat) : State :=
  match s.mgmt.eventReceiver with
  | none => s
  | some _ => s.setMgmt { s.mgmt with side := s.mgmt.side ++ [{ kind := 1, data := [BitVec.ofNat 8 n] }] }

/-! ### Hold-up assurance (R16, R17, R369) -/

/-- The conditions of R16: a pack with a valid estimate, a self-test passed, no mismatch; none in lockout (R359). -/
def assureHolds (s : State) : Bool :=
  s.gauge.present && s.gauge.validLatch && s.mgmt.selftestOk && !s.mgmt.mismatch && !s.mgmt.assureLock

/-- MG_STATE.ASSURE takes a value, and a change sets QE_EVENT.ASSURE_CHANGE (R369). -/
def setAssure (s : State) (v : Bool) : State :=
  if s.mgmt.assure = v then s
  else
    let s1 := s.setMgmt { s.mgmt with assure := v }
    if s.running then deviceEvent s1 4 else s1

/-- HOLD_ASSURE falls: ASSURE falls with it, and the cache is write-through 16 FCLK cycles later (R16, R17, R369). -/
def assureFall (s : State) : State :=
  if s.mgmt.holdAssure then
    let s1 := s.setMgmt { s.mgmt with holdAssure := false, riseDue := false }
    let s2 := s1.setCache { s1.cache with assureFell := some s1.clocks.timebase }
    logCrumb (setAssure s2 false) 0 0 0x09
  else s.setMgmt { s.mgmt with riseDue := false }

/-- Drive HOLD_ASSURE low when a condition of R16 fails. -/
def checkAssure (s : State) : State := if assureHolds s then s else assureFall s

/-! ### The mailbox (R367, R368) -/

/-- A mailbox message (Table 14.12). `payload` is at most 56 bytes. -/
def mkMsg (kind opcode seq status code : Nat) (payload : List Byte) : MboxMsg :=
  BitVec.ofNat 512 (bytesToNat (natToBytes kind 1 ++ natToBytes opcode 1 ++ natToBytes seq 2 ++ natToBytes status 1 ++
    natToBytes code 1 ++ [0, 0] ++ payload.take 56))

/-- KIND of a message. -/
def msgKind (m : MboxMsg) : Nat := fld m 0 1

/-- Payload bytes 8-63 of a message. -/
def msgPayload (m : MboxMsg) : List Byte := (List.range 56).map fun i => m.extractLsb' (8 * (8 + i)) 8

/-- An ALERT message: location, severity and address in the payload (log entry 22). -/
def alertMsg (a : Alert) : MboxMsg :=
  mkMsg 0x04 0 0 0 0 (natToBytes a.location.toNat 2 ++ natToBytes a.severity.toNat 1 ++ List.replicate 5 0 ++
    natToBytes a.address.toNat 8)

/-- A REG_WRITE message: payload bytes 8-11 the value, byte 12 the register: 0 HP_CONTROL, 1 MG_FFR_CLEAR (log entry 22). -/
def regMsg (v : W32) (ffr : Bool) : MboxMsg := mkMsg 0x03 0 0 0 0 (natToBytes v.toNat 4 ++ natToBytes ffr.toNat 1)

/-- The first management operation that has something to send: OP_REQUEST, or the next DATA of FW_STAGE. -/
def nextOp (s : State) : Option (MgmtOp × MboxMsg) :=
  s.mgmt.ops.findSome? fun m =>
    match s.op m.entry with
    | none => none
    | some o =>
      if !m.sent then
        some ({ m with sent := true },
          mkMsg 0x01 o.opcode m.seq.toNat 0 0 ((List.range 56).map fun i => o.desc.extractLsb' (8 * (8 + i)) 8))
      else if o.opcode = 0x58 ∧ m.offset < fld o.desc 28 4 then
        let n := min 52 (fld o.desc 28 4 - m.offset)
        match busReadAll s { who := .op o.order, pasid := none, reach := [.kernels, .host], loc := 0x5010, relaxed := false, ecc := [] }
            (fld o.desc 16 6 + m.offset) n with
        | .ok data _ => some ({ m with offset := m.offset + n }, mkMsg 0x02 0 m.seq.toNat 0 0 (natToBytes m.offset 4 ++ data))
        | _ => none
      else none

/-- The data-plane side sends its next message when the buffer is free, in the order of R368; nothing before the first
RESET_NOTICE of the start. -/
def pumpToMg (s : State) : State :=
  let m := s.mgmt
  let put (s : State) (x : MboxMsg) : State :=
    (s.setMgmt { s.mgmt with toMg := some x }).setJiman { s.jiman with intPend := s.jiman.intPend ||| 2 }
  if m.toMg.isSome || m.awaitNotice || !s.running then s
  else
    match s.faults.alerts with
    | a :: as => put (s.setFaults { s.faults with alerts := as }) (alertMsg a)
    | [] =>
      match m.latchHp, m.latchFfr, m.doeOut with
      | some v, _, _ => put s (regMsg v false)
      | none, some v, _ => put s (regMsg v true)
      | none, none, f :: fs => put (s.setMgmt { m with doeOut := fs }) (mkMsg 0x05 0 0 0 0 f)
      | none, none, [] =>
        match nextOp s with
        | some (q, x) => put (s.setMgmt { m with ops := m.ops.map fun p => if p.seq = q.seq then q else p }) x
        | none => s

/-- The place of a message in the Jiman's order of sending (R368). -/
def msgRank (m : MboxMsg) : Nat :=
  match msgKind m with
  | 0x84 => 0
  | 0x83 => 1
  | 0x81 => 2
  | 0x02 => 2
  | _ => 3

/-- The Jiman side sends its next message when the buffer is free (R368); in recovery it sends none (R411). -/
def pumpToDp (s : State) : State :=
  let m := s.mgmt
  if m.toDp.isSome || s.firmware.recovery then s
  else
    match (List.range 4).findSome? fun r => m.outbox.find? fun x => msgRank x = r with
    | none => s
    | some x => s.setMgmt { m with toDp := some x, outbox := m.outbox.erase x }

/-- Queue a message of the Jiman. -/
def sendDp (s : State) (x : MboxMsg) : State := s.setMgmt { s.mgmt with outbox := s.mgmt.outbox ++ [x] }

/-- An ASSURE_NOTICE: payload byte 8 the state (log entry 22). -/
def assureNoticeMsg (v : Bool) : MboxMsg := mkMsg 0x83 0 0 0 0 (natToBytes v.toNat 1)

/-- A RESET_NOTICE: FW_STATUS in bytes 8-15, the revocation bits and the settings image after it (R408, R414, R440). -/
def resetNoticeMsg (s : State) : MboxMsg :=
  mkMsg 0x84 0 0 0 0 (natToBytes (fwStatus s.firmware).toNat 8 ++ noticeBytes s.firmware)

/-! ### The management reset (R353-R355, R379, R410) -/

/-- The registers of Table 21.10 that are not marked K, and the core, after a management reset (R379). The retained
region of data RAM is kept where its CRC holds. -/
def jimanReset (j : Jiman) (retainedOk : Bool) : Jiman :=
  { Reset.jiman with
    flash := j.flash
    ram := if retainedOk then
        j.ram.filter fun c => decide ((c.1 / 2 + 32768 - Cfg.retainedBase.toNat) % 32768 < 256)
      else [] }

/-- The management plane after a management reset begins (Table 14.1). -/
def mgmtCleared (m : Mgmt) (retainedOk : Bool) : Mgmt :=
  { m with
    mismatch := m.assureLock, selftestOk := false, selftestNo := 0, gated := false, resetting := true,
    resetAsked := false, selftestFailed := false, resets := satInc m.resets, tickHeld := false, tickRunning := false,
    toMg := none, toDp := none, awaitNotice := true, jop := none, replyReset := false, riseDue := false,
    outbox := [], retainedOk := retainedOk, eventReceiver := none, spdmVersion := false, spdmCaps := false,
    spdmAlgs := false, doe := [], inletOut := false, rails := [],
    polls := Vector.replicate 8 { fails := 0, responds := false, smartWarn := false, tempWarn := false, reply := 0 }
    sensors := m.sensors.map fun x => { x with fails := 0, retired := x.retired && retainedOk }
    retainedReply := if retainedOk then m.retainedReply else none
    exitTicks := if retainedOk then m.exitTicks else 0
    power := if retainedOk then m.power else [] }

/-- The gauge after a management reset begins: the charger pauses, a test is abandoned; where the retained region is lost
the insertion procedure follows (Table 14.1, R354). -/
def gaugeCleared (g : Gauge) (tick : Nat) (retainedOk : Bool) : Gauge :=
  let g1 := { abandonTest (pauseCharge g) tick with validLatch := false, fast := false }
  if retainedOk then g1 else if g1.present then startInsertion g1 else g1

/-- A management reset: assurance falls, the pair and its mailbox are cleared, and the boot monitor runs (R353-R355, R379,
R410). -/
def mgmtReset (s : State) (retainedOk : Bool) : State :=
  let s1 := assureFall s
  let s2 := s1.setJiman (jimanReset s1.jiman retainedOk)
  let s3 := s2.setMgmt (mgmtCleared s2.mgmt retainedOk)
  let s4 := s3.setGauge (gaugeCleared s3.gauge s3.mgmt.tick.toNat retainedOk)
  s4.setFirmware { bootMonitor s4.firmware s4.jiman.flash with pldm := .idle }

/-- Whether a fault at this tick locks assurance out: it is the third whose tick falls within 24 h of the first (R359). -/
def lockoutDue (kept : List W32) (tick : W32) : Bool :=
  match kept.reverse with
  | _ :: a :: _ => decide ((tick - a).toNat ≤ 86400000)
  | _ => false

/-- Count a management fault with its tick, and lock assurance out at the third within 24 h (R358, R359). -/
def countFault (s : State) : State :=
  let m := s.mgmt
  let lock := m.assureLock || lockoutDue m.faultTicks m.tick
  let kept := m.faultTicks ++ [m.tick]
  s.setMgmt { m with faultCounter := m.faultCounter + 1, assureLock := lock,
                     mismatch := m.mismatch || lock,
                     faultTicks := if 3 < kept.length then kept.drop 1 else kept }

/-- One of the first three faults of Table 14.3: assurance falls, writes are gated, the first-fault record is written if it
is empty, and a management reset is asserted. -/
def mgmtFault (s : State) (loc : W16) (retainedOk : Bool) : State :=
  let s1 := writeFfr (assureFall (countFault s)) loc 3 0x01
  mgmtReset (mgmtFaultEvent (s1.setMgmt { s1.mgmt with gated := true, mismatch := true }) loc 3) retainedOk

/-! ### Status words (R14, Table 14.6) -/

/-- The LIMIT field of a dirty-limit word. -/
def limitField (w : W64) : Nat := bitsOf w.toNat 0 23

/-- LIMIT as the data plane acts on it: 0 while the word is stale (R14). -/
def State.limit (s : State) : Nat := if s.mgmt.stale then 0 else limitField (vget s.mgmt.words 0 0)

/-- The events of a fall of LIMIT from `old` while armed (R311, R348). -/
def limitFell (s : State) (old : Nat) : State :=
  let warn := decide (262144 ≤ old) && decide (s.limit < 262144) && s.gauge.warnArmed
  let crit := decide (16384 ≤ old) && decide (s.limit < 16384) && s.gauge.critArmed
  let s1 := s.setGauge { s.gauge with warnArmed := s.gauge.warnArmed && !warn, critArmed := s.gauge.critArmed && !crit }
  let s2 := if warn && s.running then deviceEvent s1 5 else s1
  let s3 := if crit && s.running then deviceEvent s2 6 else s2
  let s4 := if warn then pldmEvent s3 0x30 else s3
  if crit then pldmEvent s4 0x31 else s4

/-- Store a status word k (0-4) as one atomic 64-bit store (R14). A dirty-limit word whose tick differs is fresh. -/
def publishWord (s : State) (k : Nat) (v : W64) : State :=
  let old := s.limit
  let before := vget s.mgmt.words 0 0
  let fresh := k = 0 ∧ bitsOf before.toNat 32 16 ≠ bitsOf v.toNat 32 16
  let s1 := s.setMgmt { s.mgmt with words := vset s.mgmt.words k v, stale := if fresh then false else s.mgmt.stale }
  if k = 0 then limitFell s1 old else s1

end Sys2Proof.Machine
end

