-- ==== Sys2Proof/Machine/Admin.lean ====
section
/-! DEFINITION. The operations of SR0 that the queue engine passes to the Tailstock through the mailbox (04 R113, 14 R367,
R370). -/

namespace Sys2Proof.Machine
open Sys2Proof

/-- The request of the operation in entry k is made to the Tailstock, with the next SEQ (R370). -/
def requestOp (s : State) (k : Nat) : State :=
  let m := s.mgmt
  pumpToMg (s.setMgmt { m with seq := m.seq + 1
                               ops := m.ops ++ [{ entry := k, seq := m.seq + 1, sent := false, offset := 0 }] })

/-- Whether the operation in entry k has made its request. -/
def requested (s : State) (k : Nat) : Bool := s.mgmt.ops.any fun q => q.entry = k

/-- Make the request of the operation in entry k, or send what is left to send. -/
def passOp (s : State) (k : Nat) : State := if requested s k then pumpToMg s else requestOp s k

/-- The queue engine as it reads a piece of an image. -/
def stageAgent (o : Op) (ecc : List Ecc) (hostErr : Option (Nat × Byte × Byte) := none) : Agent :=
  { who := .op o.order, pasid := none, reach := [.kernels, .host], loc := 0x5010, relaxed := false, ecc := ecc, hostErr := hostErr }

/-- The read of what is left of the piece that the FW_STAGE in entry k passes on. -/
def stageRead (s : State) (k : Nat) (o : Op) (ag : Agent) : Nat × Access (List Byte) :=
  let done := ((s.mgmt.ops.find? fun q => q.entry = k).map (·.offset)).getD 0
  let len := fld o.desc 28 4
  readRun (len / 64 + 2) s ag (fld o.desc 16 8 + done) (len - done)

/-- FW_STAGE in entry k ends with a fault at an address. -/
def stageFault (s : State) (k : Nat) (st c : Byte) (a : Nat) : State :=
  finishOp (s.setMgmt { s.mgmt with ops := s.mgmt.ops.filter fun q => q.entry ≠ k }) k (failResult s 0x5010 st c a 0)

/-- FW_STAGE passes a piece of the image to the Tailstock (R113, 16 R412). A byte of SRC that cannot be read ends it with
a fault; the piece is then not staged. `ecc` are the errors that the reads meet. -/
def execFwStage (k : Fin 512) (ecc : List Ecc) (s : State) : Host.Outcome State Fault Refusal :=
  .next (runOp s k 0x58 fun s o =>
    match stageRead s k o (stageAgent o ecc) with
    | (_, .ok _ s1) => passOp s1 k
    | (_, .wait s1) => s1
    | (a, .fail st c s1) => stageFault s1 k st c a)

/-- FW_ACTIVATE is passed to the Tailstock (R113, 16 R413). -/
def execFwActivate (k : Fin 512) (s : State) : Host.Outcome State Fault Refusal :=
  .next (runOp s k 0x59 fun s _ => passOp s k)

/-- FW_CONFIRM is passed to the Tailstock (R113, 16 R415). -/
def execFwConfirm (k : Fin 512) (s : State) : Host.Outcome State Fault Refusal :=
  .next (runOp s k 0x5A fun s _ => passOp s k)

/-- TELEMETRY_SNAPSHOT is passed to the Tailstock (R113, 14 Table 14.16). -/
def execTelemetrySnapshot (k : Fin 512) (s : State) : Host.Outcome State Fault Refusal :=
  .next (runOp s k 0x60 fun s _ => passOp s k)

end Sys2Proof.Machine
end

