-- ==== Sys2Proof/Machine/Gauge.lean ====
section
/-! DEFINITION. The commands of the gauge and the charger (13_holdup_pack_gauge). -/

namespace Sys2Proof.Machine
open Sys2Proof

/-- Raise an interrupt line of the Jiman (R400). -/
def raiseLine (s : State) (n : Nat) : State :=
  s.setJiman { s.jiman with intPend := s.jiman.intPend ||| BitVec.twoPow 8 n }

/-- The sample's part in the charge count, the residue and the anchors (R337, R339, R343). -/
def countCharge (g : Gauge) (x : Sample) (eepromOk : Bool) : Gauge :=
  match g.record with
  | none => g
  | some r =>
    if !g.estimated then g
    else
      let dq : Int := if g.fast then x.current else 64 * x.current
      let rc := (max 0 (min (fccCounts r : Int) ((g.rc : Int) + dq))).toNat
      let g1 := { g with rc := rc, anchor := g.anchor.map fun a => (a.1, a.2 + dq) }
      if dq < 0 then
        let res := r.residue + dq.natAbs
        if 73728000 ≤ res then writeRecord g1 { r with residue := res - 73728000, cycles := r.cycles + 1 } eepromOk
        else { g1 with record := some { r with residue := res }, dirty := true }
      else g1

/-- The sampling rate after a sample (R337): 64 Hz and the quiet samples counted toward 1 Hz. -/
def nextRate (g : Gauge) (x : Sample) (pwrLoss : Bool) : Gauge :=
  if 50 ≤ x.current.natAbs ∨ pwrLoss = true ∨ g.imp ≠ .idle then { g with fast := true, quiet := 0 }
  else if 64 ≤ g.quiet + 1 then { g with fast := false, quiet := g.quiet + 1 }
  else { g with quiet := g.quiet + 1 }

/-- The rest timers after a sample (R338, R341). -/
def restTimers (g : Gauge) (x : Sample) : Gauge :=
  let u := if g.fast then 1 else 64
  if x.current.natAbs < 20 then { g with restTime := g.restTime + u, idleTime := g.idleTime + u }
  else { g with restTime := 0, idleTime := 0 }

/-- The fourth sample of an insertion makes the first estimate (R349). -/
def insertionSample (g : Gauge) (x : Sample) : Gauge × Bool :=
  match g.inserting, g.record with
  | some l, some r =>
    let l1 := l ++ [x.low]
    if l1.length < 4 then ({ g with inserting := some l1 }, false)
    else
      let soc := socOfVoltage (l1.sum / 4)
      ({ g with inserting := none, estimated := true, rc := rcOf r soc, sRep := soc, unrested := true, anchor := none }, true)
  | _, _ => (g, false)

/-- The phase of the charger after a sample (R335). -/
def chargePhase (g : Gauge) (x : Sample) (pwrLoss : Bool) : Gauge :=
  if !chargeAllowed g pwrLoss then pauseCharge g
  else if g.charge = .constantCurrent ∧ 8200 ≤ x.pack then { g with charge := .constantVoltage }
  else g

/-- A test is abandoned when the current leaves the range around the test load, or on PWR_LOSS (R341). -/
def testGuard (g : Gauge) (x : Sample) (pwrLoss : Bool) (tick : Nat) : Gauge :=
  match g.imp with
  | .idle => g
  | .sampled200 _ _ _ => g
  | _ => if pwrLoss = true ∨ 20 < (x.current + 2000).natAbs then abandonTest g tick else g

/-- What one sample does to the gauge, and whether it makes the first estimate. -/
def sampleStep (g : Gauge) (x : Sample) (pwrLoss eepromOk : Bool) (tick : Nat) : Gauge × Bool :=
  let g1 := restTimers (countCharge g x eepromOk) x
  let p := insertionSample { g1 with last := some x } x
  let g2 := chargePhase (testGuard (nextRate p.1 x pwrLoss) x pwrLoss tick) x pwrLoss
  (if pwrLoss then { g2 with sRep := sInt g2 } else g2, p.2)

/-- The charger's outputs follow its phase (CHG_CTRL, Table 21.10; R335). -/
def driveCharger (s : State) : State :=
  let g := s.gauge
  let x := g.last.getD { cell0 := 0, cell1 := 0, current := 0, temp := 25, inRange := false }
  let on := decide (g.charge = .constantCurrent ∨ g.charge = .constantVoltage)
  let low := decide (5 ≤ x.temp ∧ x.temp ≤ 14)
  let bleed := decide (g.charge = .constantVoltage) && decide (15 < (x.cell0 : Int) - x.cell1 ∨ 15 < (x.cell1 : Int) - x.cell0)
  s.setJiman { s.jiman with
    chgCtrl := BitVec.ofNat 3 (on.toNat + 2 * (on && low).toNat + 4 * (on && bleed).toNat)
    testLoad := s.jiman.testLoad && decide (g.imp ≠ .idle) }

/-- GAUGE_SAMPLE (R337-R343, R349): one sample of the converters; `eepromOk` is the read-back of a record it writes. -/
def gaugeSample (s : State) (x : Sample) (eepromOk : Bool) : State :=
  if !s.gauge.present || !s.power.tailstock then s
  else
    let p := sampleStep s.gauge x s.power.pwrLoss eepromOk s.mgmt.tick.toNat
    let s1 := s.setGauge p.1
    let s2 := s1.setMgmt { s1.mgmt with resetAsked := s1.mgmt.resetAsked || p.2 }
    let s3 := s2.setJiman { s2.jiman with sampleSeq := s2.jiman.sampleSeq + 1 }
    driveCharger (raiseLine s3 3)

def execGaugeSample (x : Sample) (eepromOk : Bool) (s : State) : Host.Outcome State Fault Refusal :=
  .next (gaugeSample s x eepromOk)

/-- REST_CORRECTION (R338, R339): after 30 minutes at rest, SoC follows the lower cell's OCV and may update FCC. -/
def restCorrection (s : State) (eepromOk : Bool) : State :=
  match s.gauge.last with
  | none => s
  | some x =>
    if !s.gauge.estimated || decide (s.gauge.restTime < 30 * 60 * 64) then s
    else s.setGauge { takeAnchor s.gauge (socOfVoltage x.low) eepromOk with unrested := false, restTime := 0 }

def execRestCorrection (eepromOk : Bool) (s : State) : Host.Outcome State Fault Refusal := .next (restCorrection s eepromOk)

/-- CHARGE_START (R335): a charge starts below an internal SoC of 970, or a paused one resumes. -/
def chargeStart (s : State) : State :=
  let g := s.gauge
  if !chargeAllowed g s.power.pwrLoss then s
  else if g.charge = .paused then driveCharger (s.setGauge { g with charge := .constantCurrent })
  else if g.charge = .off ∧ sInt g < 970 then
    driveCharger (s.setGauge { g with charge := .constantCurrent, chargeStart := s.mgmt.tick.toNat })
  else s

def execChargeStart (s : State) : Host.Outcome State Fault Refusal := .next (chargeStart s)

/-- CHARGE_END (R335, R337, R339): the current in constant voltage falls below 20 mA; RC is full and an anchor is taken. -/
def chargeEnd (s : State) (eepromOk : Bool) : State :=
  match s.gauge.last with
  | none => s
  | some x =>
    if s.gauge.charge = .constantVoltage ∧ x.current < 20 then
      driveCharger (s.setGauge { takeAnchor s.gauge 1000 eepromOk with charge := .off })
    else s

def execChargeEnd (eepromOk : Bool) (s : State) : Host.Outcome State Fault Refusal := .next (chargeEnd s eepromOk)

/-- CHARGE_TIMEOUT (R336): the charge stops and is counted; a second timeout of the serial within 7 days locks it. -/
def chargeTimeout (s : State) : State :=
  let g := s.gauge
  match g.record with
  | none => s
  | some r =>
    if g.charge = .off then s
    else
      let tick := s.mgmt.tick.toNat
      let kept := (g.timeouts.filter fun t => t.2 = r.serial).map (·.1)
      let act := threshold 2 604800000 kept tick
      let others := g.timeouts.filter fun t => t.2 ≠ r.serial
      mgmtFaultEvent (driveCharger (s.setGauge { g with
        charge := .off
        timeouts := others ++ act.2.map fun t => (t, r.serial)
        chargeLock := if act.1 then some r.serial else g.chargeLock })) 0xA041 2

def execChargeTimeout (s : State) : Host.Outcome State Fault Refusal := .next (chargeTimeout s)

/-- Start an impedance test with V0 in mV (Table 13.3). -/
def startTest (s : State) (v0 : Nat) : State :=
  let g := s.gauge
  let s1 := s.setGauge { pauseCharge g with
    imp := .loaded v0, lastTest := some s.mgmt.tick.toNat, testAsked := false, retryAt := none, fast := true, quiet := 0 }
  let s2 := driveCharger s1
  s2.setJiman { s2.jiman with testLoad := true }

/-- IMPEDANCE_TEST_START (R341). -/
def impedanceTestStart (s : State) (v0 : Nat) : State :=
  if testAllowed s.gauge s.power.pwrLoss && testWanted s.gauge s.mgmt.tick.toNat && s.gauge.retryAt.isNone then startTest s v0
  else s

def execImpedanceTestStart (v0 : Nat) (s : State) : Host.Outcome State Fault Refusal := .next (impedanceTestStart s v0)

/-- IMPEDANCE_V10_SAMPLE (Table 13.3). -/
def impedanceV10Sample (s : State) (v10 : Nat) : State :=
  match s.gauge.imp with
  | .loaded v0 => s.setGauge { s.gauge with imp := .sampled10 v0 v10 }
  | _ => s

def execImpedanceV10Sample (v10 : Nat) (s : State) : Host.Outcome State Fault Refusal := .next (impedanceV10Sample s v10)

/-- IMPEDANCE_V200_SAMPLE (Table 13.3): the test load opens; the next tick stores the results. -/
def impedanceV200Sample (s : State) (v200 : Nat) : State :=
  match s.gauge.imp with
  | .sampled10 v0 v10 =>
    let s1 := s.setGauge { s.gauge with imp := .sampled200 v0 v10 v200 }
    s1.setJiman { s1.jiman with testLoad := false }
  | _ => s

def execImpedanceV200Sample (v200 : Nat) (s : State) : Host.Outcome State Fault Refusal := .next (impedanceV200Sample s v200)

/-- IMPEDANCE_RETRY (R341): one hour after an abandoned test, it is tried again. -/
def impedanceRetry (s : State) (v0 : Nat) : State :=
  match s.gauge.retryAt with
  | none => s
  | some _ => if testAllowed s.gauge s.power.pwrLoss then startTest s v0 else s

def execImpedanceRetry (v0 : Nat) (s : State) : Host.Outcome State Fault Refusal := .next (impedanceRetry s v0)

/-- PACK_INSERTION (R332, R349): presence asserts with the EEPROM as read; a record that is not valid is counted. A pack that is
inserted while the Tailstock has no power leaves its FET open and starts nothing (R460). -/
def packInsertion (s : State) (eeprom : Option PackRecord) : State :=
  if !s.power.tailstock then s.setGauge { packGone s.gauge with present := true, eeprom := eeprom }
  else
    let g := startInsertion { s.gauge with present := true, eeprom := eeprom, fetClosed := true, cutoff := false }
    let s1 := logCrumb (assureFall (raiseLine (driveCharger (s.setGauge g)) 3)) 0 0 0x08
    match g.record with
    | some _ => s1
    | none => mgmtFaultEvent s1 0xA040 2

def execPackInsertion (eeprom : Option PackRecord) (s : State) : Host.Outcome State Fault Refusal :=
  .next (packInsertion s eeprom)

/-- HP_EVENT_REARM (R348): LIMIT has stayed at or above the re-arm level for 1 s. -/
def hpEventRearm (s : State) (crit : Bool) : State :=
  if crit then
    if 20480 ≤ s.limit then s.setGauge { s.gauge with critArmed := true } else s
  else if 327680 ≤ s.limit then s.setGauge { s.gauge with warnArmed := true } else s

def execHpEventRearm (crit : Bool) (s : State) : Host.Outcome State Fault Refusal := .next (hpEventRearm s crit)

/-- A host write of HP_CONTROL: read back at once, latched, and sent to the Jiman (R368, R501). TEST reads 0. -/
def hpControlWrite (s : State) (v : W32) : State :=
  if !barReachable s then s else s.setMgmt { s.mgmt with hpReg := v &&& 2, latchHp := some (v &&& 3) }

/-- HP_CONTROL_TEST (R347): a write with TEST = 1, and CHARGE_INHIBIT as given. -/
def execHpControlTest (inhibit : Bool) (s : State) : Host.Outcome State Fault Refusal :=
  .next (hpControlWrite s (if inhibit then 3 else 1))

/-- CHARGE_INHIBIT (R347): a write with TEST = 0. -/
def execChargeInhibit (inhibit : Bool) (s : State) : Host.Outcome State Fault Refusal :=
  .next (hpControlWrite s (if inhibit then 2 else 0))

end Sys2Proof.Machine
end

