-- ==== Sys2Proof/Machine/Segments.lean ====
section
/-! DEFINITION. Segment slots and the checks of an access through one (05 Table 5.4, R141, R142). -/

namespace Sys2Proof.Machine
open Sys2Proof

/-- BASE as a device address (Table 5.4). -/
def segBase (g : Segment) : Nat := bitsOf g.toNat 6 42 * 64
/-- SIZE in bytes (Table 5.4). -/
def segSize (g : Segment) : Nat := bitsOf g.toNat 70 42 * 64
/-- TYPE: 0 and 3 are INVALID (Table 5.4). -/
def segType (g : Segment) : Nat := bitsOf g.toNat 112 2
def segRead (g : Segment) : Bool := g.getLsbD 114
def segWrite (g : Segment) : Bool := g.getLsbD 115
def segExec (g : Segment) : Bool := g.getLsbD 116
def segSOnly (g : Segment) : Bool := g.getLsbD 117

/-- The bits of a slot that hold fields; the reserved ones read 0 (Table 5.4). -/
def segMask : Segment := 0x003F_FFFF_FFFF_FFC0_0000_FFFF_FFFF_FFC0

/-- A slot of type DEVICE or HOST with rights 0 to 15 (Table 5.4). -/
def mkSegment (base size type rights : Nat) : Segment :=
  BitVec.ofNat 128 (base / 64 % 2 ^ 42 * 2 ^ 6 + size / 64 % 2 ^ 42 * 2 ^ 70 + type % 4 * 2 ^ 112 + rights % 16 * 2 ^ 114)

/-- The right that an access needs (R141). -/
inductive Need where
  | read | write | execute
  deriving DecidableEq, Repr

/-- Whether a slot grants a right. -/
def grants (g : Segment) : Need → Bool
  | .read => segRead g
  | .write => segWrite g
  | .execute => segExec g

/-- The sub-code of an absent right (R141). -/
def Need.sub : Need → Nat
  | .read => 2
  | .write => 3
  | .execute => 4

/-- Why an access fails a check of R141, and the device address once it is formed: cause and sub-code of Table 5.6. -/
structure SegFail where
  cause : Nat
  sub : Nat
  /-- The device address, for the map checks (Table 6.8). -/
  addr : Option Nat
  deriving DecidableEq, Repr

/-- The outcome of the checks: the device address, or why not. -/
inductive SegCheck where
  | ok (addr : Nat)
  | bad (f : SegFail)
  deriving DecidableEq, Repr

/-- Whether the bytes a … a + n - 1 touch the control window or the Spindle state store. -/
def touchesSystem (a n : Nat) : Bool :=
  decide (a < 0x800041000000 ∧ 0x800040000000 < a + n) || decide (a < 0x800084000000 ∧ 0x800080000000 < a + n)

/-- Whether the bytes a … a + n - 1 are all mapped, and none of them in the protected cache while the Keep is enabled
(R21). -/
def mapped (s : State) (a n : Nat) : Bool :=
  (([.kernels, .operand, .spindle, .control, .host] : List Region).any fun r => s.inRegion a n r)

/-- The checks of R141 in their order, on n bytes at an offset that must be a multiple of `align`. `kernel`
says whether the access is made at K, `det` whether R134 applies. -/
def segAccess (s : State) (g : Segment) (need : Need) (kernel det : Bool) (off n align : Nat) : SegCheck :=
  let fail (c x : Nat) := SegCheck.bad { cause := c, sub := x, addr := none }
  let a := segBase g + off
  if off % align ≠ 0 then fail 2 0
  else if segType g = 0 ∨ segType g = 3 then fail 5 1
  else if !grants g need then fail 5 need.sub
  else if kernel && segSOnly g then fail 5 5
  else if 2 ^ 64 ≤ off + n ∨ segSize g < off + n then fail 4 0
  else if kernel && touchesSystem a n then fail 5 6
  else if !mapped s a n then .bad { cause := 3, sub := 1, addr := some a }
  else if det && !s.inRegion a n .operand then .bad { cause := 3, sub := 5, addr := some a }
  else .ok a

end Sys2Proof.Machine
end

