-- ==== Sys2Proof/Machine/TileOps.lean ====
section
/-! DEFINITION. The tile instructions in the queue and on the ports: their fields, their row schedule, what each reads and
writes, and the fault record (07_lattice; 08 Table 8.4). -/

namespace Sys2Proof.Machine
open Sys2Proof

/-! ### Fields of a tile instruction (Table 7.3, Table 7.4) -/

/-- A field of the instruction word. -/
def TileInstr.fld (i : TileInstr) (lo n : Nat) : Nat := bitsOf i.word.toNat lo n

/-- The tile instructions that enter the queue (Table 7.5). -/
inductive TileKind where
  | load | store | mma | loadc | drain | save | restore | zero | fold | delay
  deriving DecidableEq, Repr

/-- What a tile instruction word is. -/
def TileInstr.kind (i : TileInstr) : TileKind :=
  match i.fld 26 6 with
  | 0x30 => .load
  | 0x31 => .store
  | 0x32 => .mma
  | 0x33 => .loadc
  | 0x34 => .drain
  | 0x35 => if i.fld 25 1 = 0 then .save else .restore
  | _ => if i.fld 22 4 = 0 then .zero else if i.fld 22 4 = 1 then .fold else .delay

/-- The row control word. -/
def TileInstr.control (i : TileInstr) : Nat :=
  match i.kind with
  | .load => i.rc.toNat
  | .store => i.rc.toNat
  | _ => i.rb.toNat

/-- FIRST of the row control word; 0 for the instructions that cover a whole tile or plane. -/
def TileInstr.first (i : TileInstr) : Nat :=
  match i.kind with
  | .loadc => 0 | .save => 0 | .restore => 0 | _ => i.control % 1024

/-- Whether TSAVE or TREST names an accumulator tile (KIND). -/
def TileInstr.isAcc (i : TileInstr) : Bool := decide (i.fld 24 1 = 1)

/-- The rows, lines or 1 KiB steps of the whole instruction. -/
def TileInstr.count (i : TileInstr) : Nat :=
  match i.kind with
  | .loadc => 1024
  | .save => if i.isAcc then 4096 else 1024
  | .restore => if i.isAcc then 4096 else 1024
  | .fold => 0
  | .delay => 0
  | _ => bitsOf i.control 10 11

/-- AFIRST or DFIRST. -/
def TileInstr.second (i : TileInstr) : Nat := bitsOf i.control 21 10

/-- The tile or plane that the instruction names first, as the index of Table 19.1: 0-7 ot, 8-11 at, 12-15 cp. -/
def TileInstr.tile (i : TileInstr) : Nat :=
  match i.kind with
  | .load => i.fld 23 3
  | .store => i.fld 23 3
  | .mma => 8 + i.fld 24 2
  | .loadc => 12 + i.fld 24 2
  | .drain => 8 + i.fld 24 2
  | .zero => 8 + i.fld 20 2
  | _ => if i.isAcc then 8 + i.fld 21 2 else i.fld 21 3

/-- Where a tile or plane begins in the tile memory. -/
def tileBase (t : Nat) : Nat := if t < 8 then t * 0x100000 else if t < 12 then (8 + 4 * (t - 8)) * 0x100000 else (12 + t) * 0x100000

/-- Where the scale store of plane k begins in the tile memory. -/
def scaleBase (k : Nat) : Nat := 28 * 0x100000 + k * 0x10000

/-- Row `r` of a tile or plane in the tile memory. -/
def rowBase (t r : Nat) : Nat := tileBase t + r * (if 8 ≤ t ∧ t < 12 then 4096 else 1024)

/-- The format that the instruction sets, and the tile or plane it sets it for, as the index of `fmts` (Table 7.5). -/
def TileInstr.setsFmt (i : TileInstr) : Option (Nat × Nat) :=
  match i.kind with
  | .load => some (i.fld 23 3, i.fld 16 4)
  | .loadc => some (8 + i.fld 24 2, i.fld 17 4)
  | .drain => if i.fld 23 1 = 1 then some (i.fld 20 3, i.rc.toNat % 16) else none
  | .restore => if i.isAcc then none else some (i.fld 21 3, i.fld 14 4)
  | _ => none

/-- The segment offset of the memory of the instruction. -/
def TileInstr.offset (i : TileInstr) : Nat := i.ra.toNat

/-- Bytes of memory of one row of a drain (R223). -/
def drainRow (fmt : Nat) : Nat := fmtBits fmt * 128

/-- Bytes of memory of one row (R190). -/
def TileInstr.rowBytes (i : TileInstr) : Nat :=
  match i.kind with
  | .load => if heldBits (i.fld 16 4) = fmtBits (i.fld 16 4) then 1024 else 768
  | .loadc => if heldBits (i.fld 17 4) = fmtBits (i.fld 17 4) then 1024 else 768
  | .drain => drainRow (i.rc.toNat % 16)
  | _ => 1024

/-- The distance of two rows in memory (R189). -/
def TileInstr.pitch (i : TileInstr) : Nat :=
  match i.kind with
  | .load => i.rb.toNat
  | .store => i.rb.toNat
  | .loadc => i.rb.toNat
  | _ => i.rowBytes

/-- The device address of row k of the instruction. -/
def TileInstr.rowAddr (i : TileInstr) (k : Nat) : Nat := segBase i.seg + i.offset + k * i.pitch

/-- The port of the instruction under a fold mode (Table 7.5, R198). -/
def TileInstr.port (i : TileInstr) (fold : Bool) : Port :=
  match i.kind with
  | .load => .l
  | .restore => .l
  | .store => .s
  | .save => .s
  | .loadc => .c
  | .drain => .d
  | .mma => .a (if fold then Fin.ofNat 4 (i.fld 17 2) else 0)
  | _ => .a 0

/-- The code of a port (Table 7.11). -/
def Port.code : Port → Nat
  | .a lane => lane.val * 32
  | .l => 1
  | .c => 2
  | .s => 3
  | .d => 4

/-- The location of a port (Table 19.1). -/
def Port.location : Port → W16
  | .a _ => 0x3020
  | .l => 0x3021
  | .c => 0x3022
  | .s => 0x3023
  | .d => 0x3024

/-- The scale stores that a TLOADC loads first, in cycles (Table 7.6). -/
def scaleCycles (fmt : Nat) : Nat :=
  match classOf fmt with
  | .mx8 => 32
  | .mx4 => 64
  | _ => 0

/-! ### A pass (R184-R186, R198) -/

def InFlight.word (f : InFlight) (lo n : Nat) : Nat := f.instr.fld lo n
/-- The operand tile and its format. -/
def InFlight.ot (f : InFlight) : Nat := f.word 21 3
def InFlight.fmtA (f : InFlight) : Nat := (vget f.fmts f.ot 3).toNat
/-- The quadrant of a pass. -/
def InFlight.quad (f : InFlight) : Nat := f.word 17 2
/-- Whether the pass is of a 16-bit class: a row takes two cycles (R187). -/
def InFlight.wide (f : InFlight) : Bool := decide (heldBits f.fmtA = 16)
/-- Cycles per row. -/
def InFlight.step (f : InFlight) : Nat := if f.wide then 2 else 1
/-- K of a row, and the half of it that a quadrant takes (Table 7.2, R198). -/
def InFlight.kMax (f : InFlight) : Nat := 8192 / heldBits f.fmtA / (if f.fold then 2 else 1)
/-- The first K value of the plane that the pass uses (Table 7.8). -/
def InFlight.kFirst (f : InFlight) : Nat := if f.fold && decide (2 ≤ f.quad) then f.kMax else 0
/-- The first column (Table 7.8). -/
def InFlight.nFirst (f : InFlight) : Nat := if f.fold && decide (f.quad % 2 = 1) then 512 else 0
/-- The columns of the pass. -/
def InFlight.nCount (f : InFlight) : Nat := if f.fold then 512 else 1024
/-- The plane of row r of the whole instruction (R186). -/
def InFlight.plane (f : InFlight) (r : Nat) : Nat :=
  if f.word 15 1 = 1 then f.tags.getD (r - f.instr.progress) 0 else f.word 19 2

/-! ### The row schedule (Table 7.6, R187, R199) -/

/-- A cycle, as the earliest and the latest in which it may fall; none is not fixed. -/
abbrev Span := Nat × Option Nat

/-- A cycle of an instruction: fixed for operand-store paths. -/
def InFlight.at (f : InFlight) (c : Nat) : Span :=
  if f.far then (f.issued, none) else (f.issued + c, some (f.issued + c))

/-- The cycle in which accumulator element (row r of the instruction, column n of the quadrant) is read and written. -/
def InFlight.accCycle (f : InFlight) (r n : Nat) : Nat :=
  f.issued + (if f.fold then 521 else 1033) + f.step * (r - f.instr.progress) + n

/-- Where in a row range a byte of the tile memory lies: tile, row and byte of the row. -/
def tileOf (x : Nat) : Nat × Nat × Nat :=
  let m := x / 0x100000
  if m < 8 then (m, x % 0x100000 / 1024, x % 1024)
  else if m < 24 then ((m - 8) / 4 + 8, (x - 8 * 0x100000) % 0x400000 / 4096, x % 4096)
  else (m - 12, x % 0x100000 / 1024, x % 1024)

/-- The cycle in which an instruction writes a byte of the tile memory, if it does. The scale store of a plane is written in the
s cycles before line 0; in which of them each byte is, the specification does not say (log entry 135). -/
def InFlight.writeSpan (f : InFlight) (x : Nat) : Option Span :=
  let i := f.instr
  let (t, row, b) := tileOf x
  let k := row - i.first
  let inRows := decide (i.first ≤ row ∧ i.progress ≤ k ∧ k < i.count)
  match i.kind with
  | .load => if t = i.tile && inRows then some (f.at (12 + (k - i.progress))) else none
  | .loadc =>
    let s := scaleCycles (i.fld 17 4)
    if t = i.tile && inRows then some (f.at (12 + s + (k - i.progress)))
    else if scaleBase (i.fld 24 2) ≤ x ∧ x < scaleBase (i.fld 24 2) + 0x10000 ∧ s ≠ 0 then
      some ((f.at 12).1, (f.at (11 + s)).2)
    else none
  | .mma =>
    let r := row - i.second
    let n := b / 4
    if t = i.tile ∧ i.second ≤ row ∧ i.progress ≤ r ∧ r < i.count ∧ f.nFirst ≤ n ∧ n < f.nFirst + f.nCount then
      let c := f.accCycle r (n - f.nFirst)
      some (c, some c)
    else none
  | .drain =>
    let d := row - i.second
    if i.fld 23 1 = 1 ∧ t = i.fld 20 3 ∧ i.second ≤ row ∧ i.progress ≤ d ∧ d < i.count then
      some (f.at (40 + (d - i.progress)))
    else none
  | .zero => if t = i.tile && inRows then some (f.at (4 + (k - i.progress))) else none
  | .restore =>
    if t ≠ i.tile then none
    else if i.isAcc then
      if 4 * row + 3 < i.progress then none else some (f.at (15 + (4 * row - i.progress)))
    else if row < i.progress then none else some (f.at (12 + (row - i.progress)))
  | _ => none

/-- The two quadrants that may accumulate into one element in one cycle (R200): whether f comes first. -/
def sharesColumns (f g : InFlight) : Bool :=
  decide (f.instr.kind = .mma ∧ g.instr.kind = .mma) && f.fold && g.fold && decide (f.quad % 2 = g.quad % 2) &&
    decide (f.quad ≠ g.quad)

/-- The free choice of R195 for one element: of record f at a cycle, of the element at a bit of the tile memory, against rival
number j (log entry 4). -/
def mixes (f : InFlight) (c x j : Nat) : Bool :=
  (Cfg.freeBits (2 ^ 80) f.free).getLsbD ((c * 0x10000000 + x) * 8192 + j)

/-- Bits of an element of the tile or store in which a byte lies, in the format that instruction f sees (R184, R195). -/
def InFlight.elemBits (f : InFlight) (x : Nat) : Nat :=
  let t := (tileOf x).1
  let fmt (k : Nat) : Nat :=
    match f.instr.setsFmt with
    | some (u, v) => if u = k then v else (vget f.fmts k 3).toNat
    | none => (vget f.fmts k 3).toNat
  if t < 8 then heldBits (fmt t) else if t < 12 then 32 else if t < 16 then heldBits (fmt (t - 4)) else 8

/-- A byte of which each element is its old value or its new one, element by element (R195). -/
def InFlight.pick (f : InFlight) (c x j : Nat) (old new : Byte) : Byte :=
  let w := f.elemBits x
  if w = 4 then
    (if mixes f c (8 * x + 4) j then new.extractLsb' 4 4 else old.extractLsb' 4 4) ++
      (if mixes f c (8 * x) j then new.extractLsb' 0 4 else old.extractLsb' 0 4)
  else if mixes f c (8 * x / w * w) j then new else old

/-- A TSAVE keeps ahead of a later TREST of its tile, which needs no distance to it (R196, R206): both move rows in order, and
the rows of the save have been read. -/
def savedFirst (f g : InFlight) : Bool :=
  decide (f.instr.kind = .save ∧ g.instr.kind = .restore ∧ f.instr.tile = g.instr.tile)

/-- What instruction f reads of a byte of the tile memory in a cycle: the value that issue order gives, or, for each
earlier or later instruction whose write of it is not ordered with this read, the value of its element before or after that
write (R195, R200). -/
def InFlight.sees (f : InFlight) (before later : List InFlight) (c : Span) (x : Nat) : Byte :=
  let afterEarlier := (before.zipIdx).foldl (fun v (g, j) =>
    match g.writeSpan x with
    | none => v
    | some w =>
      if g.complete then v
      else if sharesColumns f g && decide (w.2 = some c.1) then (if g.quad < f.quad then v else g.view.read x)
      else
        match w.2 with
        | some hi => if hi < c.1 then v else f.pick c.1 x j v (g.view.read x)
        | none => f.pick c.1 x j v (g.view.read x)) (f.view.read x)
  (later.zipIdx).foldl (fun v (g, j) =>
    match g.writeSpan x with
    | none => v
    | some w =>
      let new := (g.out.find? fun p => p.1 = x).map (·.2)
      if sharesColumns f g && decide (some w.1 = c.2) then (if g.quad < f.quad then new.getD v else v)
      else if savedFirst f g then v
      else
        match c.2 with
        | some hi => if hi < w.1 then v else f.pick c.1 x (2000 + j) v (new.getD v)
        | none => f.pick c.1 x (2000 + j) v (new.getD v)) afterEarlier

/-! ### What an instruction writes -/

/-- The bytes of a row of 1,024 as a tile holds it, from the bytes of memory: MXFP6 is unpacked (R184). -/
def heldRow (fmt : Nat) (bs : List Byte) : List Byte :=
  if heldBits fmt = fmtBits fmt then bs else (unpackElems 6 1024 bs).map (BitVec.ofNat 8)

/-- Bytes from an address upward as (address, byte) pairs. -/
def bytesAt (a : Nat) (bs : List Byte) : List (Nat × Byte) := bs.mapIdx fun j b => (a + j, b)

/-- One accumulator element of a pass: row r of the instruction, column n of the array (R185, R213). `rd` reads the tile
memory at a cycle. The cycles in which a pass reads the scales of a plane, and the lines of a plane of a 16-bit class, are
those that the distances of Table 7.7 need (log entry 135). -/
def passElem (f : InFlight) (rd : Span → Nat → Byte) (r n : Nat) : W32 :=
  let i := f.instr
  let p := f.plane r
  let fw := (vget f.fmts (8 + p) 3).toNat
  let b := heldBits f.fmtA
  let j := f.step * (r - i.progress)
  let at_ (c : Nat) : Span := (f.issued + c, some (f.issued + c))
  let a := rowBase i.tile (i.second + r) + 4 * n
  let c := f.accCycle r (n - f.nFirst)
  let acc : W32 :=
    if f.word 16 1 = 0 then 0
    else BitVec.ofNat 32 (bytesToNat ((List.range 4).map fun q => rd (c, some c) (a + q)))
  let scaleRow := f.scales.getD (r - i.progress) []
  (List.range f.kMax).foldl (fun s k =>
    let kw := f.kFirst + k
    let oe := heldElem (rd (at_ (2 + j))) b (rowBase f.ot (i.first + r)) k
    let line := (kw * 1024 + n) * b / 8192
    let use := at_ (4 + j + (line - (if f.kFirst = 0 then 0 else 512)) + (n - f.nFirst))
    let we := heldElem (rd (if f.wide then (use.1 - 1, use.2) else use)) b (tileBase (12 + p)) (kw * 1024 + n)
    let xw := (rd (at_ 4) (scaleBase p + kw / 32 * 1024 + n)).toNat
    cell f.fmtA fw s oe we (scaleRow.getD (k / 32) 0).toNat xw) acc

/-- The finishing word of a drain. -/
def InFlight.finish (f : InFlight) (lo n : Nat) : Nat := bitsOf f.instr.rc.toNat lo n

/-- The finishing registers that a row meets in a cycle: as the last write before it left them (R224, R227). -/
def InFlight.tablesAt (f : InFlight) (c : Nat) : FinishTables :=
  (f.tables.find? fun x => x.since < c).getD
    (f.tables.getLastD { since := 0, bias := Reset.finish.bias, pwl := Reset.finish.pwl })

/-- The tap value of an accumulator element in column n of the j-th row drained (Table 8.4, stages 1 to 3): stage 2 begins 4
cycles after the row's read, stage 3 8 cycles after it (Table 8.5). Whether the drain takes the element as INT32 is a free
value: the specification names no selector (log entry 27). -/
def tapValue (f : InFlight) (asInt : Bool) (x : W32) (j n : Nat) : W32 :=
  let v := if asInt then rne32 (.ofInt x.toInt) else x
  let v1 :=
    if f.finish 11 1 = 1 then
      rne32 ((val32 v).add (val32 (BitVec.ofNat 32
        ((f.tablesAt (f.issued + j + 4)).bias.readLE (4096 * f.finish 12 2 + 4 * n) 4))))
    else v
  if f.finish 7 1 = 1 then pwlEval (vget (f.tablesAt (f.issued + j + 8)).pwl (f.finish 8 3) none) v1 else v1

/-- An output row of a drain: its packed elements and, for an MX format, its block scales (R216-R218, R222, R223). -/
def drainBytes (f : InFlight) (row : Nat) (raw taps : List W32) : List Byte × List Byte :=
  let fmt := f.finish 0 4
  let scale := val32 (BitVec.ofNat 32 (f.finish 32 32))
  let mode (n : Nat) := roundOf (f.finish 4 2) (f.finish 20 12) (row * 1024 + n)
  if fmt = 0xB then (raw.flatMap fun x => natToBytes x.toNat 4, [])
  else
    let vs := taps.map fun x => (val32 x).mul scale
    if isMxFmt fmt then
      let blocks := (List.range 32).map fun b =>
        mxBlock fmt (fun e => mode (32 * b + e)) ((vs.drop (32 * b)).take 32)
      (packElems (fmtBits fmt) (blocks.flatMap fun p => p.1), blocks.map fun p => BitVec.ofNat 8 p.2)
    else
      (packElems (fmtBits fmt) (vs.mapIdx fun n v => encodeElem fmt (mode n) (decide (f.finish 6 1 = 1)) v), [])

/-- What row k of an instruction does: tile bytes, memory bytes, tap values. -/
structure RowEffect where
  out : List (Nat × Byte)
  mem : List (Nat × List Byte)
  taps : List W32

/-- The effect of row k (Table 7.5). `rd` reads the tile memory at a cycle, `asInt` is the free choice of `tapValue`. -/
def rowEffect (f : InFlight) (asInt : Bool) (rd : Span → Nat → Byte) (k : Nat) : RowEffect :=
  let i := f.instr
  let j := k - i.progress
  let mrow := f.rows.getD j []
  match i.kind with
  | .load => { out := bytesAt (rowBase i.tile (i.first + k)) (heldRow (i.fld 16 4) mrow), mem := [], taps := [] }
  | .loadc => { out := bytesAt (rowBase i.tile k) (heldRow (i.fld 17 4) mrow), mem := [], taps := [] }
  | .store =>
    { out := [], mem := [(i.rowAddr k, (List.range 1024).map fun b => rd (f.at (2 + j)) (rowBase i.tile (i.first + k) + b))]
      taps := [] }
  | .save =>
    { out := [], mem := [(i.rowAddr k, (List.range 1024).map fun b => rd (f.at (2 + j)) (tileBase i.tile + 1024 * k + b))]
      taps := [] }
  | .restore => { out := bytesAt (tileBase i.tile + 1024 * k) mrow, mem := [], taps := [] }
  | .zero => { out := bytesAt (rowBase i.tile (i.first + k)) (List.replicate 4096 0), mem := [], taps := [] }
  | .mma =>
    { out := (List.range f.nCount).flatMap fun n =>
        bytesAt (rowBase i.tile (i.second + k) + 4 * (f.nFirst + n)) (natToBytes (passElem f rd k (f.nFirst + n)).toNat 4)
      mem := [], taps := [] }
  | .drain =>
    let raw := (List.range 1024).map fun n =>
      BitVec.ofNat 32 (bytesToNat ((List.range 4).map fun q => rd (f.at j) (rowBase i.tile (i.first + k) + 4 * n + q)))
    let taps := raw.mapIdx fun n x => tapValue f asInt x j n
    let p := drainBytes f (i.first + k) raw taps
    if i.fld 23 1 = 1 then { out := bytesAt (rowBase (i.fld 20 3) (i.second + k)) p.1, mem := [], taps := taps }
    else
      { out := []
        mem := (i.rowAddr k, p.1) ::
          (if p.2 = [] then [] else [(segBase i.seg + i.offset + 1024 * i.rowBytes + 32 * k, p.2)])
        taps := taps }
  | _ => { out := [], mem := [], taps := [] }

/-- The scale store that a TLOADC of an MX format writes before its lines (R191). -/
def scaleOut (f : InFlight) : List (Nat × Byte) :=
  if f.instr.kind = .loadc then bytesAt (scaleBase (f.word 24 2)) (f.scales.flatMap id) else []

/-- The rows that are complete when the instruction ends or stops. -/
def InFlight.rowsDone (f : InFlight) : Nat := match f.stop with | some p => p.progress | none => f.instr.count

/-- Whether a row from a stop on holds its new values, or its old ones (R204). -/
def newRow (f : InFlight) (k : Nat) : Bool := mixes f 0 k 3000

/-- The instruction with what it writes, in its place among the others: rows below its end are done; from a stop on, each
row of all but a TMMA holds its old values or its new ones (R204). -/
def evalTile (before later : List InFlight) (base : Memory) (f : InFlight) : InFlight :=
  if f.complete then { f with view := base }
  else
    let f0 := { f with view := base }
    let asInt := (Cfg.freeBits 81 f.free).getLsbD 0
    let rd := fun c x => f0.sees before later c x
    let eff (lo hi : Nat) := (List.range (hi - lo)).map fun d => rowEffect f0 asInt rd (lo + d)
    let start := f.instr.progress
    let doneRows := eff start f.rowsDone
    let sc := if f.rowsDone = start ∧ f.stop.isSome then [] else scaleOut f0
    let partRows :=
      if f.stop.isSome ∧ f.instr.kind ≠ .mma then
        ((eff f.rowsDone f.instr.count).zipIdx.filter fun p => newRow f0 (f.rowsDone + p.2)).flatMap (·.1.out)
      else []
    { f0 with
      out := sc ++ doneRows.flatMap (·.out) ++ partRows
      mem := (doneRows.drop f.done).map (·.mem)
      taps := (doneRows.drop f.done).map (·.taps) }

/-- The tiles once an instruction has written into them, in issue order; where an earlier one's write of a byte is not
before this one's, each element holds one value or the other (R195), and of two quadrants that write in one cycle the higher
one writes last (R200). -/
def applyOut (before : List InFlight) (base : Memory) (f : InFlight) : Memory :=
  f.out.foldl (fun m p =>
    let old := m.read p.1
    let value := (before.zipIdx).foldl (fun v (g, j) =>
      match g.writeSpan p.1, f.writeSpan p.1 with
      | some w, some u =>
        let unordered := match w.2 with | some hi => decide (u.1 ≤ hi) | none => true
        if g.complete then v
        else if sharesColumns f g && decide (w.2 = some u.1) then (if f.quad < g.quad then old else v)
        else if unordered then f.pick u.1 p.1 (1000 + j) old v
        else v
      | _, _ => v) p.2
    m.write p.1 value) base

/-- Evaluate the instructions in flight in issue order from the tiles before the first: the list, and the tiles after the
last. -/
def evalFlight (before : List InFlight) (base : Memory) : List InFlight → List InFlight × Memory
  | [] => ([], base)
  | f :: fs =>
    let f' := evalTile before fs base f
    let r := evalFlight (before ++ [f']) (applyOut before base f') fs
    (f' :: r.1, r.2)

/-- The instructions in flight once one more has issued: it is evaluated first, so that the others may see its writes. -/
def issueInto (flight : List InFlight) (tiles : Memory) (f : InFlight) : List InFlight × Memory :=
  let base := match flight with | g :: _ => g.view | [] => tiles
  evalFlight [] base (flight ++ [evalTile flight [] tiles f])

/-- The Lattice with what is in flight evaluated again: registers that drains read have changed (08 R224, R227). -/
def evalAgain (l : Lattice) : Lattice :=
  match l.flight with
  | [] => l
  | g :: _ =>
    let r := evalFlight [] g.view l.flight
    { l with flight := r.1, tiles := r.2 }

/-- The finishing registers have been written: each drain in flight meets the new values from its next row on. -/
def noteTables (s : State) : State :=
  let entry : FinishTables := { since := s.clocks.cclk, bias := s.finish.bias, pwl := s.finish.pwl }
  s.setLattice (evalAgain { s.lattice with
    flight := s.lattice.flight.map fun f => if f.instr.kind = .drain ∧ !f.complete then { f with tables := entry :: f.tables } else f })

/-- Drop the instructions from the front that are complete. -/
def dropComplete : List InFlight → List InFlight
  | [] => []
  | f :: fs => if f.complete then dropComplete fs else f :: fs

/-- TOUCHED after an instruction has written (Table 7.12). -/
def touchedBy (f : InFlight) : BitVec 12 :=
  match f.instr.kind with
  | .load => BitVec.twoPow 12 f.instr.tile
  | .restore => BitVec.twoPow 12 f.instr.tile
  | .mma => BitVec.twoPow 12 f.instr.tile
  | .zero => BitVec.twoPow 12 f.instr.tile
  | .drain => if f.word 23 1 = 1 then BitVec.twoPow 12 (f.word 20 3) else 0
  | _ => 0

/-- Apply the tap values of one row of a drain, or of more, to its histogram set and amax (R229, R230). -/
def applyTaps (fin : Finish) (f : InFlight) (taps : List W32) : Finish :=
  let h := vget fin.hist (f.finish 16 4) histClear
  let h1 :=
    if f.finish 14 1 = 1 then
      { taps.foldl histCount h with elements := h.elements + BitVec.ofNat 64 taps.length }
    else h
  let h2 := if f.finish 15 1 = 1 then { h1 with amax := taps.foldl amaxOffer h1.amax } else h1
  if f.instr.kind = .drain then { fin with hist := vset fin.hist (f.finish 16 4) h2 } else fin

/-! ### Ports -/

/-- Cycles for which an instruction holds its port (Table 7.6). -/
def InFlight.held (f : InFlight) : Nat :=
  let n := f.instr.count - f.instr.progress
  match f.instr.kind with
  | .mma => f.step * n
  | .loadc => n + scaleCycles (f.word 17 4)
  | _ => n

/-- Whether an instruction in flight holds a port at a cycle: TZERO holds all four lanes (R199); memory outside the operand
store holds its port until the end (R194). -/
def InFlight.holds (f : InFlight) (now : Nat) (p : Port) : Bool :=
  let same := match f.port, p with
    | .a x, .a y => decide (x = y) || decide (f.instr.kind = .zero)
    | .l, .l => true
    | .c, .c => true
    | .s, .s => true
    | .d, .d => true
    | _, _ => false
  same && !f.complete && (f.far || f.stop.isSome || decide (now < f.issued + f.held))

/-- Whether a port is one of those that the five bits of a TBAR name: bit 0 A, 1 L, 2 C, 3 S, 4 D (Table 7.3). -/
def Port.bit : Port → Nat
  | .a _ => 0
  | .l => 1
  | .c => 2
  | .s => 3
  | .d => 4

/-- The tiles, planes and queue as a core reset or a core halt leaves them (R182, Table 5.7). -/
def resetLattice (s : State) : State := s.setLattice Reset.lattice

end Sys2Proof.Machine
end

