-- ==== Sys2Proof/Machine/SpindleRing.lean ====
section
/-! DEFINITION. The command ring of the Spindle: slots, the entry at HEAD, its eligibility, and the conditions under which it
issues (09 R233-R240). -/

namespace Sys2Proof.Machine
open Sys2Proof

/-! ### Slots and the ring (R233, R238, R239) -/

/-- Where the state store begins. -/
def streamBase (k : Nat) : Nat := 0x800040000000 + 4096 * k

/-- The entry at a ring index as 512 bits. -/
def ringEntry (s : State) (index : Nat) : BitVec 512 :=
  BitVec.ofNat 512 (s.dev.readLE (s.spindle.base.toNat + 64 * index) 64)

/-- Ring entries. -/
def ringSize (p : Spindle) : Nat := 2 ^ p.log2.toNat

/-- The slots that a command names: first and count, and the slot INIT of a SCAN (R236). -/
def namesSlot (e : BitVec 512) (k : Nat) : Bool :=
  if fld e 0 1 = 1 then decide (fld e 4 2 ≤ k ∧ k < fld e 4 2 + fld e 6 2)
  else decide (fld e 4 2 ≤ k ∧ k < fld e 4 2 + 2 * fld e 6 2) || decide (k = fld e 10 2)

/-- HEAD and PHASE behind the entry at HEAD, which becomes the head now (R239). -/
def advanceHead (p : Spindle) (now : Nat) : Spindle :=
  let h := p.head.toNat + 1
  if h = ringSize p then { p with head := 0, phase := !p.phase, headSince := now }
  else { p with head := BitVec.ofNat 10 h, headSince := now }

/-- Note a store of n bytes in the ring: an entry whose FLAGS byte it covers may have had its OWN set by it (R239). -/
def noteRingStore (s : State) (a n : Nat) : State :=
  let p := s.spindle
  let i := (a - p.base.toNat) / 64
  let own := p.base.toNat + 64 * i + 1
  if p.base.toNat ≤ a ∧ i < ringSize p ∧ a ≤ own ∧ own < a + n then
    s.setSpindle { p with storedAt := (p.storedAt.filter fun q => q.1 ≠ i) ++ [(i, s.clocks.cclk)] }
  else s

/-! ### Issue (R240) -/

/-- The cycle from which the entry at HEAD may be eligible: eight after the store that set its OWN (R239). -/
def eligibleAt (p : Spindle) : Nat :=
  match p.storedAt.find? fun q => q.1 = p.head.toNat with
  | some q => q.2 + 8
  | none => 0

/-- Whether the entry at HEAD is eligible: its OWN is the phase, eight cycles after the store that set it (R239). -/
def eligible (s : State) : Bool :=
  s.spindle.enable && !s.spindle.faulted &&
    ((fld (ringEntry s s.spindle.head.toNat) 1 1).testBit 0 == s.spindle.phase) &&
    decide (eligibleAt s.spindle ≤ s.clocks.cclk)

/-- The Spindle holds port A with a STEP, for four cycles a stream (R240). -/
def stepHolds (s : State) : Bool :=
  s.spindle.running.any fun c => decide (fld c.entry 0 1 = 1) && decide (s.clocks.cclk < c.issued + 4 * fld c.entry 6 2)

/-- Whether a stream copy is moving a slot that a command names: it has begun the slot and waits for memory (R236). -/
def copyMoves (s : State) (e : BitVec 512) : Bool :=
  s.opList.any fun q =>
    (decide (q.2.opcode = 0x18) || decide (q.2.opcode = 0x19)) && decide (q.2.phase = .started) && decide (q.2.aux = 1) &&
      namesSlot e (fld q.2.desc 8 2 + q.2.progress)

/-- The conditions of R240 beyond eligibility, but for port A. -/
def mayIssueBut (s : State) (e : BitVec 512) (scan : Bool) : Bool :=
  let now := s.clocks.cclk
  let l := s.lattice
  !copyMoves s e && (!(scan || (fld e 1 1).testBit 1) || s.spindle.running.isEmpty) &&
    !(s.spindle.running.any fun c => fld c.entry 0 1 = 2) &&
    !(l.flight.any fun f => f.holds now .d && (decide (f.finish 0 4 = 0) || decide (f.finish 0 4 = 0xB)))

/-- The cycle in which the STEP at HEAD began to wait for port A, if it waits for nothing else (R240). -/
def stepWaits (s : State) : Option Nat :=
  let e := ringEntry s s.spindle.head.toNat
  if eligible s && decide (fld e 0 1 = 1) && mayIssueBut s e false then some (max s.spindle.headSince (eligibleAt s.spindle))
  else none

/-- Whether the head of the tile queue would take port A, and the cycle in which it began to wait for it (R240). -/
def tileWaits (s : State) : Option Nat :=
  let l := s.lattice
  match (l.restart ++ l.queue).head? with
  | none => none
  | some i =>
    let needsA := decide ((i.port l.fold).bit = 0) && !decide (i.kind = .fold) && !decide (i.kind = .delay)
    if needsA && l.fault.isNone && decide (l.delayUntil ≤ s.clocks.cclk) then some (max l.headSince l.delayUntil) else none

/-- The conditions of R240 beyond eligibility; for port A the one that began to wait first is served first, a STEP before a tile
instruction of the same cycle. -/
def mayIssue (s : State) (e : BitVec 512) (scan : Bool) : Bool :=
  let now := s.clocks.cclk
  let tileFirst := match tileWaits s, stepWaits s with
    | some a, some b => decide (a < b)
    | _, _ => false
  mayIssueBut s e scan &&
    (scan || (!stepHolds s && !tileFirst &&
      !((List.range 4).any fun k => s.lattice.flight.any fun f => f.holds now (.a (Fin.ofNat 4 k)))))

/-- Whether a STEP that began to wait for port A no later than the head of the tile queue goes before it (R240). -/
def stepFirst (s : State) : Bool :=
  match stepWaits s, tileWaits s with
  | some a, some b => decide (a ≤ b)
  | _, _ => false

end Sys2Proof.Machine
end

