-- ==== Sys2Proof/Machine/Lattice.lean ====
section
/-! DEFINITION. The tile queue: issue, completion, faults, RESUME and DISCARD; the commit of a piecewise-linear table
(07_lattice; 08 R227). -/

namespace Sys2Proof.Machine
open Sys2Proof

/-- CCLK is delivered to the Turner, the Lattice and the Spindle (17 R427, R443). -/
def cclkRuns (s : State) : Bool := s.running && !s.clocks.cclkStopped

/-- The tile unit as an agent on a port. -/
def tileAgent (p : Port) (ecc : List Ecc) : Agent :=
  { who := .tile, pasid := none, reach := [.kernels, .operand, .spindle], loc := p.location, relaxed := false, ecc := ecc }

/-- The lines of device memory that bytes a … a + n - 1 touch. -/
def tileLines (a n : Nat) : List Nat := if n = 0 then [] else (List.range ((a + n - 1) / 64 - a / 64 + 1)).map (a / 64 + ·)

/-- The first of some lines at which an agent has to wait (02 R59, R60); none where it waits at none of them. -/
def awaitLines (s : State) (w : Requester) : List Nat → Option State
  | [] => none
  | l :: ls => match awaitLine s w l with | some s1 => some s1 | none => awaitLines s w ls

/-- An agent has made its accesses to some lines (02 R60). -/
def leaveLines (s : State) (w : Requester) (ls : List Nat) : State := ls.foldl (fun s l => leaveHome s w l) s

/-- The memory that the rows of an instruction read, as (row, address, bytes), from its progress on. -/
def rowReads (i : TileInstr) : List (Nat × Nat × Nat) :=
  let n := match i.kind with | .load => i.rowBytes | .loadc => i.rowBytes | .restore => 1024 | _ => 0
  if n = 0 then [] else (List.range (i.count - i.progress)).map fun d => (i.progress + d, i.rowAddr (i.progress + d), n)

/-- Read the memory of rows in order: their bytes, and the first row with data that is uncorrectable or poisoned, with its
address (R202). Rows behind it are read as they stand. -/
def readRows (s : State) (ag : Agent) : List (Nat × Nat × Nat) → List (List Byte) × Option (Nat × Nat) × State
  | [] => ([], none, s)
  | (r, a, n) :: rest =>
    match busReadAll s ag a n with
    | .ok bs s1 => let q := readRows s1 ag rest; (bs :: q.1, q.2)
    | .wait s1 => (((r, a, n) :: rest).map fun x => s1.dev.readN x.2.1 x.2.2, some (r, a), s1)
    | .fail _ _ s1 => (((r, a, n) :: rest).map fun x => s1.dev.readN x.2.1 x.2.2, some (r, a), s1)

/-- Side-stream reads of a pass: the tags and the scales of its rows (R186). -/
def sideReads (i : TileInstr) (mxBytes : Nat) : List (Nat × Nat × Nat) × List (Nat × Nat × Nat) :=
  let base := segBase i.seg
  let rows := (List.range (i.count - i.progress)).map fun d => i.progress + d
  (if i.fld 15 1 = 1 then rows.map fun r => (r, base + i.rc.toNat / 2 ^ 32 + r / 4, 1) else [],
   if mxBytes = 0 then [] else rows.map fun r => (r, base + i.rc.toNat % 2 ^ 32 + r * mxBytes, mxBytes))

/-- Bytes of operand scales per row of a format (R186). -/
def mxRowBytes (fmt : Nat) : Nat := match classOf fmt with | .mx8 => 32 | .mx4 => 64 | _ => 0

/-- The side-stream extents of a pass that fail R141, with offsets that are multiples of 64 (R190), or R21, as the address and
whether R21 refuses it (sub-code 5). -/
def sideFail (s : State) (i : TileInstr) (mxBytes : Nat) : Option (Nat × Bool) :=
  let check (off n : Nat) : Option (Nat × Bool) :=
    if off % 64 ≠ 0 then some (segBase i.seg + off, false)
    else
      match segAccess s i.seg .read (!i.priv) false off n 1 with
      | .ok _ => none
      | .bad f => some (segBase i.seg + off, decide (f.cause = 3))
  let tags := if i.fld 15 1 = 1 then check (i.rc.toNat / 2 ^ 32) ((i.count + 3) / 4) else none
  match tags with
  | some x => some x
  | none => if mxBytes = 0 then none else check (i.rc.toNat % 2 ^ 32) (i.count * mxBytes)

/-- The earlier of two stops. -/
def firstStop : Option TileStop → Option TileStop → Option TileStop
  | none, b => b
  | a, none => a
  | some a, some b => if b.progress < a.progress then some b else some a

/-- Where the errors of the tile memory stop an instruction (sub-code 7). -/
def tileStop (i : TileInstr) (tecc : List TileEcc) : Option TileStop :=
  tecc.foldl (fun acc e =>
    if e.uncorrected ∧ i.progress ≤ e.row ∧ e.row < i.count then
      firstStop acc (some { progress := e.row, subcode := 7, address := 0 })
    else acc) none

/-- Count the errors of the tile memory that are met up to a row (R181's corners). -/
def countTileEcc (s : State) (tecc : List TileEcc) (last : Nat) : State :=
  tecc.foldl (fun s e =>
    if e.row ≤ last then faultEvent s (BitVec.ofNat 16 (0x3000 + e.store.val)) (if e.uncorrected then 2 else 1) else s) s

/-- Whether the port that an instruction needs is free (R193, R199; 09 R240). -/
def portFree (s : State) (i : TileInstr) : Bool :=
  let p := i.port s.lattice.fold
  let wideDrain := decide (i.kind = .drain) && (decide (i.rc.toNat % 16 = 0) || decide (i.rc.toNat % 16 = 0xB))
  !(s.lattice.flight.any fun f =>
      f.holds s.clocks.cclk p || (decide (i.kind = .zero) && (List.range 4).any fun l =>
        f.holds s.clocks.cclk (.a (Fin.ofNat 4 l)))) &&
    !(decide (p.bit = 0) && (stepHolds s || stepFirst s)) && !(wideDrain && !s.spindle.running.isEmpty)

/-- The instruction as it issues now, with what it reads of memory and where it will stop. A pass whose side streams fail is
refused before its format classes and its quadrant are looked at, and a refusal with sub-code 6 names no address (log entry
135). -/
def prepare (s : State) (i : TileInstr) (ecc : List Ecc) (tecc : List TileEcc) : State × InFlight :=
  let l := s.lattice
  let ag := tileAgent (i.port l.fold) ecc
  let fmtA := (vget l.fmts (i.fld 21 3) 3).toNat
  let mx := if i.kind = .mma then mxRowBytes fmtA else 0
  let f0 : InFlight :=
    { port := i.port l.fold, instr := i, issued := s.clocks.cclk, fold := l.fold, fmts := l.fmts
      far := (decide (i.kind ≠ .mma) && decide (i.kind ≠ .zero) && !(decide (i.kind = .drain) && decide (i.fld 23 1 = 1)))
        && decide (s.region (i.rowAddr 0) ≠ .operand)
      view := [], rows := [], tags := [], scales := []
      tables := [{ since := 0, bias := s.finish.bias, pwl := s.finish.pwl }]
      out := [], done := 0, mem := [], taps := [], stop := none
      complete := false, free := s.freeCtr }
  let s0 := s.tookFree
  let refuse (sub : Byte) (a : Nat) : InFlight :=
    { f0 with stop := some { progress := i.progress, subcode := sub, address := BitVec.ofNat 48 a } }
  match (if i.kind = .mma then sideFail s i mx else none) with
  | some (a, map) => (if map then faultEvent s0 ag.loc 2 (BitVec.ofNat 64 a) else s0, refuse 5 a)
  | none =>
    let (tagReads, scaleReads) := if i.kind = .mma then sideReads i mx else ([], [])
    let (rows, stop1, s1) := readRows s0 ag (rowReads i)
    let (tags, stop2, s2) := readRows s1 ag tagReads
    let (scales, stop3, s3) := readRows s2 ag scaleReads
    let tagOf := (tags.zipIdx).map fun (b, d) => bitsOf (b.headD 0).toNat (2 * ((i.progress + d) % 4)) 2
    let planes := if i.fld 15 1 = 1 then tagOf else [i.fld 19 2]
    let mixed := planes.any fun p => decide (classOf (vget l.fmts (8 + p) 3).toNat ≠ classOf fmtA)
    if i.kind = .mma ∧ (mixed ∨ (!l.fold ∧ i.fld 17 2 ≠ 0)) then (s3, refuse 6 0)
    else
      -- a TLOADC of an MX format reads its scale store first (R191)
      let wantScales := decide (i.kind = .loadc) && decide (mxRowBytes (i.fld 17 4) ≠ 0)
      let (sc, stop4, s4) :=
        if wantScales then
          readRows s3 ag [(i.progress, segBase i.seg + i.rc.toNat, mxRowBytes (i.fld 17 4) * 1024)]
        else ([], none, s3)
      let toStop (q : Option (Nat × Nat)) : Option TileStop :=
        q.map fun x => { progress := x.1, subcode := 3, address := BitVec.ofNat 48 x.2 }
      let stop := firstStop (firstStop (toStop stop4) (firstStop (toStop stop1) (firstStop (toStop stop2) (toStop stop3))))
        (tileStop i tecc)
      let last := match stop with | some p => p.progress | none => i.count
      (countTileEcc s4 tecc last,
       { f0 with rows := rows, tags := tagOf, scales := if wantScales then sc else scales, stop := stop })

/-- The lines of device memory that an instruction reads at issue. -/
def issueLines (s : State) (i : TileInstr) : List Nat :=
  let mx := mxRowBytes (vget s.lattice.fmts (i.fld 21 3) 3).toNat
  let side := if i.kind = .mma ∧ (sideFail s i mx).isNone then (sideReads i mx).1 ++ (sideReads i mx).2 else []
  let sc := if i.kind = .loadc then tileLines (segBase i.seg + i.rc.toNat) (mxRowBytes (i.fld 17 4) * 1024) else []
  sc ++ (rowReads i ++ side).flatMap fun x => tileLines x.2.1 x.2.2

/-- Take the instruction that is next from the restarted ones or from the queue, in a CCLK cycle from which the one behind it is
the head. -/
def popTile (l : Lattice) (now : Nat) : Lattice :=
  match l.restart with
  | _ :: rs => { l with restart := rs, headSince := now }
  | [] => { l with queue := l.queue.drop 1, headSince := now }

/-- Put an instruction at the end of the queue. -/
def pushTile (l : Lattice) (i : TileInstr) (now : Nat) : Lattice :=
  { l with queue := l.queue ++ [i], headSince := if l.queue.isEmpty && l.restart.isEmpty then now else l.headSince }

/-- Whether a store of the Turner to the operand store that committed before a tile instruction has not been performed: the
instruction then does not issue (05 R139, R192). -/
def storesPending (s : State) (i : TileInstr) : Bool :=
  let isStore (a : MemAccess) : Bool := match a with | .store .. => true | .load .. => false
  let toStore (a : MemAccess) : Bool := match a with
    | .store x .. => decide (s.region x.toNat = .operand)
    | .load .. => false
  ((s.turner.accesses.filter isStore).take (i.storesBefore - s.turner.storesLeft)).any toStore

/-- Issue an instruction to its port (R193): it is evaluated among those in flight, and its formats are set. -/
def issueTile (s : State) (i : TileInstr) (ecc : List Ecc) (tecc : List TileEcc) : State :=
  match awaitLines s .tile (issueLines s i) with
  | some s1 => s1
  | none =>
    let (s1, f) := prepare (leaveLines s .tile (issueLines s i)) i ecc tecc
    let l := popTile s1.lattice s1.clocks.cclk
    let (flight, tiles) := issueInto l.flight l.tiles f
    let fmts := match i.setsFmt with
      | some (t, v) => if f.stop.isSome ∧ f.rowsDone = 0 then l.fmts else vset l.fmts t (BitVec.ofNat 4 v)
      | none => l.fmts
    let s2 := s1.setLattice { l with flight := flight, tiles := tiles, fmts := fmts, delayUntil := s1.clocks.cclk + 1 }
    if i.kind = .loadc then
      s2.setSpindle { s2.spindle with
        running := s2.spindle.running.map fun c =>
          { c with laterLoads := c.laterLoads ++ (flight.getLast?.map fun g => [g]).getD [] } }
    else s2

/-- TILE_ISSUE: the head of the tile queue issues, once the stores of the Turner that it has to see are made (R193, R197, R198,
05 R139). `ecc` and `tecc` are the errors that its reads of
memory and of the tiles meet. -/
def execTileIssue (ecc : List Ecc) (tecc : List TileEcc) (s : State) : Host.Outcome State Fault Refusal :=
  let l := s.lattice
  match (l.restart ++ l.queue).head? with
  | none => .next s
  | some i =>
    if !cclkRuns s || l.fault.isSome || decide (s.clocks.cclk < l.delayUntil) || storesPending s i then .next s
    else
      match i.kind with
      | .delay => .next (s.setLattice { popTile l s.clocks.cclk with delayUntil := s.clocks.cclk + i.fld 0 16 })
      | .fold =>
        if l.flight.isEmpty && s.spindle.running.isEmpty then
          .next (s.setLattice { popTile l s.clocks.cclk with fold := decide (i.fld 21 1 = 1), delayUntil := s.clocks.cclk + 1 })
        else .next s
      | _ => if portFree s i then .next (issueTile s i ecc tecc) else .next s

/-- Write bytes to memory in order: what is left where a line is held by the host, and the state. -/
def writeTileMem (s : State) (ag : Agent) : List (Nat × List Byte) → List (Nat × List Byte) × State
  | [] => ([], s)
  | (a, bs) :: rest =>
    match busWriteAll s ag a bs with
    | (_, .ok _ s1) => writeTileMem s1 ag rest
    | (n, .wait s1) => ((a + n, bs.drop n) :: rest, s1)
    | (_, .fail _ _ s1) => writeTileMem s1 ag rest

/-- Make the memory writes of the first n rows that an instruction still has, and its taps with them (R194, 08 R229): the
instruction with what is left, and the state. -/
def writeRows : Nat → State → InFlight → InFlight × State
  | 0, s, f => (f, s)
  | n + 1, s, f =>
    match f.mem with
    | [] => (f, s)
    | row :: rest =>
      match writeTileMem s (tileAgent f.port []) row with
      | ([], s1) =>
        writeRows n (s1.setFinish (applyTaps s1.finish f (f.taps.headD [])))
          { f with mem := rest, taps := f.taps.drop 1, done := f.done + 1 }
      | (left, s1) => ({ f with mem := left :: rest }, s1)

/-- What the end of an instruction changes beside memory: TOUCHED and the source record of a plane (Table 7.12, R208). -/
def endTile (s : State) (f : InFlight) : State :=
  let l := s.lattice
  let i := f.instr
  let chucks :=
    if i.kind = .loadc ∧ f.stop.isNone then
      let mx := decide (mxRowBytes (i.fld 17 4) ≠ 0)
      vset l.chucks (i.fld 24 2)
        { loaded := true, scales := mx, src := BitVec.ofNat 48 (i.rowAddr 0), pitch := i.rb.setWidth 32
          scaleSrc := if mx then BitVec.ofNat 48 (segBase i.seg + i.rc.toNat) else 0 }
    else l.chucks
  let touched := if f.out = [] then l.touched else l.touched ||| touchedBy f
  s.setLattice { l with chucks := chucks, touched := touched }

/-- Replace the instruction at a place of the flight, and drop those complete from the front. -/
def setFlight (s : State) (j : Nat) (f : InFlight) : State :=
  s.setLattice { s.lattice with flight := dropComplete (s.lattice.flight.set j f) }

/-- Rows of an instruction whose write to memory, or into an operand tile, falls before the present cycle (Table 7.6); those of
instructions whose memory is not the operand store have no fixed cycle. -/
def rowsDue (s : State) (f : InFlight) : Nat :=
  let first := match f.instr.kind with
    | .store => 12
    | .save => if f.instr.isAcc then 15 else 12
    | .drain => 40
    | _ => 0
  let passed := s.clocks.cclk - (f.issued + first)
  if first = 0 || f.far then 0
  else if f.instr.kind = .save && f.instr.isAcc then (passed + 3) / 4 * 4
  else passed

/-- The rows that the instruction at place j has due by now are written. -/
def writeDueAt (s : State) (j : Nat) : State :=
  match s.lattice.flight[j]? with
  | none => s
  | some f =>
    let n := rowsDue s f - f.done
    if f.complete || n = 0 then s
    else
      let x := writeRows n s f
      x.2.setLattice { x.2.lattice with flight := x.2.lattice.flight.set j x.1 }

/-- Time has passed: the rows that tile instructions have due by now are written (R194). -/
def writeDue (s : State) : State := (List.range s.lattice.flight.length).foldl writeDueAt s

/-- TILE_INSTRUCTION_COMPLETE: the instruction at place j of the flight has written everything, and its port frees
(R191). -/
def execTileInstructionComplete (j : Nat) (s : State) : Host.Outcome State Fault Refusal :=
  match s.lattice.flight[j]? with
  | none => .next s
  | some f =>
    if !cclkRuns s || f.complete || f.stop.isSome then .next s
    else
      let x := writeRows f.mem.length s f
      if x.1.mem = [] then .next (setFlight (endTile x.2 f) j { x.1 with complete := true })
      else .next (setFlight x.2 j x.1)

/-- Memory of the rows behind a stop that hold their new values: the others hold their old ones (R204). -/
def partMem (f : InFlight) : List (Nat × List Byte) :=
  let asInt := (Cfg.freeBits 81 f.free).getLsbD 0
  (List.range (f.instr.count - f.rowsDone)).flatMap fun d =>
    if newRow f (f.rowsDone + d) then (rowEffect f asInt (fun _ x => f.view.read x) (f.rowsDone + d)).mem else []

/-- An instruction stops with its fault: the queue enters FAULTED, or the fault waits behind the one that is held
(R203). -/
def raiseTile (s : State) (j : Nat) (f : InFlight) (p : TileStop) : State :=
  let x := writeRows f.mem.length s f
  let y := if x.1.mem = [] && decide (f.instr.kind ≠ .mma) then writeTileMem x.2 (tileAgent f.port []) (partMem f)
    else ([], x.2)
  if x.1.mem ≠ [] ∨ y.1 ≠ [] then setFlight y.2 j x.1
  else
    let s2 := setFlight (endTile y.2 f) j { x.1 with complete := true }
    let rec_ : TileFault := { instr := f.instr, subcode := p.subcode, port := f.port, address := p.address, progress := p.progress }
    let l := s2.lattice
    match l.fault with
    | none => s2.setLattice { l with fault := some rec_, faultPending := true }
    | some _ => s2.setLattice { l with held := l.held ++ [rec_] }

/-- A write of LT_TQ_CONTROL (R205): RESUME restarts the faulting instruction, DISCARD drops it and those behind it; the
next held fault becomes LT_TFAULT. -/
def tqControl (s : State) (resume discard : Bool) : State :=
  let l := s.lattice
  match l.fault with
  | none => s
  | some f =>
    let next := { l with fault := l.held.head?, held := l.held.drop 1, faultPending := !l.held.isEmpty }
    if resume then
      if f.subcode = 5 ∨ f.subcode = 6 then
        (if discard then s.setLattice { next with queue := [] } else s)
      else s.setLattice { next with restart := l.restart ++ [{ f.instr with progress := f.progress }] }
    else if discard then s.setLattice { next with queue := [] }
    else s

/-- The Turner runs and is at S: the runtime's writes through the control window reach their registers (21 R502). -/
def runtimeWrites (s : State) : Bool :=
  cclkRuns s && decide (s.turner.mode = .running) && s.turner.cstat.priv

/-- RESUME: LT_TQ_CONTROL.RESUME is written (R205). -/
def execResume (s : State) : Host.Outcome State Fault Refusal :=
  .next (if runtimeWrites s then tqControl s true false else s)

/-- DISCARD: LT_TQ_CONTROL.DISCARD is written (R205). -/
def execTileDiscard (s : State) : Host.Outcome State Fault Refusal :=
  .next (if runtimeWrites s then tqControl s false true else s)

/-- A commit of NF_PWL_STAGE into a slot (08 R227): drains in flight meet it between two rows. -/
def pwlCommit (s : State) (slot : Nat) : State :=
  let n := s.finish
  if pwlOk n.stage then noteTables (s.setFinish { n with pwl := vset n.pwl slot (some n.stage), commitErr := false })
  else s.setFinish { n with commitErr := true }

/-- NF_PWL_COMMIT: the staged table is checked and installed in SLOT, or ERR is set (08 R227). -/
def execNfPwlCommit (value : W32) (s : State) : Host.Outcome State Fault Refusal :=
  .next (if runtimeWrites s then pwlCommit s (value.toNat % 8) else s)

end Sys2Proof.Machine
end

