-- ==== Sys2Proof/Machine/Tick.lean ====
section
/-! DEFINITION. The passing of time: one FCLK cycle, or a number of delivered CCLK cycles (17 R424, R428, R444). The
pattern of four CCLK periods is 12 root periods long; CCLK edges fall on its multiples of 3, FCLK edges on its multiples
of 4. -/

namespace Sys2Proof.Machine
open Sys2Proof

/-- Whether a throttle level delivers CCLK period i of the pattern (R444). -/
def delivers (level : BitVec 2) (i : Nat) : Bool :=
  match level.toNat with
  | 0 => true
  | 1 => decide (i ≠ 3)
  | 2 => decide (i = 0 ∨ i = 2)
  | _ => decide (i = 0)

/-- The delivered CCLK edges in (p, q] of the pattern. -/
def cclkEdges (level : BitVec 2) (p q : Nat) : Nat :=
  ((List.range 5).filter fun i => decide (p < 3 * i ∧ 3 * i ≤ q) && delivers level (i % 4)).length

/-- The FCLK edges in (p, q] of the pattern. -/
def fclkEdges (p q : Nat) : Nat := q / 4 - p / 4

/-- The clocks after the root has moved from its phase to q, at most 12. -/
def moveRoot (c : Clocks) (q : Nat) : Clocks :=
  { c with
    timebase := c.timebase + BitVec.ofNat 64 (fclkEdges c.phase q)
    cclk := c.cclk + (if c.cclkStopped then 0 else cclkEdges c.level c.phase q)
    phase := q % 12 }

/-- Whether FCLK runs: the root PLL is locked and the Ohmim is powered (R425, R427). -/
def fclkRuns (s : State) : Bool := s.clocks.pllLocked && s.power.holdup

/-- The current kernel's running time after n FCLK cycles (05 R155). -/
def countBudget (t : Turner) (n : Nat) : Turner :=
  { t with runningK := t.runningK.map fun r => if t.current = some r.kid then { r with used := r.used + n } else r }

/-- The state after the root has moved from its phase to q. -/
def moveTime (s : State) (q : Nat) : State :=
  { s with clocks := moveRoot s.clocks q, turner := countBudget s.turner (fclkEdges s.clocks.phase q) }

/-- One FCLK cycle: TIMEBASE counts while FCLK runs (R427, R428). -/
def tickFclk (s : State) : State := if fclkRuns s then moveTime s ((s.clocks.phase / 4 + 1) * 4) else s

/-- The next delivered CCLK edge after a phase of the pattern. -/
def nextCclk (level : BitVec 2) (p : Nat) : Nat :=
  (([1, 2, 3, 4] : List Nat).find? fun i => decide (p < 3 * i) && delivers level (i % 4)).getD 4 * 3

/-- Time moves by n delivered CCLK cycles (R424, R444). -/
def passCclk : Nat → State → State
  | 0, s => s
  | n + 1, s => passCclk n (moveTime s (nextCclk s.clocks.level s.clocks.phase))

end Sys2Proof.Machine
end

