-- ==== Sys2Proof/Machine/Spindle.lean ====
section
/-! DEFINITION. The Spindle: its command ring, STEP and SCAN, their completion and their abandonment; STREAM_PARK and
STREAM_UNPARK (09_spindle). -/

namespace Sys2Proof.Machine
open Sys2Proof

/-- Write the STATUS byte of an entry: DONE and a code (R241). -/
def writeStatus (s : State) (index code : Nat) : State :=
  homeWrite s (s.spindle.base.toNat + 64 * index + 2) [BitVec.ofNat 8 (128 + code)]

/-- A command faults (R242): the fields of SP_STATUS, and the entry's STATUS. -/
def spindleFault (s : State) (index code progress : Nat) : State :=
  let s1 := s.setSpindle { s.spindle with
    faulted := true, code := BitVec.ofNat 7 code, progress := BitVec.ofNat 11 progress
    faultIndex := BitVec.ofNat 10 index }
  writeStatus s1 index code

/-! ### The checks before a command issues (Table 9.4) -/

/-- Bytes lo to hi - 1 of an entry are 0. -/
def zeroBytes (e : BitVec 512) (lo hi : Nat) : Bool := decide (fld e lo (hi - lo) = 0)

/-- Code 0x01 for a STEP (Table 9.5). -/
def stepMalformed (e : BitVec 512) : Bool :=
  let b := fld e 6 2
  let noX := (fld e 1 1).testBit 2
  decide (fld e 0 1 ≠ 1) || decide (16 ≤ fld e 1 1) || decide (64 ≤ fld e 3 1) || decide (4095 < fld e 4 2) ||
    decide (b = 0 ∨ 1024 < b ∨ 4096 < fld e 4 2 + b) ||
    decide (fld e 8 8 % 64 ≠ 0 ∨ fld e 16 8 % 64 ≠ 0 ∨ fld e 24 8 % 64 ≠ 0 ∨ fld e 32 8 % 64 ≠ 0) ||
    !(decide (fld e 52 1 = 3) || decide (fld e 52 1 = 4)) ||
    !(if noX then decide (fld e 53 1 = 0) else decide (fld e 53 1 = 3) || decide (fld e 53 1 = 4)) ||
    decide (64 ≤ fld e 54 1) || !zeroBytes e 55 64

/-- Code 0x01 for a SCAN (Table 9.7). -/
def scanMalformed (e : BitVec 512) : Bool :=
  let t := fld e 6 2
  let c := fld e 8 2
  decide (16 ≤ fld e 1 1) || !zeroBytes e 3 4 || decide (4095 < fld e 4 2) || decide (t = 0 ∨ 1024 < t) ||
    decide (c < 16 ∨ 1024 < c ∨ c % 16 ≠ 0) || decide (4095 < fld e 10 2) || !zeroBytes e 12 16 ||
    decide (fld e 16 8 % 64 ≠ 0 ∨ fld e 24 8 % 64 ≠ 0 ∨ fld e 32 8 % 64 ≠ 0 ∨ fld e 40 8 % 64 ≠ 0) || !zeroBytes e 48 64

/-- Whether n bytes at a window offset lie in SP_WINDOW. -/
def inWindow (p : Spindle) (off n : Nat) : Bool := decide (off + n ≤ segSize p.window)

/-- Whether n slots from k lie in SP_SLOTS. -/
def inSlots (p : Spindle) (k n : Nat) : Bool :=
  decide (p.slotFirst.toNat ≤ k ∧ k + n ≤ p.slotFirst.toNat + p.slotCount)

/-- Code 0x02 (Table 9.4). -/
def outOfBounds (p : Spindle) (e : BitVec 512) : Bool :=
  let b := fld e 6 2
  let noMask := (fld e 1 1).testBit 3
  if fld e 0 1 = 1 then
    !inWindow p (fld e 8 8) (b * 1024) || !((fld e 1 1).testBit 2 || inWindow p (fld e 16 8) (b * 4096)) ||
      !inWindow p (fld e 24 8) (b * 1024) || !(noMask || inWindow p (fld e 32 8) ((b + 7) / 8)) ||
      !inSlots p (fld e 4 2) b
  else
    let n := b * 4 * fld e 8 2
    !inWindow p (fld e 16 8) n || !inWindow p (fld e 24 8) n || !inWindow p (fld e 32 8) n ||
      !(noMask || inWindow p (fld e 40 8) ((b + 7) / 8)) || !inSlots p (fld e 4 2) (2 * b) ||
      !inSlots p (fld e 10 2) 1 || decide (fld e 4 2 ≤ fld e 10 2 ∧ fld e 10 2 < fld e 4 2 + 2 * b)

/-- Code 0x03: a STEP in fold mode, or with a plane outside the FP8 class (Table 9.4). -/
def stepUnfit (l : Lattice) : Bool :=
  l.fold || (List.range 4).any fun g => decide (classOf (vget l.fmts (8 + g) 3).toNat ≠ .fp8)

/-! ### Issue (R240) -/

/-- The Spindle as an agent. -/
def spindleAgent (ecc : List Ecc) : Agent :=
  { who := .tile, pasid := none, reach := [.operand, .spindle], loc := 0x4002, relaxed := false, ecc := ecc }

/-- The entry at HEAD is the Spindle's no longer: HEAD advances. -/
def leaveHead (s : State) : State := s.setSpindle (advanceHead s.spindle s.clocks.cclk)

/-- The read of the entry at HEAD, with the errors that it meets: uncorrectable or poisoned, the command faults with code 0x04
before it issues (R242). `next` is what follows a read that succeeds. -/
def readHead (s : State) (ecc : List Ecc) (next : State → State) : State :=
  let index := s.spindle.head.toNat
  match busRead s (spindleAgent ecc) (s.spindle.base.toNat + 64 * index) 64 with
  | .wait s1 => s1
  | .fail _ _ s1 => spindleFault (leaveHead s1) index 4 0
  | .ok _ s1 => next s1

/-- Issue the command at HEAD, or let it fault before it issues (R240, R242): its entry is read first. -/
def issueCommand (s : State) (scan : Bool) : State :=
  let index := s.spindle.head.toNat
  let e := ringEntry s index
  let code :=
    if (if scan then scanMalformed e else stepMalformed e) then 1
    else if outOfBounds s.spindle e then 2
    else if !scan && stepUnfit s.lattice then 3
    else 0
  readHead s [] fun s1 =>
    let s2 := leaveHead s1
    if code ≠ 0 then spindleFault (faultEvent s2 0x4002 2) index code 0
    else
      let l := s2.lattice
      let cmd : SpCommand :=
        { index := index, entry := e, issued := s.clocks.cclk, tables := s.finish.pwl, view := l.tiles, fmts := l.fmts
          inputs := [], slots := [], done := 0
          loads := l.flight.filter fun f => decide (f.instr.kind = .loadc) && !f.complete
          laterLoads := [], free := s2.freeCtr }
      s2.tookFree.setSpindle { s2.spindle with running := s2.spindle.running ++ [cmd] }

/-- Whether the entry at HEAD may issue now as a SCAN, or as another command (R240). -/
def headIssues (s : State) (scan : Bool) : Bool :=
  let e := ringEntry s s.spindle.head.toNat
  cclkRuns s && eligible s && (decide (fld e 0 1 = 2) == scan) && mayIssue s e scan

/-- STEP: the entry at HEAD, which is not a SCAN, issues (R240, R245); an entry of unknown OP faults here. An error that the
read of the entry meets comes with SPINDLE_COMMAND_COMPLETE. -/
def execSpStep (s : State) : Host.Outcome State Fault Refusal :=
  .next (if headIssues s false then issueCommand s false else s)

/-- SCAN: the entry at HEAD issues (R240, R251). -/
def execSpScan (s : State) : Host.Outcome State Fault Refusal :=
  .next (if headIssues s true then issueCommand s true else s)

/-! ### A STEP (R244-R249) -/

/-- The device address of a window offset. -/
def windowAddr (s : State) (off : Nat) : Nat := segBase s.spindle.window + off

/-- The streams of a STEP. -/
def SpCommand.streams (c : SpCommand) : Nat := fld c.entry 6 2

/-- Where a STEP writes a byte of its slots or of its H_OUT: the stream, the column, and the cycle (Table 9.6). -/
def SpCommand.writes (s : State) (c : SpCommand) (x : Nat) : Option (Nat × Nat × Nat) :=
  let e := c.entry
  let h := windowAddr s (fld e 24 8)
  let sl := streamBase (fld e 4 2)
  let place (b n : Nat) : Option (Nat × Nat × Nat) := some (b, n, c.issued + 4 * b + 1088 + n)
  if fld e 0 1 ≠ 1 then none
  else if h ≤ x ∧ x < h + 1024 * c.streams then place ((x - h) / 1024) ((x - h) % 1024)
  else if sl ≤ x ∧ x < sl + 4096 * c.streams then place ((x - sl) / 4096) ((x - sl) % 4096 / 4)
  else none

/-- A byte of a plane as a command reads it in a cycle: an unordered TLOADC gives its old or its new bytes (09 Corners). -/
def SpCommand.plane (c : SpCommand) (cyc x : Nat) : Byte :=
  let mix (j : Nat) := (Cfg.freeBits (2 ^ 81) c.free).getLsbD ((cyc * 2 ^ 48 + x) * 16 + j)
  let v := (c.loads.zipIdx).foldl (fun v (g, j) =>
    match g.writeSpan x with
    | some (_, some hi) => if hi < cyc then v else if mix j then g.view.read x else v
    | _ => v) (c.view.read x)
  (c.laterLoads.zipIdx).foldl (fun v (g, j) =>
    match g.writeSpan x with
    | some (lo, _) =>
      if cyc < lo then v else if mix (8 + j) then ((g.out.find? fun p => p.1 = x).map (·.2)).getD v else v
    | _ => v) v

/-- An FP32 field of an entry. -/
def f32 (e : BitVec 512) (off : Nat) : W32 := BitVec.ofNat 32 (fld e off 4)

/-- The mask bit of stream or step b, false where NO_MASK is set; `rd` reads memory. -/
def SpCommand.maskBit (s : State) (c : SpCommand) (off b : Nat) (rd : Nat → Byte) : Bool :=
  !(fld c.entry 1 1).testBit 3 && (rd (windowAddr s (fld c.entry off 8) + b / 8)).getLsbD (b % 8)

/-- What stream b of a STEP reads beside its slot; `rd` reads memory in a cycle (Table 9.6). -/
def SpCommand.inputOf (s : State) (c : SpCommand) (b : Nat) (rd : Nat → Nat → Byte) : StreamIn :=
  let e := c.entry
  let t := c.issued + 4 * b
  { x := (List.range 4096).map fun j => rd t (windowAddr s (fld e 16 8) + 4096 * b + j)
    h := (List.range 1024).map fun k => rd (t + 2) (windowAddr s (fld e 8 8) + 1024 * b + k)
    reset := c.maskBit s 32 b (rd (t + 2)) }

/-- The slot of stream b; `rd` reads memory in a cycle (Table 9.6). -/
def SpCommand.slotOf (c : SpCommand) (b : Nat) (rd : Nat → Nat → Byte) : List Byte :=
  (List.range 4096).map fun j => rd (c.issued + 4 * b + 1046 + j / 4) (streamBase (fld c.entry 4 2 + b) + j)

/-- Column n of stream b, from what the stream has read: the new cell state and h (R245, R247). -/
def stepElem (c : SpCommand) (b n : Nat) (i : StreamIn) (slot : List Byte) : W32 × W32 :=
  let e := c.entry
  let t := c.issued + 4 * b
  let hfmt := fld e 52 1
  let old : W32 := if i.reset then 0 else BitVec.ofNat 32 (bytesToNat ((slot.drop (4 * n)).take 4))
  let z (g : Nat) : W32 :=
    let acc := (List.range 1024).foldl (fun a k =>
      let h := if i.reset then 0 else (i.h.getD k 0).toNat
      let w := (c.plane (t + 4 + g + k + n) (tileBase (12 + g) + 1024 * k + n)).toNat
      cell hfmt (vget c.fmts (8 + g) 3).toNat a h w 0 0) (0 : W32)
    let x : W32 := if (fld e 1 1).testBit 2 then 0 else rne32 (decodeElem (fld e 53 1) (i.x.getD (1024 * g + n) 0).toNat)
    let p := rne32 ((val32 acc).mul (val32 (f32 e 40)))
    let q := rne32 ((val32 x).mul (val32 (f32 e 44)))
    rne32 ((val32 p).add (val32 q))
  let table (k : Nat) := pwlEval (vget c.tables k none)
  let sig := fld e 3 1 % 8
  let tanh := fld e 3 1 / 8 % 8
  let mul (a b : W32) : W32 := rne32 ((val32 a).mul (val32 b))
  let c2 := rne32 ((val32 (mul (table sig (z 1)) old)).add (val32 (mul (table sig (z 0)) (table tanh (z 2)))))
  (c2, mul (table sig (z 3)) (table tanh c2))

/-- h as it is written to H_OUT (R245). -/
def outElem (e : BitVec 512) (h : W32) : Byte :=
  BitVec.ofNat 8 ((layoutOf (fld e 52 1)).encode .nearest true ((val32 h).mul (val32 (f32 e 48))))

/-- What stream b has read of X_IN, H_IN and MASK, or would read of memory now. -/
def SpCommand.input (s : State) (c : SpCommand) (b : Nat) : StreamIn :=
  (c.inputs[b]?).getD (c.inputOf s b fun _ x => s.dev.read x)

/-- What stream b has read of its slot, or would read now. -/
def SpCommand.slot (s : State) (c : SpCommand) (b : Nat) : List Byte := (c.slots[b]?).getD (c.slotOf b fun _ x => s.dev.read x)

/-- The byte that a STEP writes at x, in column n of stream b. -/
def SpCommand.newByte (s : State) (c : SpCommand) (b n x : Nat) : Byte :=
  let p := stepElem c b n (c.input s b) (c.slot s b)
  if streamBase 0 ≤ x ∧ x < streamBase 4096 then (natToBytes p.1.toNat 4).getD (x % 4) 0 else outElem c.entry p.2

/-- A byte of memory as a command reads it in a cycle, after the commands that issued before it: an earlier STEP's write that is
before the read is seen; where it is not, each slot value and each other byte is the old one or the new one (R249, R195). -/
def SpCommand.sees (s : State) (c : SpCommand) (cyc x : Nat) : Byte :=
  let element := if streamBase 0 ≤ x ∧ x < streamBase 4096 then x / 4 * 4 else x
  ((s.spindle.running.takeWhile fun g => g.free ≠ c.free).zipIdx).foldl (fun v (g, j) =>
    match g.writes s x with
    | none => v
    | some (b, n, w) =>
      if b < g.done then v
      else if w < cyc || (Cfg.freeBits (2 ^ 81) c.free).getLsbD ((cyc * 2 ^ 48 + element) * 16 + j) then g.newByte s b n x
      else v) (s.dev.read x)

/-- A slot value or a byte that is old or new (09 Corners): the free choice for the element at an address. -/
def SpCommand.chosen (c : SpCommand) (a : Nat) : Bool := (Cfg.freeBits (2 ^ 82) c.free).getLsbD a

/-- Stream b of a STEP, whole or, past a stop, of slot values and bytes that are old or new; the tap is offered where it is whole
(R245, R246, 09 Corners). -/
def stepStream (s : State) (c : SpCommand) (b : Nat) (whole : Bool) : State :=
  let e := c.entry
  let els := (List.range 1024).map fun n => stepElem c b n (c.input s b) (c.slot s b)
  let slot := streamBase (fld e 4 2 + b)
  let out := windowAddr s (fld e 24 8) + 1024 * b
  let slotBytes := (els.mapIdx fun n p =>
    if whole || c.chosen (slot + 4 * n) then natToBytes p.1.toNat 4 else s.dev.readN (slot + 4 * n) 4).flatten
  let outBytes := els.mapIdx fun n p => if whole || c.chosen (out + n) then outElem e p.2 else s.dev.read (out + n)
  let s1 := s.setDev (s.dev.writeN slot slotBytes)
  let s2 := (List.range 16).foldl (fun s k => homeWrite s (out + 64 * k) ((outBytes.drop (64 * k)).take 64)) s1
  if !whole then s2
  else
    let tap := fld e 54 1
    let h := vget s2.finish.hist (tap % 16) histClear
    let h1 :=
      if tap.testBit 4 then
        { els.foldl (fun h p => histCount h p.2) h with elements := h.elements + 1024 }
      else h
    let h2 := if tap.testBit 5 then { h1 with amax := els.foldl (fun a p => amaxOffer a p.2) h1.amax } else h1
    s2.setFinish { s2.finish with hist := vset s2.finish.hist (tap % 16) h2 }

/-- A STEP of which p streams are complete, some of them before; where it stops there, the others are old or new (09
Corners). -/
def stepEffect (s : State) (c : SpCommand) (p : Nat) : State :=
  (List.range (c.streams - c.done)).foldl (fun s1 d => stepStream s1 c (c.done + d) (decide (c.done + d < p))) s

/-! ### A SCAN (R250-R252) -/

/-- Row j of C FP32 values at a window offset. -/
def scanRow (s : State) (off c j : Nat) : List W32 :=
  (List.range c).map fun n => BitVec.ofNat 32 (s.dev.readLE (windowAddr s off + 4 * c * j + 4 * n) 4)

/-- One pass over the pairs (a, b) with distance d: every row reads the rows as they stood before the pass, since j
descends (R251). -/
def scanPass (d : Nat) (rows : List (List W32 × List W32)) : List (List W32 × List W32) :=
  rows.mapIdx fun j r =>
    if j < d then r
    else
      let q := rows.getD (j - d) ([], [])
      let mul (x y : W32) : W32 := rne32 ((val32 x).mul (val32 y))
      (List.zipWith mul r.1 q.1,
       List.zipWith (fun p y => rne32 ((val32 p).add (val32 y))) (List.zipWith mul r.1 q.2) r.2)

/-- The passes d = 1, 2, 4, … below t. -/
def scanPasses : Nat → Nat → Nat → List (List W32 × List W32) → List (List W32 × List W32)
  | 0, _, _, rows => rows
  | fuel + 1, d, t, rows => if d < t then scanPasses fuel (2 * d) t (scanPass d rows) else rows

/-- Bytes of FP32 values. -/
def wordsBytes (ws : List W32) : List Byte := ws.flatMap fun w => natToBytes w.toNat 4

/-- Indeterminate bytes: free values, told apart by their address (R251). -/
def SpCommand.unknown (c : SpCommand) (a n : Nat) : List Byte :=
  (List.range n).map fun j => (Cfg.freeBits (2 ^ 83) c.free).extractLsb' (8 * (a + j)) 8

/-- Write bytes of the operand store line by line through the home agent. -/
def writeLines (s : State) (a : Nat) (bs : List Byte) : State :=
  (List.range (bs.length / 64)).foldl (fun s k => homeWrite s (a + 64 * k) ((bs.drop (64 * k)).take 64)) s

/-- A SCAN that completes, or one that stops and leaves H_OUT and its work slots indeterminate (R251, 09 Corners). -/
def scanEffect (s : State) (c : SpCommand) (whole : Bool) : State :=
  let e := c.entry
  let t := fld e 6 2
  let ch := fld e 8 2
  let out := windowAddr s (fld e 32 8)
  if whole then
    let rows := (List.range t).map fun j =>
      (if c.maskBit s 40 j s.dev.read then List.replicate ch (0 : W32) else scanRow s (fld e 16 8) ch j,
       scanRow s (fld e 24 8) ch j)
    let done := scanPasses 11 1 t rows
    let h0 := (List.range ch).map fun n =>
      if (fld e 1 1).testBit 2 then (0 : W32) else BitVec.ofNat 32 (s.dev.readLE (streamBase (fld e 10 2) + 4 * n) 4)
    let hs := done.map fun r =>
      List.zipWith (fun p b => rne32 ((val32 p).add (val32 b)))
        (List.zipWith (fun a h => rne32 ((val32 a).mul (val32 h))) r.1 h0) r.2
    let slots := done.flatMap fun r =>
      [wordsBytes r.1, wordsBytes r.2]
    let s1 := (slots.zipIdx).foldl (fun s (bs, k) =>
      let a := streamBase (fld e 4 2 + k)
      s.setDev (s.dev.writeN a (bs ++ c.unknown (a + 4 * ch) (4096 - 4 * ch)))) s
    let s2 := (hs.zipIdx).foldl (fun s (r, j) => writeLines s (out + 4 * ch * j) (wordsBytes r)) s1
    s2.setDev (s2.dev.writeN (streamBase (fld e 10 2)) (wordsBytes (hs.getLastD [])))
  else
    let s1 := (List.range (2 * t)).foldl (fun s k =>
      let a := streamBase (fld e 4 2 + k)
      s.setDev (s.dev.writeN a (c.unknown a 4096))) s
    writeLines s1 out (c.unknown out (4 * ch * t))

/-! ### Completion (R241, R242) -/

/-- The memory that stream b of a STEP reads, and that a SCAN reads, as (address, bytes). A stream that its mask bit resets reads
its slot no more than its row of H_IN, so that the reset mends it (R247, 09 Corners). -/
def commandReads (s : State) (c : SpCommand) (b : Nat) : List (Nat × Nat) :=
  let e := c.entry
  if fld e 0 1 = 1 then
    (if (c.input s b).reset then [] else
      [(windowAddr s (fld e 8 8) + 1024 * b, 1024), (streamBase (fld e 4 2 + b), 4096)]) ++
      (if (fld e 1 1).testBit 2 then [] else [(windowAddr s (fld e 16 8) + 4096 * b, 4096)]) ++
      (if (fld e 1 1).testBit 3 then [] else [(windowAddr s (fld e 32 8) + b / 8, 1)])
  else
    let n := 4 * fld e 8 2 * fld e 6 2
    [(windowAddr s (fld e 16 8), n), (windowAddr s (fld e 24 8), n)] ++
      (if (fld e 1 1).testBit 3 then [] else [(windowAddr s (fld e 40 8), (fld e 6 2 + 7) / 8)]) ++
      (if (fld e 1 1).testBit 2 then [] else [(streamBase (fld e 10 2), 4 * fld e 8 2)]) ++
      (List.range (2 * fld e 6 2)).map fun k => (streamBase (fld e 4 2 + k), 4 * fld e 8 2)

/-- Whether a command's reads of stream b meet no uncorrectable or poisoned data, and the state once their events are
counted. -/
def readsClean (s : State) (ag : Agent) (c : SpCommand) (b : Nat) : Bool × State :=
  (commandReads s c b).foldl (fun (ok, s1) (a, n) =>
    if !ok then (false, s1)
    else match busReadAll s1 ag a n with
      | .ok _ s2 => (true, s2)
      | .wait s2 => (false, s2)
      | .fail _ _ s2 => (false, s2)) (true, s)

/-- The streams of a STEP before the first that meets uncorrectable or poisoned data, in memory or in a plane. -/
def cleanStreams (ag : Agent) (c : SpCommand) (tecc : List TileEcc) : Nat → Nat → State → Nat × State
  | 0, b, s => (b, s)
  | n + 1, b, s =>
    let mine := tecc.filter fun x => x.row = b
    let s1 := countTileEcc s mine b
    match readsClean s1 ag c b with
    | (false, s2) => (b, s2)
    | (true, s2) => if mine.any fun x => x.uncorrected then (b, s2) else cleanStreams ag c tecc n (b + 1) s2

/-- End of the oldest command in progress. -/
def dropCommand (s : State) : State := s.setSpindle { s.spindle with running := s.spindle.running.drop 1 }

/-- The oldest command in progress ends; its writes are visible and its STATUS is written (R241), or it stops with code 0x04. -/
def endCommand (s : State) (c : SpCommand) (ecc : List Ecc) (tecc : List TileEcc) : State :=
  let ag := spindleAgent ecc
  if fld c.entry 0 1 = 1 then
    let b := c.streams
    let (p, s1) := cleanStreams ag c tecc (b - c.done) c.done s
    let s2 := dropCommand (stepEffect s1 c p)
    if p = b then writeStatus s2 c.index 0 else spindleFault s2 c.index 4 p
  else
    let (ok, s1) := readsClean s ag c 0
    let s2 := dropCommand (scanEffect s1 c ok)
    if ok then writeStatus s2 c.index 0 else spindleFault s2 c.index 4 0

/-- Whether the entry at HEAD, which would issue now, is read with one of these errors. -/
def headMeets (s : State) (ecc : List Ecc) : Bool :=
  (headIssues s false || headIssues s true) &&
    ecc.any fun e => decide (e.line = (s.spindle.base.toNat + 64 * s.spindle.head.toNat) / 64)

/-- SPINDLE_COMMAND_COMPLETE: the oldest command in progress ends (R241). `ecc` and `tecc` are the errors that its reads meet; the
rows of `tecc` are streams. Where `ecc` names the line of the entry at HEAD, which would issue now, it is that entry's read that
meets the error: it ends before it issues, or is corrected (R242). -/
def execSpindleCommandComplete (ecc : List Ecc) (tecc : List TileEcc) (s : State) : Host.Outcome State Fault Refusal :=
  .next (if headMeets s ecc then readHead s ecc id
    else match s.spindle.running with
      | [] => s
      | c :: _ => if cclkRuns s then endCommand s c ecc tecc else s)

/-! ### A STEP in time (Table 9.6) -/

/-- Whether what stream b of a STEP reads holds no poison. -/
def streamClean (s : State) (c : SpCommand) (b : Nat) : Bool :=
  (commandReads s c b).all fun r => (tileLines r.1 r.2).all fun l => !s.poisoned (64 * l)

/-- Update the command in progress at a place. -/
def setCommand (s : State) (j : Nat) (c : SpCommand) : State :=
  s.setSpindle { s.spindle with running := s.spindle.running.set j c }

/-- The next thing that the STEP at place j does by now, if there is one: it reads the next stream's inputs, in the cycles up to 4b
+ 3 after its issue, or the next slot, from cycle 4b + 1,046, or the next stream is wholly visible, from cycle 4b + 2,112. It
stops reading at a stream that meets poison. -/
def streamEvent (s : State) (j : Nat) : State :=
  match s.spindle.running[j]? with
  | none => s
  | some c =>
    let past (b n : Nat) : Bool := decide (c.issued + 4 * b + n < s.clocks.cclk)
    if fld c.entry 0 1 ≠ 1 then s
    else if c.done < c.slots.length && past c.done 2111 then
      setCommand (stepStream s c c.done true) j { c with done := c.done + 1 }
    else if c.slots.length < c.inputs.length && past c.slots.length 1046 then
      setCommand s j { c with slots := c.slots ++ [c.slotOf c.slots.length (c.sees s)] }
    else if c.inputs.length < c.streams && past c.inputs.length 3 && streamClean s c c.inputs.length then
      setCommand s j { c with inputs := c.inputs ++ [c.inputOf s c.inputs.length (c.sees s)] }
    else s

/-- What the Spindle's commands do by now: each has at most three events for each of 1,024 streams. -/
def spindleDue (s : State) : State :=
  (List.range s.spindle.running.length).foldl (fun s j => (List.range 3072).foldl (fun s _ => streamEvent s j) s) s

/-- Time has passed: what tile instructions and Spindle commands do by now (07 Table 7.6, 09 Table 9.6). -/
def settleTime (s : State) : State :=
  if s.lattice.flight.isEmpty && s.spindle.running.isEmpty then s else spindleDue (writeDue s)

/-- n CCLK cycles pass, with what tile instructions and Spindle commands do in each. -/
def passTime : Nat → State → State
  | 0, s => s
  | n + 1, s => passTime n (settleTime (passCclk 1 s))

/-- A core halt or core reset abandons the commands in progress with code 0x05, and ENABLE is cleared (R243). -/
def abandonSpindle (s : State) : State :=
  let s1 := s.spindle.running.foldl (fun s1 c =>
    let p := if fld c.entry 0 1 = 1 then c.done else 0
    let s2 := if fld c.entry 0 1 = 1 then stepEffect s1 c p else scanEffect s1 c false
    let s3 := faultEvent (dropCommand s2) 0x4002 2
    if s3.spindle.faulted then writeStatus s3 c.index 5 else spindleFault s3 c.index 5 p) s
  s1.setSpindle { s1.spindle with enable := false }

/-! ### SP_CONTROL (Table 9.3, R508) -/

/-- Whether the ring lies in SP_WINDOW and SP_WINDOW in the operand store (R508). -/
def ringInWindow (s : State) : Bool :=
  let p := s.spindle
  let w := segBase p.window
  s.inRegion w (segSize p.window) .operand &&
    decide (w ≤ p.base.toNat ∧ p.base.toNat + 64 * ringSize p ≤ w + segSize p.window)

/-- A write of ENABLE (R238, R508). -/
def spEnable (s : State) (on : Bool) : State :=
  if on && !ringInWindow s then s
  else s.setSpindle { s.spindle with enable := on, headSince := if on && !s.spindle.enable then s.clocks.cclk else s.spindle.headSince }

/-- A write of CONTINUE = 1 (Table 9.3). -/
def spResume (s : State) : State := s.setSpindle { s.spindle with faulted := false, headSince := s.clocks.cclk }

/-- A write of CLEAR = 1 (Table 9.3). -/
def spReset (s : State) : State :=
  if s.spindle.running.isEmpty then s.setSpindle { s.spindle with head := 0, phase := true, faulted := false, headSince := s.clocks.cclk } else s

/-- SPINDLE_ENABLE: SP_CONTROL.ENABLE is written (R238). -/
def execSpindleEnable (on : Bool) (s : State) : Host.Outcome State Fault Refusal :=
  .next (if runtimeWrites s then spEnable s on else s)

/-- CONTINUE: SP_CONTROL.CONTINUE is written (R242). -/
def execSpContinue (s : State) : Host.Outcome State Fault Refusal :=
  .next (if runtimeWrites s then spResume s else s)

/-- CLEAR: SP_CONTROL.CLEAR is written (R238). -/
def execSpClear (s : State) : Host.Outcome State Fault Refusal :=
  .next (if runtimeWrites s then spReset s else s)

/-! ### STREAM_PARK and STREAM_UNPARK (R235, R236) -/

/-- Write a whole slot or image, once no line of it has to be awaited: what is written is whole or nothing (R235). -/
def copySlot (s : State) (ag : Agent) (a : Nat) (bs : List Byte) : Access Unit :=
  match awaitLines s ag.who (tileLines a bs.length) with
  | some s1 => .wait s1
  | none => if roomFor s (tileLines a bs.length) then (busWriteAll s ag a bs).2 else .wait s

/-- Copy slots from the operation's count of whole slots on (R235, R236). A slot that a Spindle command names is awaited; a copy
that waits for memory in the middle of a slot is moving it, and keeps commands away from it. -/
def streamLoop (park : Bool) : Nat → State → Agent → Op → Run
  | 0, s, _, o => Run.done o s
  | fuel + 1, s, ag, o =>
    if fld o.desc 10 2 ≤ o.progress then Run.done o s
    else
      let slot := fld o.desc 8 2 + o.progress
      let image := fld o.desc 16 8 + 4096 * o.progress
      if s.spindle.running.any fun c => namesSlot c.entry slot then
        { op := { o with aux := 0 }, addr := streamBase slot, out := .wait s }
      else
        let src := if park then streamBase slot else image
        let dst := if park then image else streamBase slot
        let moving : Op := { o with aux := 1 }
        match readRun 65 s ag src 4096 with
        | (a, .wait s1) => { op := moving, addr := a, out := .wait s1 }
        | (a, .fail st c s1) => { op := o, addr := a, out := .fail st c s1 }
        | (_, .ok bs s1) =>
          match copySlot s1 ag dst bs with
          | .wait s2 => { op := moving, addr := dst, out := .wait s2 }
          | .fail st c s2 => { op := o, addr := dst, out := .fail st c s2 }
          | .ok _ s2 => streamLoop park fuel s2 ag { o with progress := o.progress + 1, aux := 0 }

/-- A stream copy: the image must lie wholly in HBM for kernels (R235). -/
def streamRun (park : Bool) (ecc : List Ecc) (s : State) (k : Nat) (o : Op) : State :=
  let n := 4096 * fld o.desc 10 2
  let a := fld o.desc 16 8
  if !s.inRegion a n .kernels then
    finishOp (faultEvent s (opLocation o) 2 (BitVec.ofNat 64 a)) k (Result.fault 0x21 0x10 (opLocation o) a 0)
  else
    endRun k (streamLoop park 4097 s
      { who := .op o.order, pasid := none, reach := [.kernels, .spindle], loc := opLocation o, relaxed := false, ecc := ecc } o)

/-- STREAM_PARK: slots are copied to their HBM image (R235). `ecc` are the errors that its reads meet. -/
def execStreamPark (k : Fin 512) (ecc : List Ecc) (s : State) : Host.Outcome State Fault Refusal :=
  .next (runOp s k 0x18 fun s o => streamRun true ecc s k o)

/-- STREAM_UNPARK: slots are restored from their HBM image (R235). `ecc` are the errors that its reads meet. -/
def execStreamUnpark (k : Fin 512) (ecc : List Ecc) (s : State) : Host.Outcome State Fault Refusal :=
  .next (runOp s k 0x19 fun s o => streamRun false ecc s k o)

end Sys2Proof.Machine
end

