-- ==== Sys2Proof/Machine/TurnerOps.lean ====
section
/-! DEFINITION. The Turner core's shared operations: status words, banks, readiness of kernels and their interrupts,
exception entry and return, launch, completion, core reset, halt and lockout (05_turner_core). -/

namespace Sys2Proof.Machine
open Sys2Proof

/-! ### Status and banks -/

/-- cstat as a word (Table 5.5). -/
def Cstat.word (c : Cstat) : W64 :=
  BitVec.ofNat 64 (c.priv.toNat + 2 * c.ie.toNat + 4 * c.det.toNat + 8 * c.entry.toNat + 16 * c.rescue.toNat)

/-- cstat from bits [4:0] of a saved word (R147). -/
def Cstat.ofWord (w : W64) : Cstat :=
  { priv := w.getLsbD 0, ie := w.getLsbD 1, det := w.getLsbD 2, entry := w.getLsbD 3, rescue := w.getLsbD 4 }

/-- The bank of the current level, or the K bank for a .K access (R140, R143). -/
def Turner.slot (t : Turner) (kBank : Bool) (n : Nat) : Segment :=
  vget (if kBank then t.kbank else t.sbank) n 0

/-- The PASID of host accesses: that of the ring that launched the current kernel, none where none is current (R143; log
entry 134 on kernels that are preempted). -/
def Turner.pasid (t : Turner) : Option (BitVec 20) :=
  match t.currentK with | some r => r.pasid | none => none

/-- Update one running kernel. -/
def Turner.setRunning (t : Turner) (kid : Nat) (g : Running → Running) : Turner :=
  { t with runningK := t.runningK.map fun r => if r.kid = kid then g r else r }

/-- Write a general register: its poison bit clears (R130). -/
def Turner.setG (t : Turner) (n : Nat) (v : W64) : Turner :=
  { t with g := vset t.g n v, gpoison := t.gpoison &&& ~~~(BitVec.twoPow 32 n) }

/-- General register n. -/
def Turner.gr (t : Turner) (n : Nat) : W64 := vget t.g n 0

/-- MTS writes that wait for an ISYNC or an exception return take effect (R174, R136). -/
def Turner.isync (t : Turner) : Turner :=
  match t.cstatNext with
  | some (p, d) => { t with sbank := t.sbankNext, cstat := { t.cstat with priv := p, det := d }, cstatNext := none }
  | none => { t with sbank := t.sbankNext }

/-! ### The timer (R173) -/

/-- Whether timercmp is met (R173). -/
def timerMet (s : State) : Bool :=
  decide (s.turner.timercmp ≠ 0) && decide (s.turner.timercmp.toNat ≤ s.clocks.timebase.toNat)

/-! ### Completion of kernels (R154) -/

/-- The result of a kernel that faults: code, epc, ecause and estat (Table 4.8). -/
def kernelFault (code : Byte) (loc : W16) (epc : W64) (cause : Byte) (estat : W32) : Result :=
  { status := 0x20, kind := 3, code := code, location := loc, address := 0, progress := epc
    info := cause.setWidth 64 ||| (estat.setWidth 64 <<< 32) }

/-- The result that the runtime asked for. -/
def KernelDone.result (d : KernelDone) : Result :=
  if d.status = 0 then Result.ok else kernelFault d.code 0 d.epc d.ecause d.estat

/-- Whether the tile queue is empty and every tile instruction complete. -/
def tilesIdle (l : Lattice) : Bool := l.queue.isEmpty && l.restart.isEmpty && l.flight.isEmpty && l.fault.isNone

/-- Post the completions that wait for the tile queue and for stores (R154). -/
def postDone (s : State) : State :=
  if s.turner.done.isEmpty || !tilesIdle s.lattice || !s.turner.accesses.isEmpty then s
  else
    let ds := s.turner.done
    ds.foldl (fun s d => finishOp s d.kid d.result) (s.setTurner { s.turner with done := [] })

/-- A kernel is no longer running: the tile owner is cleared where it faulted (R157's corners). -/
def endKernel (t : Turner) (kid : Nat) (faulted : Bool) : Turner :=
  { t with
    runningK := t.runningK.filter fun r => r.kid ≠ kid
    current := if t.current = some kid then none else t.current
    tileOwner := if faulted ∧ t.tileOwner.toNat = kid then 0x3FF else t.tileOwner }

/-- Whether the budget counter of a kernel has passed its BUDGET (R155). -/
def Running.passed (r : Running) : Bool := decide (r.budget ≠ 0) && decide (r.budget.toNat < r.used / 1024)

/-- The combinations of word 0 of TC_KERNEL_DONE that act (R507). -/
def doneValid (r : Running) (status code : Nat) : Bool :=
  (decide (status = 0) && decide (code = 0)) || (decide (status = 0x20) && decide (code = 1)) ||
    (decide (status = 0x20) && decide (code = 3) && r.passed)

/-- A write of word 0 of TC_KERNEL_DONE (R507): the current kernel completes with the fields of both words. -/
def tcKernelDone (s : State) (v : W64) : State :=
  let t := s.turner
  match t.currentK with
  | none => s
  | some r =>
    let status := v.toNat % 256
    let code := v.toNat / 256 % 256
    if !doneValid r status code then s
    else
      let d : KernelDone :=
        { kid := r.kid, status := BitVec.ofNat 8 status, code := BitVec.ofNat 8 code, epc := t.doneEpc
          ecause := v.extractLsb' 16 8, estat := v.extractLsb' 32 32 }
      let t1 := endKernel t r.kid (decide (status ≠ 0))
      raiseKernelBits (postDone (s.setTurner { t1 with done := t1.done ++ [d] }))

/-- A write of TC_RESUME (R516): a running kernel that is not current becomes current, with its K bank reloaded. -/
def tcResume (s : State) (kid : Nat) : State :=
  let t := s.turner
  match t.runningK.find? fun r => r.kid = kid with
  | none => s
  | some r =>
    if t.current = some kid then s
    else
      raiseKernelBits (s.setTurner { t with current := some kid, kbank := vget t.segTables r.segTable (Vector.replicate 8 0) })

/-! ### Core reset, halt, lockout (R151, R152, Table 5.7) -/

/-- The Turner as a core reset leaves it; the retained image, the halts, the lockout and the segment tables are kept (R143,
R151, R152, R29), and completions that the runtime asked for stand (R154). LAST_HALT_CAUSE is kept, since it reports the
halt that led to the reset (Table 5.8). -/
def coreResetTurner (t : Turner) : Turner :=
  { Reset.turner with
    retained := t.retained, halts := t.halts, lastHaltCause := t.lastHaltCause, locked := t.locked
    segTables := t.segTables, done := t.done }

/-- A Turner core reset (Table 17.4): the core, the Lattice and the Spindle's commands. -/
def coreReset (s : State) : State :=
  let s1 := abandonSpindle s
  resetLattice (s1.setTurner (coreResetTurner s1.turner))

/-- A core halt begins (Table 5.7, cycles 0 and 1): commit stops, the tile queue, every Lattice operation and the Spindle's
commands are discarded, DP_ALERT and CORE_HALT are raised. Loads that are out are dropped; stores that have committed are
still to be observed. -/
def haltCore (s : State) : State :=
  let t := s.turner
  let s1 := s.setTurner { t with
    mode := .halted, lastHaltCause := t.xcause.setWidth 8
    accesses := t.accesses.filter fun a => match a with | .load .. => false | .store .. => true }
  dpAlert (deviceEvent (resetLattice (abandonSpindle s1)) 2)

/-- The core is locked out: it stays in reset, and a module that serves rings enters LOCKOUT (R151, Table 1.10). -/
def lockOut (s : State) : State :=
  let s1 := coreReset s
  let s2 := s1.setTurner { s1.turner with locked := true }
  let st := s2.power.state
  let s3 := if st = .active ∨ st = .throttled then s2.setPower { s2.power with state := .lockout } else s2
  dpAlert (deviceEvent s3 3)

/-- Count a halt at its key: the third within 600 s locks the core out (R151, R470, Table 19.2). Whether it did. The halt is
stamped when it is counted, after the writeback (Table 5.7; log entry 134). -/
def countHalt (s : State) : Bool × State :=
  let r := threshold 3 (fclkSeconds 600) (s.turner.halts.map (·.toNat)) s.now
  if r.1 then (true, lockOut (faultAction s 0x2004 3))
  else
    let s1 := faultEvent s 0x2004 3
    (false, s1.setTurner { s1.turner with halts := r.2.map (BitVec.ofNat 64) })

/-- Halts in the current 600-second window (Table 5.8). -/
def haltCount (s : State) : Nat :=
  if s.turner.locked then 3
  else (s.turner.halts.filter fun h => decide (s.now - h.toNat ≤ fclkSeconds 600)).length

/-- Every running kernel completes with FAULT_KERNEL code 0x02 (Table 5.7). -/
def failKernels (s : State) : State :=
  let t := s.turner
  let s1 := t.runningK.foldl (fun s r =>
    let cur := decide (t.current = some r.kid)
    finishOp s r.kid (kernelFault 2 0x2004 (if cur then r.lastEpc else 0) (if cur then r.lastCause else 0)
      (if cur then r.lastEstat else 0))) s
  s1.setTurner { s1.turner with runningK := [], current := none, tileOwner := 0x3FF }

/-- The runtime starts after a core reset: the S bank is that of its image, the core is at S at offset 0x200 (R146's
corners, R423). -/
def startRuntime (s : State) (bank : Vector Segment 8) : State :=
  raiseKernelBits (s.setTurner { s.turner with mode := .running, sbank := bank, sbankNext := bank, pc := 0x200 })

/-! ### Exceptions (R145, R146, Table 6.8) -/

/-- An exception: its cause and sub-code, eaddr, and the fields that estat adds (Table 5.5). -/
structure Exc where
  cause : Nat
  sub : Nat := 0
  addr : W64 := 0
  slot : Nat := 0
  /-- True for the S bank. -/
  sBank : Bool := false
  access : Nat := 0
  deferred : Bool := false
  async : Bool := false
  /-- The device address that R21 refuses, for the count of R515. -/
  dev : W64 := 0

/-- ecause (R145). -/
def Exc.ecause (x : Exc) : W64 := BitVec.ofNat 64 (x.cause + 256 * x.sub)

/-- The saved status: cstat and the fields (R146). -/
def Exc.estat (x : Exc) (c : Cstat) : W64 :=
  c.word ||| BitVec.ofNat 64 (x.slot % 8 * 256 + x.sBank.toNat * 2048 + x.access % 4 * 4096 + x.deferred.toNat * 16384 +
    x.async.toNat * 32768)

/-- Whether loads are outstanding: entry waits until they have written their registers (R146). -/
def Turner.loadsOut (t : Turner) : Bool :=
  t.accesses.any fun a => match a with | .load .. => true | .store .. => false

/-- The core-private Rescue stack as a slot: 4,096 bytes, DEVICE, READ and WRITE; its BASE is a free value, since the stack
is not in the device address space (R150, log entry 28). -/
def rescueSegment (s : State) : Segment :=
  (((s.free 42).setWidth 128 <<< 6) ||| mkSegment 0 4096 1 3)

/-- Note an exception taken at K for a halt's report (Table 5.7). -/
def noteK (t : Turner) (x : Exc) (epc : W64) : Turner :=
  match t.current with
  | some k =>
    if t.cstat.priv then t
    else t.setRunning k fun r =>
      { r with lastCause := BitVec.ofNat 8 x.cause, lastEstat := (x.estat t.cstat).setWidth 32, lastEpc := epc }
  | none => t

/-- Entry into the handler, or into the Rescue handler, or a core halt (R146, R150). `epc` is the offset that is saved. -/
def enterHandler (s : State) (x : Exc) (epc : W64) : State :=
  let t := s.turner
  if t.cstat.rescue then haltCore s
  else if t.cstat.entry then
    let seg := rescueSegment s
    s.tookFree.setTurner { t with
      xcause := x.ecause, xpc := epc, xstat := x.estat t.cstat, xaddr := x.addr
      cstat := { t.cstat with priv := true, ie := false, rescue := true }
      savedS7 := vget t.sbank 7 0, sbank := vset t.sbank 7 seg, sbankNext := vset t.sbankNext 7 seg, pc := 0x100 }
  else
    s.setTurner { noteK t x epc with
      ecause := x.ecause, epc := epc, estat := x.estat t.cstat, eaddr := x.addr
      cstat := { t.cstat with priv := true, ie := false, entry := true }, pc := 0 }

/-- Take an exception: a BUS_ERROR with sub-code 0x01 is counted at the Turner's location (R21, R515), entry waits for
outstanding loads, and takes 9 CCLK cycles in deterministic mode (R135). -/
def takeException (s : State) (x : Exc) (epc : W64) : State :=
  if s.turner.loadsOut then s
  else
    let s1 :=
      if x.cause = 3 ∧ x.sub = 1 then
        faultEvent s (if x.access = 0 then 0x2001 else 0x2002) 2 x.dev
      else s
    let s2 := enterHandler s1 x epc
    if s.turner.cstat.det then passTime 9 s2 else s2

/-- A written PRIV and DET take effect at an exception return (R174, R136). -/
def Turner.applyCstat (t : Turner) : Turner :=
  match t.cstatNext with
  | some (p, d) => { t with cstat := { t.cstat with priv := p, det := d }, cstatNext := none }
  | none => t

/-- Return from the handler (ERET, R147): a written PRIV and DET take effect, and cstat is restored from estat over them, pc from
epc (log entry 134). A return that leaves RESCUE leaves s7. -/
def returnFromHandler (t : Turner) : Turner := { t.applyCstat with cstat := Cstat.ofWord t.estat, pc := t.epc }

/-- Return from the Rescue handler (ERET.X, R147): cstat from xstat over a written change, S-bank s7 is restored where RESCUE = 1,
pc from xpc (log entry 134). -/
def returnFromRescue (t : Turner) : Turner :=
  { t.applyCstat with
    cstat := Cstat.ofWord t.xstat, pc := t.xpc
    sbank := if t.cstat.rescue then vset t.sbank 7 t.savedS7 else t.sbank
    sbankNext := if t.cstat.rescue then vset t.sbankNext 7 t.savedS7 else t.sbankNext }

/-- Launch a ready KERNEL as one step (ERET.L, R153, R516). -/
def launchKernel (s : State) (kid : Nat) (o : Op) : State :=
  let d := o.desc
  let (s1, o1) := startOp s kid o
  let t := s1.turner
  let bank := vget t.segTables (fld d 16 2) (Vector.replicate 8 0)
  let g0 : Vector W64 32 := Vector.replicate 32 0
  let g1 := (List.range 5).foldl (fun g j => vset g (j + 1) (BitVec.ofNat 64 (fld d (24 + 8 * j) 8))) g0
  let r : Running :=
    { kid := kid, segTable := fld d 16 2, prio := (s1.sr o1.sr).prio, pasid := s1.opPasid o1
      budget := BitVec.ofNat 32 (fld d 20 4), used := 0, overBudget := false, lastCause := 0, lastEstat := 0, lastEpc := 0 }
  let t1 := t.isync
  raiseKernelBits (s1.setTurner { t1 with
    kbank := bank, g := vset g1 31 (BitVec.ofNat 64 (segSize (vget bank 7 0))), gpoison := 0, lk := 0, kssDepth := 0
    cstat := { t1.cstat with priv := false, det := (BitVec.ofNat 8 (fld d 18 1)).getLsbD 0 }
    pc := BitVec.ofNat 64 (fld d 8 8), runningK := t1.runningK ++ [r], current := some kid })

end Sys2Proof.Machine
end

