-- ==== Sys2Proof/Machine/Runtime.lean ====
section
/-! DEFINITION. Segment tables and the runtime image: SEGMENT_SET, RUNTIME_LOAD and the reload after a halt (05 R140, R151,
R152; 16 R421-R423). -/

namespace Sys2Proof.Machine
open Sys2Proof

/-- Whether some kernel that has been launched and has not completed satisfies p (R112). -/
def kernelLaunched (s : State) (p : Op → Bool) : Bool :=
  s.opList.any fun q => decide (q.2.opcode = 0x08) && decide (q.2.phase = .started) && p q.2

/-- The slot that a SEGMENT_SET writes (Table 4.6, Table 5.4); an INVALID slot has SIZE 0. -/
def setSlotValue (d : BitVec 512) : Segment :=
  mkSegment (fld d 16 8) (if fld d 11 1 = 0 then 0 else fld d 24 8) (fld d 11 1) (fld d 12 1)

/-- SEGMENT_SET (R140): one slot of one table is written once every launched kernel that uses the table has completed (R112). -/
def execSegmentSet (k : Fin 512) (s : State) : Host.Outcome State Fault Refusal :=
  .next (match s.op k with
    | none => s
    | some o =>
      let table := fld o.desc 8 2
      if kernelLaunched s fun q => decide (fld q.desc 16 2 = table) then s
      else runOp s k 0x44 fun s1 o1 =>
        let t := s1.turner
        let old := vget t.segTables (fld o1.desc 8 2) (Vector.replicate 8 0)
        finishOp (s1.setTurner { t with
          segTables := vset t.segTables (fld o1.desc 8 2) (vset old (fld o1.desc 10 1) (setSlotValue o1.desc)) }) k Result.ok)

/-! ### Runtime images (R421-R423) -/

/-- Slot n of S_BANK in a runtime header. -/
def headerSlot (h : BitVec 4096) (n : Nat) : Segment := h.extractLsb' (8 * (256 + 16 * n)) 128

/-- The S bank of a runtime header. -/
def headerBank (h : BitVec 4096) : Vector Segment 8 := Vector.ofFn fun i => headerSlot h i.val &&& segMask

/-- Whether a slot of S_BANK passes: TYPE 0, 1 or 2, and R22 (Table 16.8). -/
def bankSlotOk (s : State) (g : Segment) : Bool :=
  decide (segType g ≤ 2) && segmentOk s (segType g) (segBase g) (segSize g)

/-- The header checks of R422 step 1, with the hash and the revocation of its key. -/
def runtimeHeaderOk (s : State) (h : BitVec 4096) (length : Nat) : Bool :=
  let body := length - 512
  let base := hfld h 16 8
  let s0 := headerSlot h 0
  decide (hfld h 0 4 = 0x4E555254) && decide (hfld h 4 1 = 1) && decide (hfld h 5 1 ≤ 1) &&
    decide (Cfg.sha384 (hbytes h 32 96) = vget s.firmware.keyHash (hfld h 5 1) 0) && !keyRevoked s.firmware (hfld h 5 1) &&
    decide (512 ≤ length ∧ hfld h 12 4 = body) && decide (base % 4096 = 0) &&
    (decide (body = 0) || s.inRegion base body .operand || s.inRegion base body .kernels) &&
    (List.range 8).all (fun n => bankSlotOk s (headerSlot h n)) &&
    decide (segType s0 = 1) && segExec s0 && decide (0x200 < segSize s0)

/-- Read n bytes from a on in pieces of at most 64 within a line, and copy those from byte 512 on to `base` as they are read; the
bytes read, the address of the last access, and its outcome. -/
def copyImage : Nat → State → Agent → Nat → Nat → Nat → List Byte → List Byte × Nat × Access Unit
  | 0, s, _, _, _, _, acc => (acc, 0, .ok () s)
  | fuel + 1, s, ag, a, base, n, acc =>
    if n = 0 then (acc, a, .ok () s)
    else
      let m := linePart a n
      match busRead s ag a m with
      | .wait s1 => (acc, a, .wait s1)
      | .fail st c s1 => (acc, a, .fail st c s1)
      | .ok bs s1 =>
        let body := bs.drop (512 - acc.length)
        let to_ := base + (acc.length - 512)
        let s2 := if body = [] then s1 else s1.setDev (s1.dev.writeN to_ body)
        copyImage fuel s2 ag (a + m) base (n - m) (acc ++ bs)

/-- Read n bytes from a on without copying. -/
def readImage (s : State) (ag : Agent) (a n : Nat) : List Byte × Nat × Access Unit :=
  let rec go : Nat → State → Nat → Nat → List Byte → List Byte × Nat × Access Unit
    | 0, s, _, _, acc => (acc, 0, .ok () s)
    | fuel + 1, s, a, n, acc =>
      if n = 0 then (acc, a, .ok () s)
      else
        match busRead s ag a (linePart a n) with
        | .wait s1 => (acc, a, .wait s1)
        | .fail st c s1 => (acc, a, .fail st c s1)
        | .ok bs s1 => go fuel s1 (a + linePart a n) (n - linePart a n) (acc ++ bs)
  go (n / 64 + 2) s a n []

/-- The reader of runtime images: SR0 carries no PASID. -/
def imageAgent (w : Requester) (ecc : List Ecc) (hostErr : Option (Nat × Byte × Byte) := none) : Agent :=
  { who := w, pasid := none, reach := [.kernels, .operand, .host], loc := 0x5010, relaxed := false, ecc := ecc, hostErr := hostErr }

/-- After the body has been copied: lines of it that counters watch are passed on, and marks of whole lines are cleared. -/
def settleBody (s : State) (w : Requester) (base n : Nat) : State :=
  let s1 := (tileLines base n).foldl (fun s l =>
    let s1 := if base ≤ 64 * l ∧ 64 * l + 64 ≤ base + n then clearPoison s (64 * l) else s
    deliver s1 l) s
  leaveLines s1 w (tileLines base n)

/-- What a load or a reload waits for before it copies n bytes to `base`: host-held lines, and room for delivered values. -/
def bodyWaits (s : State) (w : Requester) (base n : Nat) : Option State :=
  match awaitLines s w (tileLines base n) with
  | some s1 => some s1
  | none => if (tileLines base n).all fun l => watchRoom s l then none else some s

/-- A 512-byte header as a word. -/
def headerOf (bs : List Byte) : BitVec 4096 := BitVec.ofNat 4096 (bytesToNat (bs.take 512))

/-- The core as RUNTIME_LOAD holds it in reset: no runtime is loaded, modified host lines are written back, no halt is counted
(R422). -/
def holdCore (s : State) : State :=
  let s1 := coreReset (writeBackHostLines s)
  s1.setTurner { s1.turner with retained := none, lastHaltCause := 0 }

/-- RUNTIME_LOAD succeeds (R422 step 6, R29). -/
def runtimeLoaded (s : State) (k : Nat) (src length : Nat) (image : List Byte) : State :=
  let h := headerOf image
  let s1 := s.setTurner { s.turner with
    locked := false, halts := []
    retained := some { addr := BitVec.ofNat 48 src, length := length, digest := Cfg.sha384 image
                       loadBase := BitVec.ofNat 48 (hfld h 16 8) } }
  let s2 := if s1.power.state = .lockout then s1.setPower { s1.power with state := servingState s1 } else s1
  finishOp (startRuntime s2 (headerBank h)) k Result.ok

/-- RUNTIME_LOAD once it has started (R422). The reads and the copy are one step; whatever they wait for is awaited first. -/
def runtimeLoadRun (s : State) (k : Nat) (o : Op) (ag : Agent) : State :=
  let src := fld o.desc 16 8
  let length := fld o.desc 24 4
  let s0 := holdCore s
  let refuse (s : State) : State := finishOp s k (Result.refused 0x13 0x30)
  let fault (s : State) (st c : Byte) (a : Nat) : State := finishOp s k (failResult s 0x5010 st c a 0)
  if length < 512 then refuse s0
  else
    match readImage s0 ag src 512 with
    | (_, _, .wait s1) => s1
    | (_, a, .fail st c s1) => fault s1 st c a
    | (hb, _, .ok _ s1) =>
      let h := headerOf hb
      if !runtimeHeaderOk s1 h length then refuse s1
      else
        let base := hfld h 16 8
        match readImage s0 ag src length with
        | (_, _, .wait s2) => s2
        | _ =>
          match bodyWaits s0 ag.who base (length - 512) with
          | some s2 => s2
          | none =>
            match copyImage (length / 64 + 2) s0 ag src base length [] with
            | (_, _, .wait s2) => s2
            | (got, a, .fail st c s2) => fault (settleBody s2 ag.who base (got.length - 512)) st c a
            | (image, _, .ok _ s2) =>
              let s3 := settleBody s2 ag.who base (length - 512)
              if signatureOk s3.firmware (headerOf image) (image.drop 512) then runtimeLoaded s3 k src length image
              else refuse s3

/-- Whether RUNTIME_LOAD may start: no kernel is launched and not completed, no store of the core waits, and no halt is in
progress (R112, R422). -/
def runtimeLoadReady (s : State) : Bool :=
  !kernelLaunched s (fun _ => true) && s.turner.accesses.isEmpty && decide (s.turner.mode ≠ .halted) &&
    decide (s.turner.mode ≠ .reloading)

/-- RUNTIME_LOAD (R422). `ecc` are the errors that its reads meet. -/
def execRuntimeLoad (k : Fin 512) (ecc : List Ecc) (s : State) : Host.Outcome State Fault Refusal :=
  .next (if runtimeLoadReady s then runOp s k 0x48 fun s1 o => runtimeLoadRun s1 k o (imageAgent (.op o.order) ecc) else s)

/-- The reload of the retained image after a halt (R151, R152, R423): on a match the runtime starts; a failed read or another
digest counts as a further halt. `failed`: the host does not serve the read. -/
def reloadRuntime (s : State) (ecc : List Ecc) (failed : Bool) : State :=
  match s.turner.retained with
  | none => s
  | some r =>
    let again (s : State) : State :=
      let p := countHalt s
      p.2
    let base := r.loadBase.toNat
    let ag := imageAgent .reload ecc (if failed then some (r.addr.toNat / 64, 0x21, 0x12) else none)
    match readImage s ag r.addr.toNat r.length with
    | (_, _, .wait s1) => s1
    | _ =>
      match bodyWaits s ag.who base (r.length - 512) with
      | some s1 => s1
      | none =>
        match copyImage (r.length / 64 + 2) s ag r.addr.toNat base r.length [] with
        | (_, _, .wait s1) => s1
        | (got, _, .fail _ _ s1) => again (settleBody s1 ag.who base (got.length - 512))
        | (image, _, .ok _ s1) =>
          let s2 := settleBody s1 ag.who base (r.length - 512)
          if Cfg.sha384 image = r.digest then startRuntime s2 (headerBank (headerOf image)) else again s2

/-- RUNTIME_RELOAD (R151, R423): the retained image is re-read and checked. -/
def execRuntimeReload (ecc : List Ecc) (failed : Bool) (s : State) : Host.Outcome State Fault Refusal :=
  .next (if cclkRuns s && decide (s.turner.mode = .reloading) then reloadRuntime s ecc failed else s)

end Sys2Proof.Machine
end

