-- ==== Sys2Proof/Machine/ScaleOut.lean ====
section
/-! DEFINITION. Scale-out: wait counters, WAIT, SIGNAL, relays and their admin operations (10_scale_out). -/

namespace Sys2Proof.Machine
open Sys2Proof

/-- The registered counter with an index (R253). -/
def counterAt (s : State) (i : Nat) : Option Counter := s.scale.counters.find? fun c => c.index = i

/-- The queue engine as it reads and adds to counters (R255, R256, 19 R515). -/
def counterAgent (o : Op) (ecc : List Ecc) : Agent :=
  { who := .op o.order, pasid := none, reach := [.kernels], loc := 0x5010, relaxed := false, ecc := ecc }

/-- Complete an operation with FAULT_ACCESS code 0x10 at an address, counted at the queue engine (R253, R256, R258, R259;
19 R515). -/
def refuseAccess (s : State) (k a : Nat) : State :=
  finishOp (faultEvent s 0x5010 2 (BitVec.ofNat 64 a)) k (Result.fault 0x21 0x10 0x5010 a 0)

/-- The comparison of a WAIT (R255). -/
def waitHolds (o : Op) (v : W64) : Bool :=
  let target := fld o.desc 16 8
  if fld o.desc 10 1 = 0 then decide (target ≤ v.toNat) else decide (v.toNat = target)

/-- The WAIT in entry k starts and finishes (R255). -/
def satisfyWait (s : State) (k : Nat) (o : Op) : State := finishOp (startOp s k o).1 k Result.ok

/-- WAIT is evaluated once its predecessors have finished and its counter is registered: the counter is read at its home
agent, and the WAIT finishes or waits for values that are delivered (R255). It is not started before it is satisfied;
`aux` 1 marks it as evaluated. `ecc` are the errors that the read meets. -/
def execWait (k : Fin 512) (ecc : List Ecc) (s : State) : Host.Outcome State Fault Refusal :=
  .next (match s.op k with
    | none => s
    | some o =>
      if o.opcode ≠ 0x10 || o.aux ≠ 0 || !mayStart s k then s
      else
        match counterAt s (fld o.desc 8 2) with
        | none => s
        | some c =>
          match busRead s (counterAgent o ecc) c.addr.toNat 8 with
          | .wait s1 => s1
          | .fail st code s1 =>
            finishOp s1 k (Result.fault st code (if code = 0x20 then memLocation s1 c.addr.toNat else 0x5010) c.addr.toNat 0)
          | .ok bs s1 =>
            if waitHolds o (BitVec.ofNat 64 (bytesToNat bs)) then satisfyWait s1 k o
            else s1.setOp k (some { o with aux := 1 }))

/-- The add of a SIGNAL to the counter at address a, as one atomic operation at the home agent (R256). -/
def signalAdd (s : State) (k : Nat) (o : Op) (a : Nat) (ecc : List Ecc) : State :=
  match busRead s (counterAgent o ecc) a 8 with
  | .wait s1 => s1
  | .fail st code s1 =>
    finishOp s1 k (Result.fault st code (if code = 0x20 then memLocation s1 a else 0x5010) a 0)
  | .ok bs s1 =>
    match busWrite s1 (counterAgent o []) a (natToBytes (bytesToNat bs + fld o.desc 16 8) 8) with
    | .ok _ s2 => finishOp s2 k Result.ok
    | .wait s2 => s2
    | .fail st code s2 => finishOp s2 k (Result.fault st code 0x5010 a 0)

/-- SIGNAL adds ADDEND to the counter that is registered when it starts (R256). -/
def execSignal (k : Fin 512) (ecc : List Ecc) (s : State) : Host.Outcome State Fault Refusal :=
  .next (runOp s k 0x11 fun s o =>
    match o.target.or ((counterAt s (fld o.desc 8 2)).map fun c => c.addr.toNat) with
    | none => refuseAccess s k 0
    | some a =>
      let o1 := { o with target := some a }
      signalAdd (saveOp s k o1) k o1 a ecc)

/-- Compare a value delivered for a counter with every WAIT that has been evaluated and waits on it (R255). -/
def compareValue (s : State) (v : Nat × W64) : State :=
  s.opList.foldl (fun s q =>
    if q.2.opcode = 0x10 ∧ q.2.phase = .admitted ∧ q.2.aux = 1 ∧ fld q.2.desc 8 2 = v.1 ∧ waitHolds q.2 v.2 then
      satisfyWait s q.1 q.2
    else s) s

/-- Take up to n delivered values in serialisation order and compare each (R255). -/
def takeValues : Nat → State → State
  | 0, s => s
  | n + 1, s =>
    match s.scale.delivered with
    | [] => s
    | v :: vs => takeValues n (compareValue (s.setScale { s.scale with delivered := vs }) v)

/-- Put a counter into the table, in the order of its index. -/
def registerCounter (s : State) (i a : Nat) : State :=
  s.setScale { s.scale with counters := (s.scale.counters.filter fun c => c.index < i) ++
    [{ index := i, addr := BitVec.ofNat 48 a }] ++ (s.scale.counters.filter fun c => i < c.index) }

/-- Take a counter out of the table: WAITs on it are held unevaluated (R253, R255). -/
def deregisterCounter (s : State) (i : Nat) : State :=
  let s1 := s.setScale { s.scale with counters := s.scale.counters.filter fun c => c.index ≠ i }
  s1.setQueue { s1.queue with ops := s1.queue.ops.map fun (q : Option Op) =>
    (q.map fun o => if o.opcode = 0x10 ∧ fld o.desc 8 2 = i then { o with aux := 0 } else o) }

/-- COUNTER_SET registers a counter, with a first value where asked, or deregisters it (R253); what decode found is
tested again (04 R104). -/
def execCounterSet (k : Fin 512) (s : State) : Host.Outcome State Fault Refusal :=
  .next (runOp s k 0x46 fun s o =>
    let i := fld o.desc 8 2
    let mode := fld o.desc 10 1
    let a := fld o.desc 16 8
    if mode % 2 = 0 then
      if (counterAt s i).isNone then finishOp s k changedSince
      else finishOp (deregisterCounter s i) k Result.ok
    else if (counterAt s i).isSome then finishOp s k changedSince
    else if !s.inRegion a 8 .kernels || inShared s a then refuseAccess s k a
    else
      let s1 := registerCounter s i a
      if mode / 2 % 2 = 0 then finishOp s1 k Result.ok
      else
        match busWrite s1 (counterAgent o []) a (natToBytes (fld o.desc 24 8) 8) with
        | .ok _ s2 => finishOp s2 k Result.ok
        | .wait s2 => s2.setScale s.scale
        | .fail st code s2 => finishOp s2 k (Result.fault st code 0x5010 a 0))

/-- RELAY_TABLE_SET writes an entry or makes it invalid (R258). -/
def execRelayTableSet (k : Fin 512) (s : State) : Host.Outcome State Fault Refusal :=
  .next (runOp s k 0x45 fun s o =>
    let mode := fld o.desc 9 1
    let a := fld o.desc 16 8
    if decide (mode % 2 = 1) && !s.inRegion a 8 .host then refuseAccess s k a
    else
      let e : RelayEntry := { valid := mode % 2 = 1, usePasid := mode / 2 % 2 = 1, pasid := BitVec.ofNat 20 (fld o.desc 12 4)
                              addr := BitVec.ofNat 48 a }
      finishOp (s.setScale { s.scale with relays := vset s.scale.relays (fld o.desc 8 1) e }) k Result.ok)

/-- The relay entry with an index. -/
def relayAt (s : State) (i : Nat) : RelayEntry :=
  vget s.scale.relays i { valid := false, usePasid := false, pasid := 0, addr := 0 }

/-- The one posted write of a RELAY to the address of its entry (R259). -/
def relayWrite (s : State) (k : Nat) (o : Op) (a : Nat) : State :=
  let n := fld o.desc 9 1
  let ag : Agent := { who := .op o.order, pasid := s.opPasid o, reach := [.host], loc := 0x5010, relaxed := false, ecc := [] }
  match busWrite s ag a (natToBytes (fld o.desc 16 8) n) with
  | .ok _ s1 => finishOp (saveOp s1 k { o with progress := n, flush := noteWrite s1 o.flush a n }) k Result.ok
  | .wait s1 => s1
  | .fail st code s1 => finishOp s1 k (Result.fault st code 0x5010 a 0)

/-- RELAY checks its entry, as it stands when the operation starts, and sends one posted write of the low SIZE bytes of VALUE
(R258, R259). -/
def execRelay (k : Fin 512) (s : State) : Host.Outcome State Fault Refusal :=
  .next (runOp s k 0x12 fun s o =>
    match o.target with
    | some a => relayWrite s k o a
    | none =>
      let e := relayAt s (fld o.desc 8 1)
      let a := e.addr.toNat
      if !e.valid then refuseAccess s k 0
      else if e.usePasid && s.link.cfg.pasidEnable && decide (s.opPasid o ≠ some e.pasid) then refuseAccess s k a
      else
        let o1 := { o with target := some a }
        relayWrite (saveOp s k o1) k o1 a)

end Sys2Proof.Machine
end

