-- ==== Sys2Proof/Machine/HostLink.lean ====
section
/-! DEFINITION. The host link: BAR4 and CXL.mem requests at the home agents, back-invalidates, ATS, link errors, lanes and
configuration requests (02_host_link). -/

namespace Sys2Proof.Machine
open Sys2Proof

/-! ### Advanced error reporting (02 R36, R39) -/

/-- Whether an error of the AER status, by its bit, is met in a TLP whose header is logged: poisoned TLP, Completer Abort,
unexpected or malformed TLP, Unsupported Request. -/
def aerLogs (bit : Nat) : Bool := bit = 12 || bit = 15 || bit = 16 || bit = 18 || bit = 20

/-- The header log after an error: the first one is held until its status bit is cleared. What the TLP's header and prefixes
say, the command does not carry: it is a free value (R36, log entry 133). -/
def aerLog (s : State) (bit : Nat) : Option (Nat × BitVec 128 × BitVec 128) :=
  match s.link.aer.log with
  | some x => some x
  | none => if aerLogs bit then some (bit, Cfg.freeBits 128 (2 * s.freeCtr), Cfg.freeBits 128 (2 * s.freeCtr + 1)) else none

/-- An uncorrectable error, by its bit of the AER status: reported as an advisory correctable error, non-fatal or fatal. -/
def aerUncorrectable (s : State) (bit : Nat) (advisory fatal : Bool) : State :=
  let a := s.link.aer
  let aer : Aer := { uncorr := a.uncorr ||| BitVec.twoPow 32 bit, corr := if advisory then a.corr ||| 0x2000 else a.corr
                     log := aerLog s bit }
  (sendHost (s.setLink { s.link with aer := aer }) (.aer bit fatal advisory)).tookFree

/-- A correctable error, by its bit of the AER status. -/
def aerCorrectable (s : State) (bit : Nat) : State :=
  let a := s.link.aer
  sendHost (s.setLink { s.link with aer := { a with corr := a.corr ||| BitVec.twoPow 32 bit } }) (.aer bit false true)

/-- A posted request that is refused is dropped (Table 2.4). -/
def dropPosted (s : State) (a : Nat) : State :=
  let s1 := aerUncorrectable (hostRequestError s a) 20 true false
  s1.setLink { s1.link with dropped := s1.link.dropped + 1 }

/-- A non-posted request that is refused completes as Unsupported Request (Table 2.4). -/
def refuseNonPosted (s : State) (a : Nat) : State :=
  sendHost (aerUncorrectable (hostRequestError s a) 20 false false) .unsupported

/-! ### Requests that come over the host link (R63) -/

/-- Do something for a request that comes over the host link: the link is up and the device runs (R63). -/
def onLink (s : State) (f : State → State) : State := if s.link.up && s.running then f s else s

/-! ### BAR4 (R40-R43) -/

/-- Bytes of BAR4 (R40). -/
def bar4Bytes (s : State) : Nat := 2 ^ (s.link.cfg.bar4Enc + 20)

/-- The device address of a BAR4 request of n bytes, none where it is refused: outside the BAR, or a byte outside HBM for
kernels (R41, R42, Table 2.4); with Memory Space Enable 0 the BAR takes no request. -/
def bar4Addr (s : State) (offset n : Nat) : Option Nat :=
  let a := s.link.bar4Base.toNat * 2 ^ 30 + offset
  if s.link.cfg.memEnable && decide (offset + n ≤ bar4Bytes s) && (decide (n = 0) || s.inRegion a n .kernels) then some a else none

/-- The device address a BAR4 offset stands for. -/
def bar4Target (s : State) (offset : Nat) : Nat := s.link.bar4Base.toNat * 2 ^ 30 + offset

/-- BAR4_READ (R43): served by the home agents, or refused. A zero-length read, as another module's flush read is (10 R262),
touches no byte: it completes behind the BAR4 requests that came before it (R263). -/
def execBar4Read (offset len : Nat) (ecc : List Ecc) (s : State) : Host.Outcome State Fault Refusal :=
  .next (onLink s fun s =>
    match bar4Addr s offset len with
    | some a => submit s (.bar4Read a len ecc)
    | none => refuseNonPosted s (bar4Target s offset))

/-- A posted write through BAR4; a poisoned one marks the lines it touches (R43, Table 2.4, 19 R477). -/
def bar4Write (s : State) (offset : Nat) (data : List Byte) (poison : Bool) (ecc : List Ecc) : State :=
  match bar4Addr s offset data.length with
  | some a =>
    let s1 := if poison then aerUncorrectable (hostRequestError s a) 12 true false else s
    submit s1 (.bar4Write a data poison ecc)
  | none => dropPosted s (bar4Target s offset)

/-- BAR4_WRITE (R43). -/
def execBar4Write (offset : Nat) (data : List Byte) (poison : Bool) (ecc : List Ecc) (s : State) :
    Host.Outcome State Fault Refusal :=
  .next (onLink s fun s => bar4Write s offset data poison ecc)

/-- ATOMICOP (R43): performed at the home agent at BAR4, of 8 bytes or of 4 bytes; refused at BAR0 and BAR2. One that is
not naturally aligned is a malformed TLP. -/
def execAtomicop (bar4 : Bool) (offset : Nat) (op : AtomicOp) (is64 : Bool) (ecc : List Ecc) (s : State) :
    Host.Outcome State Fault Refusal :=
  .next (onLink s fun s =>
    let w := if is64 then 8 else 4
    if offset % w ≠ 0 then aerUncorrectable (faultEvent s 0x6100 2) 18 false true
    else if !bar4 then refuseNonPosted s 0
    else
      match bar4Addr s offset w with
      | some a => submit s (.atomic a op is64 ecc)
      | none => refuseNonPosted s (bar4Target s offset))

/-! ### CXL.mem (R55, R57-R62) -/

/-- Whether the host may address a line of device memory through CXL.mem: the decoder is committed and the line lies in the
shared window (R57). -/
def hdmLine (s : State) (line : Nat) : Bool := s.link.cxlMode && s.link.hdmCommitted && inShared s (64 * line)

/-- CXL_MEM_READ of a line (R60). -/
def execCxlMemRead (line : Nat) (ecc : List Ecc) (s : State) : Host.Outcome State Fault Refusal :=
  .next (onLink s fun s => if hdmLine s line then submit s (.memRead line ecc) else s)

/-- CXL_MEM_WRITE of a line (R60); `keep`: the host keeps a copy. -/
def execCxlMemWrite (line : Nat) (data : Vector Byte 64) (keep : Bool) (s : State) : Host.Outcome State Fault Refusal :=
  .next (onLink s fun s => if hdmLine s line then submit s (.memWrite line data.toList keep) else s)

/-- A back-invalidate of a line ends: its directory entry is freed and the waiting requests proceed (R59, R62). -/
def biEnds (s : State) (line : Nat) : State :=
  retryHome (s.setLink { s.link with dir := s.link.dir.erase line, biPending := s.link.biPending.erase line })

/-- BACK_INVALIDATE_RESPONSE for a line (R59). -/
def execBackInvalidateResponse (line : Nat) (s : State) : Host.Outcome State Fault Refusal :=
  .next (onLink s fun s => if s.link.biPending.contains line then biEnds s line else s)

/-- BACK_INVALIDATE_TIMEOUT: the line is poisoned and released, and an internal error is reported (R62). -/
def execBackInvalidateTimeout (line : Nat) (s : State) : Host.Outcome State Fault Refusal :=
  .next (onLink s fun s =>
    if s.link.biPending.contains line then
      biEnds (aerUncorrectable (hostRequestError (markPoison s (64 * line)) (64 * line)) 22 false true) line
    else s)

/-- HOST_SNOOP of a host line (R55): a line modified in the Turner L2 is answered with its data and no longer modified;
the response carries poison where the line holds it, or where `bad` says that it has an uncorrectable error in the L2 (19 Table
19.4). -/
def execHostSnoop (line : Nat) (bad : Bool) (s : State) : Host.Outcome State Fault Refusal :=
  .next (onLink s fun s =>
    match s.link.l2Host.find? fun p => p.1 = line with
    | none => sendHost s (.snoopRsp line none false)
    | some p =>
      let s1 := s.setLink { s.link with l2Host := s.link.l2Host.erase p, l2Poison := s.link.l2Poison.erase line }
      if s.link.l2Poison.contains line then sendHost s1 (.snoopRsp line (some p.2) true)
      else if bad then sendHost (faultEvent s1 0x2003 2 (BitVec.ofNat 64 (0xC00000000000 + 64 * line))) (.snoopRsp line (some p.2) true)
      else sendHost (s1.setHost (s1.host.writeN (64 * line) p.2)) (.snoopRsp line (some p.2) false))

/-- COUNTER_VALUE_TAKEN: one cycle's up to eight values are taken and compared, and the room they leave lets writes to
watched lines that are held take effect (10 R255). -/
def execCounterValueTaken (s : State) : Host.Outcome State Fault Refusal :=
  .next (if s.running then retryHome (takeValues 8 s) else s)

/-! ### ATS (R47-R49) -/

/-- ATS_INVALIDATE_REQUEST for `count` pages from `page` of a PASID: the matching translations go, and the completion is
sent behind every write that used them, which the model has then sent, and once every outstanding read that used them has
completed (R48). -/
def execAtsInvalidateRequest (tag : Fin 32) (pasid : Option (BitVec 20)) (page count : Nat) (s : State) :
    Host.Outcome State Fault Refusal :=
  .next (onLink s fun s =>
    if !s.link.cfg.atsEnable then s
    else
      let gone (t : Translation) := decide (t.pasid = pasid ∧ page ≤ t.page ∧ t.page < page + count)
      settleInvalidations (s.setLink { s.link with
        atc := s.link.atc.filter fun t => !gone t
        invalidations := s.link.invalidations ++ [{ tag := tag, pasid := pasid, page := page, count := count }] }))

/-- TRANSLATION_COMPLETION: the translation enters the cache, whose least recently used entry leaves when it is full; UR, CA
or no permission is a refusal, which everyone that waits for it meets (R47, R49). -/
def execTranslationCompletion (pasid : Option (BitVec 20)) (page : Nat) (result : Option (BitVec 34 × Bool × Bool))
    (s : State) : Host.Outcome State Fault Refusal :=
  .next (onLink s fun s =>
    match s.link.xlatAsked.find? fun x => x.isFor pasid page with
    | none => s
    | some x =>
      let l := { s.link with xlatAsked := s.link.xlatAsked.erase x }
      let refusals : List XlatRefusal := x.who.map fun w => { who := w, pasid := pasid, page := page }
      match result with
      | some (t, r, w) =>
        if r || w then
          let e : Translation := { pasid := pasid, page := page, target := t.toNat, canRead := r, canWrite := w }
          s.setLink { l with atc := (e :: l.atc).take 4096 }
        else s.setLink { l with xlatRefused := l.xlatRefused ++ refusals }
      | none => s.setLink { l with xlatRefused := l.xlatRefused ++ refusals })

/-! ### Device reads that the host does not serve (Table 2.4) -/

/-- The run of a started operation whose read of a host line is answered with an error: it counts only where the operation
comes to that read. -/
def readFails (s : State) (k line : Nat) (st code : Byte) : State :=
  match s.op k with
  | none => s
  | some o =>
    runOp s k o.opcode fun s1 o1 =>
      let ag := moverAgent s1 o1 [] (some (line, st, code))
      let mover (r : Run) : State := match r.out with
        | .fail st' c' _ => if st' = st ∧ c' = code ∧ r.addr / 64 = line then endRun k r else s
        | _ => s
      if o.opcode = 0x01 then mover (copyRun s1 o1 ag)
      else if o.opcode = 0x02 then mover (convertRun s1 o1 ag)
      else if o.opcode = 0x58 then
        match stageRead s1 k o1 (stageAgent o1 [] (some (line, st, code))) with
        | (a, .fail st' c' s2) => if st' = st ∧ c' = code ∧ a / 64 = line then stageFault s2 k st c' a else s
        | _ => s
      else if o.opcode = 0x48 then
        let src := fld o1.desc 16 8
        if runtimeLoadReady s && decide (src ≤ 64 * line + 63 ∧ 64 * line < src + fld o1.desc 24 4) then
          runtimeLoadRun s1 k o1 (imageAgent (.op o1.order) [] (some (line, st, code)))
        else s
      else s

/-- A flush read that is out ends in an error, counted at the agent that made it: FAULT_ACCESS code 0x12, unless the operation's
status is a fault already (10 R262, 19 R515). -/
def flushFails (s : State) (k : Nat) : State :=
  match s.op k with
  | none => s
  | some o =>
    match o.closing with
    | none => s
    | some r =>
      if o.flush ≠ [] then s
      else completeOp (faultEvent s (opLocation o) 2) k (flushFault o r 0x12)

/-- The accesses once the host read of the i-th outstanding load has ended in an error (05 R129): poisoned data as read, or
no data, whose bytes read 0xFF. -/
def failLoad : List MemAccess → Nat → Bool → List MemAccess
  | [], _, _ => []
  | .load rd a kd p c r :: rest, 0, data =>
    if 0xC00000000000 ≤ a.toNat then
      let bytes := if data then (r.map (·.bytes)).getD (List.replicate kd.width 0xFF) else List.replicate kd.width 0xFF
      .load rd a kd p c (some { bytes := bytes, poison := true }) :: rest
    else .load rd a kd p c r :: rest
  | .load rd a kd p c r :: rest, i + 1, data => .load rd a kd p c r :: failLoad rest i data
  | x :: rest, i, data => x :: failLoad rest i data

/-- The device address of the i-th outstanding load. -/
def loadAddr : List MemAccess → Nat → W64
  | [], _ => 0
  | .load _ a _ _ _ _ :: _, 0 => a.setWidth 64
  | .load _ _ _ _ _ _ :: rest, i + 1 => loadAddr rest i
  | .store .. :: rest, i => loadAddr rest i

/-- A device read ends in an error, with the status and the code that an operation then completes with; a load of the
Turner is marked as failed (05 R129). The error is counted at the agent that made the read (19 R515). -/
def devReadFails (s : State) (r : DevRead) (st code : Byte) : State :=
  match r with
  | .op k line => readFails s k line st code
  | .flush k => flushFails s k
  | .load i =>
    let failed := failLoad s.turner.accesses i (code = 0x22)
    if failed = s.turner.accesses then s
    else faultEvent (s.setTurner { s.turner with accesses := failed }) 0x2002 2 (loadAddr s.turner.accesses i)

/-- COMPLETION_TIMEOUT: a device read gets no completion (R39). -/
def execCompletionTimeout (r : DevRead) (s : State) : Host.Outcome State Fault Refusal :=
  .next (if s.running then
    let s1 := devReadFails s r 0x21 0x12
    if s1 = s then s else aerUncorrectable s1 14 false false
  else s)

/-! ### Link errors and lanes (R34, R35, R39) -/

/-- The count of a lane advances; the lane is due for retirement when more than 4,096 errors fall in one second (R34). -/
def laneError (s : State) (lane : Nat) : State :=
  let x := vget s.link.lanes lane { errors := [], due := false, lockFails := 0, retired := false }
  let t := threshold 4097 (fclkSeconds 1) x.errors s.now
  s.setLink { s.link with lanes := vset s.link.lanes lane { x with errors := t.2, due := x.due || t.1 } }

/-- A symbol error on a lane: counted, and the lane is due for retirement when more than 4,096 fall in one second (R34,
R39). -/
def symbolError (s : State) (lane : Nat) : State :=
  aerCorrectable (faultEvent (laneError s lane) (BitVec.ofNat 16 (0x6000 + lane)) 1) 0

/-- A correctable error of the link in which the symbols of some lanes were in error: the lane counts advance (R34, Table 2.4). -/
def linkRetry (s : State) (lanes : W16) (bit : Nat) : State :=
  let s1 := (List.range 16).foldl (fun s i => if lanes.getLsbD i then laneError s i else s) s
  aerCorrectable (faultEvent s1 0x6100 1) bit

/-- LINK_ERROR: an error of Table 2.4 is handled and counted (R39). -/
def execLinkError (e : LinkErr) (s : State) : Host.Outcome State Fault Refusal :=
  .next (onLink s fun s =>
    match e with
    | .symbol lane => if lane < 16 then symbolError s lane else s
    | .badFlit lanes => linkRetry s lanes 6
    | .replay lanes => linkRetry s lanes 8
    | .replayTimeout lanes => linkRetry s lanes 12
    | .poisonedBar4 o d ecc => bar4Write s o d true ecc
    | .poisonedBar02 =>
      let s1 := aerUncorrectable (hostRequestError s 0) 12 true false
      s1.setLink { s1.link with dropped := s1.link.dropped + 1 }
    | .poisonedRead r =>
      let s1 := devReadFails s r 0x22 0x22
      if s1 = s then s else aerUncorrectable s1 12 true false
    | .refusedRead r ca =>
      let s1 := devReadFails s r 0x21 0x12
      if s1 = s then s else aerUncorrectable s1 (if ca then 15 else 20) false false
    | .unsupportedPosted => dropPosted s 0
    | .unsupportedNonPosted => refuseNonPosted s 0
    | .malformedTlp => aerUncorrectable (faultEvent s 0x6100 2) 18 false true
    | .receiverOverflow => aerUncorrectable (faultEvent s 0x6100 2) 17 false true
    | .flowControl => aerUncorrectable (faultEvent s 0x6100 2) 13 false true)

/-- Whether a group of lanes holds no retired lane. -/
def lanesFree (l : Link) (first n : Nat) : Bool :=
  (List.range n).all fun i => !(vget l.lanes (first + i) { errors := [], due := false, lockFails := 0, retired := true }).retired

/-- The width and the first lane that the device offers: the widest group without a retired lane, at lane 0 if one starts
there (R35); 0 where there is none. -/
def offeredWidth (l : Link) : Nat × Nat :=
  (([16, 8, 4, 1] : List Nat).findSome? fun n =>
    if lanesFree l 0 n then some (n, 0)
    else if l.reversalOk && lanesFree l (16 - n) n then some (n, 16 - n)
    else none).getD (0, 0)

/-- The link as it offers its lanes. -/
def offerLanes (l : Link) : Link := { l with width := (offeredWidth l).1, firstLane := (offeredWidth l).2 }

/-- Retired lanes as a bit map. -/
def retiredLanes (l : Link) : W16 :=
  (List.range 16).foldl (fun m i =>
    if (vget l.lanes i { errors := [], due := false, lockFails := 0, retired := false }).retired then m ||| BitVec.twoPow 16 i else m) 0

/-- Retire a lane: recorded in the settings store (log entry 137 on the path to it), and an action of the fault path at the lane; a link
that is up is directed through Recovery, to retrain without it (R34, 19 Table 19.2). -/
def retireLane (s : State) (lane : Nat) : State :=
  let x := vget s.link.lanes lane { errors := [], due := false, lockFails := 0, retired := false }
  let l := offerLanes { s.link with lanes := vset s.link.lanes lane { x with retired := true, due := false, errors := [], lockFails := 0 } }
  let s1 := faultAction (s.setLink { l with recovery := s.link.up }) (BitVec.ofNat 16 (0x6000 + lane)) 3
  s1.setFirmware (writeSettings s1.firmware { s1.firmware.inUse with lanes := s1.firmware.inUse.lanes ||| BitVec.twoPow 16 lane })

/-- LANE_RETIRE: a lane whose errors or lock failures have met the threshold is retired, and the link retrains without it
(R34, R35). -/
def execLaneRetire (lane : Fin 16) (s : State) : Host.Outcome State Fault Refusal :=
  let x := vget s.link.lanes lane.val { errors := [], due := false, lockFails := 0, retired := false }
  .next (if s.running && !x.retired && (x.due || decide (2 ≤ x.lockFails)) then retireLane s lane.val else s)

/-! ### Configuration space (R36-R41, R46, R47, R54-R57, R441) -/

/-- HDM_DECODER_COMMIT (R57). -/
def execHdmDecoderCommit (s : State) : Host.Outcome State Fault Refusal :=
  .next (onLink s fun s =>
    if !s.link.cxlMode then s
    else if s.link.winSize ≠ 0 ∧ s.link.cfg.biEnable then s.setLink { s.link with hdmCommitted := true, commitError := false }
    else s.setLink { s.link with commitError := true })

/-- RESIZABLE_BAR_WRITE: encodings 10 to 19 are accepted (R40). -/
def execResizableBarWrite (enc : Nat) (s : State) : Host.Outcome State Fault Refusal :=
  .next (onLink s fun s =>
    if 10 ≤ enc ∧ enc ≤ 19 then s.setLink { s.link with cfg := { s.link.cfg with bar4Enc := enc } } else s)

/-- A Base Address Register: bits below the size read 0 but for the type, 64-bit, and prefetchable or not (Table 2.5). -/
def barValue (base : W64) (log2 : Nat) (prefetch : Bool) : W64 :=
  ((base >>> log2) <<< log2) ||| (if prefetch then 0xC else 0x4)

/-- BAR0 of 64 MiB, BAR2 of 128 KiB, and BAR4 of its Resizable BAR size, as they read (R40, Table 2.5). -/
def bars (c : Config) : List W64 := [barValue c.bar0 26 false, barValue c.bar2 17 false, barValue c.bar4 (c.bar4Enc + 20) true]

/-- The i-th double word of a word. -/
def dword {w : Nat} (x : BitVec w) (i : Nat) : W32 := x.extractLsb' (32 * i) 32

/-- A bit of a register. -/
def bitIf (b : Bool) (n : Nat) : W32 := if b then BitVec.twoPow 32 n else 0

/-- What a configuration read returns (Tables 2.1, 2.2, 2.3, 2.5, 2.7): the fields that the specification gives, in the places that
PCI Express and CXL give them (log entry 133). A register that the specification does not give reads a free value (log
entry 24). -/
def configValue (s : State) (r : ConfigReg) : Option W32 :=
  let c := s.link.cfg
  match r with
  | .id => some (if s.power.sku = .om1_384 then 0x0E011F7A else 0x0E021F7A)
  | .classRevision => some (0x12000000 ||| s.power.revision.setWidth 32)
  | .subsystem => some 0x00011F7A
  | .serialLow => some (s.power.serial.extractLsb' 0 32)
  | .serialHigh => some (s.power.serial.extractLsb' 32 32)
  | .aerUncorrectable => some s.link.aer.uncorr
  | .aerCorrectable => some s.link.aer.corr
  | .aerHeader i => some (match s.link.aer.log with | some x => dword x.2.1 i | none => 0)
  | .aerPrefix i => some (match s.link.aer.log with | some x => dword x.2.2 i | none => 0)
  | .bar i => some (dword ((bars c).getD (i / 2) 0) (i % 2))
  | .command => some (bitIf c.memEnable 1 ||| bitIf c.busMaster 2)
  | .deviceCapabilities => some 0x10000002
  | .deviceControl => some (bitIf c.relaxed 4 ||| (c.maxPayload.setWidth 32 <<< 5) ||| (c.maxRead.setWidth 32 <<< 12))
  | .deviceCapabilities2 => some 0x00000180
  | .deviceCapabilities3 => some 0x00000006
  | .aspmSupport => some 2
  | .aspmControl => some (bitIf c.aspmL1 1)
  | .pmCapabilities => some 0
  | .pmControl => some (if c.d3hot then 3 else 0)
  | .resizableCapability => some 0x00FFC000
  | .resizableControl => some (0x00000024 ||| (BitVec.ofNat 32 c.bar4Enc <<< 8))
  | .atsCapability => some 0x00000020
  | .atsControl => some (bitIf c.atsEnable 15)
  | .pasidCapability => some 0x00001400
  | .pasidControl => some (bitIf c.pasidEnable 0)
  | .msixControl => some (63 ||| bitIf c.msixMask 14 ||| bitIf c.msixEnable 15)
  | .msixTable => some 0x03FF0000
  | .msixPba => some 0x03FF8000
  | .marginTimingSteps => some 16
  | .marginVoltageSteps => some 32
  | .marginErrorLimit => some 63
  | .cxlDvsecs => some (if s.link.cxlMode then bitIf true 0 ||| bitIf true 7 ||| bitIf true 8 else 0)
  | .cxlCacheSize => some (if s.link.cxlMode then 4096 else 0)
  | .absent => some 0
  | .other => none

/-- A configuration read is answered. -/
def configRead (s : State) (r : ConfigReg) : State :=
  match configValue s r with
  | some v => sendHost s (.configData v)
  | none => (sendHost s (.configData (s.free 32))).tookFree

/-! ### Lane margining, DOE Discovery and CDAT (Tables 2.2, 2.7) -/

/-- A margined receiver: so many errors at a step that the device offers. -/
def marginStep (m : MarginLane) (offered : Bool) (errors : Nat) : MarginLane :=
  { m with status := if !offered then .refused else if m.limit < min errors 63 then .tooMany else .margining (min errors 63) }

/-- A margining command: timing in 16 steps each side, voltage in 32 steps each way, an error count limit up to 63. -/
def marginAfter (m : MarginLane) : Margin → MarginLane
  | .timing _ n errors => marginStep m (decide (1 ≤ n ∧ n ≤ 16)) errors
  | .voltage _ n errors => marginStep m (decide (1 ≤ n ∧ n ≤ 32)) errors
  | .errorLimit n => if n ≤ 63 then { limit := n, status := .normal } else { m with status := .refused }
  | .normal => { m with status := .normal }

/-- A margining command for a lane, and the status that the host reads. -/
def marginLane (s : State) (lane : Nat) (x : Margin) : HostMsg × State :=
  let m := marginAfter (vget s.link.margins lane { limit := 4, status := .normal }) x
  (.margin (Fin.ofNat 16 lane) m.status, s.setLink { s.link with margins := vset s.link.margins lane m })

/-- The objects of the DOE mailbox, by vendor and type: DOE Discovery, CMA/SPDM, and CXL's Table Access. -/
def doeObjects : List (Nat × Nat) := [(0x0001, 0), (0x0001, 1), (0x1E98, 2)]

/-- The answer of DOE Discovery for an entry: its object, and the next index, 0 after the last. -/
def doeDiscovery (i : Nat) : HostMsg :=
  match doeObjects[i]? with
  | some x => .doeProtocol (some x.1) x.2 (if i + 1 < doeObjects.length then i + 1 else 0)
  | none => .doeProtocol none 0 0

/-- The entries of CDAT: one DSMAS for the shared window and its DSLBIS; none while there is no window (Table 2.7). -/
def cdat (s : State) : List CdatEntry :=
  match sharedWindow s with
  | none => []
  | some w => [.dsmas w.1 w.2, .latencyRead 180, .latencyWrite 180, .bandwidthRead 110000, .bandwidthWrite 110000]

/-! ### Configuration requests -/

/-- The configuration space after a write. -/
def configWrite (c : Config) : ConfigReq → Config
  | .read _ | .clearUncorrectable _ | .clearCorrectable _ | .margin _ _ | .doeDiscovery _ | .cdatAccess _ => c
  | .memEnable v => { c with memEnable := v }
  | .busMaster v => { c with busMaster := v }
  | .pasidEnable v => { c with pasidEnable := v }
  | .atsEnable v => { c with atsEnable := v }
  | .relaxedOrdering v => { c with relaxed := v }
  | .cxlCache v => { c with cxlCache := v }
  | .backInvalidate v => { c with biEnable := v }
  | .msixEnable v => { c with msixEnable := v }
  | .functionMask v => { c with msixMask := v }
  | .completionTimeout v => { c with cplTimeout := v }
  | .maxPayload v => { c with maxPayload := v }
  | .maxRead v => { c with maxRead := v }
  | .aspmL1 v => { c with aspmL1 := v }
  | .bar0 v => { c with bar0 := (v >>> 26) <<< 26 }
  | .bar2 v => { c with bar2 := (v >>> 17) <<< 17 }
  | .bar4 v => { c with bar4 := (v >>> (c.bar4Enc + 20)) <<< (c.bar4Enc + 20) }

/-- The AER status after 1 bits are written to the uncorrectable errors: the log goes with its error. -/
def Aer.clearUncorr (a : Aer) (v : W32) : Aer :=
  { a with uncorr := a.uncorr &&& ~~~v
           log := match a.log with
             | some x => if v.getLsbD x.1 then none else some x
             | none => none }

/-- A configuration request once the module has entered WARM. -/
def configRequest (s : State) (r : ConfigReq) : State :=
  match r with
  | .read x => configRead s x
  | .clearUncorrectable v => s.setLink { s.link with aer := s.link.aer.clearUncorr v }
  | .clearCorrectable v => s.setLink { s.link with aer := { s.link.aer with corr := s.link.aer.corr &&& ~~~v } }
  | .margin lane m => let p := marginLane s lane m; sendHost p.2 p.1
  | .doeDiscovery i => sendHost s (doeDiscovery i.toNat)
  | .cdatAccess i => sendHost s (.cdat (cdat s)[i.toNat]?)
  | w => sendPendingVectors (s.setLink { s.link with cfg := configWrite s.link.cfg w })

/-- CONFIGURATION_REQUEST: before the module enters WARM it completes with Request Retry Status (R441). -/
def execConfigurationRequest (r : ConfigReq) (s : State) : Host.Outcome State Fault Refusal :=
  .next (onLink s fun s => if s.power.starting then sendHost s .retry else configRequest s r)

end Sys2Proof.Machine
end

