-- ==== Sys2Proof/Machine/Ports.lean ====
section
/-! DEFINITION. The Jiman's port space: the core ports of Table 15.7 and the Tailstock ports of Table 21.10 (R386,
R511). -/

namespace Sys2Proof.Machine
open Sys2Proof

/-! ### Operations behind ports -/

/-- The Jiman clears TO_MG_FULL (R367). -/
def mbxTake (s : State) : State := s.setMgmt { s.mgmt with toMg := none }

/-- The Jiman sets TO_DP_FULL with the message in MBX_OUT; ignored while it is set (Table 21.10). -/
def mbxSend (s : State) : State :=
  match s.mgmt.toDp with
  | some _ => s
  | none => s.setMgmt { s.mgmt with toDp := some s.jiman.mbxOut }

/-- A write of PUB_WRITE: a value of 1-5 publishes the staged word (Table 21.10). -/
def pubWrite (s : State) (v : W16) : State :=
  if 1 ≤ v.toNat ∧ v.toNat ≤ 5 then publishWord s (v.toNat - 1) s.jiman.stage else s

/-- A refresh of the watchdog (Table 15.7). -/
def wdogRefresh (s : State) : State := s.setMgmt { s.mgmt with wdogAt := s.clocks.timebase }

/-- THROTTLE_REQ as driven: the hardware trip forces level 3 (R365). -/
def drivenLevel (level : BitVec 2) (trip : Bool) : BitVec 2 := if trip then 3 else level

/-- The Jiman's request of a throttle level. -/
def setLevel (s : State) (l : BitVec 2) : State :=
  s.setMgmt { s.mgmt with level := l, driven := drivenLevel l s.mgmt.trip }

/-- Write the validity of the estimate into the latch that R16 reads (R346). -/
def setValidLatch (s : State) (v : Bool) : State := checkAssure (s.setGauge { s.gauge with validLatch := v })

/-- Words of program flash that a sector erase covers: 8 KiB of stored words (log entry 23). -/
def flashSector : Nat := 4096

/-- Start an operation of the flash controller; one runs at a time (Table 21.10). -/
def flashStart (s : State) (op : FlashOp) : State :=
  match s.jiman.flashBusy with
  | some _ => s
  | none =>
    let code : W16 := match op with | .program => 0 | .eraseSector => 1 | .eraseBank => 2
    s.setJiman { s.jiman with flashCmd := code, flashBusy := some (s.jiman.flashAddr.getLsbD 16) }

/-- Program flash after the operation in progress: the boot monitor's words are write-locked (R404). -/
def flashResult (j : Jiman) : Memory :=
  let a := j.flashAddr.toNat % 131072
  if j.flashCmd = 0 then
    if a < 0x1000 then j.flash else programWord j.flash a (j.flashData.setWidth 14)
  else if j.flashCmd = 1 then
    if a < 0x1000 then j.flash else eraseFlash j.flash (a / flashSector * flashSector) flashSector
  else if a < 65536 then eraseFlash j.flash 0x1000 0xF000
  else eraseFlash j.flash 65536 65536

/-- Start the signature unit on the image at its address and length (Table 21.10). -/
def signatureStart (s : State) : State := s.setJiman { s.jiman with sigResult := none }

/-- Blow the revocation fuse of a key slot (R408). -/
def blowRevoke (s : State) (k : Nat) : State :=
  s.setFirmware { s.firmware with revoked := s.firmware.revoked ||| BitVec.ofNat 2 (2 ^ k % 4) }

/-- The value latched by a read of TICK_LO (Table 15.7). -/
def latchTick (s : State) : State := s.setJiman { s.jiman with tickHi := s.mgmt.tick.extractLsb' 16 16 }

/-! ### Reads -/

/-- The Breadcrumb entry at an index of the log: entry k is at index k mod 4,096 (R375). -/
def crumbAt (m : Mgmt) (index : Nat) : Option Crumb :=
  let first := m.crumbCount.toNat - m.crumbs.length
  ((List.range m.crumbs.length).find? fun i => (first + i) % 4096 = index).bind fun i => m.crumbs[i]?

/-- The 16 bytes of a Breadcrumb entry as a number (Table 14.15). -/
def crumbBits (c : Crumb) : Nat :=
  c.tick.toNat + 2 ^ 32 * c.location.toNat + 2 ^ 48 * c.severity.toNat + 2 ^ 56 * c.event.toNat + 2 ^ 64 * c.data.toNat

/-- A signed value in 16 bits. -/
def int16 (x : Int) : W16 := BitVec.ofInt 16 x

/-- The bits of SENSOR_BAD: sensors whose conversion failed at the latest tick. -/
def sensorBad (m : Mgmt) : Nat :=
  (List.range 24).foldl (fun a i =>
    if 0 < (vget m.sensors i { value := 0, fails := 0, retired := false }).fails then a + 2 ^ i else a) 0

/-- Word i of a wide value. -/
def word16 (x i : Nat) : W16 := BitVec.ofNat 16 (x / 2 ^ (16 * i))

/-- Last value written to a control port of a bus block. -/
def busPort (j : Jiman) (p : Nat) : W16 := ((j.busPorts.find? fun q => q.1 = p).map (·.2)).getD 0

/-- Ports whose value is a device's own state that the specification does not give: bus status and data, and the status
registers whose bits are not laid out (log entry 24). -/
def openPort (p : Nat) : Bool :=
  decide (p = 0x101 ∨ p = 0x102 ∨ p = 0x1A4 ∨ p = 0x1C1 ∨ p = 0x181 ∨ p = 0x182) ||
    (decide (0x140 ≤ p ∧ p < 0x180) && decide (p % 8 = 1 ∨ p % 8 = 2))

/-- The value of a port; a port that no block decodes, and a write-only port, read 0 (R386, R8). -/
def portValue (s : State) (p : Nat) : W16 :=
  let m := s.mgmt
  let j := s.jiman
  let g := s.gauge
  let x := g.last.getD { cell0 := 0, cell1 := 0, current := 0, temp := 0, inRange := false }
  if p = 0x000 then j.intPend.setWidth 16
  else if p = 0x001 then j.intEn.setWidth 16
  else if p = 0x003 then m.tick.extractLsb' 0 16
  else if p = 0x004 then j.tickHi
  else if p = 0x008 then BitVec.ofNat 16 (m.toMg.isSome.toNat + 2 * m.toDp.isSome.toNat)
  else if 0x010 ≤ p ∧ p < 0x014 then word16 j.stage.toNat (p - 0x010)
  else if p = 0x018 then BitVec.ofNat 16 g.validLatch.toNat
  else if p = 0x019 then
    BitVec.ofNat 16 (m.holdAssure.toNat + 2 * m.selftestOk.toNat + 4 * m.mismatch.toNat + 8 * g.present.toNat +
      16 * m.assureLock.toNat)
  else if p = 0x01A then BitVec.ofNat 16 (m.level.toNat + 4 * m.trip.toNat)
  else if 0x020 ≤ p ∧ p < 0x040 then word16 (m.toMg.getD 0).toNat (p - 0x020)
  else if p = 0x060 then BitVec.ofNat 16 x.cell0
  else if p = 0x061 then BitVec.ofNat 16 x.cell1
  else if p = 0x062 then int16 x.current
  else if p = 0x063 then int16 x.temp
  else if p = 0x064 then BitVec.ofNat 16 (g.fast.toNat + 2 * j.testLoad.toNat)
  else if p = 0x065 then j.sampleSeq
  else if p = 0x070 then j.chgCtrl.setWidth 16
  else if p = 0x071 then
    BitVec.ofNat 16 ((decide (g.charge = .constantCurrent)).toNat + 2 * (decide (g.charge = .constantVoltage)).toNat +
      4 * g.fetClosed.toNat + 8 * g.present.toNat + 16 * g.cutoff.toNat)
  else if 0x080 ≤ p ∧ p < 0x098 then
    int16 (vget m.sensors (p - 0x080) { value := 0, fails := 0, retired := false }).value
  else if p = 0x098 then word16 (sensorBad m) 0
  else if p = 0x099 then word16 (sensorBad m) 1
  else if 0x0A0 ≤ p ∧ p < 0x0B0 then
    let v := (m.rails.getD (p - 0x0A0) 0).toNat
    BitVec.ofNat 16 (if p = 0x0A0 then v / 10 else v)
  else if p = 0x0B0 then BitVec.ofNat 16 (m.selftestNo % 64)
  else if p = 0x0B1 then BitVec.ofNat 16 m.faultCounter
  else if p = 0x104 then (m.dynAddr.getD 0).setWidth 16
  else if openPort p then s.free 16
  else if p = 0x100 ∨ p = 0x180 ∨ (0x140 ≤ p ∧ p < 0x180 ∧ p % 8 = 0) then busPort j p
  else if p = 0x1A0 then word16 j.flashAddr.toNat 0
  else if p = 0x1A1 then word16 j.flashAddr.toNat 1
  else if p = 0x1A2 then j.flashData
  else if 0x1C2 ≤ p ∧ p < 0x1C6 then word16 (j.sigAddr.toNat + 2 ^ 32 * j.sigLen.toNat) (p - 0x1C2)
  else if p = 0x1D0 then j.keySel
  else if p = 0x1D1 then word16 (vget s.firmware.keyHash j.keySel.toNat 0).toNat j.hashIndex.toNat
  else if p = 0x1D2 then s.firmware.revoked.setWidth 16
  else if p = 0x1E0 then j.oneshot
  else if p = 0x1E4 then j.logIndex
  else if p = 0x1E5 then
    match crumbAt m (j.logIndex.toNat / 8 % 4096) with
    | some c => word16 (crumbBits c) (j.logIndex.toNat % 8)
    | none => 0
  else if p = 0x1E8 then j.ffrIndex
  else if p = 0x1E9 then word16 (m.ffr.getD 0).toNat j.ffrIndex.toNat
  else 0

/-- Read a port: TICK_LO latches TICK_HI, HASH_WORD steps to the next word of the hash (log entry 23). -/
def portRead (s : State) (p : Nat) : W16 × State :=
  let v := portValue s p
  let s1 :=
    if p = 0x003 then latchTick s
    else if p = 0x1D1 then s.setJiman { s.jiman with hashIndex := BitVec.ofNat 16 ((s.jiman.hashIndex.toNat + 1) % 24) }
    else if openPort p then s.tookFree
    else s
  (v, s1)

/-! ### Writes -/

/-- Replace word i of a wide value. -/
def setWord16 (x : Nat) (i : Nat) (v : W16) : Nat :=
  x - (word16 x i).toNat * 2 ^ (16 * i) + v.toNat * 2 ^ (16 * i)

/-- Write a port; a write to a read-only port or to one that no block decodes is ignored (R386). -/
def portWrite (s : State) (p : Nat) (v : W16) : State :=
  let j := s.jiman
  if p = 0x000 then s.setJiman { j with intPend := j.intPend &&& ~~~(v.setWidth 8) }
  else if p = 0x001 then s.setJiman { j with intEn := v.setWidth 8 }
  else if p = 0x002 then wdogRefresh s
  else if p = 0x009 then mbxTake s
  else if p = 0x00A then mbxSend s
  else if 0x010 ≤ p ∧ p < 0x014 then s.setJiman { j with stage := BitVec.ofNat 64 (setWord16 j.stage.toNat (p - 0x010) v) }
  else if p = 0x014 then pubWrite s v
  else if p = 0x018 then setValidLatch s (v.getLsbD 0)
  else if p = 0x01A then setLevel s (v.setWidth 2)
  else if 0x040 ≤ p ∧ p < 0x060 then
    if s.mgmt.toDp.isSome then s
    else s.setJiman { j with mbxOut := BitVec.ofNat 512 (setWord16 j.mbxOut.toNat (p - 0x040) v) }
  else if p = 0x064 then
    (s.setJiman { j with testLoad := v.getLsbD 1 && !s.power.pwrLoss }).setGauge { s.gauge with fast := v.getLsbD 0 }
  else if p = 0x070 then s.setJiman { j with chgCtrl := v.setWidth 3 }
  else if p = 0x100 ∨ p = 0x103 ∨ p = 0x180 ∨ p = 0x182 ∨ (0x140 ≤ p ∧ p < 0x180 ∧ (p % 8 = 0 ∨ p % 8 = 2)) then
    s.setJiman { j with busPorts := (j.busPorts.filter fun q => q.1 ≠ p) ++ [(p, v)] }
  else if p = 0x1A0 then s.setJiman { j with flashAddr := BitVec.ofNat 32 (setWord16 j.flashAddr.toNat 0 v) }
  else if p = 0x1A1 then s.setJiman { j with flashAddr := BitVec.ofNat 32 (setWord16 j.flashAddr.toNat 1 v) }
  else if p = 0x1A2 then s.setJiman { j with flashData := v }
  else if p = 0x1A3 then
    if v = 0 then flashStart s .program else if v = 1 then flashStart s .eraseSector
    else if v = 2 then flashStart s .eraseBank else s
  else if p = 0x1C0 then signatureStart s
  else if 0x1C2 ≤ p ∧ p < 0x1C6 then
    let x := setWord16 (j.sigAddr.toNat + 2 ^ 32 * j.sigLen.toNat) (p - 0x1C2) v
    s.setJiman { j with sigAddr := BitVec.ofNat 32 x, sigLen := BitVec.ofNat 32 (x / 2 ^ 32) }
  else if p = 0x1D0 then s.setJiman { j with keySel := v, hashIndex := 0 }
  else if p = 0x1D3 then blowRevoke s j.keySel.toNat
  else if p = 0x1E0 then s.setJiman { j with oneshot := v }
  else if p = 0x1E4 then s.setJiman { j with logIndex := v }
  else if p = 0x1E8 then s.setJiman { j with ffrIndex := v }
  else s

end Sys2Proof.Machine
end

