-- ==== Sys2Proof/Machine/JimanOps.lean ====
section
/-! DEFINITION. How a Jiman instruction executes: units, prefixes, delay slots, repeats, segments, frames, interrupts and
Guard entry (15_jiman_instruction_set). -/

namespace Sys2Proof.Machine
open Sys2Proof

/-! ### Outcomes of an instruction -/

/-- What an instruction does, before the rules of units act on it. -/
inductive JRes where
  /-- Done; control continues sequentially. -/
  | done (s : State)
  /-- Done; control continues at an address that is not the next one, with no repeat check (RPT with count 0). -/
  | jump (s : State) (pc : BitVec 17)
  /-- A branch: taken to a target, or not taken. -/
  | branch (s : State) (target : Option (BitVec 17))
  /-- A string instruction with elements left: it stays where it is. -/
  | stay (s : State)
  /-- A Guard fault: cause, segment for SEG_LIMIT and SEG_MAP, and the state with the stores made so far. -/
  | guard (cause seg : Nat) (s : State)
  /-- A Guard fault of a string instruction, whose committed elements stand. -/
  | late (cause seg : Nat) (s : State)
  /-- IDLE. -/
  | idle (s : State)
  /-- GRST. -/
  | request (s : State)

/-- How an instruction takes part in a unit (R381, R382, R392). -/
structure JKind where
  /-- The width w of Table 15.4 that a prefix widens, none for "—". -/
  width : Option Nat
  /-- Whether it may stand in a delay slot: its count is 1 and R392 does not name it. -/
  slot : Bool
  /-- A branch, after which a delay slot follows. -/
  isBranch : Bool
  /-- CALL or CALLR, which may follow a CALLM. -/
  isCall : Bool

/-- An instruction of one cycle without a prefix. -/
def plainKind : JKind := { width := none, slot := true, isBranch := false, isCall := false }
/-- An instruction of one cycle with a prefixed field. -/
def wideKind (w : Nat) : JKind := { plainKind with width := some w }
/-- An instruction of more than one cycle without a prefix. -/
def longKind : JKind := { plainKind with slot := false }
/-- An instruction of more than one cycle with a prefixed field. -/
def longWideKind (w : Nat) : JKind := { longKind with width := some w }
/-- A branch with its prefixed width. -/
def branchKind (w : Option Nat) : JKind := { width := w, slot := false, isBranch := true, isCall := false }
/-- A call with its prefixed width. -/
def callKind (w : Option Nat) : JKind := { branchKind w with isCall := true }

/-! ### Registers -/

def State.jr (s : State) : JRegs := s.jiman.regs
def State.setJr (s : State) (r : JRegs) : State := s.setJiman { s.jiman with regs := r }
def State.jd (s : State) (i : BitVec 3) : W16 := vget s.jiman.regs.d i.toNat 0
def State.ja (s : State) (i : BitVec 3) : W16 := vget s.jiman.regs.a i.toNat 0
def State.jac (s : State) (i : Bool) : BitVec 40 := vget s.jiman.regs.ac i.toNat 0
def JRegs.setD (r : JRegs) (i : BitVec 3) (v : W16) : JRegs := { r with d := vset r.d i.toNat v }
def JRegs.setA (r : JRegs) (i : BitVec 3) (v : W16) : JRegs := { r with a := vset r.a i.toNat v }
def JRegs.setAc (r : JRegs) (i : Bool) (v : BitVec 40) : JRegs := { r with ac := vset r.ac i.toNat v }
def State.setJd (s : State) (i : BitVec 3) (v : W16) : State := s.setJr (s.jr.setD i v)
def State.setJa (s : State) (i : BitVec 3) (v : W16) : State := s.setJr (s.jr.setA i v)
def State.setJac (s : State) (i : Bool) (v : BitVec 40) : State := s.setJr (s.jr.setAc i v)

/-- The st register as a word (Table 15.3). -/
def stWord (r : JRegs) : W16 := BitVec.ofNat 16 (r.ie.toNat + 2 * r.rm.toNat + 8 * r.g.toNat + 16 * r.ra.toNat)

/-- RM after a write of a value: 3 leaves it unchanged (Table 15.3). -/
def newRm (old v : BitVec 2) : BitVec 2 := if v = 3 then old else v

/-! ### Fields and prefixes (R381) -/

/-- A signed field of width w, widened by the waiting prefix. -/
def signedField {w : Nat} (s : State) (f : BitVec w) : W16 :=
  match s.jiman.pfx with
  | none => f.signExtend 16
  | some p => (p.signExtend 16 <<< w) ||| f.setWidth 16

/-- An unsigned field of width w, widened by the waiting prefix. -/
def unsignedField {w : Nat} (s : State) (f : BitVec w) : W16 :=
  match s.jiman.pfx with
  | none => f.setWidth 16
  | some p => (p.signExtend 16 <<< w) ||| f.setWidth 16

/-! ### Data RAM and segments (R383) -/

/-- Base and limit of data segment n. -/
def segOf (r : JRegs) (n : Nat) : W16 × W16 := (vget r.sgb n 0, vget r.sgl n 0)

/-- Base, limit and number of the stack segment: sg3, or the Guard segment while G = 1. -/
def stackSeg (r : JRegs) : (W16 × W16) × Nat := if r.g then ((r.gsb, r.gsl), 3) else (segOf r 3, 3)

/-- Translate an offset (R383): the word address, or the cause. -/
def segAddr (seg : W16 × W16) (o : W16) : Except Nat Nat :=
  if seg.2 < o then .error 0x01
  else
    let a := seg.1 + o
    if 0x8000 ≤ a.toNat then .error 0x02 else .ok a.toNat

/-- The word of data RAM at a word address. -/
def ramWord (s : State) (a : Nat) : W16 := BitVec.ofNat 16 (s.jiman.ram.readLE (2 * a) 2)

/-- Store a word of data RAM. -/
def setRamWord (s : State) (a : Nat) (v : W16) : State :=
  s.setJiman { s.jiman with ram := s.jiman.ram.writeLE (2 * a) 2 v.toNat }

/-- Read a word through a segment, then continue; `bad` is an uncorrectable error of the word (DATA_RAM). -/
def jload (s : State) (seg : W16 × W16) (n : Nat) (o : W16) (bad : Bool) (k : W16 → JRes) : JRes :=
  match segAddr seg o with
  | .error c => .guard c n s
  | .ok a => if bad then .guard 0x08 0 s else k (ramWord s a)

/-- Store a word through a segment, then continue. -/
def jstore (s : State) (seg : W16 × W16) (n : Nat) (o v : W16) (k : State → JRes) : JRes :=
  match segAddr seg o with
  | .error c => .guard c n s
  | .ok a => k (setRamWord s a v)

/-! ### Guard entry (R401, R402) -/

/-- Write words through the Guard segment at gsl, gsl − 1, …; none where a check fails. -/
def guardFrame (s : State) (seg : W16 × W16) : W16 → List W16 → Option State
  | _, [] => some s
  | o, v :: vs =>
    match segAddr seg o with
    | .error _ => none
    | .ok a => guardFrame (setRamWord s a v) seg (o - 1) vs

/-- No unit in progress. -/
def closeUnit (j : Jiman) : Jiman := { j with unit := none, pfx := none, callm := none, branch := none, idle := false }

/-- The registers with which the unit in progress is abandoned: those before its first word. -/
def unitStart (j : Jiman) : JRegs := j.unit.getD j.regs

/-- A Guard fault of the unit in progress: the unit is abandoned and the Guard handler entered; while G = 1, or where the
frame cannot be written, it is a reset request. A management reset that follows keeps the retained region. -/
def guardEntry (s : State) (cause seg : Nat) : State :=
  let r := unitStart s.jiman
  let s0 := s.setJiman { closeUnit s.jiman with regs := r }
  let a7 := vget r.a 7 0
  let st := stWord r ||| (if r.pc.getLsbD 16 then 0x8000 else 0)
  let word : W16 := BitVec.ofNat 16 (cause + (if cause ≤ 2 then 256 * seg else 0))
  if r.g then mgmtFault s0 0xA002 true
  else
    match guardFrame s0 (r.gsb, r.gsl) r.gsl [a7, r.pc.setWidth 16, st, word] with
    | none => mgmtFault s0 0xA002 true
    | some s1 =>
      s1.setJr { r with a := vset r.a 7 (r.gsl - 3), g := true, ie := false, pc := BitVec.ofNat 17 (r.vb.toNat * 8) }

/-! ### Units, delay slots and repeats (R382, R392, R395) -/

/-- The pc at the end of a unit that continues sequentially after the word at pc, and the repeat's registers (R395). -/
def endSequential (r : JRegs) : JRegs :=
  let last := r.ra && decide (r.pc.setWidth 16 = r.rpe)
  if last then
    if 1 < r.rpc.toNat then { r with rpc := r.rpc - 1, pc := (r.pc &&& 0x10000) ||| r.rps.setWidth 17 }
    else { r with rpc := 0, ra := false, pc := r.pc + 1 }
  else { r with pc := r.pc + 1 }

/-- End the instruction at pc: a delay slot ends its unit at the branch's target. -/
def endInstr (s : State) : State :=
  let r := s.jr
  let r1 := match s.jiman.branch with
    | some { target := some t } => { r with pc := t }
    | _ => endSequential r
  s.setJiman { closeUnit s.jiman with regs := r1 }

/-- Continue the unit past the word at pc. -/
def stepUnit (s : State) (start : JRegs) : State :=
  s.setJiman { s.jiman with unit := some start, regs := { s.jr with pc := s.jr.pc + 1 } }

/-- The check that stops an instruction before it executes: a delay slot's content (R392), what follows a CALLM (R393) and a
PFX (R381), and a unit that would go beyond the repeat's end (R395). -/
def unitCheck (s : State) (k : JKind) : Option Nat :=
  if s.jiman.branch.isSome && !k.slot then some 0x03
  else if s.jiman.callm.isSome && !k.isCall then some 0x03
  else if s.jiman.pfx.isSome && k.width.isNone then some 0x03
  else if k.isBranch && s.jr.ra && decide (s.jr.pc.setWidth 16 = s.jr.rpe) then some 0x06
  else none

/-- Finish an instruction that began with these unit-start registers. -/
def finishInstr (start : JRegs) : JRes → State
  | .done s => endInstr s
  | .jump s pc => s.setJiman { closeUnit s.jiman with regs := { s.jr with pc := pc } }
  | .branch s t => stepUnit (s.setJiman { s.jiman with branch := some { target := t }, pfx := none, callm := none }) start
  | .stay s => s
  | .guard c n s => guardEntry (s.setJiman { s.jiman with unit := some start }) c n
  | .late c n s => guardEntry s c n
  | .idle s => (endInstr s).setJiman { (endInstr s).jiman with idle := true }
  | .request s => mgmtFault (s.setJiman (closeUnit s.jiman)) 0xA002 true

/-- Execute the instruction at pc. While the Jiman waits in IDLE, or is without power, nothing happens (log entry 7). -/
def jimanRun (s : State) (k : JKind) (body : State → JRes) : State :=
  if s.jiman.idle || !s.power.tailstock then s
  else
    match unitCheck s k with
    | some c => guardEntry s c 0
    | none => finishInstr (unitStart s.jiman) (body s)

/-- Hold back an instruction that opens a unit, PFX or CALLM: its effect on the waiting prefix or mask. -/
def openUnit (s : State) (slotOk : Bool) (f : Jiman → Jiman) : State :=
  if s.jiman.idle || !s.power.tailstock then s
  else if s.jiman.branch.isSome || !slotOk then guardEntry s 0x03 0
  else if s.jr.ra && decide (s.jr.pc.setWidth 16 = s.jr.rpe) then guardEntry s 0x06 0
  else
    let start := unitStart s.jiman
    stepUnit (s.setJiman (f s.jiman)) start

/-! ### Interrupt entry (R400, Table 15.12) -/

/-- The highest-priority line that qualifies, if interrupts may be taken. -/
def takenLine (j : Jiman) : Option Nat :=
  let r := unitStart j
  if r.ie && !r.g then (List.range 8).find? fun n => (j.intPend &&& j.intEn).getLsbD n else none

/-- Take an interrupt: the unit in progress is abandoned, the frame written and the handler entered. A frame that cannot be
pushed enters the Guard handler instead, and the line stays pending. -/
def interruptEntry (s : State) : State :=
  match takenLine s.jiman with
  | none => s
  | some n =>
    let r := unitStart s.jiman
    let s0 := s.setJiman { closeUnit s.jiman with regs := r }
    let a7 := vget r.a 7 0
    let seg := stackSeg r
    let st := stWord r ||| (if r.pc.getLsbD 16 then 0x8000 else 0)
    if 32 ≤ r.shadow.length then guardEntry s0 0x04 0
    else
      match segAddr seg.1 (a7 - 1), segAddr seg.1 (a7 - 2) with
      | .error c, _ => guardEntry s0 c seg.2
      | .ok a1, .error c => guardEntry (setRamWord s0 a1 (r.pc.setWidth 16)) c seg.2
      | .ok a1, .ok a2 =>
        let s1 := setRamWord (setRamWord s0 a1 (r.pc.setWidth 16)) a2 st
        s1.setJiman { s1.jiman with
          intPend := s1.jiman.intPend &&& ~~~(BitVec.twoPow 8 n)
          regs := { r with a := vset r.a 7 (a7 - 2), shadow := r.pc :: r.shadow, ie := false, ra := false,
                           pc := BitVec.ofNat 17 (r.vb.toNat * 8 + 8 * (n + 1)) } }

/-! ### Frames (R393, R394) -/

/-- The registers that a mask names, in the order of R393: (true, i) for an a-register, (false, i) for a d-register. -/
def maskRegs (m : BitVec 8) : List (Bool × BitVec 3) :=
  let pair (b : Nat) (isA : Bool) (i : BitVec 3) : List (Bool × BitVec 3) :=
    if m.getLsbD b then [(isA, i), (isA, i + 1)] else []
  pair 0 false 0 ++ pair 1 false 2 ++ pair 2 false 4 ++ pair 3 false 6 ++ pair 4 true 0 ++ pair 5 true 2 ++
    pair 6 true 4 ++ (if m.getLsbD 7 then [(true, 6)] else [])

/-- The value of a register named by a mask. -/
def maskValue (r : JRegs) (x : Bool × BitVec 3) : W16 := if x.1 then vget r.a x.2.toNat 0 else vget r.d x.2.toNat 0

/-- Store words downward from an offset, then continue with the offset below them. -/
def storeDown (s : State) (seg : (W16 × W16) × Nat) : W16 → List W16 → (State → W16 → JRes) → JRes
  | o, [], k => k s o
  | o, v :: vs, k => jstore s seg.1 seg.2 o v fun s1 => storeDown s1 seg (o - 1) vs k

/-- CALL or CALLR to a target, with the mask of a CALLM (R393). -/
def jcall (s : State) (target : BitVec 17) : JRes :=
  let r := s.jr
  let m := s.jiman.callm.getD 0
  let regs := maskRegs m
  let ret := r.pc + 2
  let a7 := vget r.a 7 0
  if 32 ≤ r.shadow.length then .guard 0x04 0 s
  else
    let head : W16 := (m.setWidth 16 <<< 8) ||| (if ret.getLsbD 16 then 1 else 0)
    storeDown s (stackSeg r) (a7 - 1) (regs.map (maskValue r) ++ [ret.setWidth 16, head]) fun s1 o =>
      .branch (s1.setJr { s1.jr with a := vset s1.jr.a 7 (o + 1), shadow := ret :: s1.jr.shadow }) (some target)

/-- Restore the registers of a mask from below an offset, which falls by one for each. -/
def restoreRegs (s : State) (seg : (W16 × W16) × Nat) (bad : Bool) : W16 → List (Bool × BitVec 3) → (State → JRes) → JRes
  | _, [], k => k s
  | o, x :: xs, k =>
    jload s seg.1 seg.2 o bad fun v =>
      restoreRegs (if x.1 then s.setJa x.2 v else s.setJd x.2 v) seg bad (o - 1) xs k

/-- RET and RETM (R393). -/
def jret (s : State) (isRet bad : Bool) : JRes :=
  let r := s.jr
  let seg := stackSeg r
  let a7 := vget r.a 7 0
  jload s seg.1 seg.2 a7 bad fun h =>
    jload s seg.1 seg.2 (a7 + 1) bad fun lo =>
      let ret : BitVec 17 := lo.setWidth 17 ||| (if h.getLsbD 0 then 0x10000 else 0)
      if r.shadow.head? ≠ some ret ∨ (isRet = true ∧ h.extractLsb' 8 8 ≠ 0) then .guard 0x05 0 s
      else
        let regs := maskRegs (h.extractLsb' 8 8)
        let top := a7 + 1 + BitVec.ofNat 16 regs.length
        restoreRegs s seg bad top regs fun s1 =>
          .branch (s1.setJr { s1.jr with a := vset s1.jr.a 7 (top + 1), shadow := r.shadow.drop 1 }) (some ret)

/-- RETI (R400): the frame of an interrupt; st is restored with G preserved. -/
def jreti (s : State) (bad : Bool) : JRes :=
  let r := s.jr
  let seg := stackSeg r
  let a7 := vget r.a 7 0
  jload s seg.1 seg.2 a7 bad fun st =>
    jload s seg.1 seg.2 (a7 + 1) bad fun lo =>
      let ret : BitVec 17 := lo.setWidth 17 ||| (if st.getLsbD 15 then 0x10000 else 0)
      if r.shadow.head? ≠ some ret then .guard 0x05 0 s
      else
        .branch (s.setJr { r with a := vset r.a 7 (a7 + 2), shadow := r.shadow.drop 1, ie := st.getLsbD 0,
                                  rm := newRm r.rm (st.extractLsb' 1 2), ra := st.getLsbD 4 }) (some ret)

/-- RETG (R401): st, pc and a7 from the Guard frame at the top of the Guard segment. -/
def jretg (s : State) (bad : Bool) : JRes :=
  let r := s.jr
  let gs := (r.gsb, r.gsl)
  jload s gs 3 r.gsl bad fun a7 =>
    jload s gs 3 (r.gsl - 1) bad fun lo =>
      jload s gs 3 (r.gsl - 2) bad fun st =>
        let ret : BitVec 17 := lo.setWidth 17 ||| (if st.getLsbD 15 then 0x10000 else 0)
        .branch (s.setJr { r with a := vset r.a 7 a7, ie := st.getLsbD 0, rm := newRm r.rm (st.extractLsb' 1 2),
                                  g := st.getLsbD 3, ra := st.getLsbD 4 }) (some ret)

/-! ### Arithmetic (R387-R390) -/

/-- Clamp to 16 bits. -/
def sat16 (x : Int) : W16 := BitVec.ofInt 16 (max (-32768) (min 32767 x))

/-- Clamp to 40 bits. -/
def sat40 (x : Int) : BitVec 40 := BitVec.ofInt 40 (max (-549755813888) (min 549755813887 x))

/-- The exact fractional product 2 × x × y. -/
def fracProduct (x y : W16) : Int := 2 * x.toInt * y.toInt

/-- The number of bits below bit 15 that equal bit 15 (Table 15.5). -/
def clsCount (x : W16) : W16 :=
  BitVec.ofNat 16 ((List.range 15).filter fun i => x.getLsbD i = x.getLsbD 15).length

/-- MVAC's rounding and clamping (R389). -/
def roundAc (rm : BitVec 2) (r : Int) : W16 :=
  let q := r / 65536
  let f := r % 65536
  let v :=
    if rm = 0 then (r + 0x8000) / 65536
    else if rm = 1 then (if 0x8000 < f ∨ (f = 0x8000 ∧ q % 2 = 1) then q + 1 else q)
    else q
  sat16 v

/-- One step of restoring division (R390). -/
def divStep (ac : BitVec 40) (d : W16) : BitVec 40 :=
  let t := 2 * (ac.toNat % 2 ^ 32)
  let t1 := if d.toNat ≤ t / 65536 then t - d.toNat * 65536 + 1 else t
  BitVec.ofNat 40 (t1 % 2 ^ 32)

/-- SHAC (Table 15.6). -/
def shiftAc (ac : BitVec 40) (n : BitVec 4) : BitVec 40 :=
  if 0 ≤ n.toInt then sat40 (ac.toInt * 2 ^ n.toInt.toNat) else BitVec.ofInt 40 (ac.toInt / 2 ^ (-n.toInt).toNat)

/-- A saturating left shift. -/
def shlSat (x : W16) (n : Nat) : W16 := sat16 (x.toInt * 2 ^ n)

/-! ### Conditions (R391) -/

/-- Whether a CB is taken. -/
def JCond.holds (c : JCond) (x y : W16) : Bool :=
  match c with
  | .eq => decide (x = y)
  | .ne => decide (x ≠ y)
  | .lt => decide (x.toInt < y.toInt)
  | .ge => decide (y.toInt ≤ x.toInt)
  | .ltu => decide (x.toNat < y.toNat)
  | .geu => decide (y.toNat ≤ x.toNat)
  | .any => decide (x &&& y ≠ 0)
  | .none => decide (x &&& y = 0)

/-- Whether a CBZ is taken. -/
def JZCond.holds (c : JZCond) (x : W16) : Bool :=
  match c with
  | .eqz => decide (x = 0)
  | .nez => decide (x ≠ 0)
  | .ltz => decide (x.toInt < 0)
  | .gez => decide (0 ≤ x.toInt)
  | .gtz => decide (0 < x.toInt)
  | .lez => decide (x.toInt ≤ 0)

/-- A relative branch, taken or not. -/
def relBranch (s : State) (taken : Bool) (v : W16) : JRes :=
  .branch s (if taken then some (s.jr.pc + v.signExtend 17) else none)

/-- The target of a computed branch: {pc[16], a}. -/
def computed (s : State) (a : BitVec 3) : BitVec 17 := (s.jr.pc &&& 0x10000) ||| (s.ja a).setWidth 17

/-! ### Block repeat and string instructions (R395, R396) -/

/-- RPT and RPTI with a count and a length. -/
def repeatBody (s : State) (count len : Nat) : JRes :=
  let r := s.jr
  if r.ra ∨ r.pc.toNat / 65536 ≠ (r.pc.toNat + len) % 131072 / 65536 then .guard 0x06 0 s
  else if count = 0 then .jump s (r.pc + BitVec.ofNat 17 (len + 1))
  else
    .done (s.setJr { r with rpc := BitVec.ofNat 16 count, rps := (r.pc + 1).setWidth 16,
                            rpe := (r.pc + BitVec.ofNat 17 len).setWidth 16, ra := true })

/-- One element of a string instruction. -/
abbrev JElement := State → Bool → (State → JRes) → JRes

/-- Run at most `fuel` elements while rpc is not 0; element `bad` meets an uncorrectable word. An element commits as a
whole, so an abandoned instruction stands at its first word (R394, R396, R397). -/
def stringRun (elem : JElement) (bad : Option W16) : Nat → Nat → State → JRes
  | 0, _, s => if s.jr.rpc = 0 then .done s else .stay s
  | fuel + 1, i, s =>
    if s.jr.rpc = 0 then .done s
    else elem s (bad == some (BitVec.ofNat 16 i)) fun s1 => stringRun elem bad fuel (i + 1) s1

/-- A string instruction: REPEAT while RA = 1, otherwise its elements, of which `elems` run before an interrupt. -/
def stringBody (s : State) (elem : JElement) (elems : W16) (bad : Option W16) : JRes :=
  if s.jr.ra then .guard 0x06 0 s
  else
    match stringRun elem bad elems.toNat 0 s with
    | .guard c n s1 => .late c n s1
    | x => x

/-- An element of MOVB. -/
def movbElem (ss sd : BitVec 2) : JElement := fun s bad k =>
  jload s (segOf s.jr ss.toNat) ss.toNat (s.ja 4) bad fun v =>
    jstore s (segOf s.jr sd.toNat) sd.toNat (s.ja 5) v fun s1 =>
      k (s1.setJr { (s1.jr.setA 4 (s.ja 4 + 1)).setA 5 (s.ja 5 + 1) with rpc := s.jr.rpc - 1 })

/-- An element of FILLB. -/
def fillbElem (sd : BitVec 2) (d : BitVec 3) : JElement := fun s _ k =>
  jstore s (segOf s.jr sd.toNat) sd.toNat (s.ja 5) (s.jd d) fun s1 =>
    k (s1.setJr { s1.jr.setA 5 (s.ja 5 + 1) with rpc := s.jr.rpc - 1 })

/-- An element of MACB. -/
def macbElem (ac : Bool) (ss sd : BitVec 2) : JElement := fun s bad k =>
  jload s (segOf s.jr ss.toNat) ss.toNat (s.ja 4) bad fun x =>
    jload s (segOf s.jr sd.toNat) sd.toNat (s.ja 5) bad fun y =>
      k (s.setJr { ((s.jr.setAc ac (sat40 ((s.jac ac).toInt + fracProduct x y))).setA 4 (s.ja 4 + 1)).setA 5 (s.ja 5 + 1)
        with rpc := s.jr.rpc - 1 })

/-! ### System registers (Table 15.2) -/

/-- MVR: the value of a system register. -/
def sysRead (r : JRegs) (n : Nat) : W16 :=
  match n with
  | 0 => stWord r
  | 1 => r.rpc
  | 2 => r.rps
  | 3 => r.rpe
  | 4 => BitVec.ofNat 16 r.fpg.toNat
  | 5 => r.vb.setWidth 16
  | 6 => r.gsb
  | 7 => r.gsl
  | n => if n < 12 then vget r.sgb (n - 8) 0 else vget r.sgl (n - 12) 0

/-- MVS: write a system register (Table 15.2, Table 15.3). -/
def sysWrite (r : JRegs) (n : Nat) (v : W16) : JRegs :=
  match n with
  | 0 => { r with ie := v.getLsbD 0, rm := newRm r.rm (v.extractLsb' 1 2) }
  | 1 => { r with rpc := v }
  | 2 => { r with rps := v }
  | 3 => { r with rpe := v }
  | 4 => { r with fpg := v.getLsbD 0 }
  | 5 => { r with vb := v.setWidth 14 }
  | 6 => { r with gsb := v }
  | 7 => { r with gsl := v }
  | n => if n < 12 then { r with sgb := vset r.sgb (n - 8) v } else { r with sgl := vset r.sgl (n - 12) v }

/-! ### Loads, stores and program flash (R384, R385) -/

/-- LD with its post-increment form. -/
def jld (s : State) (inc : Bool) (seg : BitVec 2) (a d : BitVec 3) (bad : Bool) : JRes :=
  let o := s.ja a + (if inc then 0 else signedField s (0 : BitVec 0))
  jload s (segOf s.jr seg.toNat) seg.toNat o bad fun v =>
    .done ((if inc then s.setJa a (s.ja a + 1) else s).setJd d v)

/-- ST with its post-increment form. -/
def jst (s : State) (inc : Bool) (seg : BitVec 2) (a d : BitVec 3) : JRes :=
  let o := s.ja a + (if inc then 0 else signedField s (0 : BitVec 0))
  jstore s (segOf s.jr seg.toNat) seg.toNat o (s.jd d) fun s1 =>
    .done (if inc then s1.setJa a (s.ja a + 1) else s1)

/-- LDF: the word {fpg, a} of program flash; FLASH while its bank is programmed or erased, or where it is uncorrectable. -/
def jldf (s : State) (a d : BitVec 3) (bad : Bool) : JRes :=
  let r := s.jr
  if bad ∨ s.jiman.flashBusy = some r.fpg then .guard 0x07 0 s
  else
    let v := flashWord s.jiman.flash (r.fpg.toNat * 65536 + (s.ja a).toNat)
    .done ((s.setJd d (v.setWidth 16)).setJa a (s.ja a + 1))

end Sys2Proof.Machine
end

