-- ==== Sys2Proof/Machine/Jiman.lean ====
section
/-! DEFINITION. The meaning of every Jiman instruction (15_jiman_instruction_set). A command carries the instruction's
operands; it executes at pc. -/

namespace Sys2Proof.Machine
open Sys2Proof

/-- Execute one Jiman instruction as a command. -/
def jimanExec (s : State) (k : JKind) (body : State → JRes) : Host.Outcome State Fault Refusal := .next (jimanRun s k body)

/-- d := f, in one cycle. -/
def jSetD (s : State) (d : BitVec 3) (v : W16) : JRes := .done (s.setJd d v)

/-- a := v, in one cycle. -/
def jSetA (s : State) (a : BitVec 3) (v : W16) : JRes := .done (s.setJa a v)

/-- ac := v, in one cycle. -/
def jSetAc (s : State) (ac : Bool) (v : BitVec 40) : JRes := .done (s.setJac ac v)

/-- Take the highest-priority pending enabled interrupt line (R400, Table 15.12). -/
def execJimanInterruptEntry (s : State) : Host.Outcome State Fault Refusal := .next (interruptEntry s)

/-- PFX p (R381): it waits for the instruction after it. -/
def execJimanPfx (p : BitVec 11) (s : State) : Host.Outcome State Fault Refusal :=
  .next (openUnit s s.jiman.pfx.isNone fun j => { j with pfx := some p })

/-- CALLM m (R393): it waits for the CALL or CALLR after it. -/
def execJimanCallm (m : BitVec 8) (s : State) : Host.Outcome State Fault Refusal :=
  .next (openUnit s (s.jiman.pfx.isNone && s.jiman.callm.isNone) fun j => { j with callm := some m })

/-- B (R391). -/
def execJimanB (off : BitVec 10) (s : State) : Host.Outcome State Fault Refusal :=
  jimanExec s (branchKind (some 10)) fun s =>
    relBranch s true (signedField s off)

/-- CALL (R391, R393). -/
def execJimanCall (off : BitVec 10) (s : State) : Host.Outcome State Fault Refusal :=
  jimanExec s (callKind (some 10)) fun s =>
    jcall s (s.jr.pc + (signedField s off).signExtend 17)

/-- CB (R391). -/
def execJimanCb (cond : JCond) (dx dy : BitVec 3) (off : BitVec 3) (s : State) : Host.Outcome State Fault Refusal :=
  jimanExec s (branchKind (some 3)) fun s =>
    relBranch s (cond.holds (s.jd dx) (s.jd dy)) (signedField s off)

/-- CBZ (R391). -/
def execJimanCbz (cond : JZCond) (d : BitVec 3) (off : BitVec 4) (s : State) : Host.Outcome State Fault Refusal :=
  jimanExec s (branchKind (some 4)) fun s =>
    relBranch s (cond.holds (s.jd d)) (signedField s off)

/-- DBNZ (R391): d := d − 1, taken when the result is not 0. -/
def execJimanDbnz (d : BitVec 3) (off : BitVec 4) (s : State) : Host.Outcome State Fault Refusal :=
  jimanExec s (branchKind (some 4)) fun s =>
    relBranch (s.setJd d (s.jd d - 1)) (decide (s.jd d - 1 ≠ 0)) (signedField s off)

/-- IN d, port (R386). -/
def execJimanIn (d : BitVec 3) (port : BitVec 3) (s : State) : Host.Outcome State Fault Refusal :=
  jimanExec s (longWideKind 3) fun s =>
    let r := portRead s ((unsignedField s port).toNat % 1024)
    .done (r.2.setJd d r.1)

/-- OUT port, d (R386). -/
def execJimanOut (d : BitVec 3) (port : BitVec 3) (s : State) : Host.Outcome State Fault Refusal :=
  jimanExec s (wideKind 3) fun s =>
    .done (portWrite s ((unsignedField s port).toNat % 1024) (s.jd d))

/-- LD (R384); `bad` is an uncorrectable error of the word read. -/
def execJimanLd (inc : Bool) (seg : BitVec 2) (a d : BitVec 3) (bad : Bool) (s : State) : Host.Outcome State Fault Refusal :=
  jimanExec s (if inc then longKind else longWideKind 0) fun s =>
    jld s inc seg a d bad

/-- ST (R384). -/
def execJimanSt (inc : Bool) (seg : BitVec 2) (a d : BitVec 3) (s : State) : Host.Outcome State Fault Refusal :=
  jimanExec s (if inc then plainKind else wideKind 0) fun s =>
    jst s inc seg a d

/-- LDS (R384); `bad` is an uncorrectable error of the word read. -/
def execJimanLds (d : BitVec 3) (off : BitVec 5) (bad : Bool) (s : State) : Host.Outcome State Fault Refusal :=
  jimanExec s (longWideKind 5) fun s =>
    let seg := stackSeg s.jr
    jload s seg.1 seg.2 (s.ja 7 + unsignedField s off) bad fun v => jSetD s d v

/-- STS (R384). -/
def execJimanSts (d : BitVec 3) (off : BitVec 5) (s : State) : Host.Outcome State Fault Refusal :=
  jimanExec s (wideKind 5) fun s =>
    let seg := stackSeg s.jr
    jstore s seg.1 seg.2 (s.ja 7 + unsignedField s off) (s.jd d) JRes.done

/-- MPY: ac := 2 × dx × dy (R388). -/
def execJimanMpy (ac : Bool) (dx dy : BitVec 3) (s : State) : Host.Outcome State Fault Refusal :=
  jimanExec s plainKind fun s =>
    jSetAc s ac (BitVec.ofInt 40 (fracProduct (s.jd dx) (s.jd dy)))

/-- MAC (R388). -/
def execJimanMac (ac : Bool) (dx dy : BitVec 3) (s : State) : Host.Outcome State Fault Refusal :=
  jimanExec s plainKind fun s =>
    jSetAc s ac (sat40 ((s.jac ac).toInt + fracProduct (s.jd dx) (s.jd dy)))

/-- MSU (R388). -/
def execJimanMsu (ac : Bool) (dx dy : BitVec 3) (s : State) : Host.Outcome State Fault Refusal :=
  jimanExec s plainKind fun s =>
    jSetAc s ac (sat40 ((s.jac ac).toInt - fracProduct (s.jd dx) (s.jd dy)))

/-- MPYU: the unsigned integer product (R388). -/
def execJimanMpyu (ac : Bool) (dx dy : BitVec 3) (s : State) : Host.Outcome State Fault Refusal :=
  jimanExec s plainKind fun s =>
    jSetAc s ac (BitVec.ofNat 40 ((s.jd dx).toNat * (s.jd dy).toNat))

/-- NOP. -/
def execJimanNop (s : State) : Host.Outcome State Fault Refusal :=
  jimanExec s plainKind fun s =>
    .done s

/-- EI: IE := 1. -/
def execJimanEi (s : State) : Host.Outcome State Fault Refusal :=
  jimanExec s plainKind fun s =>
    .done (s.setJr { s.jr with ie := true })

/-- DI: IE := 0. -/
def execJimanDi (s : State) : Host.Outcome State Fault Refusal :=
  jimanExec s plainKind fun s =>
    .done (s.setJr { s.jr with ie := false })

/-- IDLE: wait until an interrupt is taken (R399). -/
def execJimanIdle (s : State) : Host.Outcome State Fault Refusal :=
  jimanExec s longKind fun s =>
    .idle s

/-- GRST: the Guard handler reset request (R402). -/
def execJimanGrst (s : State) : Host.Outcome State Fault Refusal :=
  jimanExec s longKind fun s =>
    .request s

/-- RET (R393); `bad` is an uncorrectable error of its frame. -/
def execJimanRet (bad : Bool) (s : State) : Host.Outcome State Fault Refusal :=
  jimanExec s (branchKind none) fun s =>
    jret s true bad

/-- RETM (R393). -/
def execJimanRetm (bad : Bool) (s : State) : Host.Outcome State Fault Refusal :=
  jimanExec s (branchKind none) fun s =>
    jret s false bad

/-- RETI (R400). -/
def execJimanReti (bad : Bool) (s : State) : Host.Outcome State Fault Refusal :=
  jimanExec s (branchKind none) fun s =>
    jreti s bad

/-- RETG (R401). -/
def execJimanRetg (bad : Bool) (s : State) : Host.Outcome State Fault Refusal :=
  jimanExec s (branchKind none) fun s =>
    jretg s bad

/-- BR a (R391). -/
def execJimanBr (a : BitVec 3) (s : State) : Host.Outcome State Fault Refusal :=
  jimanExec s (branchKind none) fun s =>
    .branch s (some (computed s a))

/-- CALLR a (R391, R393). -/
def execJimanCallr (a : BitVec 3) (s : State) : Host.Outcome State Fault Refusal :=
  jimanExec s (callKind none) fun s =>
    jcall s (computed s a)

/-- MOVB (R396): `elems` elements run before an interrupt takes over, and `bad` names one that meets an
uncorrectable word. -/
def execJimanMovb (ss sd : BitVec 2) (elems : W16) (bad : Option W16) (s : State) : Host.Outcome State Fault Refusal :=
  jimanExec s longKind fun s =>
    stringBody s (movbElem ss sd) elems bad

/-- FILLB (R396). -/
def execJimanFillb (sd : BitVec 2) (d : BitVec 3) (elems : W16) (s : State) : Host.Outcome State Fault Refusal :=
  jimanExec s longKind fun s =>
    stringBody s (fillbElem sd d) elems none

/-- MACB (R396). -/
def execJimanMacb (ac : Bool) (ss sd : BitVec 2) (elems : W16) (bad : Option W16) (s : State) : Host.Outcome State Fault Refusal :=
  jimanExec s longKind fun s =>
    stringBody s (macbElem ac ss sd) elems bad

/-- MVAC (R389). -/
def execJimanMvac (ac : Bool) (d : BitVec 3) (s : State) : Host.Outcome State Fault Refusal :=
  jimanExec s plainKind fun s =>
    jSetD s d (roundAc s.jr.rm (s.jac ac).toInt)

/-- MVACH. -/
def execJimanMvach (ac : Bool) (d : BitVec 3) (s : State) : Host.Outcome State Fault Refusal :=
  jimanExec s plainKind fun s =>
    jSetD s d ((s.jac ac).extractLsb' 16 16)

/-- MVACL. -/
def execJimanMvacl (ac : Bool) (d : BitVec 3) (s : State) : Host.Outcome State Fault Refusal :=
  jimanExec s plainKind fun s =>
    jSetD s d ((s.jac ac).extractLsb' 0 16)

/-- LDAC: ac := sext40(d) × 2^16. -/
def execJimanLdac (ac : Bool) (d : BitVec 3) (s : State) : Host.Outcome State Fault Refusal :=
  jimanExec s plainKind fun s =>
    jSetAc s ac ((s.jd d).signExtend 40 <<< 16)

/-- LDACL: ac[15:0] := d. -/
def execJimanLdacl (ac : Bool) (d : BitVec 3) (s : State) : Host.Outcome State Fault Refusal :=
  jimanExec s plainKind fun s =>
    jSetAc s ac ((s.jac ac &&& 0xFFFFFF0000) ||| (s.jd d).setWidth 40)

/-- SHAC. -/
def execJimanShac (ac : Bool) (n : BitVec 4) (s : State) : Host.Outcome State Fault Refusal :=
  jimanExec s plainKind fun s =>
    jSetAc s ac (shiftAc (s.jac ac) n)

/-- CLRAC. -/
def execJimanClrac (ac : Bool) (s : State) : Host.Outcome State Fault Refusal :=
  jimanExec s plainKind fun s =>
    jSetAc s ac 0

/-- NEGAC. -/
def execJimanNegac (ac : Bool) (s : State) : Host.Outcome State Fault Refusal :=
  jimanExec s plainKind fun s =>
    jSetAc s ac (sat40 (-(s.jac ac).toInt))

/-- ADDAC: the other accumulator is added. -/
def execJimanAddac (ac : Bool) (s : State) : Host.Outcome State Fault Refusal :=
  jimanExec s plainKind fun s =>
    jSetAc s ac (sat40 ((s.jac ac).toInt + (s.jac !ac).toInt))

/-- SUBAC. -/
def execJimanSubac (ac : Bool) (s : State) : Host.Outcome State Fault Refusal :=
  jimanExec s plainKind fun s =>
    jSetAc s ac (sat40 ((s.jac ac).toInt - (s.jac !ac).toInt))

/-- ABSAC. -/
def execJimanAbsac (ac : Bool) (s : State) : Host.Outcome State Fault Refusal :=
  jimanExec s plainKind fun s =>
    jSetAc s ac (sat40 ((s.jac ac).toInt.natAbs))

/-- DIVS (R390). -/
def execJimanDivs (ac : Bool) (d : BitVec 3) (s : State) : Host.Outcome State Fault Refusal :=
  jimanExec s plainKind fun s =>
    jSetAc s ac (divStep (s.jac ac) (s.jd d))

/-- MVR d := sys. -/
def execJimanMvr (d : BitVec 3) (sys : BitVec 4) (s : State) : Host.Outcome State Fault Refusal :=
  jimanExec s plainKind fun s =>
    jSetD s d (sysRead s.jr sys.toNat)

/-- MVS sys := d; st, rpc, rps and rpe raise REPEAT while RA = 1 (R379). -/
def execJimanMvs (sys : BitVec 4) (d : BitVec 3) (s : State) : Host.Outcome State Fault Refusal :=
  jimanExec s plainKind fun s =>
    if s.jr.ra ∧ sys.toNat ≤ 3 then .guard 0x06 0 s
    else .done (s.setJr (sysWrite s.jr sys.toNat (s.jd d)))

/-- MOV (Table 15.5). -/
def execJimanMov (dx dy : BitVec 3) (s : State) : Host.Outcome State Fault Refusal :=
  jimanExec s plainKind fun s =>
    jSetD s dx ((s.jd dy))

/-- ADD (Table 15.5). -/
def execJimanAdd (dx dy : BitVec 3) (s : State) : Host.Outcome State Fault Refusal :=
  jimanExec s plainKind fun s =>
    jSetD s dx ((s.jd dx) + (s.jd dy))

/-- ADDS, saturating (Table 15.5). -/
def execJimanAdds (dx dy : BitVec 3) (s : State) : Host.Outcome State Fault Refusal :=
  jimanExec s plainKind fun s =>
    jSetD s dx (sat16 ((s.jd dx).toInt + (s.jd dy).toInt))

/-- SUB (Table 15.5). -/
def execJimanSub (dx dy : BitVec 3) (s : State) : Host.Outcome State Fault Refusal :=
  jimanExec s plainKind fun s =>
    jSetD s dx ((s.jd dx) - (s.jd dy))

/-- SUBS, saturating (Table 15.5). -/
def execJimanSubs (dx dy : BitVec 3) (s : State) : Host.Outcome State Fault Refusal :=
  jimanExec s plainKind fun s =>
    jSetD s dx (sat16 ((s.jd dx).toInt - (s.jd dy).toInt))

/-- AND (Table 15.5). -/
def execJimanAnd (dx dy : BitVec 3) (s : State) : Host.Outcome State Fault Refusal :=
  jimanExec s plainKind fun s =>
    jSetD s dx ((s.jd dx) &&& (s.jd dy))

/-- OR (Table 15.5). -/
def execJimanOr (dx dy : BitVec 3) (s : State) : Host.Outcome State Fault Refusal :=
  jimanExec s plainKind fun s =>
    jSetD s dx ((s.jd dx) ||| (s.jd dy))

/-- XOR (Table 15.5). -/
def execJimanXor (dx dy : BitVec 3) (s : State) : Host.Outcome State Fault Refusal :=
  jimanExec s plainKind fun s =>
    jSetD s dx ((s.jd dx) ^^^ (s.jd dy))

/-- ANDN (Table 15.5). -/
def execJimanAndn (dx dy : BitVec 3) (s : State) : Host.Outcome State Fault Refusal :=
  jimanExec s plainKind fun s =>
    jSetD s dx ((s.jd dx) &&& ~~~(s.jd dy))

/-- SHL by dy[4:0] (Table 15.5). -/
def execJimanShl (dx dy : BitVec 3) (s : State) : Host.Outcome State Fault Refusal :=
  jimanExec s plainKind fun s =>
    jSetD s dx ((s.jd dx) <<< ((s.jd dy).toNat % 32))

/-- SHR by dy[4:0] (Table 15.5). -/
def execJimanShr (dx dy : BitVec 3) (s : State) : Host.Outcome State Fault Refusal :=
  jimanExec s plainKind fun s =>
    jSetD s dx ((s.jd dx) >>> ((s.jd dy).toNat % 32))

/-- SAR by dy[4:0] (Table 15.5). -/
def execJimanSar (dx dy : BitVec 3) (s : State) : Host.Outcome State Fault Refusal :=
  jimanExec s plainKind fun s =>
    jSetD s dx ((s.jd dx).sshiftRight ((s.jd dy).toNat % 32))

/-- SHLS by dy[4:0], saturating (Table 15.5). -/
def execJimanShls (dx dy : BitVec 3) (s : State) : Host.Outcome State Fault Refusal :=
  jimanExec s plainKind fun s =>
    jSetD s dx (shlSat (s.jd dx) ((s.jd dy).toNat % 32))

/-- MIN, signed (Table 15.5). -/
def execJimanMin (dx dy : BitVec 3) (s : State) : Host.Outcome State Fault Refusal :=
  jimanExec s plainKind fun s =>
    jSetD s dx (if (s.jd dx).toInt ≤ (s.jd dy).toInt then (s.jd dx) else (s.jd dy))

/-- MAX, signed (Table 15.5). -/
def execJimanMax (dx dy : BitVec 3) (s : State) : Host.Outcome State Fault Refusal :=
  jimanExec s plainKind fun s =>
    jSetD s dx (if (s.jd dx).toInt ≤ (s.jd dy).toInt then (s.jd dy) else (s.jd dx))

/-- NEG (Table 15.5). -/
def execJimanNeg (d dx : BitVec 3) (s : State) : Host.Outcome State Fault Refusal :=
  jimanExec s plainKind fun s =>
    jSetD s d (-(s.jd dx))

/-- NEGS (Table 15.5). -/
def execJimanNegs (d dx : BitVec 3) (s : State) : Host.Outcome State Fault Refusal :=
  jimanExec s plainKind fun s =>
    jSetD s d (sat16 (-(s.jd dx).toInt))

/-- ABS (Table 15.5). -/
def execJimanAbs (d dx : BitVec 3) (s : State) : Host.Outcome State Fault Refusal :=
  jimanExec s plainKind fun s =>
    jSetD s d (BitVec.ofNat 16 (s.jd dx).toInt.natAbs)

/-- ABSS (Table 15.5). -/
def execJimanAbss (d dx : BitVec 3) (s : State) : Host.Outcome State Fault Refusal :=
  jimanExec s plainKind fun s =>
    jSetD s d (sat16 (s.jd dx).toInt.natAbs)

/-- NOT (Table 15.5). -/
def execJimanNot (d dx : BitVec 3) (s : State) : Host.Outcome State Fault Refusal :=
  jimanExec s plainKind fun s =>
    jSetD s d (~~~(s.jd dx))

/-- CLS (Table 15.5). -/
def execJimanCls (d dx : BitVec 3) (s : State) : Host.Outcome State Fault Refusal :=
  jimanExec s plainKind fun s =>
    jSetD s d (clsCount (s.jd dx))

/-- MOVDA d := ax. -/
def execJimanMovda (d ax : BitVec 3) (s : State) : Host.Outcome State Fault Refusal :=
  jimanExec s plainKind fun s =>
    jSetD s d (s.ja ax)

/-- MOVAD ad := dx. -/
def execJimanMovad (ad dx : BitVec 3) (s : State) : Host.Outcome State Fault Refusal :=
  jimanExec s plainKind fun s =>
    jSetA s ad (s.jd dx)

/-- MOVI d := v. -/
def execJimanMovi (d : BitVec 3) (imm : BitVec 6) (s : State) : Host.Outcome State Fault Refusal :=
  jimanExec s (wideKind 6) fun s =>
    jSetD s d (signedField s imm)

/-- ADDI d := d + v. -/
def execJimanAddi (d : BitVec 3) (imm : BitVec 6) (s : State) : Host.Outcome State Fault Refusal :=
  jimanExec s (wideKind 6) fun s =>
    jSetD s d (s.jd d + signedField s imm)

/-- SHLI. -/
def execJimanShli (d : BitVec 3) (n : BitVec 4) (s : State) : Host.Outcome State Fault Refusal :=
  jimanExec s plainKind fun s =>
    jSetD s d (s.jd d <<< n.toNat)

/-- SHRI. -/
def execJimanShri (d : BitVec 3) (n : BitVec 4) (s : State) : Host.Outcome State Fault Refusal :=
  jimanExec s plainKind fun s =>
    jSetD s d (s.jd d >>> n.toNat)

/-- SARI. -/
def execJimanSari (d : BitVec 3) (n : BitVec 4) (s : State) : Host.Outcome State Fault Refusal :=
  jimanExec s plainKind fun s =>
    jSetD s d ((s.jd d).sshiftRight n.toNat)

/-- SHLSI, saturating. -/
def execJimanShlsi (d : BitVec 3) (n : BitVec 4) (s : State) : Host.Outcome State Fault Refusal :=
  jimanExec s plainKind fun s =>
    jSetD s d (shlSat (s.jd d) n.toNat)

/-- ADDA a := a + v. -/
def execJimanAdda (a : BitVec 3) (imm : BitVec 5) (s : State) : Host.Outcome State Fault Refusal :=
  jimanExec s (wideKind 5) fun s =>
    jSetA s a (s.ja a + signedField s imm)

/-- MOVIA a := v. -/
def execJimanMovia (a : BitVec 3) (imm : BitVec 5) (s : State) : Host.Outcome State Fault Refusal :=
  jimanExec s (wideKind 5) fun s =>
    jSetA s a (signedField s imm)

/-- MOVA a := ax. -/
def execJimanMova (a ax : BitVec 3) (s : State) : Host.Outcome State Fault Refusal :=
  jimanExec s plainKind fun s =>
    jSetA s a (s.ja ax)

/-- ADDA a := a + dx. -/
def execJimanAddaD (a dx : BitVec 3) (s : State) : Host.Outcome State Fault Refusal :=
  jimanExec s plainKind fun s =>
    jSetA s a (s.ja a + s.jd dx)

/-- SUBA a := a − dx. -/
def execJimanSuba (a dx : BitVec 3) (s : State) : Host.Outcome State Fault Refusal :=
  jimanExec s plainKind fun s =>
    jSetA s a (s.ja a - s.jd dx)

/-- LDF d, (a)+ (R385); `bad` is an uncorrectable read. -/
def execJimanLdf (a d : BitVec 3) (bad : Bool) (s : State) : Host.Outcome State Fault Refusal :=
  jimanExec s longKind fun s =>
    jldf s a d bad

/-- RPTI (R395): the body is len + 1 words. -/
def execJimanRpti (count : BitVec 4) (len : BitVec 3) (s : State) : Host.Outcome State Fault Refusal :=
  jimanExec s { wideKind 4 with slot := false } fun s =>
    repeatBody s (unsignedField s count).toNat (len.toNat + 1)

/-- RPT (R395): the count is d, the body len + 1 words. -/
def execJimanRpt (d : BitVec 3) (len : BitVec 4) (s : State) : Host.Outcome State Fault Refusal :=
  jimanExec s { wideKind 4 with slot := false } fun s =>
    repeatBody s (s.jd d).toNat ((unsignedField s len).toNat + 1)

end Sys2Proof.Machine
end

