-- ==== Sys2Proof/Machine/KeepOps.lean ====
section
/-! DEFINITION. The Keep array's shared operations: usable drives, geometry and parity, the metadata of the members, the
write-intent bitmap, assembly, and the limit word as the cache meets it (11_keep_array R267-R283). -/

namespace Sys2Proof.Machine
open Sys2Proof

/-! ### Drives and ports (R267, R271, R519) -/

/-- A drive that the Keep may use (R267). -/
def DriveIdent.usable (d : DriveIdent) : Bool :=
  d.nvme2 && d.nvmSet && decide (d.namespaces = [1]) && !d.zoned && (decide (d.lbaBytes = 512) || decide (d.lbaBytes = 4096)) &&
    !d.metadata && !d.protection && !d.locking && decide (mib 16 + gib 1 ≤ d.capacity)

/-- Drive port q. -/
def State.port (s : State) (q : Nat) : DrivePort := vget s.keep.ports q Reset.drivePort

/-- Replace drive port q. -/
def State.setPort (s : State) (q : Nat) (p : DrivePort) : State := s.setKeep { s.keep with ports := vset s.keep.ports q p }

/-- The usable drive on a port; a port whose drive is not usable counts as one with no drive (R267). -/
def usableDrive (s : State) (q : Nat) : Option Drive := (s.port q).drive.filter fun d => d.ident.usable

/-- The location code of a drive port (Table 19.1). -/
def portLoc (q : Nat) : W16 := BitVec.ofNat 16 (0x7000 + q % 8)

/-- Change the drive of a port. While its link is lost for less than 100 ms, a command waits for it and reaches it when it returns
(R271, R519). -/
def onDrive (s : State) (q : Nat) (f : Drive → Drive) : State :=
  let p := s.port q
  s.setPort q { p with drive := p.drive.map f, lost := p.lost.map f }

/-- What was overwritten outside [lo, hi). -/
def keepOutside (lo hi : Nat) (u : Nat × List Byte) : List (Nat × List Byte) :=
  [(u.1, u.2.take (lo - u.1)), (max hi u.1, u.2.drop (hi - u.1))].filter fun x => x.2 ≠ []

/-- Write bytes on the drive of a port with Force Unit Access: they are durable (R269). -/
def writeMedia (s : State) (q off : Nat) (data : List Byte) : State :=
  onDrive s q fun d => { d with
    media := d.media.writeN off data, unflushed := d.unflushed.flatMap (keepOutside off (off + data.length)) }

/-- Write bytes on the drive of a port without Force Unit Access: they are durable after a Flush (R269). -/
def writeCached (s : State) (q off : Nat) (data : List Byte) : State :=
  onDrive s q fun d => { d with
    media := d.media.writeN off data, unflushed := (off, d.media.readN off data.length) :: d.unflushed }

/-- A Flush of the drive on a port completes (R269). -/
def flushDrive (s : State) (q : Nat) : State := onDrive s q fun d => { d with unflushed := [] }

/-- Bytes of the drive on a port. -/
def readMedia (s : State) (q off n : Nat) : List Byte :=
  match (s.port q).drive.or (s.port q).lost with
  | some d => d.media.readN off n
  | none => List.replicate n 0

/-- Keep only the bytes below `lo` and from `hi` on. -/
def Memory.zero (m : Memory) (lo hi : Nat) : Memory := m.filter fun c => decide (c.1 < lo) || decide (hi ≤ c.1)

/-! ### Geometry (R273, R274, R279) -/

/-- Data chunks of a stripe. -/
def KArray.k (a : KArray) : Nat := a.n - a.p
/-- The chunk size C. -/
def KArray.chunk (a : KArray) : Nat := if a.chunk256 then kib 256 else kib 64
/-- Stripes that a bit of the bitmap covers. -/
def KArray.perRegion (a : KArray) : Nat := mib 64 / a.chunk
/-- Regions of the array. -/
def KArray.regions (a : KArray) : Nat := (a.stripes + a.perRegion - 1) / a.perRegion
/-- Bytes of a stripe's data. -/
def KArray.width (a : KArray) : Nat := a.k * a.chunk
/-- The member that holds position x of stripe s: data chunk x below k, then P, then Q (R274). -/
def KArray.memberAt (a : KArray) (s x : Nat) : Nat :=
  let pm := a.n - 1 - s % a.n
  if x < a.k then (pm + a.p + x) % a.n else (pm + (x - a.k)) % a.n
/-- The position of a stripe that a member holds. -/
def KArray.positionOf (a : KArray) (s m : Nat) : Nat := ((List.range a.n).find? fun x => a.memberAt s x = m).getD 0
/-- The member byte at which a stripe's chunk begins (R274). -/
def KArray.chunkAddr (a : KArray) (s : Nat) : Nat := mib 16 + s * a.chunk
/-- Whether member i has failed, or is missing since the assembly. -/
def KArray.isFailed (a : KArray) (i : Nat) : Bool := a.failed.getLsbD i
/-- Whether member i is present and not failed. -/
def KArray.present (a : KArray) (i : Nat) : Bool := decide (i < a.n) && !a.isFailed i && (vget a.ports i none).isSome
/-- How many members are missing. -/
def KArray.missing (a : KArray) : Nat := ((List.range a.n).filter fun i => !a.present i).length
/-- More than p members are missing (R293). -/
def KArray.isDown (a : KArray) : Bool := decide (a.p < a.missing)
/-- The members that are missing, as a bit map. -/
def KArray.missingBits (a : KArray) : Nat := ((List.range a.n).filter fun i => !a.present i).foldl (fun m i => m + 2 ^ i) 0

/-- Whether a rebuild treats a stripe as present on its target (R297, R298). -/
def Rebuild.covers (a : KArray) (r : Rebuild) (s : Nat) : Bool :=
  decide (s < r.progress) || (match r.regions with
    | some rs => !rs.contains (s / a.perRegion)
    | none => false)

/-- The port from which member i's chunk of a stripe is read, if it can be. -/
def KArray.readPort (a : KArray) (i s : Nat) : Option Nat :=
  if a.present i then vget a.ports i none
  else a.rebuild.bind fun r => if r.member = i ∧ r.covers a s then some r.port else none

/-- The port to which member i's chunk of a stripe is written: writes reach a rebuild's target at every stripe (R298). -/
def KArray.writePort (a : KArray) (i : Nat) : Option Nat :=
  if a.present i then vget a.ports i none
  else a.rebuild.bind fun r => if r.member = i then some r.port else none

/-- The ports of the present members. -/
def KArray.livePorts (a : KArray) : List Nat := (List.range a.n).filterMap fun i => if a.present i then vget a.ports i none else none

/-- Whether no present member, nor the target of a rebuild, has lost its link: commands to such a member wait (R271). -/
def allReachable (s : State) (a : KArray) : Bool :=
  (a.livePorts ++ (a.rebuild.map (·.port)).toList).all fun q => (s.port q).drive.isSome

/-- Replace the assembled array. -/
def State.setArray (s : State) (a : KArray) : State := s.setKeep { s.keep with array := some a }

/-! ### Parity (R275) -/

/-- Multiply by g = 2 in GF(2^8) with polynomial 0x11D. -/
def gfDouble (x : Byte) : Byte := (x <<< 1) ^^^ (if x.getLsbD 7 then 0x1D else 0)
/-- g to the power j. -/
def gfPow : Nat → Byte
  | 0 => 1
  | j + 1 => gfDouble (gfPow j)
/-- Multiplication in GF(2^8). -/
def gfMul (a b : Byte) : Byte :=
  (List.range 8).foldr (fun i acc => gfDouble acc ^^^ (if b.getLsbD (i) then a else 0)) 0
/-- x to the power n. -/
def gfExp (x : Byte) : Nat → Byte
  | 0 => 1
  | n + 1 => gfMul x (gfExp x n)
/-- The inverse of x: x to the power 254. -/
def gfInv (x : Byte) : Byte := gfExp x 254

/-- The sum of two byte strings in GF(2^8). -/
def xorBytes (a b : List Byte) : List Byte := List.zipWith (· ^^^ ·) a b
/-- P of data chunks of n bytes. -/
def parityP (n : Nat) (ds : List (List Byte)) : List Byte := ds.foldl xorBytes (List.replicate n 0)
/-- Q of data chunks of n bytes: D0 + g (D1 + g (…)). -/
def parityQ (n : Nat) (ds : List (List Byte)) : List Byte :=
  ds.foldr (fun d acc => xorBytes d (acc.map gfDouble)) (List.replicate n 0)

/-- The data chunks of a stripe from its k data chunks and its parity, none where a chunk is not read: any k of them
decide the rest (R275, R294); none where fewer are read. -/
def recover (n : Nat) (ds : List (Option (List Byte))) (p q : Option (List Byte)) : Option (List (List Byte)) :=
  let zero := List.replicate n (0 : Byte)
  let filled := ds.map fun d => d.getD zero
  let put (l : List (List Byte)) (x : Nat) (d : List Byte) := l.set x d
  match (List.range ds.length).filter fun i => (ds.getD i none).isNone with
  | [] => some filled
  | [x] =>
    match p, q with
    | some pb, _ => some (put filled x (xorBytes pb (parityP n filled)))
    | none, some qb => some (put filled x ((xorBytes qb (parityQ n filled)).map (gfMul (gfInv (gfPow x)))))
    | none, none => none
  | [x, y] =>
    match p, q with
    | some pb, some qb =>
      let pxy := xorBytes pb (parityP n filled)
      let qxy := xorBytes qb (parityQ n filled)
      let dx := (xorBytes qxy (pxy.map (gfMul (gfPow y)))).map (gfMul (gfInv (gfPow x ^^^ gfPow y)))
      some (put (put filled x dx) y (xorBytes pxy dx))
    | _, _ => none
  | _ => none

/-- The bytes [off, off + n) of the chunk at position x of a stripe, none where no member holds it or the member is one
of `bad`, whose drive cannot read it. -/
def readPosition (s : State) (a : KArray) (bad : List Nat) (stripe x off n : Nat) : Option (List Byte) :=
  let m := a.memberAt stripe x
  if bad.contains m then none
  else (a.readPort m stripe).map fun q => readMedia s q (a.chunkAddr stripe + off) n

/-- The bytes [off, off + n) of every data chunk of a stripe, reconstructed where needed (R294); none where fewer than k
chunks can be read. -/
def readStripe (s : State) (a : KArray) (bad : List Nat) (stripe off n : Nat) : Option (List (List Byte)) :=
  recover n ((List.range a.k).map fun j => readPosition s a bad stripe j off n)
    (readPosition s a bad stripe a.k off n) (if a.p = 2 then readPosition s a bad stripe (a.k + 1) off n else none)

/-- Write bytes without Force Unit Access at `off` of the chunk at position x of a stripe, where its member takes writes. -/
def patchPosition (s : State) (a : KArray) (stripe x off : Nat) (data : List Byte) : State :=
  match a.writePort (a.memberAt stripe x) with
  | some q => writeCached s q (a.chunkAddr stripe + off) data
  | none => s

/-- Write bytes with Force Unit Access at `off` of the chunk at position x of a stripe, where its member takes writes. -/
def writePosition (s : State) (a : KArray) (stripe x off : Nat) (data : List Byte) : State :=
  match a.writePort (a.memberAt stripe x) with
  | some q => writeMedia s q (a.chunkAddr stripe + off) data
  | none => s

/-! ### Metadata items (R276-R279, R285, R517) -/

/-- Bytes with the CRC32C of all of them put over bytes [at, at + 4), which are 0 before. -/
def crcOver (pos : Nat) (bs : List Byte) : List Byte :=
  bs.take pos ++ natToBytes (crc32c bs).toNat 4 ++ bs.drop (pos + 4)

/-- Whether the CRC at a place of some bytes is correct. -/
def crcHolds (pos : Nat) (bs : List Byte) : Bool :=
  decide (crcOver pos (bs.take pos ++ [0, 0, 0, 0] ++ bs.drop (pos + 4)) = bs)

/-- Bytes [b, b + n) of a metadata item as a number. -/
def itemFld (bs : List Byte) (b n : Nat) : Nat := bytesToNat ((bs.drop b).take n)

/-- Bytes padded with zeros to a length. -/
def padTo (n : Nat) (bs : List Byte) : List Byte := bs ++ List.replicate (n - bs.length) 0

/-- A superblock (Table 11.3). -/
structure Superblock where
  uuid : BitVec 128
  generation : Nat
  n : Nat
  p : Nat
  chunk256 : Bool
  index : Nat
  failed : Byte
  resyncAll : Bool
  rebuilding : Bool
  rebuildIndex : Nat
  stripes : Nat
  progress : Nat
  failGen : Vector Nat 8
  deriving DecidableEq, Repr

/-- The bytes of a superblock (Table 11.3): MAGIC is "KEEPSB01". -/
def Superblock.bytes (b : Superblock) : List Byte :=
  crcOver 12 (padTo 4096 ([0x4B, 0x45, 0x45, 0x50, 0x53, 0x42, 0x30, 0x31] ++ natToBytes 1 4 ++ [0, 0, 0, 0] ++
    natToBytes b.uuid.toNat 16 ++ natToBytes b.generation 8 ++ natToBytes b.n 1 ++ natToBytes b.p 1 ++
    natToBytes b.chunk256.toNat 1 ++ natToBytes b.index 1 ++ [b.failed] ++
    natToBytes (b.resyncAll.toNat + 2 * b.rebuilding.toNat) 1 ++ natToBytes b.rebuildIndex 1 ++ [0] ++
    natToBytes b.stripes 8 ++ natToBytes b.progress 8 ++ b.failGen.toList.flatMap fun g => natToBytes g 8))

/-- The superblock that 4,096 bytes hold, if it is valid (R278). -/
def parseSuperblock (bs : List Byte) : Option Superblock :=
  let f := itemFld bs
  if bs.take 8 = [0x4B, 0x45, 0x45, 0x50, 0x53, 0x42, 0x30, 0x31] ∧ f 8 4 = 1 ∧ crcHolds 12 bs ∧ 3 ≤ f 40 1 ∧ f 40 1 ≤ 8 ∧
      1 ≤ f 41 1 ∧ f 41 1 ≤ 2 ∧ f 41 1 + 1 < f 40 1 ∧ f 42 1 ≤ 1 ∧ (f 43 1 < f 40 1 ∨ f 43 1 = 0xFF) then
    some { uuid := BitVec.ofNat 128 (f 16 16), generation := f 32 8, n := f 40 1, p := f 41 1, chunk256 := decide (f 42 1 = 1),
           index := f 43 1, failed := BitVec.ofNat 8 (f 44 1), resyncAll := (f 45 1).testBit 0,
           rebuilding := (f 45 1).testBit 1, rebuildIndex := f 46 1, stripes := f 48 8, progress := f 56 8,
           failGen := Vector.ofFn fun i => f (64 + 8 * i.val) 8 }
  else none

/-- The winning superblock of a drive: the valid copy with the higher GENERATION (R278). -/
def driveSuperblock (d : Drive) : Option Superblock :=
  match parseSuperblock (d.media.readN 0 4096), parseSuperblock (d.media.readN 4096 4096) with
  | some x, some y => some (if x.generation < y.generation then y else x)
  | some x, none => some x
  | none, y => y

/-- The superblock of a member, of a rebuild's target or, at index 0xFF, of a spare, as the array stands. -/
def KArray.superblock (a : KArray) (index : Nat) : Superblock :=
  { uuid := a.uuid, generation := a.generation, n := a.n, p := a.p, chunk256 := a.chunk256, index := index, failed := a.failed,
    resyncAll := a.resyncAll, rebuilding := a.rebuild.isSome, rebuildIndex := (a.rebuild.map (·.member)).getD 0,
    stripes := a.stripes, progress := (a.rebuild.map (·.progress)).getD 0, failGen := a.failGen }

/-- The array with GENERATION advanced, and FAIL_GEN of members first recorded as failed by it. -/
def KArray.nextGeneration (a : KArray) : KArray :=
  { a with
    generation := a.generation + 1
    failGen := Vector.ofFn fun i =>
      if a.isFailed i.val then (if vget a.failGen i.val 0 = 0 then a.generation + 1 else vget a.failGen i.val 0) else 0 }

/-- Write the superblocks of the array with GENERATION + 1 to every present member, to the spares and to the target of a
rebuild (R276, R277). -/
def writeSuperblocks (s : State) : State :=
  match s.keep.array with
  | none => s
  | some a0 =>
    let a := a0.nextGeneration
    let off := if a.generation % 2 = 0 then 0 else 4096
    let targets := ((List.range a.n).filterMap fun i => if a.present i then (vget a.ports i none).map fun q => (i, q) else none) ++
      (a.rebuild.map fun r => (r.member, r.port)).toList ++
      ((List.range 8).filter fun q => s.keep.spares.getLsbD q).map fun q => (0xFF, q)
    targets.foldl (fun s x => writeMedia s x.2 off (a.superblock x.1).bytes) (s.setArray a)

/-- Write a metadata item to every present member (R276). -/
def writeItem (s : State) (off : Nat) (data : List Byte) : State :=
  match s.keep.array with
  | none => s
  | some a => a.livePorts.foldl (fun s q => writeMedia s q off data) s

/-- Memory with the bytes [lo, hi) of another. -/
def Memory.take (m other : Memory) (lo hi : Nat) : Memory :=
  (m.filter fun c => decide (c.1 < lo)) ++ (other.filter fun c => decide (lo ≤ c.1 ∧ c.1 < hi)) ++
    m.filter fun c => decide (hi ≤ c.1)

/-- The slot table, the commit records and the bitmap are written to the drive of a port that becomes a present member, as the
present members hold them (R276, R279). -/
def copyItems (s : State) (q : Nat) : State :=
  match s.keep.array.bind fun a => (a.livePorts.filter fun x => x ≠ q).head? with
  | none => s
  | some x =>
    match (s.port x).drive.or (s.port x).lost with
    | none => s
    | some d => flushDrive (onDrive s q fun t => { t with media := t.media.take d.media 0x10000 (mib 16) }) q

/-- A slot table entry as bytes (Table 11.10). -/
def slotBytes (uuid : BitVec 128) (e : SlotEntry) : List Byte :=
  crcOver 0 ([0, 0, 0, 0] ++ natToBytes e.slot 2 ++ natToBytes e.defined.toNat 1 ++ [0] ++ natToBytes e.seq 8 ++
    natToBytes e.halfBytes 8 ++ natToBytes e.firstA 8 ++ natToBytes e.firstB 8 ++ natToBytes e.halfStripes 8 ++
    natToBytes uuid.toNat 16)

/-- The slot table entry that 64 bytes hold at an index, if it is valid (R278, R517). -/
def parseSlot (uuid : BitVec 128) (index : Nat) (bs : List Byte) : Option SlotEntry :=
  let f := itemFld bs
  if crcHolds 0 bs ∧ f 4 2 = index ∧ f 48 16 = uuid.toNat then
    some { slot := index, defined := (f 6 1).testBit 0, seq := f 8 8, halfBytes := f 16 8, firstA := f 24 8, firstB := f 32 8,
           halfStripes := f 40 8 }
  else none

/-- A commit record as bytes (Table 11.7). -/
def recordBytes (uuid : BitVec 128) (r : CommitRec) : List Byte :=
  crcOver 0 (padTo 4096 ([0, 0, 0, 0] ++ natToBytes r.slot 2 ++ natToBytes r.half 1 ++ natToBytes r.state 1 ++
    natToBytes r.epoch.toNat 4 ++ [0, 0, 0, 0] ++ natToBytes r.seq 8 ++ natToBytes r.bytes.toNat 8 ++ natToBytes r.time.toNat 8 ++
    natToBytes uuid.toNat 16))

/-- The commit record that 4,096 bytes hold at a place, if it is valid (R278). -/
def parseRecord (uuid : BitVec 128) (slot half : Nat) (bs : List Byte) : Option CommitRec :=
  let f := itemFld bs
  if crcHolds 0 bs ∧ f 4 2 = slot ∧ f 6 1 = half ∧ f 7 1 ≤ 2 ∧ f 40 16 = uuid.toNat then
    some { slot := slot, half := half, state := f 7 1, epoch := BitVec.ofNat 32 (f 8 4), seq := f 16 8,
           bytes := BitVec.ofNat 64 (f 24 8), time := BitVec.ofNat 64 (f 32 8) }
  else none

/-- The member offset of a commit record (Table 11.2). -/
def recordAddr (slot half : Nat) : Nat := 0x20000 + (2 * slot + half) * 4096

/-- Write a commit record with the next RECORD_SEQ to every present member (R285). A record that is EMPTY is kept as none. -/
def writeCommit (s : State) (slot half st : Nat) (epoch : W32) (bytes : W64) : State :=
  match s.keep.array with
  | none => s
  | some a =>
    let r : CommitRec := { slot := slot, half := half, state := st, epoch := epoch, seq := a.recordSeq + 1, bytes := bytes,
                           time := s.clocks.timebase }
    let rest := a.records.filter fun x => !(decide (x.slot = slot) && decide (x.half = half))
    writeItem (s.setArray { a with recordSeq := a.recordSeq + 1, records := if st = 0 then rest else rest ++ [r] })
      (recordAddr slot half) (recordBytes a.uuid r)

/-- Write a slot table entry with the next SEQ to every present member (R517). -/
def writeSlot (s : State) (e : SlotEntry) : State :=
  match s.keep.array with
  | none => s
  | some a =>
    let e1 := { e with seq := a.recordSeq + 1 }
    let rest := a.slots.filter fun x => x.slot ≠ e.slot
    writeItem (s.setArray { a with recordSeq := a.recordSeq + 1, slots := if e.defined then rest ++ [e1] else rest })
      (0x10000 + 64 * e.slot) (slotBytes a.uuid e1)

/-- A block of the bitmap: 32,768 bits from 32,768 b on (R279). -/
def bitmapBlock (bits : List Nat) (b : Nat) : List Byte :=
  (List.range 4096).map fun i => BitVec.ofNat 8 (((List.range 8).filter fun j => bits.contains (32768 * b + 8 * i + j)).foldl
    (fun m j => m + 2 ^ j) 0)

/-- Write the block of the bitmap that holds a region's bit (R279). -/
def writeBitmapBlock (s : State) (b : Nat) : State :=
  match s.keep.array with
  | none => s
  | some a => writeItem s (0xC00000 + 4096 * b) (bitmapBlock a.bitmap b)

/-- Make a region's bit durable on every present member (R279). -/
def setRegion (s : State) (r : Nat) : State :=
  match s.keep.array with
  | none => s
  | some a =>
    if a.bitmap.contains r then s else writeBitmapBlock (s.setArray { a with bitmap := insertNat r a.bitmap }) (r / 32768)

/-- Note that a stripe of a region has been written now (R279). -/
def KArray.wroteRegion (a : KArray) (r : Nat) (t : W64) : KArray :=
  { a with regionWritten := (a.regionWritten.filter fun x => x.1 ≠ r) ++ [(r, t)] }

/-! ### Assembly (R281) -/

/-- The drives of some ports that carry a superblock, with their ports. -/
def superblocksOn (s : State) (ports : List Nat) : List (Nat × Superblock) :=
  ports.filterMap fun q => (usableDrive s q).bind fun d => (driveSuperblock d).map fun b => (q, b)

/-- The first element with the largest value of a key. -/
def bestBy {α : Type} (key : α → Nat) : List α → Option α
  | [] => none
  | x :: xs => match bestBy key xs with
    | none => some x
    | some y => some (if key x < key y then y else x)

/-- The slot table and the commit records as the present members hold them: the valid copy with the highest sequence wins
(R278). Entries that are not defined stay, for their SEQ. -/
def readSlots (s : State) (a : KArray) : List SlotEntry :=
  (List.range 1024).filterMap fun i =>
    bestBy (·.seq) (a.livePorts.filterMap fun q => parseSlot a.uuid i (readMedia s q (0x10000 + 64 * i) 64))

/-- The commit records of a slot. -/
def readRecords (s : State) (a : KArray) (slot : Nat) : List CommitRec :=
  [0, 1].filterMap fun h =>
    bestBy (·.seq) (a.livePorts.filterMap fun q => parseRecord a.uuid slot h (readMedia s q (recordAddr slot h) 4096))

/-- The set bits of the bitmap: the OR of the copies of every present member (R278). -/
def readBitmap (s : State) (a : KArray) : List Nat :=
  let copies := a.livePorts.map fun q => readMedia s q 0xC00000 ((a.regions + 7) / 8)
  (List.range a.regions).filter fun r => copies.any fun c => (c.getD (r / 8) 0).getLsbD (r % 8)

/-- The array of a UUID as some ports hold it, with the ports of its spares (R281). A member whose drive is not there
counts as failed; the drive of a rebuild recorded in the superblocks is its target (R298). -/
def assembleFrom (s : State) (ports : List Nat) (uuid : BitVec 128) : Option (KArray × Byte) :=
  let all := (superblocksOn s ports).filter fun x => x.2.uuid = uuid
  let mem := all.filter fun x => x.2.index ≠ 0xFF
  (bestBy (fun x => x.2.generation) mem).map fun win =>
    let b := win.2
    let portOf (i : Nat) : Option Nat := (bestBy (fun x => x.2.generation) (mem.filter fun x => x.2.index = i)).map (·.1)
    let members : Vector (Option Nat) 8 := Vector.ofFn fun i =>
      if b.failed.getLsbD i.val || decide (b.n ≤ i.val) then none else portOf i.val
    let failed : Byte := (List.range b.n).foldl (fun f i => if (vget members i none).isNone then f ||| BitVec.twoPow 8 i else f) 0
    let target := if b.rebuilding && b.failed.getLsbD b.rebuildIndex then portOf b.rebuildIndex else none
    let a : KArray :=
      { uuid := uuid, generation := b.generation, n := b.n, p := b.p, chunk256 := b.chunk256, stripes := b.stripes,
        failed := failed, failGen := b.failGen, ports := members, failedAt := Vector.replicate 8 s.clocks.timebase,
        resyncAll := b.resyncAll,
        rebuild := target.map fun q => { member := b.rebuildIndex, port := q, progress := b.progress, regions := none }
        recordSeq := 0, slots := [], records := [], bitmap := [], regionWritten := [], resync := [], resyncNext := 0,
        createResync := false, readds := [] }
    let entries := readSlots s a
    let slots := entries.filter (·.defined)
    let records := slots.flatMap fun e => readRecords s a e.slot
    let bits := readBitmap s a
    let top := (entries.map (·.seq) ++ records.map (·.seq)).foldl max 0
    let spares : Byte := (all.filter fun x => x.2.index = 0xFF).foldl (fun m x => m ||| BitVec.twoPow 8 x.1) 0
    ({ a with recordSeq := top, slots := slots, records := records.filter fun r => r.state ≠ 0, bitmap := bits
              resync := if b.resyncAll then List.range a.regions else bits }, spares)

/-! ### The protected cache's mode and its log (12 R305, R311) -/

/-- Units of 4 KiB of the data area (Table 12.1). -/
def dataUnits : Nat := 4128768

/-- DIRTY in units of 4 KiB (R305). -/
def dirtyUnits (s : State) : Nat := (s.cache.tail - s.cache.head) / 4096

/-- Whether HOLD_ASSURE counts as low for admission: 16 FCLK cycles after its fall (01 R17). -/
def assureLow (s : State) : Bool :=
  !s.mgmt.holdAssure && (match s.cache.assureFell with
    | some t => decide (16 ≤ s.now - t.toNat)
    | none => true)

/-- Whether the cache is write-through (R311). -/
def writeThrough (s : State) : Bool :=
  assureLow s || decide (s.limit < 16384) || s.mgmt.stale || s.cache.forceWt

/-- A vault image waits for its array (R326). -/
def imageWaits (s : State) : Bool := decide (s.cache.image = .awaiting) || decide (s.cache.image = .stale)

/-- STATE of KP_ARRAY_STATUS (Table 11.4). -/
def arrayState (s : State) : Nat :=
  if imageWaits s then 4
  else
    match s.keep.array with
    | none => 0
    | some a => if a.isDown then 3 else if a.missing = 0 then 1 else 2

/-- The array that Keep data operations use: the Keep is enabled, an array assembled and no image waits (R268, Table 4.7
code 0x21). -/
def usableArray (s : State) : Option KArray :=
  if s.power.keepEnabled && !imageWaits s then s.keep.array else none

end Sys2Proof.Machine
end

