-- ==== Sys2Proof/Machine/StripeOps.lean ====
section
/-! DEFINITION. Extents of the protected cache and their release, stripe writes, the failure of members, spares and ports
under test, and the vault's records as the Keep engine appends them (11_keep_array R289-R297, 12_protected_cache_and_vault
R305-R316). -/

namespace Sys2Proof.Machine
open Sys2Proof

/-! ### Extents (12 R305, R306, R315, R316) -/

/-- An extent that destage still has to write. -/
def Extent.live (e : Extent) : Bool := e.ready && !e.released && !e.void

/-- The stripes that an extent touches, ascending. -/
def KArray.stripesOf (a : KArray) (e : Extent) : List Nat :=
  let first := e.arrayByte / a.width
  (List.range ((e.arrayByte + e.length - 1) / a.width + 1 - first)).map (first + ·)

/-- The device address of a running byte position of the data area (Table 12.1, R305). -/
def dataAddr (position : Nat) : Nat := position % (4096 * dataUnits)

/-- The extent that holds an array byte for a stripe write with a SNAP_SEQ: of the live ones the latest (R315). -/
def extentAt (c : Cache) (snap l : Nat) : Option Extent :=
  bestBy (·.admitSeq) (c.extents.filter fun e =>
    e.live && decide (e.admitSeq ≤ snap ∧ e.arrayByte ≤ l ∧ l < e.arrayByte + e.length))

/-- SNAP_SEQ: the largest ADMIT_SEQ admitted, below an extent whose data is still being copied (R315). -/
def snapSeq (c : Cache) : Nat :=
  match c.extents.find? fun e => !e.ready with
  | some e => e.admitSeq - 1
  | none => c.admitSeq

/-- The 4 KiB units of a stripe that some extent holds: data chunk, offset in it, extent and device address (R315). -/
def stripeUnits (s : State) (a : KArray) (stripe snap : Nat) : List (Nat × Nat × Extent × Nat) :=
  (List.range a.k).flatMap fun j => (List.range (a.chunk / 4096)).filterMap fun u =>
    let l := stripe * a.width + j * a.chunk + 4096 * u
    (extentAt s.cache snap l).map fun e => (j, 4096 * u, e, dataAddr (e.offset + (l - e.arrayByte)))

/-- Whether some line of a unit is uncorrectable, as its poison mark or the reported errors say. -/
def unitLost (s : State) (ecc : List Ecc) (addr : Nat) : Bool :=
  (List.range 64).any fun i =>
    s.poisoned (addr + 64 * i) || ecc.any fun e => e.uncorrected && decide (e.line = (addr + 64 * i) / 64)

/-- Read the units of a stripe from the protected cache: each error is counted, and an uncorrectable unit also as lost cache
data (R315 and 12 Corners). -/
def readUnits (s : State) (ecc : List Ecc) (us : List (Nat × Nat × Extent × Nat)) : State :=
  us.foldl (fun s u =>
    let lost := unitLost s ecc u.2.2.2
    let s1 := (List.range 64).foldl (fun s i =>
      match ecc.find? fun e => e.line = (u.2.2.2 + 64 * i) / 64 with
      | some e => eccEvent s e
      | none => s) s
    if lost then faultEvent s1 0x8001 2 (BitVec.ofNat 64 u.2.2.2) else s1) s

/-- What a stripe write takes from the cache: its pieces without the chunks that hold an uncorrectable unit, and the extents
of such units. -/
def gatherPieces (s : State) (a : KArray) (ecc : List Ecc) (stripe snap : Nat) : State × List StripePiece × List Nat :=
  let us := stripeUnits s a stripe snap
  let lost := us.filter fun u => unitLost s ecc u.2.2.2
  let keep := us.filter fun u => !(lost.any fun v => v.1 = u.1)
  (readUnits s ecc us,
   keep.map fun u => { chunk := u.1, off := u.2.1, data := s.dev.readN u.2.2.2 4096 },
   (lost.map fun u => u.2.2.1.admitSeq).eraseDups)

/-! ### Completion of Keep operations -/

/-- SUCCESS, with a note of the failed members where the array is degraded, or a stripe of the operation in entry k was written
without them (Table 4.7, R292). -/
def keepDone (s : State) (k : Nat) : Result :=
  let now := (s.keep.array.map (·.missingBits)).getD 0
  let was := ((s.op k).map (·.degraded)).getD 0
  if now ||| was = 0 then Result.ok else Result.note 1 (now ||| was)

/-- The log head advances past every released extent in front (R305). -/
def advanceLog (c : Cache) : Cache :=
  let rest := c.extents.dropWhile (·.released)
  { c with extents := rest, head := match rest with
      | e :: _ => e.offset
      | [] => c.tail }

/-- Complete the write-through KEEP_WRITEs whose extents are released (R306). -/
def completeWaiters (s : State) : State :=
  let ks := s.cache.extents.filterMap fun e => if e.released && e.ready then e.waiter else none
  let s1 := s.setCache { s.cache with extents := s.cache.extents.map fun e =>
    if e.released && e.ready then { e with waiter := none } else e }
  ks.foldl (fun s k => finishOp s k (keepDone s k)) s1

/-- IMAGE takes a value; a change of VAULT_PENDING sets QE_EVENT.VAULT_CHANGE (R326, R328). -/
def setImage (s : State) (v : ImageState) : State :=
  let was := imageWaits s
  let s1 := s.setCache { s.cache with image := v }
  if was ≠ imageWaits s1 then deviceEvent s1 8 else s1

/-- IMAGE_SEQ of the image in an area: that of its first record (R318). -/
def areaSeq (c : Cache) (area : Bool) : Nat :=
  match if area then c.area1 else c.area0 with
  | r :: _ => r.imageSeq
  | [] => 0

/-- The record area with the records put in it. -/
def setArea (c : Cache) (area : Bool) (rs : List VaultRec) : Cache :=
  if area then { c with area1 := rs } else { c with area0 := rs }

/-- The records of an area. -/
def Cache.area (c : Cache) (a : Bool) : List VaultRec := if a then c.area1 else c.area0

/-- The padded 32-byte BODY of a record (Table 12.6). -/
def VaultBody.head (b : VaultBody) : List Byte :=
  padTo 32 (match b with
    | .arm uuid g n p c => natToBytes uuid.toNat 16 ++ natToBytes g 8 ++ natToBytes n 1 ++ natToBytes p 1 ++ natToBytes c 1
    | .journal st sn _ _ => natToBytes st 8 ++ natToBytes sn 8
    | .extent ab sq sl h ep _ =>
      natToBytes ab 8 ++ natToBytes sq 8 ++ natToBytes sl 2 ++ natToBytes h 1 ++ [0] ++ natToBytes ep.toNat 4
    | .seal j e g c => natToBytes j 4 ++ natToBytes e 4 ++ natToBytes g 8 ++ natToBytes c.toNat 4
    | .replayed => []
    | .discarded => [])

/-- The payload of a record (Table 12.6). -/
def VaultBody.payload : VaultBody → List Byte
  | .journal _ _ p q => p ++ q
  | .extent _ _ _ _ _ d => d
  | _ => []

/-- TYPE of a record (Table 12.6). -/
def VaultBody.type : VaultBody → Nat
  | .arm .. => 1
  | .journal .. => 2
  | .extent .. => 3
  | .seal .. => 4
  | .replayed => 5
  | .discarded => 6

/-- PAYLOAD_CRC of a record: 0 where there is no payload (Table 12.5). -/
def VaultBody.payloadCrc (b : VaultBody) : W32 := if b.payload = [] then 0 else crc32c b.payload

/-- HEADER_CRC of a record: CRC32C over its 64-byte header with the CRC taken as 0 (Table 12.5). MAGIC is "VREC". -/
def headerCrc (imageSeq : Nat) (b : VaultBody) : W32 :=
  crc32c ([0x56, 0x52, 0x45, 0x43] ++ natToBytes b.type 1 ++ [0, 0, 0] ++ natToBytes imageSeq 8 ++
    natToBytes b.payload.length 8 ++ natToBytes b.payloadCrc.toNat 4 ++ [0, 0, 0, 0] ++ b.head)

/-- A record with its CRCs. -/
def mkRecord (imageSeq : Nat) (b : VaultBody) : VaultRec :=
  { imageSeq := imageSeq, payloadCrc := b.payloadCrc, headerCrc := headerCrc imageSeq b, body := b }

/-- Append a record to an area, with the IMAGE_SEQ of its image (R318). -/
def appendRecord (c : Cache) (area : Bool) (b : VaultBody) : Cache :=
  setArea c area (c.area area ++ [mkRecord (areaSeq c area) b])

/-- Replay ends once the restored log is empty: REPLAYED is appended and IMAGE is NONE (R327 step 5). -/
def endReplay (s : State) : State :=
  if s.cache.image = .replaying ∧ s.cache.restored ∧ s.cache.extents = [] ∧ s.cache.journal.toList.all (·.isNone) then
    setImage (s.setCache { appendRecord s.cache s.cache.imageArea .replayed with restored := false }) .none
  else s

/-- What follows when extents have been released: waiting operations complete and the head advances (R305, R306, R327). -/
def settleLog (s : State) : State :=
  let s1 := completeWaiters s
  endReplay (s1.setCache (advanceLog s1.cache))

/-- Void an extent and release it (R306, R328). -/
def voidExtent (s : State) (seq : Nat) : State :=
  s.setCache { s.cache with extents := s.cache.extents.map fun e =>
    if e.admitSeq = seq then { e with void := true, released := true } else e }

/-- An extent after a stripe write of one of its stripes with its data (R316). -/
def coverExtent (a : KArray) (stripe : Nat) (e : Extent) : Extent :=
  let c := insertNat stripe e.covered
  { e with covered := c, released := (a.stripesOf e).all fun x => c.contains x }

/-- The completion of a stripe write for the extents it carried: each stripe counts as covered. An extent whose data could not
be read is retried once and voided by the second failure, which fails its half and its waiting KEEP_WRITE (R316 and 12 Corners
on R309). -/
def coverExtents (s : State) (a : KArray) (stripe snap : Nat) (bad : List Nat) : State :=
  let hit (e : Extent) : Bool := e.live && decide (e.admitSeq ≤ snap) && (a.stripesOf e).contains stripe
  let dead := s.cache.extents.filter fun e => hit e && bad.contains e.admitSeq && decide (1 ≤ e.retries)
  let s1 := s.setCache { s.cache with
    extents := s.cache.extents.map fun e =>
      if !hit e then e
      else if bad.contains e.admitSeq then
        (if 1 ≤ e.retries then { e with void := true, released := true, waiter := none } else { e with retries := e.retries + 1 })
      else coverExtent a stripe e
    poisonedHalves := s.cache.poisonedHalves ++ dead.map fun e => (e.slot, e.half) }
  settleLog (dead.foldl (fun s e =>
    match e.waiter with
    | some k => finishOp s k (Result.fault 0x22 0x20 0x8001 (e.arrayByte) 0)
    | none => s) s1)

/-! ### Stripe locks and methods (11 R289, R290) -/

/-- A stripe write holds the lock of a stripe. -/
def stripeLocked (s : State) (stripe : Nat) : Bool := s.keep.writes.any fun w => decide (w.stripe = stripe) && w.lock.isSome

/-- The lowest free stripe lock. -/
def freeLock (s : State) : Option Nat :=
  (List.range 256).find? fun i => !(s.keep.writes.any fun w => w.lock = some i)

/-- Whether a step may take the lock of a stripe now: a lock is free, and no stripe write holds the stripe's or has asked for it
before (R289). -/
def canLock (s : State) (stripe : Nat) : Bool :=
  !(s.keep.writes.any fun w => decide (w.stripe = stripe)) && (freeLock s).isSome

/-- Some member's chunk of a stripe cannot be read. -/
def KArray.stripeDegraded (a : KArray) (stripe : Nat) : Bool := (List.range a.n).any fun i => (a.readPort i stripe).isNone

/-- A stripe still waits for resync (R299). -/
def KArray.awaitsResync (a : KArray) (stripe : Nat) : Bool :=
  let r := stripe / a.perRegion
  a.resync.contains r && !(decide (a.resync.head? = some r) && decide (stripe < a.resyncNext))

/-- The data chunks that pieces write. -/
def chunksOf (ps : List StripePiece) : List Nat := (ps.map (·.chunk)).eraseDups

/-- A chunk is written wholly. -/
def wholeChunk (a : KArray) (ps : List StripePiece) (j : Nat) : Bool :=
  decide ((ps.filter fun p => p.chunk = j).length = a.chunk / 4096)

/-- The method of a stripe write (Table 11.8). -/
def stripeMethod (a : KArray) (stripe : Nat) (ps : List StripePiece) : StripeMethod :=
  let t := (chunksOf ps).length
  if decide (t = a.k) && (chunksOf ps).all (wholeChunk a ps) then .full
  else if a.stripeDegraded stripe || a.awaitsResync stripe then .reconstruct
  else if t + a.p ≤ a.k - t then .rmw
  else .reconstruct

/-- The positions of a stripe that a method reads (Table 11.8). Where a chunk that is neither present nor wholly written must be
reconstructed, the parity is read with the present chunks that are not overwritten, and those that are too where k chunks are not
there without them (R291 step 4; log entry 138). -/
def readPositions (a : KArray) (stripe : Nat) (ps : List StripePiece) : StripeMethod → List Nat
  | .full => []
  | .rmw => chunksOf ps ++ (List.range a.p).map (a.k + ·)
  | .reconstruct =>
    let absent (x : Nat) := (a.readPort (a.memberAt stripe x) stripe).isNone
    let need := (List.range a.k).any fun j => absent j && !wholeChunk a ps j
    let there := (List.range (if need then a.n else a.k)).filter fun x => !absent x
    let untouched := there.filter fun x => !wholeChunk a ps x
    if need && decide (untouched.length < a.k) then there else untouched

/-- The runs of bytes of a data chunk that pieces write, ascending. -/
def runsOf (ps : List StripePiece) (chunk : Nat) : List (Nat × Nat) :=
  (ps.filter fun p => p.chunk = chunk).foldl (fun rs p =>
    match rs.getLast? with
    | some r => if r.1 + r.2 = p.off then rs.dropLast ++ [(r.1, r.2 + p.data.length)] else rs ++ [(p.off, p.data.length)]
    | none => [(p.off, p.data.length)]) []

/-- The bytes [0, c) that runs leave out. -/
def gapsOf (c : Nat) (rs : List (Nat × Nat)) : List (Nat × Nat) :=
  let r := rs.foldl (fun (acc : Nat × List (Nat × Nat)) r => (r.1 + r.2, acc.2 ++ [(acc.1, r.1 - acc.1)])) (0, [])
  (r.2 ++ [(r.1, c - r.1)]).filter fun x => x.2 ≠ 0

/-- Cut a run into commands of at most `limit` bytes; 0 is no limit (R269). -/
def cutRun (member limit : Nat) : Nat → Nat × Nat → List DriveCmd
  | 0, _ => []
  | fuel + 1, r =>
    if limit = 0 ∨ r.2 ≤ limit then [{ member := member, off := r.1, len := r.2 }]
    else { member := member, off := r.1, len := limit } :: cutRun member limit fuel (r.1 + limit, r.2 - limit)

/-- MDTS of the drive of a port. -/
def mdtsOf (s : State) (q : Option Nat) : Nat :=
  ((q.bind fun p => (s.port p).drive.or (s.port p).lost).map fun d => d.ident.mdts).getD 0

/-- The commands that move runs of the chunk at position x of a stripe. -/
def chunkCommands (s : State) (a : KArray) (stripe x : Nat) (rs : List (Nat × Nat)) : List DriveCmd :=
  let m := a.memberAt stripe x
  rs.flatMap fun r => cutRun m (mdtsOf s (a.writePort m)) (r.2 + 1) r

/-- The reads that a stripe write issues (Table 11.8): in a read-modify-write the written ranges and the parity; else whole chunks,
but of a partly written one, where nothing has to be reconstructed, the ranges that are not written. -/
def readCommands (s : State) (a : KArray) (stripe : Nat) (ps : List StripePiece) (m : StripeMethod) : List DriveCmd :=
  let xs := readPositions a stripe ps m
  xs.flatMap fun x => chunkCommands s a stripe x
    (if a.k ≤ x then [(0, a.chunk)]
     else match m with
      | .rmw => runsOf ps x
      | _ => if xs.any fun y => a.k ≤ y then [(0, a.chunk)] else gapsOf a.chunk (runsOf ps x))

/-- Bytes with others put over them from an offset on. -/
def overlay (bs : List Byte) (off : Nat) (d : List Byte) : List Byte := bs.take off ++ d ++ bs.drop (off + d.length)

/-- The pieces put over the data chunks of a stripe. -/
def overlayPieces (ds : List (List Byte)) (ps : List StripePiece) : List (List Byte) :=
  ps.foldl (fun ds p => ds.set p.chunk (overlay (ds.getD p.chunk []) p.off p.data)) ds

/-- The members whose chunks a stripe write has not read, or could not read. -/
def unreadMembers (a : KArray) (w : StripeWrite) (bad : List Nat) : List Nat :=
  bad ++ (List.range a.n).filter fun i => !((readPositions a w.stripe w.pieces w.method).map (a.memberAt w.stripe)).contains i

/-- The old data of a stripe write's chunks where they are read, and reconstructed where they are not: none where fewer than k chunks
can be read. Chunks that are written wholly need none. `bad` are members whose drives cannot read their chunk (R291 step 4, R294). -/
def oldStripe (s : State) (a : KArray) (w : StripeWrite) (bad : List Nat) : Option (List (List Byte)) :=
  let c := a.chunk
  let read := (List.range a.k).map fun j => readPosition s a (unreadMembers a w bad) w.stripe j 0 c
  if (List.range a.k).all fun j => (read.getD j none).isSome || wholeChunk a w.pieces j then
    some (read.map fun d => d.getD (List.replicate c 0))
  else
    match readStripe s a (unreadMembers a w bad) w.stripe 0 c with
    | some ds => some ds
    | none => readStripe s a bad w.stripe 0 c

/-- The new P and Q of a stripe write (R291 step 4): from the deltas in a read-modify-write, else from the full new data;
none where fewer than k chunks can be read. -/
def newParity (s : State) (a : KArray) (w : StripeWrite) (bad : List Nat) : Option (List Byte × List Byte) :=
  let c := a.chunk
  let whole := oldStripe s a w bad
  match w.method with
  | .rmw =>
    (readStripe s a bad w.stripe 0 c).map fun ds =>
      let parity (x : Nat) (f : Nat → List (List Byte) → List Byte) := (readPosition s a bad w.stripe x 0 c).getD (f c ds)
      let q0 := if a.p = 2 then parity (a.k + 1) parityQ else []
      w.pieces.foldl (fun pq x =>
        let old := ((ds.getD x.chunk []).drop x.off).take x.data.length
        let delta := xorBytes old x.data
        let put (l : List Byte) (d : List Byte) := overlay l x.off (xorBytes ((l.drop x.off).take d.length) d)
        (put pq.1 delta, if a.p = 2 then put pq.2 (delta.map (gfMul (gfPow x.chunk))) else [])) (parity a.k parityP, q0)
  | m =>
    (if m = .full then some (List.replicate a.k (List.replicate c 0)) else whole).map fun ds =>
      let d := overlayPieces ds w.pieces
      (parityP c d, if a.p = 2 then parityQ c d else [])

/-! ### The failure of members (11 R271, R272, R292, R293) -/

/-- Count one action of Table 19.2 beyond the one of its event. -/
def countAction (f : FaultUnit) (n : Nat) : FaultUnit :=
  let c := vget f.classes (n - 1) { corrected := 0, uncorrected := 0, actions := 0 }
  { f with classes := vset f.classes (n - 1) { c with actions := satInc c.actions } }

/-- A dropout of a port: its third within 24 h locks it out (R272). -/
def countDropout (s : State) (q : Nat) : State :=
  let p := s.port q
  let r := threshold 3 (fclkSeconds 86400) (p.dropouts.map (·.toNat)) s.now
  let s1 := s.setPort q { p with dropouts := r.2.map (BitVec.ofNat 64), locked := p.locked || r.1 }
  if r.1 then s1.setFaults (countAction s1.faults 7) else s1

/-- A stripe write after the failure of a member: while it reads, it starts again as a reconstruct-write; once it writes, the
member's pending writes are dropped (R292). -/
def writeAfterFailure (s : State) (a : KArray) (i : Nat) (w : StripeWrite) : StripeWrite :=
  if w.lock.isNone then w
  else if w.writing then { w with outs := w.outs.filter fun c => c.member ≠ i }
  else
    let m := stripeMethod a w.stripe w.pieces
    { w with method := m, outs := readCommands s a w.stripe w.pieces m }

/-- More than p members are missing: stripe writes end with what they have written, Keep operations in progress complete with
FAULT_MEMBER, and dirty data stays (R293). A KEEP_WRITE that was still copying leaves a void extent. INFO of the fault is 0: Table 4.7
names it for the two notes alone (log entry 136). -/
def arrayDown (s : State) (loc : W16) : State :=
  let held := s.keep.writes.filterMap (·.lock)
  let ops := s.opList.filter fun q => decide (q.2.phase = .started) && q.2.closing.isNone && decide (0x20 ≤ q.2.opcode ∧ q.2.opcode ≤ 0x23)
  let s1 := s.setKeep { s.keep with writes := [] }
  let s2 := s1.setCache { s1.cache with
    journal := held.foldl (fun j i => vset j i none) s1.cache.journal
    extents := s1.cache.extents.map fun e => if e.ready then { e with waiter := none } else { e with void := true, released := true, waiter := none } }
  settleLog (ops.foldl (fun s q => finishOp s q.1 (Result.fault 0x23 0x30 loc 0 q.2.progress)) s2)

/-- Member i is marked failed: the superblocks record it, stripe writes go on without it, and the array may be FAILED. -/
def markFailed (s : State) (i : Nat) (loc : W16) : State :=
  match s.keep.array with
  | none => s
  | some a =>
    if i < a.n ∧ !a.isFailed i then
      let a1 := { a with failed := a.failed ||| BitVec.twoPow 8 i, failedAt := vset a.failedAt i s.clocks.timebase }
      let s1 := s.setKeep { s.keep with array := some a1, writes := s.keep.writes.map (writeAfterFailure s a1 i) }
      let s2 := writeSuperblocks s1
      if a1.isDown && !a.isDown then arrayDown s2 loc else s2
    else s

/-- The member that a port holds, if it is present. -/
def memberOn (s : State) (q : Nat) : Option Nat :=
  s.keep.array.bind fun a => (List.range a.n).find? fun i => a.present i && decide (vget a.ports i none = some q)

/-- Whether a port holds the target of the rebuild. -/
def targetOn (s : State) (q : Nat) : Bool :=
  match s.keep.array with
  | some a => decide (a.rebuild.map (·.port) = some q)
  | none => false

/-- A fault on a port reaches its threshold: the port counts a dropout and its member is failed; a rebuild's target ends its rebuild,
and stripe writes go on without it (Table 11.1, R272, R292, R295's corners). A port that holds neither is not concerned. `sev` is the
severity of the event itself. -/
def failPort (s : State) (q sev : Nat) : State :=
  let fault (s : State) := countDropout (faultAction s (portLoc q) sev) q
  match memberOn s q, s.keep.array with
  | some i, _ => markFailed (fault s) i (portLoc q)
  | none, some a =>
    match a.rebuild with
    | some r =>
      if r.port = q then
        let a1 := { a with rebuild := none }
        let s1 := fault s
        writeSuperblocks (s1.setKeep { s1.keep with
          array := some a1, writes := s1.keep.writes.map (writeAfterFailure s1 a1 r.member) })
      else s
    | none => s
  | none, none => s

/-- Whether a port's drive is a present member or the target of a rebuild. -/
def memberOrTarget (s : State) (q : Nat) : Bool := (memberOn s q).isSome || targetOn s q

/-- A drive port under loopback test (20 R492). -/
def underTest (s : State) (q : Nat) : Bool := decide (s.keep.portTest.running = some q)

/-- Count an Unrecovered Read Error on a port: the 16th within 24 h fails the member (Table 11.1). -/
def countReadError (s : State) (q : Nat) : State :=
  let p := s.port q
  let r := threshold 16 (fclkSeconds 86400) (p.readErrors.map (·.toNat)) s.now
  let s1 := s.setPort q { p with readErrors := r.2.map (BitVec.ofNat 64) }
  if r.1 then failPort s1 q 1 else faultEvent s1 (portLoc q) 1

/-- Unrecovered Read Errors on the chunks of a stripe that `bad` members hold: each is counted, and its range is rewritten from
the others where k of them can be read (R294). -/
def readErrors (s : State) (a : KArray) (bad : List Nat) (stripe off n : Nat) : State :=
  let whole := readStripe s a bad stripe off n
  bad.foldl (fun s i =>
    match a.readPort i stripe with
    | none => s
    | some q =>
      let s1 := match whole with
        | none => s
        | some ds =>
          let x := a.positionOf stripe i
          let d := if x < a.k then ds.getD x [] else if x = a.k then parityP n ds else parityQ n ds
          writeCached s q (a.chunkAddr stripe + off) d
      countReadError s1 q) s

/-- A Flush is issued to the drives of some ports: one that ends with an error, `errors`, fails its member (R269, Table 11.1). -/
def flushPorts (s : State) (errors ports : List Nat) : State :=
  ports.foldl (fun s q => if errors.contains q then failPort s q 3 else flushDrive s q) s

/-! ### Precedence of drive commands (01 R17, 11 R270, R303, 12 R313) -/

/-- The drive commands that have not completed, in order, each with the lock of its stripe write (R270). -/
def driveCommands (s : State) : List (Nat × DriveCmd) :=
  s.keep.writes.flatMap fun w => match w.lock with
    | some l => w.outs.map fun c => (l, c)
    | none => []

/-- Whether the drive of a member is there: commands to a member whose link is lost wait (R271). -/
def memberUp (s : State) (a : KArray) (member : Nat) : Bool :=
  match a.writePort member with
  | some q => (s.port q).drive.isSome
  | none => false

/-- The commands that have been issued: at most 512 in all and 64 to a drive, of which a rebuild in progress keeps 8. Those that
wait hold back no command to another member (R270 and its corner, R303). -/
def issuedCommands (s : State) (a : KArray) : List (Nat × DriveCmd) :=
  let bound := if a.rebuild.isSome then 56 else 64
  (driveCommands s).foldl (fun acc c =>
    let mine := acc.filter fun x => x.2.member = c.2.member
    if memberUp s a c.2.member && decide (acc.length < 512) && decide (mine.length < bound) then acc ++ [c] else acc) []

/-- A command of destage waits at a bound for its drive. -/
def destageBacklog (s : State) (a : KArray) : Bool :=
  decide ((issuedCommands s a).length < ((driveCommands s).filter fun c => memberUp s a c.2.member).length)

end Sys2Proof.Machine
end

