-- ==== Sys2Proof/Machine/Keep.lean ====
section
/-! DEFINITION. The Keep's stripe writes, drive events, rebuild, resync, patrol scrub and bitmap (11_keep_array R269-R303). -/

namespace Sys2Proof.Machine
open Sys2Proof

/-! ### Stripe writes (R289-R293, 12 R308, R314-R316) -/

/-- The array on which stripe writes of destage may run: the Keep is enabled, the array not FAILED, and no image waits or
still has records to restore (R268, R293, R326, R327). -/
def destageArray (s : State) : Option KArray :=
  if s.running && decide (s.cache.image ≠ .replaying ∨ s.cache.restored) then
    (usableArray s).filter fun a => !a.isDown
  else none

/-- The next stripe of destage: of the oldest live extent with a stripe that is neither covered nor carried by a stripe write,
the lowest such stripe (R314). -/
def nextDestage (s : State) (a : KArray) : Option Nat :=
  s.cache.extents.findSome? fun e =>
    if e.live then (a.stripesOf e).find? fun st =>
      !e.covered.contains st &&
        !(s.keep.writes.any fun w => decide (w.stripe = st) && (w.lock.isNone || decide (e.admitSeq ≤ w.snap)))
    else none

/-- Destage of dirty data goes ahead of other Keep work: DIRTY is above LIMIT, or the cache is write-through (01 R17, 12 R313). -/
def destageFirst (s : State) : Bool :=
  decide (s.limit < dirtyUnits s) || (writeThrough s && decide (0 < dirtyUnits s))

/-- Destage has a stripe to write or a command that waits for its drive. -/
def destageDue (s : State) : Bool :=
  match destageArray s with
  | none => false
  | some a => (nextDestage s a).isSome || destageBacklog s a

/-- Whether reads of KEEP_READ wait for destage (R303, 12 R313). -/
def readWaits (s : State) : Bool := destageFirst s && destageDue s

/-- Whether a step of the rebuild waits for destage: only while HOLD_ASSURE is low, since 8 commands of each member are the
rebuild's (01 R17, R303; log entry 138). -/
def rebuildWaits (s : State) : Bool := assureLow s && decide (0 < dirtyUnits s) && destageDue s

/-- Whether steps of resync and scrubs wait for destage (R303). -/
def stepWaitsForDestage (s : State) (a : KArray) : Bool := readWaits s || destageBacklog s a

/-! ### The stripe writes themselves -/

/-- Fields of a Keep descriptor (Table 4.4). -/
def keepSlot (o : Op) : Nat := fld o.desc 8 2
def keepEpoch (o : Op) : Nat := fld o.desc 12 4
def keepOffset (o : Op) : Nat := fld o.desc 24 8
def keepLength (o : Op) : Nat := fld o.desc 32 4

/-- The half of an epoch: A for odd, B for even (R285). -/
def halfOf (epoch : Nat) : Nat := if epoch % 2 = 1 then 0 else 1

/-- A slot's entry. -/
def slotEntry (a : KArray) (slot : Nat) : Option SlotEntry := a.slots.find? fun e => e.slot = slot

/-- The first stripe of a half (R284). -/
def SlotEntry.first (e : SlotEntry) (half : Nat) : Nat := if half = 0 then e.firstA else e.firstB

/-- A stripe write that waits for its lock. -/
def waitingWrite (stripe : Nat) : StripeWrite :=
  { stripe := stripe, lock := none, snap := 0, pieces := [], method := .full, writing := false, outs := [], p := [], q := [], bad := [] }

/-- Whether a Keep operation that has started writes a stripe: a KEEP_WRITE with an extent there, a KEEP_COMMIT of its half (R292). -/
def writesStripe (s : State) (a : KArray) (stripe : Nat) (q : Nat × Op) : Bool :=
  decide (q.2.phase = .started) &&
    ((decide (q.2.opcode = 0x20) && s.cache.extents.any fun e => decide (e.waiter = some q.1) && (a.stripesOf e).contains stripe) ||
     (decide (q.2.opcode = 0x22) && (slotEntry a (keepSlot q.2)).any fun e =>
        let first := e.first (halfOf (keepEpoch q.2))
        decide (first ≤ stripe ∧ stripe < first + e.halfStripes)))

/-- A degraded completion of a stripe is noted in the operations that write it (R292). -/
def noteDegraded (s : State) (a : KArray) (stripe : Nat) : State :=
  if a.missingBits = 0 then s
  else s.opList.foldl (fun s q =>
    if writesStripe s a stripe q then s.setOp q.1 (some { q.2 with degraded := q.2.degraded ||| a.missingBits }) else s) s

/-- A stripe write ends: its journal slot and lock are free, its region was written now, and its extents are covered (R291
step 6, R308, R316). -/
def endStripe (s0 : State) (a : KArray) (w : StripeWrite) (lock : Nat) : State :=
  let s := noteDegraded s0 a w.stripe
  let s1 := s.setKeep { s.keep with
    array := some (a.wroteRegion (w.stripe / a.perRegion) s.clocks.timebase)
    writes := s.keep.writes.filter fun x => x.lock ≠ some lock }
  let s2 := s1.setCache { s1.cache with journal := vset s1.cache.journal lock none }
  coverExtents s2 a w.stripe w.snap w.bad

/-- Steps 1 to 3 of R291 with a lock: the bit of the region is durable, the data is taken, the reads are issued. A write
left with no piece ends at once. `put` places the write in the list of those held or waiting. -/
def lockStripe (s : State) (a : KArray) (ecc : List Ecc) (stripe lock : Nat)
    (put : StripeWrite → List StripeWrite) : State :=
  let snap := snapSeq s.cache
  let g := gatherPieces s a ecc stripe snap
  let m := stripeMethod a stripe g.2.1
  let w : StripeWrite :=
    { stripe := stripe, lock := some lock, snap := snap, pieces := g.2.1, method := m, writing := false,
      outs := readCommands s a stripe g.2.1 m, p := [], q := [], bad := g.2.2 }
  let s1 := g.1.setKeep { g.1.keep with writes := put w }
  if g.2.1 = [] then endStripe s1 a w lock else setRegion s1 (stripe / a.perRegion)

/-- DESTAGE_STRIPE_START (R314): destage asks for the lock of its next stripe while one is free, and has it at once where the
stripe is not locked. `ecc` are the errors of the cache data read. -/
def execDestageStripeStart (ecc : List Ecc) (s : State) : Host.Outcome State Fault Refusal :=
  .next (match destageArray s, freeLock s with
    | some a, some lock =>
      match nextDestage s a with
      | none => s
      | some st =>
        if s.keep.writes.any fun w => w.stripe = st then
          s.setKeep { s.keep with writes := s.keep.writes ++ [waitingWrite st] }
        else if allReachable s a then lockStripe s a ecc st lock fun w => s.keep.writes ++ [w]
        else s
    | _, _ => s)

/-- STRIPE_LOCK_GRANT (R289): the first waiting stripe write whose stripe is not locked takes its lock. -/
def execStripeLockGrant (ecc : List Ecc) (s : State) : Host.Outcome State Fault Refusal :=
  .next (match destageArray s, freeLock s with
    | some a, some lock =>
      match s.keep.writes.findIdx? fun w => w.lock.isNone && !stripeLocked s w.stripe with
      | none => s
      | some i =>
        if allReachable s a then
          lockStripe s a ecc (s.keep.writes.getD i (waitingWrite 0)).stripe lock fun w => s.keep.writes.set i w
        else s
    | _, _ => s)

/-- The stripe write that holds a lock. -/
def writeOf (s : State) (lock : Nat) : Option StripeWrite := s.keep.writes.find? fun w => w.lock = some lock

/-- Replace the stripe write that holds a lock. -/
def setWrite (s : State) (lock : Nat) (w : StripeWrite) : State :=
  s.setKeep { s.keep with writes := s.keep.writes.map fun x => if x.lock = some lock then w else x }

/-- The writes of a stripe write: the runs of its data chunks, and the parity, where their members take writes (R291 step 5). -/
def writeCommands (s : State) (a : KArray) (w : StripeWrite) : List DriveCmd :=
  ((chunksOf w.pieces).flatMap (fun x => chunkCommands s a w.stripe x (runsOf w.pieces x)) ++
    (List.range a.p).flatMap fun i => chunkCommands s a w.stripe (a.k + i) [(0, a.chunk)]).filter fun c => (a.writePort c.member).isSome

/-- The device address of a journal slot (12 Table 12.1). -/
def journalAddr (slot : Nat) : Nat := 0x3F8000000 + slot * 0x80000

/-- The new parity of a stripe write is journalled in the slot of its lock, P and Q in the slot's memory, and the writes are issued
(R291 step 5, 12 R307, R308; log entry 105 on what else a slot holds). -/
def issueWrites (s : State) (a : KArray) (lock : Nat) (w : StripeWrite) (pq : List Byte × List Byte) : State :=
  let s1 := setWrite s lock { w with writing := true, p := pq.1, q := pq.2, outs := writeCommands s a w }
  let s2 := s1.setDev (s1.dev.writeN (journalAddr lock) (pq.1 ++ pq.2))
  s2.setCache { s2.cache with
    journal := vset s2.cache.journal lock (some { stripe := w.stripe, snap := w.snap, p := pq.1, q := pq.2 }) }

/-- A stripe write of which fewer than k chunks can be read ends without a write. Its extents stay, to be destaged again; a
write-through KEEP_WRITE that waits for one of them completes with FAULT_DATA (R294; log entry 138). -/
def failStripe (s : State) (a : KArray) (lock : Nat) (w : StripeWrite) : State :=
  let hit (e : Extent) : Bool := e.live && decide (e.admitSeq ≤ w.snap) && (a.stripesOf e).contains w.stripe
  let ks := s.cache.extents.filterMap fun e => if hit e then e.waiter else none
  let s1 := (s.setKeep { s.keep with writes := s.keep.writes.filter fun x => x.lock ≠ some lock }).setCache { s.cache with
    extents := s.cache.extents.map fun e => if hit e then { e with waiter := none } else e }
  ks.foldl (fun s k => finishOp s k (Result.fault 0x22 0x20 0x8000 (w.stripe * a.width) 0)) s1

/-- STRIPE_READS_COMPLETE (R291 steps 4 and 5, R308): with every read complete, the new P and Q are computed and journalled,
and the writes are issued. `reads.bad` are members whose chunk their drives cannot read: it is reconstructed and rewritten (R294). -/
def execStripeReadsComplete (reads : StripeReads) (s : State) : Host.Outcome State Fault Refusal :=
  let lock := reads.lock
  .next (match s.keep.array, writeOf s lock.val with
    | some a, some w =>
      if !s.running || w.writing || decide (w.outs ≠ []) then s
      else
        let mine := (reads.bad.map (·.val)).filter fun i =>
          ((readPositions a w.stripe w.pieces w.method).map (a.memberAt w.stripe)).contains i && (a.readPort i w.stripe).isSome
        let s1 := readErrors s a mine w.stripe 0 a.chunk
        match newParity s a w mine with
        | none => failStripe s1 a lock.val w
        | some pq => if writeOf s1 lock.val = some w then issueWrites s1 (s1.keep.array.getD a) lock.val w pq else s1
    | _, _ => s)

/-- What a stripe write's pieces and parity make of the chunk that a command writes: the bytes of the command (R291 step 5). -/
def commandData (a : KArray) (w : StripeWrite) (c : DriveCmd) : List Byte :=
  let x := a.positionOf w.stripe c.member
  let chunk := if x = a.k then w.p else if a.k < x then w.q
    else (w.pieces.filter fun p => p.chunk = x).foldl (fun bs p => overlay bs p.off p.data) (List.replicate a.chunk 0)
  (chunk.drop c.off).take c.len

/-- The first command of a lock to a member that has been issued (R270). -/
def commandOf (s : State) (a : KArray) (lock member : Nat) : Option DriveCmd :=
  ((issuedCommands s a).find? fun c => decide (c.1 = lock) && decide (c.2.member = member)).map (·.2)

/-- Fail the member at an index, or the rebuild's target there (Table 11.1). -/
def failMember (s : State) (a : KArray) (member : Nat) : State :=
  match a.writePort member with
  | some q => failPort s q 3
  | none => s

/-- DRIVE_COMMAND_COMPLETION (R269, R270): a command of a stripe write to a member completes, with Force Unit Access; a write that
ends with an error fails the member. `.other` is a Write or Flush outside stripe writes, of metadata, rebuild, resync or scrub:
what it wrote is in the state, and an error fails the member (Table 11.1; log entry 92). -/
def execDriveCommandCompletion (work : DriveWork) (member : Fin 8) (error : Bool) (s : State) :
    Host.Outcome State Fault Refusal :=
  .next (match s.keep.array with
    | none => s
    | some a =>
      if !s.running then s
      else
        match work with
        | .other => if error && memberUp s a member.val then failMember s a member.val else s
        | .stripe lock =>
          match writeOf s lock.val, commandOf s a lock.val member.val with
          | some w, some c =>
            if w.writing && error then failMember s a member.val
            else
              let s1 := if w.writing then writePosition s a w.stripe (a.positionOf w.stripe c.member) c.off (commandData a w c) else s
              setWrite s1 lock.val { w with outs := w.outs.erase c }
          | _, _ => s)

/-- DRIVE_COMMAND_TIMEOUT (Table 11.1): a command not completed within 8 s fails its member. -/
def execDriveCommandTimeout (work : DriveWork) (member : Fin 8) (s : State) : Host.Outcome State Fault Refusal :=
  .next (match s.keep.array with
    | some a =>
      let out := match work with
        | .stripe lock => (commandOf s a lock.val member.val).isSome
        | .other => memberUp s a member.val
      if s.running && out then failMember s a member.val else s
    | none => s)

/-- STRIPE_WRITES_COMPLETE (R291 step 6): with every write complete, the lock is released and extents may be released. -/
def execStripeWritesComplete (lock : Fin 256) (s : State) : Host.Outcome State Fault Refusal :=
  .next (match s.keep.array, writeOf s lock.val with
    | some a, some w => if s.running && w.writing && decide (w.outs = []) then endStripe s a w lock.val else s
    | _, _ => s)

/-! ### Drive events (R271, R272, R297, R519) -/

/-- DRIVE_LINK_DOWN: the link or presence of a member's port is lost, and commands to it wait (R271, R519). -/
def execDriveLinkDown (port : Fin 8) (s : State) : Host.Outcome State Fault Refusal :=
  .next (if s.running && memberOrTarget s port.val then
      (match (s.port port.val).drive with
       | some d => s.setPort port.val { s.port port.val with drive := none, lost := some d }
       | none => s)
    else s)

/-- DRIVE_LINK_DOWN_TIMEOUT: the link or presence has been lost for 100 ms, and the member is failed, if nothing else has failed it
before (Table 11.1). -/
def execDriveLinkDownTimeout (port : Fin 8) (s : State) : Host.Outcome State Fault Refusal :=
  .next (if s.running && (s.port port.val).lost.isSome then
      failPort (s.setPort port.val { s.port port.val with lost := none }) port.val 3
    else s)

/-- Whether Identify shows the same drive after a controller reset (Table 11.1 row 5), still usable (11 Corners). -/
def sameDrive (x y : DriveIdent) : Bool :=
  decide (x.serial = y.serial) && decide (x.namespaces = y.namespaces) && decide (x.lbaBytes = y.lbaBytes) &&
    decide (x.capacity = y.capacity) && y.usable

/-- DRIVE_LINK_RETURN (R519): link or presence returns within 100 ms and Identify is repeated; the commands that had not
completed are issued again. `found` is the drive now on the port where it is another than the one lost. -/
def execDriveLinkReturn (port : Fin 8) (found : Option Drive) (s : State) : Host.Outcome State Fault Refusal :=
  .next (match (s.port port.val).lost with
    | none => s
    | some d =>
      if !s.running then s
      else
        let now := found.getD d
        let s1 := s.setPort port.val { s.port port.val with drive := some now, lost := none }
        if sameDrive d.ident now.ident then s1 else failPort s1 port.val 3)

/-- DRIVE_CONTROLLER_FATAL (Table 11.1): Controller Fatal Status or a controller reset that fails. -/
def execDriveControllerFatal (port : Fin 8) (s : State) : Host.Outcome State Fault Refusal :=
  .next (if s.running && memberOrTarget s port.val then failPort s port.val 3 else s)

/-- UNRECOVERED_READ_ERROR (R294, Table 11.1): a range of a chunk on a member cannot be read, and is rebuilt under the stripe lock;
`others` are members whose drives cannot read it either. -/
def execUnrecoveredReadError (port : Fin 8) (stripe off len : Nat) (others : List (Fin 8)) (s : State) :
    Host.Outcome State Fault Refusal :=
  .next (match s.keep.array, memberOn s port.val with
    | some a, some i =>
      if s.running && decide (stripe < a.stripes) && decide (off + len ≤ a.chunk) && canLock s stripe && allReachable s a then
        readErrors s a (i :: others.map (·.val)) stripe off len
      else s
    | _, _ => s)

/-- Begin to re-add the drive on a port as member i: a rebuild of the set regions, after any rebuild in progress. Where fewer
than k other members are present, the member is present again at once and its set regions are resynced (R297). -/
def beginReadd (s : State) (a : KArray) (i q : Nat) : State :=
  if a.n - a.missing < a.k then
    writeSuperblocks (copyItems (s.setArray { a with
      failed := a.failed &&& ~~~(BitVec.twoPow 8 i), ports := vset a.ports i (some q)
      resync := a.bitmap.foldl (fun l r => insertNat r l) a.resync }) q)
  else if a.rebuild.isSome then s.setArray { a with readds := a.readds ++ [(i, q)] }
  else
    writeSuperblocks (s.setArray { a with
      ports := vset a.ports i (some q)
      rebuild := some { member := i, port := q, progress := 0, regions := some a.bitmap } })

/-- The member as which a drive that appears on a port is re-added, if it is (R297). -/
def readdAs (s : State) (a : KArray) (q : Nat) : Option Nat :=
  (usableDrive s q).bind driveSuperblock |>.bind fun b =>
    let started := decide (a.rebuild.map (·.member) = some b.index) || a.readds.any fun x => x.1 = b.index
    if !(s.port q).locked && decide (b.uuid = a.uuid) && decide (b.index < a.n) && a.isFailed b.index && !started &&
        decide (b.generation + 1 = vget a.failGen b.index 0) then some b.index
    else none

/-- The drive that has waited longest to be re-added is, unless a member's link is lost or a rebuild runs that the re-add follows
(R271, R296, R297). -/
def startReadd (s : State) : State :=
  match usableArray s with
  | none => s
  | some a =>
    match a.readds with
    | [] => s
    | x :: xs =>
      if s.running && allReachable s a && (a.rebuild.isNone || decide (a.n - a.missing < a.k)) then beginReadd s { a with readds := xs } x.1 x.2
      else s

/-- The drives on some ports that are to be re-added wait for it, while the Keep is enabled and no image waits (R268, R281 step 2,
R297). -/
def queueReadds (s : State) (ports : List Nat) : State :=
  ports.foldl (fun s q =>
    match usableArray s with
    | none => s
    | some a =>
      match readdAs s a q with
      | some i => s.setArray { a with readds := a.readds ++ [(i, q)] }
      | none => s) s

/-- DRIVE_REMOVAL (R295): a drive that is not a member leaves its port; a spare stops being one, and a test of the port is
abandoned (20 R493's corners). A drive may also leave while the compute domains have no power. -/
def execDriveRemoval (port : Fin 8) (s : State) : Host.Outcome State Fault Refusal :=
  let q := port.val
  .next (if s.running && !memberOrTarget s q && (s.port q).drive.isSome then
      let s1 := s.setPort q { s.port q with drive := none }
      s1.setKeep { s1.keep with
        spares := s1.keep.spares &&& ~~~(BitVec.twoPow 8 q)
        array := s1.keep.array.map fun a => { a with readds := a.readds.filter fun x => x.2 ≠ q }
        portTest := if underTest s q then { s1.keep.portTest with running := none } else s1.keep.portTest }
    else if s.power.compute then s
    else s.setPort q { s.port q with drive := none })

/-! ### Rebuild (R296-R298) -/

/-- The spare that an automatic rebuild takes: the lowest port with one that is neither locked out nor under test (R296, 20
R493). A spare under test holds the rebuild back while it comes first. -/
def spareFor (s : State) : Option Nat :=
  (List.range 8).find? fun q => s.keep.spares.getLsbD q && !(s.port q).locked && (usableDrive s q).isSome

/-- Start a rebuild of member i onto a port (R296). -/
def startRebuild (s : State) (a : KArray) (i q : Nat) : State :=
  let s1 := s.setKeep { s.keep with
    spares := s.keep.spares &&& ~~~(BitVec.twoPow 8 q)
    array := some { a with ports := vset a.ports i (some q), readds := a.readds.filter fun x => x.1 ≠ i
                           rebuild := some { member := i, port := q, progress := 0, regions := none } } }
  writeSuperblocks s1

/-- The array for background work: the Keep is enabled, nothing waits for or replays an image, and the array is not FAILED. -/
def backgroundArray (s : State) : Option KArray :=
  if s.running && decide (s.cache.image = .none) then (usableArray s).filter fun a => !a.isDown else none

/-- REBUILD_AUTO_START (R296): the lowest member that has been failed for 30 s is rebuilt onto the first spare. -/
def execRebuildAutoStart (s : State) : Host.Outcome State Fault Refusal :=
  .next (match backgroundArray s, spareFor s with
    | some a, some q =>
      match (List.range a.n).find? fun i =>
          a.isFailed i && decide (fclkSeconds 30 ≤ s.now - (vget a.failedAt i 0).toNat) with
      | some i => if a.rebuild.isSome || decide (a.readds ≠ []) || underTest s q then s else startRebuild s a i q
      | none => s
    | _, _ => s)

/-- The next stripe that a rebuild has to write, from its progress on. -/
def Rebuild.next (a : KArray) (r : Rebuild) : Option Nat :=
  match r.regions with
  | none => if r.progress < a.stripes then some r.progress else none
  | some rs =>
    (rs.find? fun g => decide (r.progress < (g + 1) * a.perRegion)).bind fun g =>
      let st := max r.progress (g * a.perRegion)
      if st < a.stripes then some st else none

/-- A rebuild has reached the last stripe: the member is present, every metadata item is written to it, and the superblocks are
rewritten (R276, R279, R298). -/
def endRebuild (s : State) (a : KArray) (r : Rebuild) : State :=
  writeSuperblocks (copyItems (s.setArray { a with
    failed := a.failed &&& ~~~(BitVec.twoPow 8 r.member), rebuild := none }) r.port)

/-- Progress of a rebuild is recorded after a Flush of the target; a Flush that ends with an error fails it (R298, Table 11.1). -/
def recordRebuild (s : State) (r : Rebuild) (flushFails : Bool) (record : State → KArray → State) : State :=
  let s1 := flushPorts s (if flushFails then [r.port] else []) [r.port]
  match s1.keep.array with
  | some a => if a.rebuild.isSome then record s1 a else s1
  | none => s1

/-- A rebuild writes the target's chunk of a stripe, reconstructed from the others; a stripe of which fewer than k chunks can be
read is passed over and counted, as in a resync (R298, R299). -/
def rebuildStripe (s : State) (a : KArray) (r : Rebuild) (bad : List Nat) (st : Nat) : State :=
  let c := a.chunk
  let s0 := readErrors (setRegion s (st / a.perRegion)) a bad st 0 c
  match readStripe s a (r.member :: bad) st 0 c with
  | none => faultEvent s0 0x8000 2
  | some ds =>
    let x := a.positionOf st r.member
    patchPosition s0 a st x 0 (if x < a.k then ds.getD x [] else if x = a.k then parityP c ds else parityQ c ds)

/-- One step of the rebuild (R298). -/
def rebuildStep (s : State) (a : KArray) (r : Rebuild) (bad : List Nat) (flushFails : Bool) : State :=
  match r.next a with
  | none => recordRebuild s r flushFails fun s a => endRebuild s a r
  | some st =>
    if !canLock s st then s
    else
      let s1 := rebuildStripe s a r bad st
      match s1.keep.array with
      | none => s1
      | some a1 =>
        let r1 := { r with progress := st + 1 }
        if a1.rebuild.isNone then s1
        else
          let s2 := s1.setArray { a1 with rebuild := some r1 }
          if (r1.next a1).isNone then recordRebuild s2 r1 flushFails fun s a => endRebuild s a r1
          else if (st + 1) % 4096 = 0 then recordRebuild s2 r1 flushFails fun s _ => writeSuperblocks s
          else s2

/-- REBUILD_STEP (R298): the next stripe of the rebuild; progress is recorded after every 4,096 stripes. A drive that waits to
be re-added starts when no rebuild runs. `run` says which members' drives cannot read their chunk, and whether a Flush of
the target ends with an error. -/
def execRebuildStep (run : RebuildRun) (s : State) : Host.Outcome State Fault Refusal :=
  .next (
    let s0 := startReadd s
    match backgroundArray s0 with
    | none => s0
    | some a =>
      match a.rebuild with
      | none => s0
      | some r =>
        if (s.keep.array.map (·.readds)) ≠ some a.readds || rebuildWaits s0 || !allReachable s0 a then s0
        else rebuildStep s0 a r (run.bad.map (·.val)) run.flushFails)

/-! ### Resync, scrub and the bitmap (R279, R299-R302) -/

/-- Resync of a stripe: a missing data chunk follows from P, or from Q, and P and Q are rewritten (R299). -/
def resyncStripe (s : State) (a : KArray) (bad : List Nat) (st : Nat) : State :=
  let c := a.chunk
  let s0 := readErrors s a bad st 0 c
  match readStripe s a bad st 0 c with
  | none => faultEvent s0 0x8000 2
  | some ds =>
    let s1 := patchPosition s0 a st a.k 0 (parityP c ds)
    if a.p = 2 then patchPosition s1 a st (a.k + 1) 0 (parityQ c ds) else s1

/-- A resync has no region left: a full resync ends with RESYNC_ALL cleared in the superblocks (R300). -/
def endResync (s : State) (a : KArray) : State :=
  if a.resyncAll && decide (a.resync = []) then writeSuperblocks (s.setArray { a with resyncAll := false }) else s

/-- RESYNC_STEP (R299, R300): the next stripe of the lowest region; it follows vault replay, destage and a rebuild (R303). With the Keep disabled only the
full resync of an ARRAY_CREATE runs (R268). -/
def execResyncStep (bad : List (Fin 8)) (s : State) : Host.Outcome State Fault Refusal :=
  .next (match s.keep.array with
    | none => s
    | some a =>
      if !s.running || decide (s.cache.image ≠ .none) || a.isDown || !(s.power.keepEnabled || a.createResync) || !allReachable s a then s
      else
        match a.resync with
        | [] => s
        | r :: rs =>
          let st := max a.resyncNext (r * a.perRegion)
          if !canLock s st || stepWaitsForDestage s a || (a.rebuild.isSome && s.power.keepEnabled) then s
          else
            let s1 := setRegion (resyncStripe s a (bad.map (·.val)) st) r
            match s1.keep.array with
            | none => s1
            | some a1 =>
              let stop := decide ((r + 1) * a.perRegion ≤ st + 1) || decide (a.stripes ≤ st + 1)
              let a2 := (if stop then { a1 with resync := rs, resyncNext := 0 } else { a1 with resyncNext := st + 1 }).wroteRegion r
                s.clocks.timebase
              endResync (s1.setArray a2) a2)

/-- The single data chunk that explains the syndromes at every byte, if there is one (R301). -/
def singleChunk (k : Nat) (sp sq : List Byte) : Option Nat :=
  (List.range k).find? fun j => decide (sp.map (gfMul (gfPow j)) = sq)

/-- A scrub step on a stripe: whether it found a mismatch, and the state. Stripes with no redundancy left are skipped; in
repair mode the mismatch is repaired (R301). -/
def scrubStripe (s : State) (a : KArray) (bad : List Nat) (st : Nat) (repair : Bool) : Bool × State :=
  let c := a.chunk
  let s0 := readErrors s a bad st 0 c
  let chunks := (List.range a.n).map fun x => readPosition s a bad st x 0 c
  match readStripe s a bad st 0 c with
  | none => (false, s0)
  | some ds =>
    let gone := (chunks.filter (·.isNone)).length
    let p1 := parityP c ds
    let q1 := parityQ c ds
    let badP := match chunks.getD a.k none with | some b => decide (b ≠ p1) | none => false
    let badQ := a.p = 2 && (match chunks.getD (a.k + 1) none with | some b => decide (b ≠ q1) | none => false)
    if a.p ≤ gone || (!badP && !badQ) then (false, s0)
    else if !repair then
      let s1 := faultEvent s0 0x8000 2
      (true, s1.setKeep { s1.keep with scrubMismatches := satInc s1.keep.scrubMismatches })
    else
      let s1 := setRegion (faultEvent s0 0x8000 1) (st / a.perRegion)
      let fixP (s : State) := patchPosition s a st a.k 0 p1
      let fixQ (s : State) := patchPosition s a st (a.k + 1) 0 q1
      let sp := xorBytes ((chunks.getD a.k none).getD p1) p1
      let sq := xorBytes ((chunks.getD (a.k + 1) none).getD q1) q1
      let s2 :=
        if badP && badQ && decide (gone = 0) then
          (match singleChunk a.k sp sq with
           | some j => patchPosition s1 a st j 0 (xorBytes (ds.getD j []) sp)
           | none => fixQ (fixP s1))
        else if badP then fixP s1
        else fixQ s1
      (true, match s2.keep.array with
        | some b => s2.setArray (b.wroteRegion (st / a.perRegion) s.clocks.timebase)
        | none => s2)

/-- Work of the Keep engine that has precedence over the patrol scrub: a rebuild, a resync, a KEEP_SCRUB, and destage that waits
(R303). -/
def patrolWaits (s : State) (a : KArray) : Bool :=
  decide (a.resync ≠ []) || a.rebuild.isSome || stepWaitsForDestage s a ||
    s.opList.any fun q => decide (q.2.opcode = 0x23) && decide (q.2.phase = .started)

/-- PATROL_SCRUB_STEP (R302): the next stripe in repair mode; the pass over the last stripe sets KP_SCRUB_PASS. It comes last, one
command at a time (R303). -/
def execPatrolScrubStep (bad : List (Fin 8)) (s : State) : Host.Outcome State Fault Refusal :=
  .next (match backgroundArray s with
    | none => s
    | some a =>
      let st := s.keep.patrolNext % a.stripes
      if patrolWaits s a || !canLock s st || !allReachable s a then s
      else
        let s1 := (scrubStripe s a (bad.map (·.val)) st true).2
        if a.stripes ≤ st + 1 then s1.setKeep { s1.keep with patrolNext := 0, scrubPass := s.clocks.timebase }
        else s1.setKeep { s1.keep with patrolNext := st + 1 })

/-- Regions whose bit may be cleared: not waiting for resync, not being written, and not written for 5 s (R279). -/
def clearable (s : State) (a : KArray) : List Nat :=
  a.bitmap.filter fun r =>
    !a.resync.contains r && !(s.keep.writes.any fun w => w.stripe / a.perRegion = r) &&
      a.regionWritten.all fun x => x.1 ≠ r || decide (fclkSeconds 5 ≤ s.now - x.2.toNat)

/-- BITMAP_CLEAR_BATCH (R279): with no member failed or being rebuilt, and at most once per second, the bits that may be cleared
are, after a Flush of every present member. A Flush that ends with an error is a DRIVE_COMMAND_COMPLETION of its own, which comes
first: its member fails, and no bit is cleared. -/
def execBitmapClearBatch (s : State) : Host.Outcome State Fault Refusal :=
  .next (match backgroundArray s with
    | none => s
    | some a =>
      let rs := clearable s a
      if decide (a.missing ≠ 0) || a.rebuild.isSome || decide (rs = []) || !allReachable s a ||
          decide (s.now - s.keep.lastClear.toNat < fclkSeconds 1) then s
      else
        let s0 := flushPorts s [] a.livePorts
        match s0.keep.array with
        | none => s0
        | some b =>
          if b.missing ≠ 0 then s0
          else
            let s1 := s0.setKeep { s0.keep with
              lastClear := s.clocks.timebase
              array := some { b with bitmap := b.bitmap.filter fun r => !rs.contains r
                                     regionWritten := b.regionWritten.filter fun x => !rs.contains x.1 } }
            ((rs.map (· / 32768)).eraseDups).foldl writeBitmapBlock s1)

/-! ### Drive port tests (20 R492, R493) -/

/-- Whether a port may be tested: its drive is usable and is neither a member nor the target of a rebuild (R492). -/
def testable (s : State) (q : Nat) : Bool := (usableDrive s q).isSome && !memberOrTarget s q

/-- BUSY of KP_PORT_TEST. -/
def portTestBusy (s : State) : Bool := s.keep.portTest.running.isSome || decide (s.keep.portTest.queue ≠ [])

/-- The next eligible port in the queue of a test becomes the one under test. -/
def nextPortTest (s : State) : State :=
  let qs := s.keep.portTest.queue.filter (testable s)
  s.setKeep { s.keep with portTest := match qs with
    | [] => { queue := [], running := none }
    | q :: rest => { queue := rest, running := some q } }

/-- KP_PORT_TEST.START: the ports named are tested one at a time, unless a test runs (R492). -/
def portTestStart (s : State) : State :=
  if portTestBusy s then s
  else nextPortTest (s.setKeep { s.keep with
    portTest := { queue := (List.range 8).filter fun q => s.keep.testPorts.getLsbD q, running := none } })

/-- KP_PORT_TEST_START (R492): the host writes KP_PORT_TEST with START = 1 and these PORTS. -/
def execKpPortTestStart (ports : BitVec 8) (s : State) : Host.Outcome State Fault Refusal :=
  .next (if !barReachable s || portTestBusy s then s
    else portTestStart (s.setKeep { s.keep with testPorts := ports }))

/-- DRIVE_PORT_TEST_DAILY (R492): 24 h after a port's last test, an eligible port is tested again. -/
def execDrivePortTestDaily (port : Fin 8) (s : State) : Host.Outcome State Fault Refusal :=
  let q := port.val
  .next (if !s.running || !testable s q || s.keep.portTest.queue.contains q || underTest s q ||
      decide (s.now - (s.port q).lastTest.toNat < fclkSeconds 86400) then s
    else if portTestBusy s then s.setKeep { s.keep with portTest := { s.keep.portTest with queue := s.keep.portTest.queue ++ [q] } }
    else s.setKeep { s.keep with portTest := { queue := [], running := some q } })

/-- Errors that a lane test allows at a rate in tenths of GT/s, whole lanes failing above them (Table 20.2). -/
def allowedErrors (tenths : Nat) : Nat := tenths / 10

/-- PORT_TEST_END (R493): the port under test has run for 10 s, with lock held or not and a number of bit errors on each of its
two lanes at a rate in tenths of GT/s. A port that fails is locked out. -/
def execPortTestEnd (lock : Bool) (errors0 errors1 tenths : Nat) (s : State) : Host.Outcome State Fault Refusal :=
  .next (match s.keep.portTest.running with
    | none => s
    | some q =>
      if !s.running then s
      else
        let pass := lock && decide (errors0 ≤ allowedErrors tenths) && decide (errors1 ≤ allowedErrors tenths)
        let p := s.port q
        let s1 := s.setPort q { p with lastTest := s.clocks.timebase, locked := p.locked || !pass }
        let bit := BitVec.twoPow 8 q
        let s2 := s1.setKeep { s1.keep with
          testTested := s1.keep.testTested ||| bit
          testPass := if pass then s1.keep.testPass ||| bit else s1.keep.testPass &&& ~~~bit }
        nextPortTest (if pass then s2 else faultAction s2 (portLoc q) 3))

end Sys2Proof.Machine
end

