-- ==== Sys2Proof/Machine/Vault.lean ====
section
/-! DEFINITION. The vault: arming, classification at a start, assembly with its image, replay, dump and discard
(12_protected_cache_and_vault R317-R329). -/

namespace Sys2Proof.Machine
open Sys2Proof

/-! ### Classes of an area (R318, R324) -/

/-- A record is valid: both CRCs are correct and its IMAGE_SEQ is that of the first (R318). -/
def validRecord (first : Nat) (r : VaultRec) : Bool :=
  decide (r.imageSeq = first ∧ r.payloadCrc = r.body.payloadCrc ∧ r.headerCrc = headerCrc r.imageSeq r.body)

/-- The valid records of an area, up to the first that is not. -/
def validRecords (rs : List VaultRec) : List VaultRec :=
  match rs with
  | [] => []
  | r :: _ => rs.takeWhile (validRecord r.imageSeq)

/-- The classes of Table 12.8. -/
inductive AreaClass where
  | empty | done | pending | unsealed
  deriving DecidableEq, Repr

/-- CHAIN_CRC over the records before a SEAL (Table 12.6). -/
def chainCrc (rs : List VaultRec) : W32 := crc32c (rs.flatMap fun r => natToBytes r.headerCrc.toNat 4)

/-- JOURNAL and EXTENT records. -/
def journalCount (rs : List VaultRec) : Nat := (rs.filter fun r => r.body.type = 2).length
def extentCount (rs : List VaultRec) : Nat := (rs.filter fun r => r.body.type = 3).length

/-- The class of an area (Table 12.8). -/
def areaClass (rs : List VaultRec) : AreaClass :=
  let v := validRecords rs
  match v.getLast? with
  | none => .empty
  | some r =>
    match r.body with
    | .replayed => .done
    | .discarded => .done
    | .seal j e _ c =>
      if j = 0 ∧ e = 0 then .done
      else if journalCount v = j ∧ extentCount v = e ∧ chainCrc v.dropLast = c then .pending
      else .unsealed
    | _ => .unsealed

/-- The array that an area's last ARM names, 0 for none. -/
def areaUuid (rs : List VaultRec) : BitVec 128 :=
  ((validRecords rs).reverse.findSome? fun r => match r.body with
    | .arm u _ _ _ _ => some u
    | _ => none).getD 0

/-- GENERATION of the SEAL of an area. -/
def sealGeneration (rs : List VaultRec) : Nat :=
  ((validRecords rs).reverse.findSome? fun r => match r.body with
    | .seal _ _ g _ => some g
    | _ => none).getD 0

/-! ### Arming (R319) -/

/-- The area that the start's arming uses: not the one of an image, else one that is erased, else the older one (R319). -/
def chooseArea (c : Cache) : Bool :=
  if c.image ≠ .none then !c.imageArea
  else if c.area0 = [] then false
  else if c.area1 = [] then true
  else decide (areaSeq c true < areaSeq c false)

/-- GENERATION as the start that was replaying an area's image left it, if one was and is cut off: the area armed after the image
names the image's array, and holds the GENERATION of its SEAL, or of its last ARM (R322, R327; log entry 139). -/
def replayGeneration (c : Cache) : Option Nat :=
  let rs := c.area !c.imageArea
  if areaSeq c c.imageArea < areaSeq c (!c.imageArea) ∧ areaUuid rs = areaUuid (c.area c.imageArea) then
    (validRecords rs).reverse.findSome? fun r => match r.body with
      | .arm _ g _ _ _ => some g
      | .seal _ _ g _ => some g
      | _ => none
  else none

/-- The image waits for an array: the array does not count as assembled (R326, R328; log entry 139). -/
def imageHolds (s : State) (a : KArray) : Bool :=
  imageWaits s && decide (areaUuid (s.cache.area s.cache.imageArea) = a.uuid)

/-- Arm the vault: the first arming of a start erases its area and sets IMAGE_SEQ; a later one appends another ARM (R319). -/
def armVault (s : State) : State :=
  let c := s.cache
  let body : VaultBody := match s.keep.array.filter fun a => !imageHolds s a with
    | some a => .arm a.uuid a.generation a.n a.p a.chunk256.toNat
    | none => .arm 0 0 0 0 0
  match c.armed with
  | some area => s.setCache (appendRecord c area body)
  | none =>
    let area := chooseArea c
    let seq := 1 + max (areaSeq c false) (areaSeq c true)
    s.setCache { setArea c area [mkRecord seq body] with armed := some area }

/-! ### Assembly (R281, R325, R326) -/

/-- What the image that waits for an array becomes when the array is assembled: it is replayed where GENERATION is the SEAL's, or
what a replay that was cut off left; it waits as STALE under a higher one, and as AWAITING otherwise (R326, R327). -/
def imageAfter (s : State) (a : KArray) : ImageState :=
  let g := sealGeneration (s.cache.area s.cache.imageArea)
  let same := decide (a.generation = g) || decide (replayGeneration s.cache = some a.generation)
  if a.isDown then .awaiting
  else if same then (if s.power.keepEnabled then .replaying else .awaiting)
  else if g < a.generation then .stale
  else .awaiting

/-- What assembly does about the image and the vault: the image of this array is replayed, or waits as AWAITING or STALE;
RESYNC_ALL is set where an unsealed image asks for it; the superblocks are written with GENERATION + 1 and the vault armed,
unless the image waits for this array (R319, R325, R326). Drives on some ports may then be re-added (R281). -/
def afterAssembly (s : State) (ports : List Nat) : State :=
  match s.keep.array with
  | none => s
  | some a =>
    let s1 := if imageHolds s a then setImage s (imageAfter s a) else s
    let waits := imageHolds s1 a
    let mark := !waits && decide (s1.cache.resyncUuid = some a.uuid)
    let s2 := if mark then
        (s1.setCache { s1.cache with resyncUuid := none }).setArray { a with resyncAll := true, resync := List.range a.regions }
      else s1
    let s3 := if mark || (s.power.keepEnabled && !waits) then writeSuperblocks s2 else s2
    queueReadds (if s.power.keepEnabled then armVault s3 else s3) ports

/-- An array and its spares are taken as assembled; a pass of the patrol scrub begins anew (R281, R302). -/
def takeArray (s : State) (a : KArray) (spares : Byte) : State :=
  s.setKeep { s.keep with array := some a, spares := spares, patrolNext := 0 }

/-- Assemble the recorded array from the superblocks on the ports (R281). -/
def assembleRecorded (s : State) : State :=
  let u := s.firmware.inUse.uuid
  if u = 0 then s
  else
    match assembleFrom s (List.range 8) u with
    | none => s
    | some x => afterAssembly (takeArray s x.1 x.2) (List.range 8)

/-- The Keep engine at a start, before WARM: both areas are classified, the recorded array is assembled, and the vault is armed
(R324, R325, R281, R319). -/
def keepStart (s : State) : State :=
  let c := s.cache
  let c0 := areaClass c.area0
  let c1 := areaClass c.area1
  let both := decide (c0 = .pending ∧ c1 = .pending)
  let area := if both then decide (areaSeq c false < areaSeq c true) else decide (c1 = .pending)
  let pend := decide (c0 = .pending ∨ c1 = .pending)
  let newest := decide (c.area0 = []) || (decide (c.area1 ≠ []) && decide (areaSeq c false < areaSeq c true))
  let lost := decide ((if newest then c1 else c0) = .unsealed)
  let u := areaUuid (c.area newest)
  let s0 := if both then faultEvent s 0x9000 2 else s
  let s1 := s0.setCache { c with
    image := if pend then .awaiting else .none, imageArea := pend && area, armed := none, unsealedLast := lost, discarded := false,
    restored := false, dumping := false
    resyncUuid := if lost ∧ u ≠ 0 then some u else c.resyncUuid }
  let s2 := assembleRecorded s1
  if s2.power.keepEnabled && s2.keep.array.isNone then armVault s2 else s2

/-- DRIVE_INSERTION (R297, R326): a drive appears on a port. It may be re-added as a member, at once or when REBUILD_STEP finds the
members there; while the image is AWAITING, assembly runs again. A drive may also arrive while the compute domains have no power: the next start finds it. -/
def execDriveInsertion (port : Fin 8) (drive : Drive) (s : State) : Host.Outcome State Fault Refusal :=
  let q := port.val
  .next (if (s.port q).drive.isSome || (s.port q).lost.isSome then s
    else if !s.running then (if s.power.compute then s else s.setPort q { s.port q with drive := some drive })
    else
      let s1 := s.setPort q { s.port q with drive := some drive }
      if s1.cache.image = .awaiting then
        let mine := match s1.keep.array with
          | some a => decide (a.uuid = areaUuid (s1.cache.area s1.cache.imageArea))
          | none => true
        if mine then assembleRecorded (s1.setKeep { s1.keep with array := none }) else s1
      else startReadd (queueReadds s1 [q]))

/-! ### Replay (R327) -/

/-- Copy the bytes of a restored extent into the data area, 4 KiB by 4 KiB. -/
def storeUnits (s : State) (position : Nat) (data : List Byte) : State :=
  (List.range (data.length / 4096)).foldl (fun s i =>
    let addr := dataAddr (position + 4096 * i)
    let s1 := s.setDev (s.dev.writeN addr ((data.drop (4096 * i)).take 4096))
    s1.setFaults { s1.faults with poison := s1.faults.poison.filter fun l => decide (l < addr / 64) || decide (addr / 64 + 64 ≤ l) }) s

/-- The EXTENT and JOURNAL records of an image rebuild the log and the journal (R327 step 2). -/
def restoreImage (s : State) : State :=
  let rs := validRecords (s.cache.area s.cache.imageArea)
  let s0 := s.setCache { s.cache with extents := [], head := 0, tail := 0, journal := Vector.replicate 256 none }
  let s1 := rs.foldl (fun s r => match r.body with
    | .extent ab sq sl h ep d =>
      let e : Extent := { admitSeq := sq, slot := sl, half := h, epoch := ep, arrayByte := ab, offset := s.cache.tail, length := d.length,
                          ready := true, released := false, void := false, retries := 0, covered := [], waiter := none }
      let s2 := storeUnits s s.cache.tail d
      s2.setCache { s2.cache with extents := s2.cache.extents ++ [e], tail := s2.cache.tail + d.length, admitSeq := max s2.cache.admitSeq sq }
    | _ => s) s0
  let js := rs.filterMap fun r => match r.body with
    | .journal st sn p q => some ({ stripe := st, snap := sn, p := p, q := q } : JournalSlot)
    | _ => none
  s1.setCache { s1.cache with journal := Vector.ofFn fun i => js[i.val]? }

/-- Rewrite a journalled stripe: the data ranges of its SNAP_SEQ with its P and Q, to every present member (R327 step 3). -/
def replayStripe (s : State) (a : KArray) (j : JournalSlot) : State :=
  let ps := (stripeUnits s a j.stripe j.snap).map fun u =>
    ({ chunk := u.1, off := u.2.1, data := s.dev.readN u.2.2.2 4096 } : StripePiece)
  let s1 := setRegion s (j.stripe / a.perRegion)
  let s2 := ps.foldl (fun s p => writePosition s a j.stripe p.chunk p.off p.data) s1
  let s3 := writePosition s2 a j.stripe a.k 0 j.p
  let s4 := if a.p = 2 then writePosition s3 a j.stripe (a.k + 1) 0 j.q else s3
  match s4.keep.array with
  | some b => s4.setArray (b.wroteRegion (j.stripe / a.perRegion) s.clocks.timebase)
  | none => s4

/-- VAULT_REPLAY (R327): a pending image is restored and its journalled stripes are rewritten; the log is then destaged, and
the image ends when it is empty. -/
def execVaultReplay (s : State) : Host.Outcome State Fault Refusal :=
  .next (match s.keep.array with
    | none => s
    | some a =>
      if !s.running || decide (s.cache.image ≠ .replaying) || s.cache.restored || a.isDown || !allReachable s a then s
      else
        let s1 := restoreImage s
        let s2 := s1.cache.journal.toList.foldl (fun s j => match j with
          | some x => replayStripe s a x
          | none => s) s1
        endReplay (s2.setCache { s2.cache with journal := Vector.replicate 256 none, restored := true }))

/-! ### The dump (R320-R323) -/

/-- The vault DMA appends a JOURNAL record for each occupied slot and an EXTENT record for each unreleased extent after the last
ARM; while an image is REPLAYING it appends neither (R321, R322). -/
def appendDump (s : State) (area : Bool) : State :=
  let c := s.cache
  let js := c.journal.toList.filterMap fun j => j.map fun x => VaultBody.journal x.stripe x.snap x.p x.q
  let es := (c.extents.filter (·.live)).map fun e =>
    VaultBody.extent e.arrayByte e.admitSeq e.slot e.half e.epoch
      ((List.range (e.length / 4096)).flatMap fun i => s.dev.readN (dataAddr (e.offset + 4096 * i)) 4096)
  let bodies := if c.image = .replaying then [] else js ++ es
  s.setCache { bodies.foldl (fun c b => appendRecord c area b) c with dumping := true }

/-- The area that a dump is to fill: armed, and not sealed yet (Table 12.8). -/
def openArea (c : Cache) : Option Bool := c.armed.filter fun a => decide (areaClass (c.area a) = .unsealed)

/-- The dump begins; the queue of stack 0's rows and the kept stamps of every row are dropped (19 R476). -/
def beginDump (s : State) : State :=
  match openArea s.cache with
  | some area => if s.cache.dumping then s else appendDump (s.setFaults { s.faults with rows := [], retireQueue := [] }) area
  | none => s

/-- VAULT_DUMP_START (R321): in HOLDUP, with the compute domains shed and FCLK running. -/
def execVaultDumpStart (s : State) : Host.Outcome State Fault Refusal :=
  .next (if decide (s.power.state = .holdup) && s.power.pwrLoss && !s.power.compute && s.power.holdup && s.clocks.pllLocked then
      beginDump s
    else s)

/-- The SEAL of a dump: the counts of its records, the array's GENERATION and the chain (Table 12.6). -/
def sealBody (s : State) (area : Bool) : VaultBody :=
  let rs := s.cache.area area
  .seal (journalCount rs) (extentCount rs) ((s.keep.array.map (·.generation)).getD 0) (chainCrc rs)

/-- The SEAL of a dump is programmed (R321). -/
def sealVault (s : State) : State :=
  match s.cache.armed with
  | some area => s.setCache { appendRecord s.cache area (sealBody s area) with dumping := false }
  | none => s

/-- The armed area is left without a seal: where it had dirty data, the loss is counted on the fault path (R323 and its corners). -/
def loseDump (s : State) : State :=
  let s1 := s.setCache { s.cache with dumping := false, armed := none }
  if (openArea s.cache).isSome && s.cache.extents.any (·.live) then faultEvent s1 0x9000 2 else s1

/-! ### VAULT_DISCARD (R328) -/

/-- VAULT_DISCARD: a waiting image, or the unreleased extents of a FAILED array, are discarded. -/
def execVaultDiscard (k : Fin 512) (s : State) : Host.Outcome State Fault Refusal :=
  .next (runOp s k 0x61 fun s _ =>
    if imageWaits s then
      let s1 := setImage (s.setCache { appendRecord s.cache s.cache.imageArea .discarded with discarded := true }) .none
      let s2 := if s1.keep.array.isSome then afterAssembly s1 (List.range 8) else assembleRecorded s1
      completeOp s2 k Result.ok
    else
      match s.keep.array with
      | some a =>
        if a.isDown && s.cache.extents.any (·.live) then
          let s1 := s.setCache { s.cache with
            discarded := true
            extents := s.cache.extents.map fun e => if e.live then { e with void := true, released := true } else e }
          completeOp (settleLog s1) k Result.ok
        else completeOp s k (Result.refused 0x12 0x25)
      | none => completeOp s k (Result.refused 0x12 0x25))

end Sys2Proof.Machine
end

