-- ==== Sys2Proof/Machine/KeepCommands.lean ====
section
/-! DEFINITION. The operations of the Keep engine: KEEP_WRITE, KEEP_READ, KEEP_COMMIT, KEEP_SCRUB, and the admin operations on
arrays, slots and spares (04 Tables 4.4 and 4.6; 11_keep_array; 12_protected_cache_and_vault R312). -/

namespace Sys2Proof.Machine
open Sys2Proof

/-- The commit record of a half, if it is not EMPTY. -/
def recordOf (a : KArray) (slot half : Nat) : Option CommitRec :=
  a.records.find? fun r => decide (r.slot = slot) && decide (r.half = half)

/-- The refusals common to KEEP_WRITE, KEEP_READ and KEEP_COMMIT, in their order (R286, R288; code 0x26 of R104). -/
def keepRefusal (s : State) (o : Op) (capacity : Bool) : Option Result :=
  match usableArray s with
  | none => some (Result.refused 0x12 0x21)
  | some a =>
    if a.isDown then some (Result.refused 0x11 0x10)
    else
      match slotEntry a (keepSlot o) with
      | none => some (Result.refused 0x12 0x26)
      | some e =>
        if capacity && decide (e.halfBytes < keepOffset o + keepLength o) then some (Result.refused 0x10 0x01) else none

/-- The Keep engine as an agent that reads SRC and writes DST (R512, R515). -/
def keepAgent (s : State) (o : Op) (ecc : List Ecc) (hostErr : Option (Nat × Byte × Byte) := none) (isRead : Bool := false) : Agent :=
  { who := .op o.order, pasid := s.opPasid o, reach := if isRead then [.kernels] else [.kernels, .operand, .host], loc := 0x8002, relaxed := true,
    ecc := ecc, hostErr := hostErr }

/-- A started Keep operation on a slot with one of some opcodes. -/
def keepBusy (s : State) (slot : Nat) (ops : List Nat) : Bool :=
  s.opList.any fun q => decide (q.2.phase = .started) && ops.contains q.2.opcode && decide (keepSlot q.2 = slot)

/-! ### KEEP_WRITE (R286, 12 R305, R306, R312) -/

/-- The order of admission under the dirty limit: fetch time, then SR index (R122). -/
def fetchKey (s : State) (o : Op) : Nat × Nat × Nat × Nat := (0, o.fetch.toNat, o.sr, (rankKey s o).2.2.2)

/-- A KEEP_WRITE that has started and has no extent yet: it waits for room in the data area (R312). -/
def waitsForRoom (s : State) (k : Nat) (o : Op) : Bool :=
  decide (o.opcode = 0x20) && decide (o.phase = .started) && o.closing.isNone && !(s.cache.extents.any fun e => e.waiter = some k)

/-- Keep data operations in progress: at most 64 (R289; log entry 97). -/
def keepInProgress (s : State) : Nat :=
  (s.opList.filter fun q => decide (q.2.phase = .started) && decide (0x20 ≤ q.2.opcode ∧ q.2.opcode ≤ 0x23)).length

/-- Whether the KEEP_WRITE in entry k is at the head of admission order, and the Keep engine has room for it (R122, R289, R312). -/
def headOfWrites (s : State) (k : Nat) (o : Op) : Bool :=
  decide (keepInProgress s < 64) &&
    !(s.opList.any fun q => decide (q.1 ≠ k) && decide (q.2.opcode = 0x20) && opReady s q.2 && keyLt (fetchKey s q.2) (fetchKey s o))

/-- The room test of R312. -/
def roomTest (s : State) (length : Nat) : Bool := decide (dirtyUnits s + length / 4096 ≤ min s.limit dataUnits)

/-- The extent of the KEEP_WRITE in entry k, taken at the log tail (R305). -/
def takeExtent (s : State) (a : KArray) (k : Nat) (o : Op) : State :=
  let c := s.cache
  let e := slotEntry a (keepSlot o)
  let half := halfOf (keepEpoch o)
  let x : Extent :=
    { admitSeq := c.admitSeq + 1, slot := keepSlot o, half := half, epoch := BitVec.ofNat 32 (keepEpoch o),
      arrayByte := ((e.map (·.first half)).getD 0) * a.width + keepOffset o, offset := c.tail, length := keepLength o,
      ready := false, released := false, void := false, retries := 0, covered := [], waiter := some k }
  s.setCache { c with extents := c.extents ++ [x], admitSeq := c.admitSeq + 1, tail := c.tail + keepLength o }

/-- Whether a half is OPEN for an epoch. -/
def openFor (a : KArray) (slot half epoch : Nat) : Bool :=
  match recordOf a slot half with
  | some r => decide (r.state = 1 ∧ r.epoch.toNat = epoch)
  | none => false

/-- Write the record OPEN for an epoch: the half's earlier epoch can no longer be read, and data voided in it is forgotten
(R286). -/
def openHalf (s : State) (slot half epoch : Nat) : State :=
  let s1 := s.setCache { s.cache with poisonedHalves := s.cache.poisonedHalves.filter fun h => h ≠ (slot, half) }
  writeCommit s1 slot half 1 (BitVec.ofNat 32 epoch) 0

/-- A KEEP_READ is in progress on a half (R286). -/
def halfRead (s : State) (slot half : Nat) : Bool :=
  s.opList.any fun q => decide (q.2.phase = .started) && decide (q.2.opcode = 0x21) && decide (keepSlot q.2 = slot) &&
    decide (q.2.aux = half)

/-- The copy of SRC into an extent (R306): a byte that cannot be read makes the extent void. Data that enters the cache with
HOLD_ASSURE low is written through, whatever the mode was at the start (01 R17). -/
def copyToExtent (s : State) (k : Nat) (o : Op) (e : Extent) (ecc : List Ecc) : State :=
  let r := readRun (keepLength o / 64 + 2) s (keepAgent s o ecc none true) (fld o.desc 16 8) (keepLength o)
  match r.2 with
  | .wait s1 => saveOp s1 k o
  | .fail st c s1 =>
    let s2 := (saveOp s1 k o).setCache { s1.cache with extents := s1.cache.extents.map fun x =>
      if x.admitSeq = e.admitSeq then { x with void := true, released := true, waiter := none } else x }
    finishOp (settleLog s2) k (failResult s2 0x8002 st c r.1 0)
  | .ok bs s1 =>
    let through := decide (o.aux = 1) || assureLow s1
    let s2 := storeUnits (saveOp s1 k o) e.offset bs
    let s3 := s2.setCache { s2.cache with extents := s2.cache.extents.map fun x =>
      if x.admitSeq = e.admitSeq then { x with ready := true, waiter := if through then some k else none } else x }
    if through then s3 else finishOp s3 k (keepDone s3 k)

/-- What a started KEEP_WRITE does next: it takes its extent, opens its half, and copies its data. -/
def keepWriteBody (k : Nat) (ecc : List Ecc) (s : State) (o : Op) : State :=
  match usableArray s with
  | none => saveOp s k o
  | some a =>
    let slot := keepSlot o
    let half := halfOf (keepEpoch o)
    let first := !(s.opList.any fun q => decide (q.1 ≠ k) && waitsForRoom s q.1 q.2 && keyLt (fetchKey s q.2) (fetchKey s o))
    let s1 :=
      if s.cache.extents.any fun e => e.waiter = some k then s
      else if first && decide (dirtyUnits s + keepLength o / 4096 ≤ dataUnits) then takeExtent s a k o
      else s
    match s1.cache.extents.find? fun e => e.waiter = some k with
    | none => saveOp s1 k o
    | some e =>
      if e.ready then saveOp s1 k o
      else if openFor a slot half (keepEpoch o) then copyToExtent s1 k o e ecc
      else if halfRead s1 slot half || !allReachable s1 a then saveOp s1 k o
      else copyToExtent (openHalf s1 slot half (keepEpoch o)) k o e ecc

/-- KEEP_WRITE (R286, R306, R312): admission in order of fetch, under the dirty limit in write-back; refusals at the start; then
the copy into the protected cache. `ecc` are the errors that its reads of SRC detect. `aux` 1 marks a write-through one. -/
def execKeepWrite (k : Fin 512) (ecc : List Ecc) (s : State) : Host.Outcome State Fault Refusal :=
  .next (match s.op k with
    | none => s
    | some o =>
      if o.phase ≠ .admitted then runOp s k 0x20 (keepWriteBody k ecc)
      else if decide (o.opcode ≠ 0x20) || decide (s.cache.image = .replaying) || !mayStart s k || !headOfWrites s k o then s
      else
        let through := writeThrough s
        match keepRefusal s o true with
        | some r => if through || roomTest s (keepLength o) then completeOp s k r else s
        | none =>
          if through then
            if (fld o.desc 10 1).testBit 0 then completeOp s k (Result.refused 0x14 0x40)
            else runOp s k 0x20 fun s o => keepWriteBody k ecc s { o with aux := 1 }
          else if roomTest s (keepLength o) then runOp s k 0x20 (keepWriteBody k ecc)
          else s)

/-! ### KEEP_COMMIT, KEEP_READ, KEEP_SCRUB (R287, R288, R301) -/

/-- Whether the Keep engine takes the operation in entry k, no KEEP_WRITE, now: at most 64 Keep operations are in progress, taken in
the order of R122, and none starts while an image is replayed (R289, R327). -/
def keepTakes (s : State) (k : Nat) : Bool :=
  match s.op k with
  | none => false
  | some o =>
    let pooled (q : Op) := decide (0x21 ≤ q.opcode ∧ q.opcode ≤ 0x23)
    let ahead := s.opList.filter fun q => decide (q.1 ≠ k) && pooled q.2 &&
      opReady s q.2 && keyLt (rankKey s q.2) (rankKey s o)
    decide (o.phase ≠ .admitted) || (decide (s.cache.image ≠ .replaying) && decide (keepInProgress s + ahead.length < 64))

/-- Run the Keep operation in entry k when the Keep engine takes it. -/
def runKeep (s : State) (k opcode : Nat) (body : State → Op → State) : State :=
  if keepTakes s k then runOp s k opcode body else s

/-- Stripes of a half that a stripe write holds or waits for. -/
def halfWriting (s : State) (e : SlotEntry) (half : Nat) : Bool :=
  s.keep.writes.any fun w => decide (e.first half ≤ w.stripe ∧ w.stripe < e.first half + e.halfStripes)

/-- Steps 2 to 4 of R287: every present member is flushed, a Flush that ends with an error failing its member, and the COMMITTED
record is written, unless the array has become FAILED. -/
def commitHalf (s0 : State) (k : Nat) (o : Op) (errors ports : List Nat) : State :=
  let s := flushPorts s0 errors ports
  match s.keep.array with
  | none => s
  | some a =>
    if a.isDown then s
    else
      let s1 := writeCommit s (keepSlot o) (halfOf (keepEpoch o)) 2 (BitVec.ofNat 32 (keepEpoch o)) (BitVec.ofNat 64 (fld o.desc 24 8))
      finishOp s1 k (keepDone s1 k)

/-- KEEP_COMMIT (R287): once every extent of the half is released and its stripe writes are complete, every member is flushed and
the COMMITTED record is written. `run.failing` are the ports whose Flush ends with an error. -/
def execKeepCommit (run : KeepRun) (s : State) : Host.Outcome State Fault Refusal :=
  let k := run.k.val
  .next (runKeep s k 0x22 fun s o =>
    let half := halfOf (keepEpoch o)
    match keepRefusal s o false, usableArray s with
    | some r, _ => completeOp s k r
    | none, none => saveOp s k o
    | none, some a =>
      match slotEntry a (keepSlot o) with
      | none => saveOp s k o
      | some e =>
        if (s.cache.extents.any fun x => !x.released && decide (x.slot = keepSlot o ∧ x.half = half)) || halfWriting s e half then
          saveOp s k o
        else if s.cache.poisonedHalves.contains (keepSlot o, half) then finishOp (saveOp s k o) k (Result.fault 0x22 0x20 0x8001 0 0)
        else if !allReachable s a then saveOp s k o
        else commitHalf (saveOp s k o) k o (run.failing.map (·.val)) a.livePorts)

/-- The half that a KEEP_READ of an epoch reads: COMMITTED with it, or the newest COMMITTED one (R285, R288). -/
def readHalf (a : KArray) (slot epoch : Nat) : Option Nat :=
  (bestBy (·.seq) (a.records.filter fun r =>
    decide (r.slot = slot ∧ r.state = 2) && (decide (epoch = 0xFFFFFFFF) || decide (r.epoch.toNat = epoch)))).map (·.half)

/-- KEEP_READ from its progress on, at most a line of the destination at each turn. A chunk that is not read is reconstructed
under the stripe lock (R294). `bad` are the chunks, as stripe and member, that their drives cannot read. -/
def keepReadLoop : Nat → State → KArray → Agent → List (Nat × Nat) → Nat → Op → Run
  | 0, s, _, _, _, _, o => Run.done o s
  | fuel + 1, s, a, ag, bad, base, o =>
    if keepLength o ≤ o.progress then Run.done o s
    else
      let l := base + o.progress
      let st := l / a.width
      let j := l % a.width / a.chunk
      let off := l % a.chunk
      let dst := fld o.desc 16 8 + o.progress
      let n := linePart dst (min (keepLength o - o.progress) (a.chunk - off))
      let lost := (bad.filter fun x => x.1 = st).map (·.2)
      let direct := readPosition s a lost st j off n
      if direct.isNone && !canLock s st then { op := o, addr := dst, out := .wait s }
      else
        match direct.or ((readStripe s a lost st off n).map fun ds => ds.getD j []) with
        | none => { op := o, addr := l, out := .fail 0x22 0x20 s }
        | some bs =>
          let r := moverWrite s ag o dst bs n
          match r.out with
          | .ok _ s1 => keepReadLoop fuel s1 a ag bad base r.op
          | _ => r

/-- The errors of the chunks that a KEEP_READ or a KEEP_SCRUB cannot read are counted, stripe by stripe (R294). -/
def countBad (s : State) (bad : List (Nat × Nat)) : State :=
  ((bad.map (·.1)).eraseDups).foldl (fun s st =>
    match s.keep.array with
    | some a => readErrors s a ((bad.filter fun x => x.1 = st).map (·.2)) st 0 a.chunk
    | none => s) s

/-- Chunks that drives cannot read, as stripe and member. -/
def pairs (bad : List (Nat × Fin 8)) : List (Nat × Nat) := bad.map fun x => (x.1, x.2.val)

/-- What a KEEP_READ does from its progress on: `aux` holds the half it reads. It waits while destage goes ahead of it, and for the
stripes that it has to reconstruct (R294, R303). -/
def keepReadBody (k : Nat) (bad : List (Nat × Nat)) (hostErr : Option (Nat × Byte × Byte)) (s : State) (o : Op) : State :=
  match usableArray s with
  | none => saveOp s k o
  | some a =>
    match slotEntry a (keepSlot o) with
    | none => saveOp s k o
    | some e =>
      if !allReachable s a || readWaits s || bad.any (fun x => !canLock s x.1) then saveOp s k o
      else
        let base := e.first o.aux * a.width + keepOffset o
        let s0 := countBad (saveOp s k o) bad
        match s0.op k with
        | none => s0
        | some o0 =>
          if o0.phase ≠ .started ∨ o0.closing.isSome then s0
          else
            let r := keepReadLoop (keepLength o / 32 + 4) s0 a (keepAgent s o [] hostErr) bad base o
            match r.out with
            | .ok _ s1 => finishOp (saveOp s1 k r.op) k (keepDone s1 k)
            | .wait s1 => saveOp s1 k r.op
            | .fail st c s1 =>
              finishOp (saveOp s1 k r.op) k
                (Result.fault st c (if c = 0x20 then 0x8000 else 0x8002) r.addr r.op.progress)

/-- KEEP_READ (R288, R294): the half of a COMMITTED epoch is read into DST. `bad` are chunks, as stripe and member, that their
drives cannot read. -/
def execKeepRead (k : Fin 512) (bad : List (Nat × Fin 8)) (s : State) : Host.Outcome State Fault Refusal :=
  .next (match s.op k with
    | none => s
    | some o =>
      if o.phase ≠ .admitted then runKeep s k 0x21 (keepReadBody k (pairs bad) none)
      else
        runKeep s k 0x21 fun s o =>
          match keepRefusal s o true, usableArray s with
          | some r, _ => completeOp s k r
          | none, none => saveOp s k o
          | none, some a =>
            match readHalf a (keepSlot o) (keepEpoch o) with
            | none => completeOp s k (Result.refused 0x12 0x22)
            | some h => keepReadBody k (pairs bad) none s { o with aux := h })

/-- The last stripe, exclusive, of a KEEP_SCRUB (R301). -/
def scrubEnd (a : KArray) (o : Op) : Nat :=
  let n := fld o.desc 24 8
  if n = 0 ∨ a.stripes < fld o.desc 16 8 + n then a.stripes else fld o.desc 16 8 + n

/-- KEEP_SCRUB from where it stands: `engine` counts the stripes done, `aux` those repaired. It waits where a stripe is
locked and while work of higher precedence is held back (R303), and ends where a failure has completed the operation (R293). -/
def scrubLoop : Nat → Nat → State → List (Nat × Nat) → Op → State
  | 0, k, s, _, o => saveOp s k o
  | fuel + 1, k, s, bad, o =>
    match s.keep.array with
    | none => saveOp s k o
    | some a =>
      let st := fld o.desc 16 8 + o.engine
      let repair := decide (fld o.desc 8 1 = 1)
      if scrubEnd a o ≤ st then
        finishOp (saveOp s k o) k (if o.aux ≠ 0 then Result.note 2 o.aux else keepDone s k)
      else if !canLock s st || !allReachable s a || stepWaitsForDestage s a || a.rebuild.isSome || decide (a.resync ≠ []) then saveOp s k o
      else
        let r := scrubStripe (saveOp s k o) a ((bad.filter fun x => x.1 = st).map (·.2)) st repair
        match r.2.op k with
        | none => r.2
        | some o1 =>
          if o1.phase ≠ .started ∨ o1.closing.isSome then r.2
          else scrubLoop fuel k r.2 bad { o with engine := o.engine + 1, aux := o.aux + (if r.1 && repair then 1 else 0) }

/-- What a started KEEP_SCRUB does: with the array FAILED, check mode checks nothing (R301). -/
def scrubBody (k : Nat) (bad : List (Nat × Nat)) (s : State) (o : Op) : State :=
  match s.keep.array with
  | none => saveOp s k o
  | some a => if a.isDown then finishOp (saveOp s k o) k Result.ok else scrubLoop (a.stripes + 1) k s bad o

/-- KEEP_SCRUB (R301): the stripes named are checked, or repaired. `bad` are chunks, as stripe and member, that their drives
cannot read. -/
def execKeepScrub (k : Fin 512) (bad : List (Nat × Fin 8)) (s : State) : Host.Outcome State Fault Refusal :=
  .next (match s.op k with
    | none => s
    | some o =>
      if o.phase ≠ .admitted then runKeep s k 0x23 (scrubBody k (pairs bad))
      else
        runKeep s k 0x23 fun s o =>
          match usableArray s with
          | none => completeOp s k (Result.refused 0x12 0x21)
          | some a =>
            if a.isDown && decide (fld o.desc 8 1 = 1) then completeOp s k (Result.refused 0x11 0x10)
            else if a.stripes ≤ fld o.desc 16 8 then completeOp s k (Result.refused 0x10 0x04)
            else scrubBody k (pairs bad) s { o with engine := 0 })

/-! ### SLOT_DEFINE (R284) -/

/-- The array of SLOT_DEFINE, MEMBER_REPLACE and SPARE_ADD: a FAILED one counts as none (R283). -/
def sparableArray (s : State) : Option KArray := (usableArray s).filter fun a => !a.isDown

/-- The runs of stripes that slots take. -/
def takenRuns (a : KArray) : List (Nat × Nat) := a.slots.flatMap fun e => [(e.firstA, e.halfStripes), (e.firstB, e.halfStripes)]

/-- The lowest free run of `need` stripes among runs taken: it starts at 0 or behind a taken run (R284). -/
def freeRun (stripes need : Nat) (taken : List (Nat × Nat)) : Option Nat :=
  let fits (x : Nat) := decide (x + need ≤ stripes) && taken.all fun r => decide (x + need ≤ r.1) || decide (r.1 + r.2 ≤ x)
  ((0 :: taken.map fun r => r.1 + r.2).filter fits).foldl (fun b x => some (match b with | some y => min x y | none => x)) none

/-- The definition of a slot: both halves are EMPTY, and the entry is written (R284, R285, R517). -/
def defineSlot (s : State) (a : KArray) (slot halfBytes : Nat) : Option State :=
  let need := (halfBytes + a.width - 1) / a.width
  (freeRun a.stripes need (takenRuns a)).bind fun fa =>
    (freeRun a.stripes need ((fa, need) :: takenRuns a)).map fun fb =>
      writeSlot (writeCommit (writeCommit s slot 0 0 0 0) slot 1 0 0 0)
        { slot := slot, defined := true, seq := 0, halfBytes := halfBytes, firstA := fa, firstB := fb, halfStripes := need }

/-- SLOT_DEFINE (R284); what decode found is tested again (R104). -/
def execSlotDefine (k : Fin 512) (s : State) : Host.Outcome State Fault Refusal :=
  .next (runOp s k 0x53 fun s o =>
    let slot := keepSlot o
    match sparableArray s with
    | none => completeOp s k (Result.refused 0x12 0x21)
    | some a =>
      if !allReachable s a then saveOp s k o
      else if (fld o.desc 10 1).testBit 0 then
        match slotEntry a slot with
        | none => completeOp s k changedSince
        | some _ =>
          if keepBusy s slot [0x20, 0x21, 0x22] || s.cache.extents.any fun x => !x.released && decide (x.slot = slot) then
            completeOp s k (Result.refused 0x12 0x23)
          else completeOp (writeSlot s { slot := slot, defined := false, seq := 0, halfBytes := fld o.desc 16 8, firstA := 0, firstB := 0,
                                           halfStripes := 0 }) k Result.ok
      else if (slotEntry a slot).isSome then completeOp s k changedSince
      else
        match defineSlot s a slot (fld o.desc 16 8) with
        | none => completeOp s k (Result.refused 0x10 0x02)
        | some s1 => completeOp s1 k Result.ok)

/-! ### ARRAY_CREATE and ARRAY_IMPORT (R280, R282) -/

/-- Record the UUID of the module's array in the settings store (R280, R282, 16 R417). No rule names the message that carries it to the
Tailstock: the model writes the store in the same command (log entry 137). -/
def recordUuid (s : State) (u : BitVec 128) : State :=
  s.setFirmware (writeSettings s.firmware { s.firmware.inUse with uuid := u })

/-- The ports of a bit map. -/
def portsOf (m : Nat) : List Nat := (List.range 8).filter fun q => m.testBit q

/-- Stripes of a new array (R273). -/
def newStripes (s : State) (qs : List Nat) (chunk : Nat) : Nat :=
  let small := (qs.filterMap fun q => (usableDrive s q).map fun d => d.ident.capacity).foldl
    (fun b c => some (match b with | some y => min c y | none => c)) none
  min (((small.getD 0) - mib 16) / chunk) (2 ^ 23 * (mib 64 / chunk))

/-- The new array with its metadata on every member: everything zeroed, every bit of its bitmap set, superblocks of GENERATION 1
with RESYNC_ALL (R280 steps 1 to 3). -/
def createArray (s : State) (o : Op) : State :=
  let qs := portsOf (fld o.desc 8 1)
  let c256 := decide (fld o.desc 10 1 = 1)
  let a0 : KArray :=
    { uuid := s.free 128, generation := 0, n := qs.length, p := fld o.desc 9 1, chunk256 := c256,
      stripes := newStripes s qs (if c256 then kib 256 else kib 64), failed := 0, failGen := Vector.replicate 8 0,
      ports := Vector.ofFn fun i => qs[i.val]?, failedAt := Vector.replicate 8 0, resyncAll := true, rebuild := none, recordSeq := 0,
      slots := [], records := [], bitmap := [], regionWritten := [], resync := [], resyncNext := 0, createResync := true, readds := [] }
  let a := { a0 with bitmap := List.range a0.regions, resync := List.range a0.regions }
  let zeroed := qs.foldl (fun s q =>
    let p := s.port q
    s.setPort q { p with drive := p.drive.map fun d => { d with media := d.media.zero 0 (mib 16) } }) s.tookFree
  let s1 := takeArray zeroed a (zeroed.keep.spares &&& ~~~(BitVec.ofNat 8 (fld o.desc 8 1)))
  writeSuperblocks ((List.range ((a.regions + 32767) / 32768)).foldl writeBitmapBlock s1)

/-- The steps of R280: the metadata is written; `failing` are the ports whose drives fail before it is durable on them. With more than
p members missing no array is assembled and the settings store keeps its UUID: none is answered. -/
def buildArray (s : State) (o : Op) (failing : List Nat) : State × Bool :=
  let s1 := failing.foldl (fun s q => failPort s q 3) (createArray s o)
  match s1.keep.array with
  | none => (s1, false)
  | some a =>
    if a.isDown then (s1.setKeep { s1.keep with array := none }, false)
    else (afterAssembly (recordUuid s1 a.uuid) [], true)

/-- ARRAY_CREATE (R280, R268): the array is created, recorded in the settings store and scheduled for full resync. With the Keep
disabled its resync runs as part of it. -/
def execArrayCreate (run : KeepRun) (s : State) : Host.Outcome State Fault Refusal :=
  let k := run.k.val
  let failing := run.failing.map (·.val)
  .next (runOp s k 0x50 fun s o =>
    let done (s : State) := s.power.keepEnabled || (match s.keep.array with | some a => decide (a.resync = []) || a.isDown | none => true)
    let qs := portsOf (fld o.desc 8 1)
    let chunk := if fld o.desc 10 1 = 1 then kib 256 else kib 64
    if o.aux = 1 then (if done s then completeOp (saveOp s k o) k Result.ok else saveOp s k o)
    else if s.keep.array.isSome || imageWaits s || qs.any fun q => (usableDrive s q).isNone then
      completeOp s k (Result.refused 0x12 0x23)
    else if newStripes s qs chunk < gib 1 / chunk then completeOp s k (Result.refused 0x10 0x03)
    else
      let r := buildArray s o failing
      if !r.2 then completeOp r.1 k (Result.fault 0x23 0x30 (portLoc (failing.getLast?.getD 0)) 0 0)
      else if done r.1 then completeOp r.1 k Result.ok
      else saveOp r.1 k { o with aux := 1 })

/-- ARRAY_IMPORT with MEMBERS = 0: the assembled array is detached (R282). -/
def detachArray (s : State) (k : Nat) : State :=
  let busy := s.opList.any fun q => decide (q.2.phase = .started) && decide (0x20 ≤ q.2.opcode ∧ q.2.opcode ≤ 0x23)
  if imageWaits s || decide (s.cache.image = .replaying) ||
      (s.keep.array.isSome && (busy || s.cache.extents.any fun e => !e.released)) then
    completeOp s k (Result.refused 0x12 0x23)
  else
    completeOp (recordUuid (s.setKeep { s.keep with array := none, spares := 0, writes := [], patrolNext := 0 }) 0) k Result.ok

/-- ARRAY_IMPORT (R282): the array with the highest GENERATION among the named ports is assembled, or the assembled one is
detached. -/
def execArrayImport (k : Fin 512) (s : State) : Host.Outcome State Fault Refusal :=
  .next (runOp s k 0x51 fun s o =>
    let qs := portsOf (fld o.desc 8 1)
    if qs = [] then detachArray s k
    else if s.keep.array.isSome || imageWaits s then completeOp s k (Result.refused 0x12 0x23)
    else
      match bestBy (fun x : Nat × Superblock => x.2.generation) ((superblocksOn s qs).filter fun x => x.2.index ≠ 0xFF) with
      | none => completeOp s k (Result.refused 0x12 0x27)
      | some b =>
        match assembleFrom s qs b.2.uuid with
        | none => completeOp s k (Result.refused 0x12 0x27)
        | some x =>
          if decide (x.1.missing ≠ 0) && !(fld o.desc 9 1).testBit 0 then completeOp s k (Result.refused 0x11 0x11)
          else
            completeOp (afterAssembly (recordUuid (takeArray s x.1 x.2) x.1.uuid) qs) k Result.ok)

/-! ### MEMBER_REPLACE and SPARE_ADD (R295, R296) -/

/-- A port named by SPARE_ADD or MEMBER_REPLACE is no longer locked out (R272). -/
def unlockPort (s : State) (q : Nat) : State := s.setPort q { s.port q with locked := false }

/-- Whether a drive is too small for a member of the array. -/
def tooSmall (a : KArray) (d : Drive) : Bool := decide (d.ident.capacity < mib 16 + a.stripes * a.chunk)

/-- MEMBER_REPLACE (R296): the member is marked failed if it is present, and its rebuild onto PORT starts; it waits for a test of
the port (20 R493's corners). -/
def execMemberReplace (k : Fin 512) (s : State) : Host.Outcome State Fault Refusal :=
  .next (runOp s k 0x52 fun s0 o =>
    let i := fld o.desc 8 1
    let q := fld o.desc 9 1
    let s := unlockPort s0 q
    match sparableArray s with
    | none => completeOp s k (Result.refused 0x12 0x21)
    | some a =>
      if underTest s q || !allReachable s a then saveOp s k o
      else if a.n ≤ i then completeOp s k changedSince
      else
        match usableDrive s q with
        | none => completeOp s k (Result.refused 0x12 0x23)
        | some d =>
          if memberOrTarget s q || a.rebuild.isSome then completeOp s k (Result.refused 0x12 0x23)
          else if tooSmall a d then completeOp s k (Result.refused 0x10 0x03)
          else
            let old := (vget a.ports i none).getD q
            let s1 := markFailed (if a.present i then countDropout s old else s) i (portLoc old)
            match s1.keep.array with
            | none => completeOp s1 k (Result.refused 0x12 0x21)
            | some b =>
              if b.isDown then completeOp s1 k (Result.fault 0x23 0x30 (portLoc old) 0 0)
              else completeOp (startRebuild s1 b i q) k Result.ok)

/-- SPARE_ADD (R295): a spare superblock is written to the drive on PORT, or its superblock copies are overwritten with zeros. It
waits for a test of the port. -/
def execSpareAdd (k : Fin 512) (s : State) : Host.Outcome State Fault Refusal :=
  .next (runOp s k 0x54 fun s0 o =>
    let q := fld o.desc 8 1
    let s := unlockPort s0 q
    match sparableArray s with
    | none => completeOp s k (Result.refused 0x12 0x21)
    | some a =>
      if underTest s q || !allReachable s a then saveOp s k o
      else
        match usableDrive s q with
        | none => completeOp s k (Result.refused 0x12 0x23)
        | some d =>
          let bit := BitVec.twoPow 8 q
          if memberOrTarget s q then completeOp s k (Result.refused 0x12 0x23)
          else if (fld o.desc 9 1).testBit 0 then
            completeOp ((writeMedia s q 0 (List.replicate 8192 0)).setKeep
              { (writeMedia s q 0 (List.replicate 8192 0)).keep with spares := s.keep.spares &&& ~~~bit }) k Result.ok
          else if tooSmall a d then completeOp s k (Result.refused 0x10 0x03)
          else completeOp (writeSuperblocks (s.setKeep { s.keep with spares := s.keep.spares ||| bit })) k Result.ok)

end Sys2Proof.Machine
end

