-- ==== Sys2Proof/Machine/LaneTests.lean ====
section
/-! DEFINITION. The host lane BER test (20_in_the_rack R487-R490) in loopback. -/

namespace Sys2Proof.Machine
open Sys2Proof

/-- GT/s of a rate code, rounded down: the bit errors that a lane test allows in 10 s (Tables 20.2, 21.3). -/
def rateErrors (rate : BitVec 4) : Nat :=
  match rate.toNat with
  | 1 => 2
  | 2 => 5
  | 3 => 8
  | 4 => 16
  | 5 => 32
  | 6 => 64
  | _ => 0

/-- A link that is down (Table 21.3). -/
def linkDown (l : Link) : Link := { l with up := false, trained := 0, rate := 0, flit := false, inUse := 0, recovery := false }

/-- HL_LANE_TEST.START = 1 with LANES as they stand (R487): in WARM with DRAINING = 0 and LANES ≠ 0 the link goes into Loopback;
it is not up, and nothing is reset. -/
def laneTestStart (s : State) : State :=
  if decide (s.power.state = .warm) && !s.power.draining && decide (s.link.testLanes ≠ 0) && !s.link.testBusy then
    s.setLink { linkDown s.link with testBusy := true, testUnsupported := false }
  else s

/-- A write of HL_LANE_TEST from the host (R487, Tables 20.3, 21.9): LANES while BUSY = 0, then START. -/
def laneTestWrite (s : State) (lanes : Option W16) (start : Bool) : State :=
  if s.link.testBusy then s
  else
    let s1 := match lanes with
      | some m => s.setLink { s.link with testLanes := m }
      | none => s
    if start then laneTestStart s1 else s1

/-- HL_LANE_TEST_START (R487): the host writes HL_LANE_TEST with START = 1 and these LANES. -/
def execHlLaneTestStart (lanes : BitVec 16) (s : State) : Host.Outcome State Fault Refusal :=
  .next (if barReachable s then laneTestWrite s (some lanes) true else s)

/-- One lane of the host link. -/
def laneOf (l : Link) (i : Nat) : Lane := vget l.lanes i { errors := [], due := false, lockFails := 0, retired := false }

/-- The results of a host lane test on its lanes: a lane that passes is in service again, one that fails is retired unless no
x1 group would be left (R488, R489). -/
def applyLaneTest (s : State) (passed failed : W16) : State :=
  let heal (i : Fin 16) : Lane :=
    if passed.getLsbD i.val then { laneOf s.link i.val with retired := false, due := false, lockFails := 0 } else laneOf s.link i.val
  let restored : Link := { s.link with lanes := Vector.ofFn heal }
  let s1 := s.setLink restored
  let s2 := s1.setFirmware (writeSettings s1.firmware { s1.firmware.inUse with lanes := s1.firmware.inUse.lanes &&& ~~~passed })
  let retire (i : Fin 16) : Lane :=
    if failed.getLsbD i.val then { laneOf s2.link i.val with retired := true } else laneOf s2.link i.val
  let after : Link := { s2.link with lanes := Vector.ofFn retire }
  let lanes := (List.range 16).filter fun i => failed.getLsbD i
  if (offeredWidth after).1 = 0 then lanes.foldl (fun s i => faultEvent s (BitVec.ofNat 16 (0x6000 + i)) 3) s2
  else lanes.foldl (fun s i => if (laneOf s.link i).retired then faultEvent s (BitVec.ofNat 16 (0x6000 + i)) 3 else retireLane s i) s2

/-- LANE_TEST_END (R488, R489): the test has run for 10 s; `locks` are the lanes that held lock throughout, `errors` the bit
errors of each lane. The test ran at the highest rate trained since power-on; the link then trains again (LINK_TRAINED). -/
def execLaneTestEnd (locks : BitVec 16) (errors : Vector Nat 16) (s : State) : Host.Outcome State Fault Refusal :=
  .next (if s.running && s.link.testBusy then
      let m := s.link.testLanes
      let good : W16 := (List.range 16).foldl (fun g i =>
        if m.getLsbD i && locks.getLsbD i && decide (vget errors i 0 ≤ rateErrors s.link.best) then g ||| BitVec.twoPow 16 i else g) 0
      let s1 := applyLaneTest s good (m &&& ~~~good)
      s1.setLink { s1.link with testBusy := false, tested := m, passed := good }
    else s)

/-- LOOPBACK_TIMEOUT (R489): the host port has not entered Loopback within 24 ms; no lane changes, and the link trains again. -/
def execLoopbackTimeout (s : State) : Host.Outcome State Fault Refusal :=
  .next (if s.running && s.link.testBusy then s.setLink { s.link with testBusy := false, testUnsupported := true } else s)

end Sys2Proof.Machine
end

