-- ==== Sys2Proof/Machine/Management.lean ====
section
/-! DEFINITION. The commands of the management plane: the control loop, management faults, throttling and the mailbox
(14_management_plane). -/

namespace Sys2Proof.Machine
open Sys2Proof

/-- Do something on the Tailstock while it is powered (log entry 7). -/
def onTailstock (s : State) (f : State → State) : State := if s.power.tailstock then f s else s

/-! ### Sensors and throttling (R362-R366) -/

/-- A sensor's default. -/
def noSensor : Sensor := { value := 0, fails := 0, retired := false }

/-- A conversion is good: it did not fail and lies within −40 to 150 degrees C, in 0.125 degree units (R366). -/
def goodReading (r : Option Int) : Bool := match r with | none => false | some v => decide (-320 ≤ v ∧ v ≤ 1200)

/-- Sensor n takes its conversion; a bad one is counted, and the third in a row retires the sensor (R366). -/
def sensorStep (s : State) (n : Nat) (r : Option Int) : State :=
  let x := vget s.mgmt.sensors n noSensor
  if goodReading r then
    s.setMgmt { s.mgmt with sensors := vset s.mgmt.sensors n { x with value := r.getD 0, fails := 0 } }
  else if x.retired then s
  else
    let retire := decide (3 ≤ x.fails + 1)
    let s1 := s.setMgmt { s.mgmt with sensors := vset s.mgmt.sensors n { x with fails := x.fails + 1, retired := retire } }
    let s2 := mgmtFaultEvent s1 (BitVec.ofNat 16 (0xA020 + n)) 1
    if retire then logCrumb s2 (BitVec.ofNat 16 (0xA020 + n)) 3 0x06 else s2

/-- The sensor conversions of a tick are latched. -/
def latchSensors (s : State) (readings : Vector (Option Int) 24) : State :=
  (List.range 24).foldl (fun s n => sensorStep s n (vget readings n none)) s

/-- The highest unretired reading of sensors lo to hi, in whole degrees C rounded toward minus infinity (log entry 25). -/
def highest (m : Mgmt) (lo hi : Nat) : Int :=
  let vs := (List.range (hi + 1 - lo)).filterMap fun i =>
    let x := vget m.sensors (lo + i) noSensor
    if x.retired then none else some (x.value / 8)
  match vs with
  | [] => 0
  | v :: rest => rest.foldl max v

/-- Retired sensors among lo to hi. -/
def retiredCount (m : Mgmt) (lo hi : Nat) : Nat :=
  ((List.range (hi + 1 - lo)).filter fun i => (vget m.sensors (lo + i) noSensor).retired).length

/-- INLET in whole degrees C. -/
def inletC (m : Mgmt) : Int := (vget m.sensors 21 noSensor).value / 8

/-- Whether the mean input power of 10 ticks is at least a number of mW. -/
def powerAtLeast (m : Mgmt) (mw : Nat) : Bool := decide (m.power.length = 10 ∧ 10 * mw ≤ m.power.sum)

/-- The highest level of Table 14.11 whose entry condition holds. -/
def entryLevel (m : Mgmt) : Nat :=
  let t := max (highest m 0 11) (highest m 12 19)
  if 102 ≤ t then 3
  else if 99 ≤ t ∨ 4 ≤ retiredCount m 0 11 then 2
  else if 95 ≤ t ∨ powerAtLeast m 1400000 = true ∨ 45 < inletC m ∨ 0 < retiredCount m 12 19 then 1
  else 0

/-- Whether every exit condition of a level holds (Table 14.11). -/
def exitHolds (m : Mgmt) (level : Nat) : Bool :=
  let t := max (highest m 0 11) (highest m 12 19)
  match level with
  | 1 => decide (t < 92) && !powerAtLeast m 1350000 && decide (inletC m ≤ 45) && decide (retiredCount m 12 19 = 0)
  | 2 => decide (t < 96) && decide (retiredCount m 0 11 < 4)
  | 3 => decide (t < 99)
  | _ => false

/-- The throttle decision of a tick (R363). -/
def throttleDecision (m : Mgmt) : Nat × Nat :=
  let level := m.level.toNat
  let e := entryLevel m
  if level < e then (e, 0)
  else if exitHolds m level then
    if 100 ≤ m.exitTicks + 1 then (level - 1, 0) else (level, m.exitTicks + 1)
  else (level, 0)

/-- The throttle step of a tick, with the threshold event of INLET once per excursion (R363, R364). -/
def throttleStep (s : State) : State :=
  let d := throttleDecision s.mgmt
  let changed := decide (d.1 ≠ s.mgmt.level.toNat)
  let s1 := setLevel (s.setMgmt { s.mgmt with exitTicks := d.2 }) (BitVec.ofNat 2 d.1)
  let s2 := if changed then logCrumb s1 0 0 0x04 else s1
  let v := (vget s2.mgmt.sensors 21 noSensor).value
  let out := decide (v < 160 ∨ 360 < v)
  let s3 := s2.setMgmt { s2.mgmt with inletOut := out }
  if out && !s2.mgmt.inletOut then pldmEvent (mgmtFaultEvent s3 0xA035 0) 21 else s3

/-- The hardware trip (R365, R452). -/
def tripNow (s : State) : State :=
  if s.mgmt.trip then s
  else logCrumb (s.setMgmt { s.mgmt with trip := true, tripN := true, driven := 3 }) 0 0 0x05

/-- Whether some of sensors 0-19 converts at 105 degrees C or above. -/
def overTrip (readings : Vector (Option Int) 24) : Bool :=
  (List.range 20).any fun n => match vget readings n none with | some v => decide (840 ≤ v) | none => false

/-- THERMAL_TRIP (R365): the sensor's conversion at 105 degrees C or above forces level 3. -/
def thermalTrip (s : State) (sensor : Fin 20) (value : Int) : State :=
  onTailstock s fun s =>
    if 840 ≤ value then
      let x := vget s.mgmt.sensors sensor.val noSensor
      tripNow (s.setMgmt { s.mgmt with sensors := vset s.mgmt.sensors sensor.val { x with value := value } })
    else s

def execThermalTrip (sensor : Fin 20) (value : Int) (s : State) : Host.Outcome State Fault Refusal :=
  .next (thermalTrip s sensor value)

/-- TRIP_CLEAR (R365): sensors 0-19 have read below 102 degrees C for 100 ms, with these readings. -/
def tripClear (s : State) (readings : Vector Int 20) : State :=
  onTailstock s fun s =>
    if s.mgmt.trip && ((List.range 20).all fun n => decide (vget readings n 0 < 816)) then
      s.setMgmt { s.mgmt with trip := false, tripN := false, driven := s.mgmt.level }
    else s

def execTripClear (readings : Vector Int 20) (s : State) : Host.Outcome State Fault Refusal := .next (tripClear s readings)

/-! ### Gauge work of a tick (R340, R341, R345) -/

/-- The impedance results of the tick after V200 (Table 13.3). -/
def storeImpedance (s : State) (eepromOk : Bool) : State :=
  let g := s.gauge
  match g.imp, g.record, g.last with
  | .sampled200 v0 v10 v200, some r, some x =>
    let z10 := (v0 - v10 + 1) / 2
    let z200 := (v0 - v200 + 1) / 2
    let g1 := { g with imp := .idle }
    if z200 = 0 ∨ 65534 < z200 then mgmtFaultEvent (s.setGauge g1) 0xA042 1
    else
      let b := min (sInt g / 100) 9
      let t := tempBand x.temp
      let age := max 512 (min 8191 ((1024 * z200 + defaultZ200 b t - 1) / defaultZ200 b t))
      s.setGauge (writeRecord g1 { r with imp := vset r.imp (3 * b + t) (z10, z200), ageRatio := age } eepromOk)
  | .sampled200 _ _ _, _, _ => s.setGauge { g with imp := .idle }
  | _, _, _ => s

/-- S_REP moves toward S_INT by at most 1 every 2,000 ms of tick (R340). -/
def moveRep (g : Gauge) (tick : Nat) : Gauge :=
  if g.estimated && decide (2000 ≤ tick - g.repTick) then
    let i := sInt g
    { g with repTick := tick, sRep := if g.sRep < i then g.sRep + 1 else if i < g.sRep then g.sRep - 1 else g.sRep }
  else g

/-- A residue that has changed is written at most once per hour (R333). -/
def writeResidue (g : Gauge) (tick : Nat) (eepromOk : Bool) : Gauge :=
  match g.record with
  | some r => if g.dirty && decide (3600000 ≤ tick - g.residueTick) then { writeRecord g r eepromOk with residueTick := tick } else g
  | none => g

/-- The gauge update of a tick: results of a test, S_REP, the residue, the energy and the validity latch. -/
def gaugeTick (s : State) (eepromOk : Bool) : State :=
  let s1 := storeImpedance s eepromOk
  let tick := s1.mgmt.tick.toNat
  let g := writeResidue (moveRep s1.gauge tick) tick eepromOk
  setValidLatch (s1.setGauge { g with energy := deliverable g }) (estimateValid g)

/-! ### Status words (Tables 12.2, 13.4, 14.7-14.9) -/

/-- The tick field of a word. -/
def tickField (m : Mgmt) : Nat := m.tick.toNat % 65536 * 2 ^ 32

/-- An Int in w bits, as a number. -/
def intBits (w : Nat) (x : Int) : Nat := (BitVec.ofInt w x).toNat

/-- PC_LIMIT_WORD; LIMIT is 0 after a failed self-test (Table 1.2). -/
def limitWord (s : State) : W64 :=
  let limit := if s.gauge.present && estimateValid s.gauge && !s.mgmt.selftestFailed then dirtyLimit s.gauge.energy else 0
  BitVec.ofNat 64 (limit + 2 ^ 23 * s.gauge.unrested.toNat + 2 ^ 24 * s.gauge.present.toNat + tickField s.mgmt)

/-- HP_PACK_WORD. -/
def packWord (s : State) : W64 :=
  let g := s.gauge
  let temp := match g.last with | some x => x.temp | none => 0
  BitVec.ofNat 64 (min g.energy 65535 + 2 ^ 16 * (g.sRep % 1024) + 2 ^ 26 * g.present.toNat +
    2 ^ 27 * (estimateValid g).toNat + 2 ^ 28 * g.unrested.toNat +
    2 ^ 29 * (decide (g.charge = .constantCurrent ∨ g.charge = .constantVoltage)).toNat +
    2 ^ 30 * (decide (g.imp ≠ .idle)).toNat + tickField s.mgmt + 2 ^ 48 * intBits 8 temp)

/-- MG_THERMAL_WORD; INPUT_POWER in whole watts. -/
def thermalWord (s : State) : W64 :=
  let m := s.mgmt
  let floor := decide (0 < retiredCount m 12 19 ∨ 4 ≤ retiredCount m 0 11)
  BitVec.ofNat 64 (intBits 8 (highest m 0 11) + 2 ^ 8 * intBits 8 (highest m 12 19) + 2 ^ 16 * intBits 8 (inletC m) +
    2 ^ 24 * m.driven.toNat + 2 ^ 26 * m.trip.toNat + 2 ^ 27 * floor.toNat + tickField m +
    2 ^ 48 * (m.power.headD 0 / 1000 % 65536))

/-- MG_DRIVE_WORD. -/
def driveWord (s : State) : W64 :=
  let bits := (List.range 8).foldl (fun a q =>
    let p := vget s.mgmt.polls q { fails := 0, responds := false, smartWarn := false, tempWarn := false, reply := 0 }
    a + 2 ^ (4 * q) * (p.responds.toNat + 2 * p.smartWarn.toNat + 4 * p.tempWarn.toNat)) 0
  BitVec.ofNat 64 (bits + tickField s.mgmt)

/-- Management faults in the current 24 h window (Table 14.9). -/
def faultsInWindow (m : Mgmt) : Nat := (m.faultTicks.filter fun t => (m.tick - t).toNat ≤ 86400000).length

/-- MG_HEALTH_WORD. -/
def healthWord (s : State) : W64 :=
  let m := s.mgmt
  BitVec.ofNat 64 (min (faultsInWindow m) 3 + 4 * m.assureLock.toNat + 8 * m.selftestOk.toNat + 16 * m.overruns.toNat +
    2 ^ 16 * m.resets.toNat + tickField m + 2 ^ 48 * (retiredCount m 0 23 % 32))

/-- The publish step: the words in the order of Table 14.6, then the watchdog (R360). -/
def publishStep (s : State) : State :=
  let s1 := publishWord s 0 (limitWord s)
  let s2 := publishWord s1 1 (packWord s1)
  let s3 := publishWord s2 2 (thermalWord s2)
  let s4 := publishWord s3 3 (driveWord s3)
  wdogRefresh (publishWord s4 4 (healthWord s4))

/-! ### The service step of a tick -/

/-- The 4 KiB snapshot record (Table 14.16). -/
def snapshotBytes (s : State) : List Byte :=
  let m := s.mgmt
  let crumb (c : Crumb) : List Byte := natToBytes (crumbBits c) 16
  let newest := (m.crumbs.drop (m.crumbs.length - 192)).flatMap crumb
  let pack : List Byte :=
    match s.gauge.record with
    | none => List.replicate 256 0
    | some r =>
      withCrc <| natToBytes 0x53325048 4 ++ natToBytes r.version 1 ++ natToBytes r.chem 1 ++ natToBytes r.designCap 2 ++
        (r.serial ++ List.replicate 16 0).take 16 ++ natToBytes r.writeSeq 4 ++ natToBytes r.fcc 2 ++
        natToBytes r.ageRatio 2 ++ natToBytes r.cycles 4 ++ natToBytes r.residue 4 ++
        (r.imp.toList.flatMap fun (z : Nat × Nat) => natToBytes z.1 2 ++ natToBytes z.2 2) ++ List.replicate 92 (0 : Byte)
  (natToBytes 0x504E5354 4 ++ natToBytes m.tick.toNat 4 ++ (m.words.toList.flatMap fun (w : W64) => natToBytes w.toNat 8) ++
    natToBytes m.crumbCount.toNat 4 ++ natToBytes m.faultCounter 4 ++ natToBytes m.overruns.toNat 2 ++ List.replicate 6 (0 : Byte) ++
    natToBytes (m.ffr.getD 0).toNat 64 ++ (m.sensors.toList.flatMap fun (x : Sensor) => natToBytes (intBits 16 x.value) 2) ++
    ((m.rails.flatMap fun (v : W32) => natToBytes v.toNat 4) ++ List.replicate 80 (0 : Byte)).take 80 ++ pack ++
    (m.polls.toList.flatMap fun (p : NvmePoll) => natToBytes p.reply.toNat 8) ++ List.replicate 448 (0 : Byte) ++ newest ++
    List.replicate 3072 (0 : Byte)).take 4096

/-- Cut a DATA stream into messages of at most 52 bytes (Table 14.12). -/
def dataMsgs (seq : Nat) : Nat → Nat → List Byte → List MboxMsg
  | 0, _, _ => []
  | fuel + 1, off, bs =>
    if bs = [] then [] else mkMsg 0x02 0 seq 0 0 (natToBytes off 4 ++ bs.take 52) :: dataMsgs seq fuel (off + 52) (bs.drop 52)

/-- The reply to a request, kept in the retained region, and sent (R370). FW operations carry FW_STATUS (R414). -/
def replyOp (s : State) (o : JOp) (status code : Nat) : State :=
  let fw := decide (0x58 ≤ o.opcode.toNat ∧ o.opcode.toNat ≤ 0x5A)
  let m := mkMsg 0x81 o.opcode.toNat o.seq.toNat status code (if fw then natToBytes (fwStatus s.firmware).toNat 8 else [])
  sendDp (s.setMgmt { s.mgmt with jop := none, retainedReply := some (o.seq, m) }) m

/-- TELEMETRY_SNAPSHOT is taken at a tick's service step (R377): its DATA, then its reply. -/
def serveSnapshot (s : State) : State :=
  match s.mgmt.jop with
  | some o =>
    if o.opcode = 0x60 then
      let msgs := dataMsgs o.seq.toNat 80 0 (snapshotBytes s)
      replyOp (s.setMgmt { s.mgmt with outbox := s.mgmt.outbox ++ msgs }) o 0 0
    else s
  | none => s

/-- DP_ALERT is recorded in the Breadcrumb log at the next tick (R15). -/
def logDpAlert (s : State) : State :=
  if s.mgmt.dpAlert then logCrumb (s.setMgmt { s.mgmt with dpAlert := false }) 0 0 0x07 else s

/-- A failed self-test is reported at the next tick, and a management reset requested (Table 14.3). -/
def reportSelftest (s : State) : State :=
  if s.mgmt.selftestFailed then
    let s1 := writeFfr (logCrumb (sendDp s (assureNoticeMsg false)) 0xA003 3 0x02) 0xA003 3 0x02
    s1.setMgmt { s1.mgmt with selftestFailed := false, resetAsked := true }
  else s

/-- The image entered by the boot monitor takes over its registers before its first tick (R410, R355). -/
def handOver (s : State) : State :=
  let r := s.jiman.regs
  let w := bootWinner s.firmware
  let h := slotHeader s.firmware w.active
  if s.mgmt.resetting && decide (r.pc.toNat < 0x1000) then
    s.setJiman { s.jiman with regs := { r with
      fpg := w.active, vb := BitVec.ofNat 14 ((slotBase w.active + hfld h 20 2) / 8),
                     pc := BitVec.ofNat 17 (slotBase w.active + hfld h 16 4) } }
  else s

/-- A management reset completes at the first publish step with a self-test passed since it began (R355): RESET_NOTICE goes
out, and HOLD_ASSURE may rise. -/
def completeMgmtReset (s : State) : State :=
  if s.mgmt.resetting && s.mgmt.selftestOk then
    let s1 := logCrumb (s.setMgmt { s.mgmt with resetting := false, riseDue := assureHolds s }) 0 0 0x01
    let s2 := sendDp s1 (resetNoticeMsg s1)
    if assureHolds s then s2 else sendDp s2 (assureNoticeMsg false)
  else s

/-- Register writes received take effect (R347, R501). -/
def applyWrites (s : State) : State :=
  let s1 := match s.mgmt.hpCmd with
    | none => s
    | some v =>
      (s.setGauge { s.gauge with testAsked := s.gauge.testAsked || v.getLsbD 0, inhibit := v.getLsbD 1 }).setMgmt
        { s.mgmt with hpCmd := none }
  if s1.mgmt.ffrCmd then s1.setMgmt { s1.mgmt with ffrCmd := false, ffr := none } else s1

/-- What the tick handler does, up to and past its publish step (Table 14.5). -/
def tickHandler (s : State) (retainedOk eepromOk : Bool) : State :=
  if s.firmware.recovery then s
  else
    let s1 := throttleStep (gaugeTick (applyWrites (handOver s)) eepromOk)
    let s2 := completeMgmtReset (publishStep s1)
    let s3 := serveSnapshot (logDpAlert (reportSelftest s2))
    if s3.mgmt.resetAsked then mgmtReset s3 retainedOk else s3

/-- The tick is raised: the Jiman tick advances, line 0 is raised and the conversions are latched (R360, R362, R365). -/
def raiseTick (s : State) (readings : Vector (Option Int) 24) (power : Nat) (rails : List W32) : State :=
  let s1 := latchSensors (raiseLine (s.setMgmt { s.mgmt with tick := s.mgmt.tick + 1 }) 0) readings
  let s2 := s1.setMgmt { s1.mgmt with power := (power :: s1.mgmt.power).take 10, rails := rails.take 20 }
  if overTrip readings then tripNow s2 else s2

/-- CONTROL_LOOP_TICK (R360, R361). `publish` says whether the handler reaches its publish step before the next tick; a tick
raised while the previous one has not is held, one deep, and a further one is lost. -/
def controlLoopTick (s : State) (publish : Bool) (readings : Vector (Option Int) 24) (power : Nat) (rails : List W32)
    (retainedOk eepromOk : Bool) : State :=
  onTailstock s fun s =>
    let busy := s.mgmt.tickRunning
    let held := s.mgmt.tickHeld
    let s1 := raiseTick s readings power rails
    let s2 :=
      if busy && !held then logCrumb (s1.setMgmt { s1.mgmt with tickHeld := true, overruns := satInc s1.mgmt.overruns }) 0 0 0x03
      else s1
    if publish then
      let s3 := tickHandler (s2.setMgmt { s2.mgmt with tickRunning := false }) retainedOk eepromOk
      if s3.mgmt.tickHeld then tickHandler (s3.setMgmt { s3.mgmt with tickHeld := false }) retainedOk eepromOk else s3
    else s2.setMgmt { s2.mgmt with tickRunning := true }

def execControlLoopTick (publish : Bool) (readings : Vector (Option Int) 24) (power : Nat) (rails : List W32)
    (retainedOk eepromOk : Bool) (s : State) : Host.Outcome State Fault Refusal :=
  .next (controlLoopTick s publish readings power rails retainedOk eepromOk)

/-! ### Management faults (R356-R359) -/

/-- COMPARATOR_SELFTEST (R357): the injected difference is reported, or the comparator is silent. In lockout the comparator
reports a standing mismatch and scores nothing (R359). -/
def comparatorSelftest (s : State) (pass : Bool) : State :=
  onTailstock s fun s =>
    let s1 := s.setMgmt { s.mgmt with selftestNo := s.mgmt.selftestNo + 1 }
    if s.mgmt.assureLock then s1
    else if pass then s1.setMgmt { s1.mgmt with selftestOk := true }
    else
      let s2 := countFault (s1.setMgmt { s1.mgmt with selftestOk := false, selftestFailed := true })
      mgmtFaultEvent (assureFall s2) 0xA003 3

def execComparatorSelftest (pass : Bool) (s : State) : Host.Outcome State Fault Refusal := .next (comparatorSelftest s pass)

/-- LOCKSTEP_MISMATCH (R358); in lockout the standing mismatch gates nothing and resets nothing (R359). -/
def lockstepMismatch (s : State) (retainedOk : Bool) : State :=
  onTailstock s fun s => if s.mgmt.assureLock then s else mgmtFault s 0xA000 retainedOk

def execLockstepMismatch (retainedOk : Bool) (s : State) : Host.Outcome State Fault Refusal :=
  .next (lockstepMismatch s retainedOk)

/-- WATCHDOG_TIMEOUT (R358). -/
def execWatchdogTimeout (retainedOk : Bool) (s : State) : Host.Outcome State Fault Refusal :=
  .next (onTailstock s fun s => mgmtFault s 0xA001 retainedOk)

/-- HOLD_ASSURE_FALL (R17): HOLD_ASSURE falls and ASSURE with it. -/
def execHoldAssureFall (s : State) : Host.Outcome State Fault Refusal := .next (assureFall s)

/-- HOLD_ASSURE_RISE (R16): it rises at the completion of a management reset with every condition true. -/
def holdAssureRise (s : State) : State :=
  if s.power.tailstock && s.mgmt.riseDue && assureHolds s && !s.mgmt.resetting then
    let s1 := s.setMgmt { s.mgmt with holdAssure := true, riseDue := false }
    sendDp (logCrumb (s1.setCache { s1.cache with assureFell := none }) 0 0 0x09) (assureNoticeMsg true)
  else s

def execHoldAssureRise (s : State) : Host.Outcome State Fault Refusal := .next (holdAssureRise s)

/-- STATUS_WORD_STALE (R14): the dirty limit reads 0 from now on. -/
def statusWordStale (s : State) : State :=
  limitFell (s.setMgmt { s.mgmt with stale := true }) s.limit

def execStatusWordStale (s : State) : Host.Outcome State Fault Refusal := .next (statusWordStale s)

/-- NVME_MI_POLL (R374): `reply` holds the critical warning, the temperature warning and the reply bytes, or nothing where
the port did not answer; three failures in a row clear RESPONDS. -/
def nvmeMiPoll (s : State) (port : Fin 8) (reply : Option (Bool × Bool × W64)) : State :=
  onTailstock s fun s =>
    let old := vget s.mgmt.polls port.val { fails := 0, responds := false, smartWarn := false, tempWarn := false, reply := 0 }
    let new : NvmePoll := match reply with
      | some (w, t, r) => { fails := 0, responds := true, smartWarn := w, tempWarn := t, reply := r }
      | none => { old with fails := old.fails + 1, responds := old.responds && decide (old.fails + 1 < 3) }
    let s1 := s.setMgmt { s.mgmt with polls := vset s.mgmt.polls port.val new }
    if decide (old.responds ≠ new.responds) || decide (old.smartWarn ≠ new.smartWarn) || decide (old.tempWarn ≠ new.tempWarn)
    then logCrumb s1 0 0 0x0B else s1

def execNvmeMiPoll (port : Fin 8) (reply : Option (Bool × Bool × W64)) (s : State) : Host.Outcome State Fault Refusal :=
  .next (nvmeMiPoll s port reply)

/-! ### Messages to the Jiman (R367-R370) -/

/-- Deliver the message in the Jiman's buffer, or the next to be sent, if it is of a kind; the buffer is then free. -/
def deliverToMg (s : State) (kind : Nat) (f : State → MboxMsg → State) : State :=
  let s1 := pumpToMg s
  match s1.mgmt.toMg with
  | none => s1
  | some m => if msgKind m = kind ∧ s1.power.tailstock ∧ ¬ s1.mgmt.resetting then f (mbxTake s1) m else s1

/-- FW_ACTIVATE at the Jiman (R413). -/
def jimanActivate (s : State) (o : JOp) : State :=
  match activateCheck s.firmware s.jiman.flash with
  | some c => replyOp s o (if c = 0x24 then 0x12 else 0x13) c
  | none =>
    let s1 := s.setFirmware (activate (writeHeader s.firmware))
    let s2 := logCrumb (replyOp s1 o 0 0) 0 0 0x0C
    s2.setMgmt { s2.mgmt with replyReset := true }

/-- FW_CONFIRM at the Jiman (R415). -/
def jimanConfirm (s : State) (o : JOp) : State :=
  let wd := (o.body.headD 0).getLsbD 0
  if confirmRefused s.firmware wd then replyOp s o 0x12 0x24
  else logCrumb (replyOp (s.setFirmware (confirm s.firmware wd)) o 0 0) 0 0 0x0C

/-- The Jiman receives a request: a SEQ already completed is answered with its stored reply (R370). -/
def receiveRequest (s : State) (m : MboxMsg) : State :=
  let o : JOp := { opcode := m.extractLsb' 8 8, seq := BitVec.ofNat 16 (fld m 2 2), body := msgPayload m, data := [] }
  match s.mgmt.retainedReply with
  | some (q, r) =>
    if q = o.seq then sendDp s r
    else if o.opcode = 0x59 then jimanActivate s o
    else if o.opcode = 0x5A then jimanConfirm s o
    else s.setMgmt { s.mgmt with jop := some o }
  | none =>
    if o.opcode = 0x59 then jimanActivate s o
    else if o.opcode = 0x5A then jimanConfirm s o
    else s.setMgmt { s.mgmt with jop := some o }

def execOpRequest (s : State) : Host.Outcome State Fault Refusal := .next (deliverToMg s 1 receiveRequest)

/-- The Jiman receives image bytes; with the whole piece there, it stages it and replies (R412). -/
def receiveData (s : State) (m : MboxMsg) : State :=
  match s.mgmt.jop with
  | none => s
  | some o =>
    if o.opcode ≠ 0x58 ∨ o.seq ≠ BitVec.ofNat 16 (fld m 2 2) ∨ fld m 8 4 ≠ o.data.length then s
    else
      let len := bytesToNat ((o.body.drop 20).take 4)
      let data := o.data ++ (((msgPayload m).drop 4).take (min 52 (len - o.data.length)))
      if data.length < len then s.setMgmt { s.mgmt with jop := some { o with data := data } }
      else
        let p := stagePiece s.firmware s.jiman.flash false (bytesToNat ((o.body.drop 16).take 4)) data
        replyOp ((s.setFirmware p.1).setJiman { s.jiman with flash := p.2 }) { o with data := data } 0 0

/-- REG_WRITE at the Jiman: the write takes effect at its next tick (R501). -/
def receiveReg (s : State) (m : MboxMsg) : State :=
  let v := BitVec.ofNat 32 (fld m 8 4)
  if fld m 12 1 = 1 then
    s.setMgmt { s.mgmt with ffrCmd := true, latchFfr := if s.mgmt.latchFfr = some v then none else s.mgmt.latchFfr }
  else s.setMgmt { s.mgmt with hpCmd := some v, latchHp := if s.mgmt.latchHp = some v then none else s.mgmt.latchHp }

def execRegWrite (s : State) : Host.Outcome State Fault Refusal := .next (deliverToMg s 3 receiveReg)

/-- ALERT at the Jiman: it is logged (R472); a failed link training has an event of its own. -/
def receiveAlert (s : State) (m : MboxMsg) : State :=
  let loc := BitVec.ofNat 16 (fld m 8 2)
  logCrumb s loc (BitVec.ofNat 8 (fld m 10 1)) (if loc = 0x6100 ∧ fld m 10 1 = 3 then 0x0D else 0x07)

def execAlert (s : State) : Host.Outcome State Fault Refusal := .next (deliverToMg s 4 receiveAlert)

/-! ### Messages to the queue engine -/

/-- The message in the queue engine's buffer, or the next to be sent, if it is of a kind. -/
def withToDp (s : State) (kind : Nat) (f : State → MboxMsg → State) : State :=
  let s1 := pumpToDp s
  match s1.mgmt.toDp with
  | none => s1
  | some m => if msgKind m = kind ∧ s1.running then f s1 m else s1

/-- The queue engine clears TO_DP_FULL. -/
def dpTake (s : State) : State := s.setMgmt { s.mgmt with toDp := none }

/-- The waiting management operation that a SEQ names. -/
def mgmtOpOf (s : State) (m : MboxMsg) : Option MgmtOp :=
  s.mgmt.ops.find? fun q => q.seq = BitVec.ofNat 16 (fld m 2 2)

/-- Snapshot bytes at the queue engine: written to DST (Table 14.13). -/
def takeData (s : State) (m : MboxMsg) : State :=
  match mgmtOpOf s m with
  | none => dpTake s
  | some q =>
    match s.op q.entry with
    | none => dpTake s
    | some o =>
      let off := fld m 8 4
      let data := ((msgPayload m).drop 4).take (min 52 (4096 - off))
      let ag : Agent := { who := .op o.order, pasid := none, reach := [.kernels, .host], loc := 0x5010, relaxed := false, ecc := [] }
      match busWriteAll s ag (fld o.desc 16 6 + off) data with
      | (n, .ok _ s1) =>
        dpTake (saveOp s1 q.entry { o with progress := off + data.length, flush := noteWrite s1 o.flush (fld o.desc 16 6 + off) n })
      | (_, .wait s1) => s1
      | (n, .fail st c s1) =>
        let s2 := dpTake (s1.setMgmt { s1.mgmt with ops := s1.mgmt.ops.filter fun x => x.seq ≠ q.seq })
        let o1 := { o with progress := off + n, flush := noteWrite s1 o.flush (fld o.desc 16 6 + off) n }
        finishOp (saveOp s2 q.entry o1) q.entry (Result.fault st c 0x5010 (fld o.desc 16 6 + off + n) (off + n))

/-- DATA (R367): one message of image bytes to the Jiman, or of snapshot bytes to the queue engine. -/
def execMbxData (toJiman : Bool) (s : State) : Host.Outcome State Fault Refusal :=
  .next (if toJiman then deliverToMg s 2 receiveData else withToDp s 2 takeData)

/-- OP_REPLY at the queue engine: the operation completes with its status; FW_STATUS is copied (R113, R414). FW_ACTIVATE's
reply taken, the Jiman requests a management reset (R413). -/
def takeReply (s : State) (m : MboxMsg) : State :=
  let s0 := dpTake s
  let s1 := if s0.mgmt.replyReset ∧ fld m 1 1 = 0x59 then
      s0.setMgmt { s0.mgmt with replyReset := false, resetAsked := true } else s0
  match mgmtOpOf s1 m with
  | none => s1
  | some q =>
    let s2 := s1.setMgmt { s1.mgmt with ops := s1.mgmt.ops.filter fun x => x.seq ≠ q.seq }
    let s3 := if 0x58 ≤ fld m 1 1 ∧ fld m 1 1 ≤ 0x5A then
        s2.setFirmware { s2.firmware with status := BitVec.ofNat 64 (fld m 8 8) } else s2
    finishOp s3 q.entry (if fld m 4 1 = 0 then Result.ok else
      Result.refused (BitVec.ofNat 8 (fld m 4 1)) (BitVec.ofNat 8 (fld m 5 1)))

def execOpReply (s : State) : Host.Outcome State Fault Refusal := .next (withToDp s 0x81 takeReply)

/-- ASSURE_NOTICE (R369): MG_STATE.ASSURE takes its value while HOLD_ASSURE is high. -/
def takeAssure (s : State) (m : MboxMsg) : State := setAssure (dpTake s) ((fld m 8 1).testBit 0 && s.mgmt.holdAssure)

def execAssureNotice (s : State) : Host.Outcome State Fault Refusal := .next (withToDp s 0x83 takeAssure)

/-- RESET_NOTICE (R370, R408, R414, R440): requests without a reply are sent again, FW_STATUS and the revocation bits are
taken, and the first notice of a start brings the settings image. -/
def takeNotice (s : State) (m : MboxMsg) : State :=
  let s0 := dpTake s
  let s1 := s0.setMgmt { s0.mgmt with awaitNotice := false, ops := s0.mgmt.ops.map fun q => { q with sent := false, offset := 0 } }
  let f := s1.firmware
  s1.setFirmware { f with
    status := BitVec.ofNat 64 (fld m 8 8)
    ohmimRevoked := f.ohmimRevoked ||| BitVec.ofNat 2 (fld m 16 1)
    image := if f.imageTaken then f.image else imageOf m f.inUse.smbus
    imageTaken := true }

/-! ### Jiman port events (R511) -/

/-- MBX_TAKE: the Jiman frees its buffer. -/
def execMbxTake (s : State) : Host.Outcome State Fault Refusal := .next (mbxTake s)
/-- MBX_SEND: the Jiman sends what it wrote to MBX_OUT. -/
def execMbxSend (s : State) : Host.Outcome State Fault Refusal := .next (mbxSend s)
/-- PUB_WRITE: the staged word is published. -/
def execPubWrite (value : W16) (s : State) : Host.Outcome State Fault Refusal := .next (pubWrite s value)
/-- WDOG: the watchdog is refreshed. -/
def execWdog (s : State) : Host.Outcome State Fault Refusal := .next (wdogRefresh s)
/-- FLASH_COMMAND: the flash controller starts an operation. -/
def execFlashCommand (op : FlashOp) (s : State) : Host.Outcome State Fault Refusal := .next (flashStart s op)

/-- FLASH_OPERATION_DONE: the operation completes and raises line 6. -/
def flashDone (s : State) : State :=
  match s.jiman.flashBusy with
  | none => s
  | some _ => raiseLine (s.setJiman { s.jiman with flash := flashResult s.jiman, flashBusy := none }) 6

def execFlashOperationDone (s : State) : Host.Outcome State Fault Refusal := .next (flashDone s)

/-- SIGNATURE_COMMAND (R407): the unit checks the image at its address, in the slot that holds that address. -/
def signatureCheck (s : State) : State :=
  let slot := decide (0x10000 ≤ s.jiman.sigAddr.toNat)
  let f := s.firmware
  let h := if f.session.state ≠ .none ∧ f.session.target = slot then f.session.header else slotHeader f slot
  s.setJiman { s.jiman with sigResult := some (imagePasses f s.jiman.flash slot h) }

def execSignatureCommand (s : State) : Host.Outcome State Fault Refusal := .next (signatureCheck s)
/-- BLOW_REVOKE (R408). -/
def execBlowRevoke (slot : Fin 2) (s : State) : Host.Outcome State Fault Refusal := .next (blowRevoke s slot.val)

/-- ONESHOT_TIMER_EXPIRY: a loaded timer runs out and raises line 7. -/
def oneshotExpiry (s : State) : State :=
  if s.jiman.oneshot = 0 then s else raiseLine (s.setJiman { s.jiman with oneshot := 0 }) 7

def execOneshotTimerExpiry (s : State) : Host.Outcome State Fault Refusal := .next (oneshotExpiry s)

/-- TICK_LO_READ (Table 15.7): a read of TICK_LO into a d-register latches TICK_HI. -/
def execTickLoRead (d : BitVec 3) (s : State) : Host.Outcome State Fault Refusal :=
  .next ((latchTick s).setJiman { (latchTick s).jiman with
    regs := { s.jiman.regs with d := vset s.jiman.regs.d d.toNat (s.mgmt.tick.extractLsb' 0 16) } })

end Sys2Proof.Machine
end

