-- ==== Sys2Proof/Machine/Registers.lean ====
section
/-! DEFINITION. The set-up registers on their two paths, BAR0 and the control window: the value of each 8-byte slot, what a
write does, widths, writers and states (21_setup_registers), and the latches of CK_TIMEBASE (R509). -/

namespace Sys2Proof.Machine
open Sys2Proof

/-! ### Values (Table 21.1) -/

/-- A field value at a bit. -/
def atBit (v lo : Nat) : Nat := v * 2 ^ lo

/-- ID_DEVICE (Table 21.2). -/
def idDevice (s : State) : Nat :=
  0x1F7A + atBit (match s.power.sku with | .om1_384 => 0x0E01 | .om1_192 => 0x0E02) 16 + atBit s.power.revision.toNat 32 +
    atBit (match s.power.sku with | .om1_384 => 48 | .om1_192 => 24) 40

/-- ID_CAPS (Table 21.2). -/
def idCaps (s : State) : Nat :=
  32 + atBit 511 6 + atBit 1023 16 + atBit 255 27 + atBit 7 35 + atBit s.link.cxlMode.toNat 48

/-- The retired lanes as bits. -/
def retiredMask (l : Link) : Nat := ((List.range 16).filter fun i => (laneOf l i).retired).foldl (fun m i => m + 2 ^ i) 0

/-- HL_LANE_STATUS (Table 21.3). -/
def laneStatus (l : Link) : Nat :=
  retiredMask l + atBit l.trained 16 + atBit l.rate.toNat 21 + atBit (l.flit && l.up).toNat 25 + atBit l.inUse.toNat 32

/-- HL_LANE_TEST as read (Table 20.3). -/
def laneTestValue (l : Link) : Nat :=
  l.testLanes.toNat + atBit l.testBusy.toNat 17 + atBit l.testUnsupported.toNat 18 + atBit l.tested.toNat 32 +
    atBit l.passed.toNat 48

/-- OT_OCCUPANCY (Table 4.9). -/
def occupancy (s : State) : Nat :=
  let held := s.opList
  (held.filter fun q => q.1 < 448).length + atBit (held.filter fun q => 448 ≤ q.1).length 16 +
    atBit (held.filter fun q => 448 ≤ q.1 ∧ q.2.sr ≠ 0 ∧ 6 ≤ (s.sr q.2.sr).prio).length 24

/-- Word i of TC_LAUNCH (Table 5.9), 0 while no KERNEL is ready. -/
def launchWord (s : State) (i : Nat) : Nat :=
  match nextLaunch s with
  | none => 0
  | some (kid, o) =>
    let d := o.desc
    match i with
    | 0 => fld d 8 8
    | 1 => fld d 16 2 + atBit (fld d 18 1) 16 + atBit (o.sr % 32 + 32 * (s.sr o.sr).prio) 24 + atBit (fld d 20 4) 32
    | 2 => kid
    | _ => fld d (8 * i) 8

/-- TC_CORE_STATUS (Table 5.8). -/
def coreStatus (s : State) : Nat :=
  let t := s.turner
  t.retained.isSome.toNat + atBit (!t.runningK.isEmpty).toNat 1 + atBit t.cstat.det.toNat 2 + atBit t.locked.toNat 3 +
    atBit (haltCount s % 4) 4 + atBit (decide (t.mode = .halted) || decide (t.mode = .reloading)).toNat 6 +
    atBit t.lastHaltCause.toNat 16

/-- LT_STATUS (Table 7.12). -/
def tileStatus (s : State) : Nat :=
  let l := s.lattice
  let busy (p : Port) : Nat := (l.flight.any fun f => f.holds s.clocks.cclk p).toNat
  let busyA := ((List.range 4).any fun i => l.flight.any fun f => f.holds s.clocks.cclk (.a (Fin.ofNat 4 i))) || stepHolds s
  l.queue.length + atBit l.fault.isSome.toNat 5 + atBit l.fold.toNat 6 + atBit busyA.toNat 7 + atBit (busy .l) 8 +
    atBit (busy .c) 9 + atBit (busy .s) 10 + atBit (busy .d) 11 + atBit l.touched.toNat 20

/-- Word i of LT_TFAULT (Table 7.11). -/
def tileFaultWord (l : Lattice) (i : Nat) : Nat :=
  match l.fault with
  | none => 0
  | some f =>
    match i with
    | 0 => f.instr.word.toNat + atBit f.subcode.toNat 32 + atBit f.port.code 40 + atBit f.instr.owner.toNat 48
    | 1 => f.address.toNat
    | 2 => f.progress
    | 3 => f.instr.ra.toNat
    | 4 => f.instr.rb.toNat
    | _ => f.instr.rc.toNat

/-- Word i of LT_CHUCKn (Table 7.15). -/
def chuckWord (l : Lattice) (n i : Nat) : Nat :=
  let c := vget l.chucks n { loaded := false, scales := false, src := 0, pitch := 0, scaleSrc := 0 }
  match i with
  | 0 =>
    let fmt := (vget l.fmts (8 + n) 3).toNat
    fmt + atBit c.loaded.toNat 4 + atBit (c.scales && isMxFmt fmt).toNat 5 + c.src.toNat / 64 * 64
  | 1 => c.pitch.toNat + atBit (c.scaleSrc.toNat % 2 ^ 32) 32
  | 2 => c.scaleSrc.toNat / 2 ^ 32
  | _ => 0

/-- Eight bytes of a committed table (R225, R227): an identity slot has every A_i = 1.0 and 0 elsewhere. -/
def pwlSlotWord (t : Option Memory) (off : Nat) : Nat :=
  match t with
  | some m => m.readLE off 8
  | none => if 32 ≤ off then 0x3F800000 else 0

/-- SP_RING (Table 9.1). -/
def spRing (p : Spindle) : Nat :=
  p.log2.toNat + p.base.toNat / 4096 * 4096 + atBit p.head.toNat 48 + atBit p.phase.toNat 58

/-- SP_STATUS (Table 9.2). -/
def spStatus (p : Spindle) : Nat :=
  (!p.running.isEmpty).toNat + atBit p.faulted.toNat 1 + atBit p.code.toNat 2 + atBit p.progress.toNat 9 +
    atBit p.faultIndex.toNat 20

/-- Whether a scrub is in progress: a KEEP_SCRUB has started, or a patrol pass over the array is under way (Table 11.4). -/
def scrubbing (s : State) : Bool :=
  (decide (0 < s.keep.patrolNext) && s.power.keepEnabled && s.keep.array.any fun a => !a.isDown) || s.opList.any fun q => decide (q.2.opcode = 0x23) && decide (q.2.phase = .started)

/-- KP_ARRAY_STATUS (Table 11.4). -/
def arrayStatus (s : State) : Nat :=
  let a := s.keep.array
  let get (f : KArray → Nat) : Nat := (a.map f).getD 0
  arrayState s + atBit (get fun x => (decide (x.p = 2)).toNat) 3 + atBit (get fun x => x.chunk256.toNat) 4 +
    atBit (get (·.n)) 5 + atBit (get (·.missingBits)) 9 + atBit s.keep.spares.toNat 17 +
    atBit (get fun x => x.rebuild.isSome.toNat) 25 + atBit (get fun x => (decide (x.resync ≠ []) && (s.power.keepEnabled || x.createResync)).toNat) 26 +
    atBit (scrubbing s).toNat 27 + atBit s.power.keepEnabled.toNat 28

/-- KP_MEMBER_MAP (Table 11.5). -/
def memberMap (s : State) : Nat :=
  match s.keep.array with
  | none => 0
  | some a => (List.range 8).foldl (fun m i =>
      m + atBit ((vget a.ports i none).getD 0 + 8 * (a.present i).toNat) (4 * i)) 0

/-- KP_PORT_STATUS (Table 11.6). -/
def portStatus (s : State) : Nat :=
  (List.range 8).foldl (fun m q =>
    m + atBit ((s.port q).drive.isSome.toNat + 2 * (usableDrive s q).isSome.toNat + 4 * (s.port q).locked.toNat) (4 * q)) 0

/-- KP_PORT_TEST as read (Table 20.4). -/
def portTestValue (s : State) : Nat :=
  s.keep.testPorts.toNat + atBit (portTestBusy s).toNat 9 + atBit s.keep.testTested.toNat 16 + atBit s.keep.testPass.toNat 24

/-- PC_CACHE_STATUS (Table 12.3). -/
def cacheStatus (s : State) : Nat :=
  dirtyUnits s % 2 ^ 23 + atBit (writeThrough s).toNat 23 + atBit (s.limit % 2 ^ 23) 24 + atBit s.mgmt.stale.toNat 47 +
    atBit (assureLow s).toNat 48 + atBit s.cache.forceWt.toNat 49 + atBit (decide (s.limit < 262144)).toNat 50 +
    atBit (decide (s.limit < 16384)).toNat 51

/-- IMAGE as a code (Table 12.9). -/
def ImageState.code : ImageState → Nat
  | .none => 0
  | .awaiting => 1
  | .replaying => 2
  | .stale => 3

/-- PC_VAULT_STATUS (Table 12.9). -/
def vaultStatus (c : Cache) : Nat :=
  c.image.code + atBit c.imageArea.toNat 2 + atBit c.armed.isSome.toNat 3 + atBit (c.armed.getD false).toNat 4 +
    atBit c.unsealedLast.toNat 5 + atBit c.discarded.toNat 6

/-- HP_PACK_INFO (Table 13.5, R344). -/
def packInfo (g : Gauge) : Nat :=
  match g.record with
  | none => 0
  | some r =>
    r.fcc % 65536 + atBit (r.ageRatio % 65536) 16 + atBit (min r.cycles 65535) 32 + atBit (r.chem % 256) 48 +
      atBit (g.eepromRo.contains r.serial).toNat 56 +
      atBit (decide (r.fcc < 280) || decide (2048 < r.ageRatio) || decide (1000 ≤ r.cycles)).toNat 57 +
      atBit (chargeLocked g).toNat 58

/-- The codes of Table 1.8. -/
def ModState.code : ModState → Nat
  | .off => 0
  | .holdup => 1
  | .warm => 2
  | .active => 3
  | .throttled => 4
  | .halted => 5
  | .lockout => 6

/-- MG_STATE (Table 1.9). -/
def mgState (s : State) : Nat :=
  s.power.state.code + atBit (decide (s.clocks.level ≠ 0)).toNat 3 + atBit s.mgmt.assure.toNat 4 +
    atBit s.power.draining.toNat 5 + atBit s.turner.locked.toNat 6 + atBit (imageWaits s).toNat 7

/-- MG_MBX_STATUS (Table 21.7). -/
def mbxStatus (m : Mgmt) : Nat :=
  m.toMg.isSome.toNat + atBit m.toDp.isSome.toNat 1 + atBit m.latchHp.isSome.toNat 2 + atBit m.latchFfr.isSome.toNat 3 +
    atBit (decide (m.ops ≠ [])).toNat 4 + atBit m.awaitNotice.toNat 5

/-- MG_FAULT_CLASSn (Table 19.3). -/
def faultClassValue (f : FaultUnit) (n : Nat) : Nat :=
  let c := vget f.classes (n - 1) { corrected := 0, uncorrected := 0, actions := 0 }
  c.corrected.toNat + atBit c.uncorrected.toNat 16 + atBit c.actions.toNat 32 +
    (if n = 5 then atBit f.alertsLost.toNat 48 else 0)

/-- MG_HBM_REPAIRn (Table 21.7). -/
def hbmRepair (f : FaultUnit) (n : Nat) : Nat :=
  ((f.repairs.filter fun r => r.stack = n).map (·.used)).sum % 65536 + atBit ((List.range 64).any fun pc => pcExhausted f n pc).toNat 16

/-- CK_STATUS (Table 17.1). -/
def ckStatus (c : Clocks) : Nat :=
  c.pllLocked.toNat + atBit c.level.toNat 1 + atBit c.startKind.toNat 3 + atBit c.lockLosses.toNat 16

/-- The slot of the MSI-X table at an offset in it: entry n is its address, then data and vector control. -/
def msixWord (l : Link) (off : Nat) : Nat :=
  let e := vget l.msix (off / 16) { addr := 0, data := 0, mask := true }
  if off % 16 = 0 then e.addr.toNat else e.data.toNat + atBit e.mask.toNat 32

/-- The registers below 0x0005_0000. -/
def lowSlot (s : State) (off : Nat) : Nat :=
  match off with
  | 0x0 => idDevice s
  | 0x8 => s.power.serial.toNat
  | 0x10 => s.power.slotId.toNat + 4 * s.power.trayId.toNat
  | 0x18 => idCaps s
  | 0x10000 => atBit s.link.bar4Base.toNat 30
  | 0x10008 => s.link.winSize.toNat + atBit s.link.winBase.toNat 28
  | 0x10010 => s.link.snoopEvictions.toNat
  | 0x10018 => laneStatus s.link
  | 0x10020 => laneTestValue s.link
  | 0x20000 => s.queue.enable.toNat + atBit s.queue.configErr.toNat 1
  | 0x20008 => s.queue.sr0Config.toNat
  | 0x20010 => s.queue.cr0Config.toNat
  | 0x20018 => s.queue.cr0Detail.toNat
  | 0x20020 => s.queue.event.toNat
  | 0x20028 => s.queue.eventEnable.toNat
  | 0x20030 => s.queue.stoppedRings.toNat
  | 0x30000 => occupancy s
  | 0x40048 => s.turner.doneEpc.toNat
  | 0x40050 => s.turner.tileOwner.toNat
  | 0x40058 => coreStatus s
  | 0x40060 => s.turner.current.getD 0x3FF
  | o =>
    if 0x10100 ≤ o ∧ o < 0x10180 then
      if o % 16 = 0 then (vget s.scale.peerBase ((o - 0x10100) / 16) 0).toNat
      else (vget s.scale.peerLimit ((o - 0x10100) / 16) 0).toNat
    else if 0x40000 ≤ o ∧ o < 0x40040 then launchWord s ((o - 0x40000) / 8)
    else 0

/-- The registers of the Lattice, of finishing and of the Spindle. -/
def latticeSlot (s : State) (off : Nat) : Nat :=
  if off = 0x50000 then tileStatus s
  else if 0x50040 ≤ off ∧ off < 0x50070 then tileFaultWord s.lattice ((off - 0x50040) / 8)
  else if 0x50080 ≤ off ∧ off < 0x50100 then chuckWord s.lattice ((off - 0x50080) / 32) ((off - 0x50080) % 32 / 8)
  else if 0x60000 ≤ off ∧ off < 0x64000 then s.finish.bias.readLE (off - 0x60000) 8
  else if 0x64000 ≤ off ∧ off < 0x64220 then s.finish.stage.readLE (off - 0x64000) 8
  else if off = 0x65000 then atBit s.finish.commitErr.toNat 3
  else if 0x66000 ≤ off ∧ off < 0x68000 ∧ (off - 0x66000) % 0x400 < 544 then
    pwlSlotWord (vget s.finish.pwl ((off - 0x66000) / 0x400) none) ((off - 0x66000) % 0x400)
  else if off = 0x70000 then spRing s.spindle
  else if off = 0x70010 then s.spindle.window.toNat % 2 ^ 64
  else if off = 0x70018 then s.spindle.window.toNat / 2 ^ 64
  else if off = 0x70020 then s.spindle.slotFirst.toNat + atBit s.spindle.slotCount 16
  else if off = 0x70028 then spStatus s.spindle
  else if off = 0x70030 then s.spindle.enable.toNat
  else 0

/-- The registers from the Keep's on. -/
def highSlot (s : State) (off : Nat) : Nat :=
  match off with
  | 0x80000 => arrayStatus s
  | 0x80008 => memberMap s
  | 0x80010 => portStatus s
  | 0x80018 => portTestValue s
  | 0x80020 => s.keep.scrubMismatches.toNat
  | 0x80028 => s.keep.scrubPass.toNat
  | 0x90000 => (vget s.mgmt.words 0 0).toNat
  | 0x90008 => cacheStatus s
  | 0x90010 => s.cache.forceWt.toNat
  | 0x90018 => vaultStatus s.cache
  | 0xA0000 => (vget s.mgmt.words 1 0).toNat
  | 0xA0008 => packInfo s.gauge
  | 0xA0010 => s.mgmt.hpReg.toNat
  | 0xB0000 => mgState s
  | 0xB0008 => (vget s.mgmt.words 2 0).toNat
  | 0xB0010 => (vget s.mgmt.words 3 0).toNat
  | 0xB0018 => (vget s.mgmt.words 4 0).toNat
  | 0xB0028 => mbxStatus s.mgmt
  | 0xC0000 => ckStatus s.clocks
  | 0xC0008 => s.clocks.timebase.toNat
  | 0xD0000 => s.firmware.status.toNat
  | o =>
    if 0xB0108 ≤ o ∧ o < 0xB0150 then faultClassValue s.faults ((o - 0xB0100) / 8)
    else if 0xB0200 ≤ o ∧ o < 0xB0240 then hbmRepair s.faults ((o - 0xB0200) / 8)
    else 0

/-- The value of the 8-byte slot at an offset, on the path of the host or of the Turner (Table 21.1, R498, R502). An offset
that is not assigned reads 0. -/
def regSlot (s : State) (turner : Bool) (off : Nat) : W64 :=
  BitVec.ofNat 64 (
    if off < 0x50000 then lowSlot s off
    else if off < 0x80000 then latticeSlot s off
    else if off < 0x100000 then highSlot s off
    else if turner then 0
    else if 0x03FF0000 ≤ off ∧ off < 0x03FF0400 then msixWord s.link (off - 0x03FF0000)
    else if off = 0x03FF8000 then s.link.pba.toNat
    else 0)

/-- The bytes at an offset, as they stand (R499): a read of any shape without the latch of R509. -/
def regBytes (s : State) (turner : Bool) (off n : Nat) : List Byte :=
  (List.range n).map fun i => (regSlot s turner ((off + i) / 8 * 8)).extractLsb' (8 * ((off + i) % 8)) 8

/-! ### The latches of CK_TIMEBASE (R509) -/

/-- A read of a path: its bytes, and the state with that path's latch. -/
def regRead (s : State) (turner : Bool) (off n : Nat) : List Byte × State :=
  let setLatch (v : Option W32) : State :=
    s.setClocks (if turner then { s.clocks with latchTurner := v } else { s.clocks with latchHost := v })
  let latch := if turner then s.clocks.latchTurner else s.clocks.latchHost
  if off = 0xC0008 ∧ n = 4 then (regBytes s turner off n, setLatch (some (s.clocks.timebase.extractLsb' 32 32)))
  else if off = 0xC000C ∧ n = 4 then
    match latch with
    | some v => (natToBytes v.toNat 4, setLatch none)
    | none => (regBytes s turner off n, s)
  else (regBytes s turner off n, s)

/-- CK_TIMEBASE_READ: a 4-byte read of CK_TIMEBASE, of its low half or of its high half, on the host's path or at S on the
Turner's (R509). The host's read is answered with a completion. -/
def execCkTimebaseRead (host high : Bool) (s : State) : Host.Outcome State Fault Refusal :=
  let off := if high then 0xC000C else 0xC0008
  .next (
    if host then
      if barReachable s then let r := regRead s false off 4; sendHost r.2 (.completion r.1 false) else s
    else if runtimeWrites s then (regRead s true off 4).2 else s)

/-! ### Writes (R499, R502, R507, R508, R510) -/

/-- A slot with the halves that a write covers replaced. -/
def merge (old : W64) (lo hi : Bool) (v : W64) : W64 :=
  (if hi then v.extractLsb' 32 32 else old.extractLsb' 32 32) ++ (if lo then v.extractLsb' 0 32 else old.extractLsb' 0 32)

/-- Bits [hi : lo] of a mask. -/
def maskBits (hi lo : Nat) : W64 := BitVec.ofNat 64 (2 ^ (hi + 1) - 2 ^ lo)

/-- The slots that a WARM-only register occupies are written in WARM alone (Table 21.9). -/
def inWarm (s : State) : Bool := decide (s.power.state = .warm)

/-- A write of HL_SHARED_WINDOW: in WARM, with the HDM decoder not committed, and with the window within HBM for kernels; else
it is ignored (R57, Table 21.9). -/
def writeSharedWindow (s : State) (v : W64) : State :=
  let size := v.extractLsb' 0 9
  let base := v.extractLsb' 28 20
  if inWarm s && !s.link.hdmCommitted && windowOk s.power.sku s.power.keepEnabled size.toNat base.toNat then
    s.setLink { s.link with winSize := size, winBase := base }
  else s

/-- A host write of QE_CONTROL covering ENABLE (R72, R73, R510). -/
def writeQeControl (s : State) (v : W64) : State := if v.getLsbD 0 then enableSet s else enableClear s

/-- A host write of KP_PORT_TEST: PORTS while BUSY = 0, then START (Tables 20.4, 21.9). -/
def writePortTest (s : State) (v : W64) : State :=
  if portTestBusy s then s
  else
    let s1 := s.setKeep { s.keep with testPorts := v.extractLsb' 0 8 }
    if v.getLsbD 8 then portTestStart s1 else s1

/-- A host write of MG_FFR_CLEAR: the confirmation value is latched and sent, any other is dropped (Table 21.7, R501). -/
def writeFfrClear (s : State) (v : W32) : State :=
  if v = 0x46465243 then s.setMgmt { s.mgmt with latchFfr := some v } else s

/-- MG_FFR_CLEAR (R376, R501): the host writes the register. -/
def execMgFfrClear (value : W32) (s : State) : Host.Outcome State Fault Refusal :=
  .next (if barReachable s then writeFfrClear s value else s)

/-- A host write of a slot of the MSI-X table (R92): where it clears a Mask bit the pending message goes out. -/
def writeMsix (s : State) (off : Nat) (lo hi : Bool) (v : W64) : State :=
  let n := off / 16
  let e := vget s.link.msix n { addr := 0, data := 0, mask := true }
  let w := merge (BitVec.ofNat 64 (msixWord s.link off)) lo hi v
  let e1 : MsixEntry :=
    if off % 16 = 0 then { e with addr := w } else { e with data := w.extractLsb' 0 32, mask := w.getLsbD 32 }
  sendPendingVectors (s.setLink { s.link with msix := vset s.link.msix n e1 })

/-- A host write of the halves of a slot (Table 21.1, Writer H; Table 21.9). -/
def hostWrite (s : State) (off : Nat) (lo hi : Bool) (v : W64) : State :=
  let m := merge (regSlot s false off) lo hi v
  let q := s.queue
  if off = 0x10000 then (if inWarm s then s.setLink { s.link with bar4Base := m.extractLsb' 30 18 } else s)
  else if off = 0x10008 then writeSharedWindow s m
  else if off = 0x10020 then (if lo then laneTestWrite s (some (v.extractLsb' 0 16)) (v.getLsbD 16) else s)
  else if 0x10100 ≤ off ∧ off < 0x10180 then
    if !inWarm s then s
    else
      let n := (off - 0x10100) / 16
      s.setScale (if off % 16 = 0 then
          { s.scale with peerBase := vset s.scale.peerBase n (m &&& (3 ||| maskBits 47 12)) }
        else { s.scale with peerLimit := vset s.scale.peerLimit n (m &&& maskBits 47 12) })
  else if off = 0x20000 then (if lo then writeQeControl s v else s)
  else if off = 0x20008 then
    (if inWarm s then s.setQueue { q with sr0Config := m &&& (0x1F ||| maskBits 47 12), sr0Written := true } else s)
  else if off = 0x20010 then
    (if inWarm s then s.setQueue { q with cr0Config := m &&& (0x7FF ||| maskBits 63 48 ||| maskBits 47 12), cr0Written := true } else s)
  else if off = 0x20018 then
    (if inWarm s then s.setQueue { q with cr0Detail := m &&& maskBits 47 12, cr0Written := true } else s)
  else if off = 0x20020 then (if lo then s.setQueue { q with event := q.event &&& ~~~(v.extractLsb' 0 32) } else s)
  else if off = 0x20028 then (if lo then s.setQueue { q with eventEnable := v.extractLsb' 0 32 &&& 0x1FF } else s)
  else if off = 0x80018 then (if lo then writePortTest s v else s)
  else if off = 0x90010 then (if lo then s.setCache { s.cache with forceWt := v.getLsbD 0 } else s)
  else if off = 0xA0010 then (if lo then hpControlWrite s (v.extractLsb' 0 32) else s)
  else if off = 0xB0020 then (if lo then writeFfrClear s (v.extractLsb' 0 32) else s)
  else if 0x03FF0000 ≤ off ∧ off < 0x03FF0400 then writeMsix s (off - 0x03FF0000) lo hi v
  else s

/-- SP_RING, SP_WINDOW and SP_SLOTS are writable (R238). -/
def spWritable (p : Spindle) : Bool := !p.enable && p.running.isEmpty

/-- A write of SP_RING, SP_WINDOW or SP_SLOTS that R238 lets through; SP_RING with a LOG2_SIZE outside 4 to 10 is dropped, and
so is SP_SLOTS with FIRST + COUNT above 4,096 (Tables 9.1, 21.6). -/
def writeSp (p : Spindle) (off : Nat) (m : W64) : Spindle :=
  if off = 0x70000 then
    if 4 ≤ (m.extractLsb' 0 4).toNat ∧ (m.extractLsb' 0 4).toNat ≤ 10 then
      { p with log2 := m.extractLsb' 0 4, base := (m &&& maskBits 47 12).setWidth 48, head := m.extractLsb' 48 10
               phase := m.getLsbD 58 }
    else p
  else if off = 0x70010 then
    { p with window := ((p.window.extractLsb' 64 64 ++ m) : Segment) &&& segMask &&& BitVec.ofNat 128 (2 ^ 112 - 1) }
  else if off = 0x70018 then
    { p with window := ((m ++ p.window.extractLsb' 0 64) : Segment) &&& segMask &&& BitVec.ofNat 128 (2 ^ 112 - 1) }
  else if bitsOf m.toNat 0 12 + bitsOf m.toNat 16 13 ≤ 4096 then
    { p with slotFirst := m.extractLsb' 0 12, slotCount := bitsOf m.toNat 16 13 }
  else p

/-- A write of SP_CONTROL (Table 9.3): ENABLE, then CONTINUE, then CLEAR. -/
def writeSpControl (s : State) (v : W64) : State :=
  let s1 := spEnable s (v.getLsbD 0)
  let s2 := if v.getLsbD 1 then spResume s1 else s1
  if v.getLsbD 2 then spReset s2 else s2

/-- A Turner write at S, through the control window or MTS, of the halves of a slot (Table 21.1, Writer S). -/
def turnerWrite (s : State) (off : Nat) (lo hi : Bool) (v : W64) : State :=
  let m := merge (regSlot s true off) lo hi v
  let t := s.turner
  if off = 0x40040 then (if lo && hi then tcKernelDone s v else s)
  else if off = 0x40048 then s.setTurner { t with doneEpc := m }
  else if off = 0x40050 then
    let k := m.extractLsb' 0 10
    if lo && !(decide (0x200 ≤ k.toNat) && decide (k.toNat ≤ 0x3FE)) then s.setTurner { t with tileOwner := k } else s
  else if off = 0x40060 then (if lo then tcResume s (v.extractLsb' 0 10).toNat else s)
  else if off = 0x50000 then
    if lo then s.setLattice { s.lattice with touched := s.lattice.touched &&& ~~~(v.extractLsb' 20 12) } else s
  else if off = 0x50008 then (if lo then tqControl s (v.getLsbD 0) (v.getLsbD 1) else s)
  else if 0x60000 ≤ off ∧ off < 0x64000 then
    noteTables (s.setFinish { s.finish with bias := s.finish.bias.writeLE (off - 0x60000) 8 m.toNat })
  else if 0x64000 ≤ off ∧ off < 0x64220 then
    s.setFinish { s.finish with stage := s.finish.stage.writeLE (off - 0x64000) 8 m.toNat }
  else if off = 0x65000 then (if lo then pwlCommit s (v.toNat % 8) else s)
  else if off = 0x70000 ∨ off = 0x70010 ∨ off = 0x70018 ∨ off = 0x70020 then
    if spWritable s.spindle then s.setSpindle (writeSp s.spindle off m) else s
  else if off = 0x70030 then (if lo then writeSpControl s v else s)
  else s

/-- A write of 4 or 8 bytes within one slot on a path. -/
def slotWrite (s : State) (turner : Bool) (off : Nat) (data : List Byte) : State :=
  let v := BitVec.ofNat 64 (bytesToNat data * 2 ^ (8 * (off % 8)))
  let lo := decide (off % 8 = 0)
  let hi := decide (off % 8 + data.length = 8)
  if turner then turnerWrite s (off / 8 * 8) lo hi v else hostWrite s (off / 8 * 8) lo hi v

/-- A request longer than a slot, applied slot by slot in ascending order. -/
def slotsWrite : Nat → State → Bool → Nat → List Byte → State
  | 0, s, _, _, _ => s
  | n + 1, s, turner, off, data =>
    if data = [] then s
    else
      let k := min data.length (8 - off % 8)
      slotsWrite n (slotWrite s turner off (data.take k)) turner (off + k) (data.drop k)

/-- A register write of any shape (R499): 4 or 8 bytes, naturally aligned; longer, in whole aligned halves, slot by slot; any
other shape is dropped. -/
def regWrite (s : State) (turner : Bool) (off : Nat) (data : List Byte) : State :=
  let n := data.length
  if n = 4 ∨ n = 8 then (if off % n = 0 then slotWrite s turner off data else s)
  else if 8 < n ∧ off % 4 = 0 ∧ n % 4 = 0 then slotsWrite (n / 8 + 2) s turner off data
  else s

/-- REGISTER_WRITE: the host writes bytes into BAR0 (`turner` false), or the Turner at S through the control window (R499,
R502, R510). -/
def execRegisterWrite (turner : Bool) (offset : BitVec 26) (data : List Byte) (s : State) : Host.Outcome State Fault Refusal :=
  .next (if (if turner then runtimeWrites s else barReachable s) then regWrite s turner offset.toNat data else s)

end Sys2Proof.Machine
end

