-- ==== Sys2Proof/Machine/TurnerMem.lean ====
section
/-! DEFINITION. The Turner's memory accesses: segment checks of a data access, loads and stores as they are performed, the
order of R139, and the frame in which every instruction commits (05_turner_core R126-R143; 06 R165, R176). -/

namespace Sys2Proof.Machine
open Sys2Proof

/-! ### Segments as an access sees them -/

/-- Whether a slot is the Rescue stack: S-bank s7 while RESCUE = 1 (R150). -/
def isRescueSlot (t : Turner) (kBank : Bool) (seg : Nat) : Bool := t.cstat.rescue && !kBank && decide (seg = 7)

/-- Where an access goes: a device address, or an offset in the Rescue stack. -/
inductive Place where
  | dev (a : Nat)
  | rescue (off : Nat)
  deriving DecidableEq, Repr

/-- The exception of a failed check of a data access (R175, Table 5.5): eaddr is the segment offset, or the device address once
it is formed. `access` is 1 for a load, 2 for a store, 3 for a tile instruction. -/
def segExc (f : SegFail) (off : W64) (seg : Nat) (sBank : Bool) (access : Nat) : Exc :=
  let dev := BitVec.ofNat 64 (f.addr.getD 0)
  { cause := f.cause, sub := f.sub, addr := if f.addr.isSome then dev else off, slot := seg, sBank := sBank, access := access
    dev := dev }

/-- The checks of R141 on a data access of n bytes at an offset through a slot of the K bank or of the current level's. The
Rescue stack is not in the device address space: it has no map check. -/
def dataPlace (s : State) (kBank : Bool) (seg : Nat) (need : Need) (off : W64) (n access : Nat) : Except Exc Place :=
  let t := s.turner
  let useK := kBank || !t.cstat.priv
  let sBank := !useK
  if isRescueSlot t useK seg then
    if off.toNat % n ≠ 0 then .error (segExc { cause := 2, sub := 0, addr := none } off seg sBank access)
    else if need = .execute then .error (segExc { cause := 5, sub := need.sub, addr := none } off seg sBank access)
    else if 4096 < off.toNat + n then .error (segExc { cause := 4, sub := 0, addr := none } off seg sBank access)
    else .ok (.rescue off.toNat)
  else
    match segAccess s (t.slot useK seg) need (!t.cstat.priv) t.cstat.det off.toNat n n with
    | .ok a => .ok (.dev a)
    | .bad f => .error (segExc f off seg sBank access)

/-! ### Performing loads and stores -/

/-- The Turner as an agent. -/
def turnerAgent (w : Requester) (p : Option (BitVec 20)) (ecc : List Ecc) : Agent :=
  { who := w, pasid := p, reach := [.kernels, .operand, .spindle, .host], loc := 0x2002, relaxed := false, ecc := ecc }

/-- Whether host accesses go through the L2 (R56, R137): CXL.cache and ATS are enabled in CXL mode, the address lies in no peer
window (10 R261), and the mode is not deterministic. -/
def hostCached (s : State) (a : Nat) : Bool :=
  s.link.cfg.cxlCache && s.link.cfg.atsEnable && s.link.cxlMode && !inPeerWindow s a && !s.turner.cstat.det

/-- Whether an access to a device address is cached (Table 5.3). -/
def isCached (s : State) (a : Nat) : Bool :=
  match s.region a with
  | .kernels => !s.turner.cstat.det
  | .host => hostCached s a
  | _ => false

/-- The bytes of a load with those of an earlier store that is not yet observed put over them (R139). -/
def overlayStore (a : Nat) (bs : List Byte) (b : Nat) (data : List Byte) : List Byte :=
  bs.mapIdx fun i x => if b ≤ a + i ∧ a + i < b + data.length then data.getD (a + i - b) x else x

/-- A load's data with every earlier store put over it, oldest first; a byte of a poisoned register's store brings poison. -/
def overlayAll (earlier : List MemAccess) (a : Nat) (d : LoadData) : LoadData :=
  earlier.foldl (fun d x =>
    match x with
    | .store b data poison _ _ _ _ false =>
      { bytes := overlayStore a d.bytes b.toNat data
        poison := d.poison || (poison && decide (b.toNat < a + d.bytes.length ∧ a < b.toNat + data.length)) }
    | _ => d) d

/-- A load that returns no data: every byte reads 0xFF (R129). -/
def noData (n : Nat) : LoadData := { bytes := List.replicate n 0xFF, poison := true }

/-! ### The caches (R137, R138, log entry 134) -/

/-- The error that a cache of the Turner meets in its copy of a line, counted at that cache: it is corrected, or the line is
fetched again; in a modified line of the L2 an uncorrectable error loses data (R137, 19 R468). -/
def cacheEvent (s : State) (e : Ecc) : State :=
  let a := BitVec.ofNat 64 (64 * e.line)
  match e.unit with
  | .memory => s
  | .l1i => faultEvent s 0x2001 1 a
  | .l1d => faultEvent s 0x2002 1 a
  | .l2 => faultEvent s 0x2003 1 a
  | .l2Modified => faultEvent s 0x2003 (if e.uncorrected then 2 else 1) a

/-- The errors of the caches that an access to a line meets. -/
def cacheEvents (s : State) (ecc : List Ecc) (line : Nat) : State :=
  (ecc.filter fun e => decide (e.line = line ∧ e.unit ≠ .l1i)).foldl cacheEvent s

/-- Whether the L2 loses a modified line in this access. -/
def l2Loses (ecc : List Ecc) (line : Nat) : Bool :=
  ecc.any fun e => decide (e.line = line ∧ e.unit = .l2Modified) && e.uncorrected

/-- The L2 writes a host line back, poisoned where the line holds poison (R130, R137). -/
def writeBackL2 (s : State) (p : Nat × List Byte) : State :=
  let s1 := (s.setHost (s.host.writeN (64 * p.1) p.2)).setLink { s.link with
    l2Host := s.link.l2Host.erase p, l2Poison := s.link.l2Poison.erase p.1 }
  if s.link.l2Poison.contains p.1 then sendHost s1 (.poisonedWrite none (64 * p.1) 64) else s1

/-- Lines of the 4 MiB L2 (R137). -/
def l2Lines : Nat := 65536

/-- The L2 makes room: its least recently used host line goes back to the host when it holds more than it has room for (R137's
corners). -/
def evictL2 (s : State) : State :=
  match s.link.l2Host with
  | [] => s
  | p :: _ => if l2Lines < s.link.l2Host.length then writeBackL2 s p else s

/-- The host line that the L2 holds modified, if it does. -/
def l2Line (s : State) (line : Nat) : Option (Nat × List Byte) := s.link.l2Host.find? fun p => p.1 = line

/-- A load at a host address: from the L2, whose line is then the most recently used, or from the host. A line of which the L2
has lost data goes back to the host poisoned (R137, R138). -/
def loadHost (s : State) (t n : Nat) (lost : Bool) : LoadData × State :=
  match l2Line s (t / 64) with
  | none => ({ bytes := s.host.readN t n, poison := false }, s)
  | some p =>
    let bad := lost || s.link.l2Poison.contains p.1
    let bytes := (p.2.drop (t % 64)).take n
    if lost then
      ({ bytes := bytes, poison := true }, writeBackL2 (s.setLink { s.link with l2Poison := insertNat p.1 s.link.l2Poison }) p)
    else
      ({ bytes := bytes, poison := bad }, s.setLink { s.link with l2Host := s.link.l2Host.erase p ++ [p] })

/-- What the performance of a load comes to. -/
inductive LoadOutcome where
  | data (d : LoadData) (s : State)
  /-- The host refused the translation. -/
  | refused (s : State)
  | wait (s : State)

/-- Perform a load of n bytes at a device address (R129, R137, R139). -/
def performLoad (s : State) (earlier : List MemAccess) (a n : Nat) (pasid : Option (BitVec 20)) (ecc : List Ecc) : LoadOutcome :=
  if s.region a = .control then
    let r := regRead s true (a - 0x800080000000) n
    .data { bytes := r.1, poison := false } r.2
  else if s.region a = .host then
    match translateRead s (turnerAgent (.turner false a) pasid ecc) (a - 0xC00000000000) with
    | .ok t s1 =>
      let r := loadHost (cacheEvents s1 ecc (a / 64)) t n (l2Loses ecc (a / 64))
      .data (overlayAll earlier a r.1) (if r.1.poison && !l2Loses ecc (a / 64) then
        faultEvent r.2 0x2002 2 (BitVec.ofNat 64 a) else r.2)
    | .wait s1 => .wait s1
    | .fail _ _ s1 => .refused s1
  else if isCached s a && l2Loses ecc (a / 64) then
    .data (overlayAll earlier a { bytes := s.dev.readN a n, poison := true }) (markPoison (cacheEvents s ecc (a / 64)) a)
  else
    match busRead (if isCached s a then cacheEvents s ecc (a / 64) else s) (turnerAgent (.turner false a) pasid ecc) a n with
    | .ok bs s1 => .data (overlayAll earlier a { bytes := bs, poison := false }) s1
    | .wait s1 => .wait s1
    | .fail _ _ s1 => .data (overlayAll earlier a { bytes := s1.dev.readN a n, poison := true }) s1

/-- A store into the host line of a host address that the L2 holds, or takes ownership of (R52, R56): the line is then the
most recently used, and holds poison where the register does (R130). -/
def storeL2 (s : State) (t : Nat) (data : List Byte) (poison : Bool) : State :=
  let line := t / 64
  let old := match l2Line s line with
    | some p => p.2
    | none => s.host.readN (64 * line) 64
  let new := old.take (t % 64) ++ data ++ old.drop (t % 64 + data.length)
  evictL2 (s.setLink { s.link with
    l2Host := (s.link.l2Host.filter fun p => p.1 ≠ line) ++ [(line, new)]
    l2Poison := if poison then insertNat line s.link.l2Poison else s.link.l2Poison })

/-- A store of a register to a host address through CXL.io, poisoned where the register is (R130). -/
def storeIo (s : State) (pasid : Option (BitVec 20)) (t : Nat) (data : List Byte) (poison : Bool) : State :=
  sendHost (s.setHost (s.host.writeN t data))
    (if poison then .poisonedWrite (effPasid s pasid) t data.length else .write (effPasid s pasid) t data.length false)

/-- The store of a poisoned register marks its line, where the line can hold a mark: HBM or the operand store (R130, 19 R477). -/
def markStored (s : State) (a : Nat) (poison : Bool) : State :=
  if poison && (decide (s.region a = .kernels) || decide (s.region a = .operand)) then markPoison s a else s

/-- What the performance of a store comes to. -/
inductive StoreOutcome where
  | done (s : State)
  | failed (s : State)
  | wait (s : State)

/-- Perform a store at a device address (R130, R139, R166). -/
def performStore (s : State) (a : Nat) (data : List Byte) (poison : Bool) (pasid : Option (BitVec 20)) (cached : Bool) :
    StoreOutcome :=
  if s.region a = .control then .done (regWrite s true (a - 0x800080000000) data)
  else if s.region a = .host then
    match translate s (turnerAgent (.turner true a) pasid []) (a - 0xC00000000000) true with
    | .ok t s1 =>
      if cached || (l2Line s1 (t / 64)).isSome then .done (storeL2 s1 t data poison) else .done (storeIo s1 pasid t data poison)
    | .wait s1 => .wait s1
    | .fail _ _ s1 => .failed s1
  else
    match busWrite s (turnerAgent (.turner true a) pasid []) a data with
    | .ok _ s1 => .done (noteRingStore (markStored s1 a poison) a data.length)
    | .wait s1 => .wait s1
    | .fail _ _ s1 => .failed s1

/-! ### The order of committed accesses (R139) -/

/-- Whether an access is a load that has not been performed. -/
def MemAccess.unperformed : MemAccess → Bool
  | .load _ _ _ _ _ none => true
  | _ => false

/-- Whether an access is a store. -/
def MemAccess.isStore : MemAccess → Bool
  | .store .. => true
  | .load .. => false

/-- Perform the stores that may be performed, oldest first: none behind a load that has not been performed, or behind a store
that waits or has failed. `kept` are the accesses passed. -/
def drainGo : List MemAccess → List MemAccess → State → State
  | kept, [], s => s.setTurner { s.turner with accesses := kept }
  | kept, x :: rest, s =>
    match x with
    | .load _ _ _ _ _ none => s.setTurner { s.turner with accesses := kept ++ x :: rest }
    | .load _ _ _ _ _ (some _) => drainGo (kept ++ [x]) rest s
    | .store _ _ _ _ _ _ _ true => s.setTurner { s.turner with accesses := kept ++ x :: rest }
    | .store a data poison p cached sl sb false =>
      match performStore s a.toNat data poison p cached with
      | .done s1 => drainGo kept rest (s1.setTurner { s1.turner with storesLeft := s1.turner.storesLeft + 1 })
      | .wait s1 => s1.setTurner { s1.turner with accesses := kept ++ x :: rest }
      | .failed s1 => s1.setTurner { s1.turner with accesses := kept ++ .store a data poison p cached sl sb true :: rest }

/-- Perform the stores that may be performed. -/
def drainStores (s : State) : State := drainGo [] s.turner.accesses s

/-- Whether a load may be performed behind some accesses: after every earlier load and, where either is uncached, after every
earlier store (R139). -/
def mayPerform (earlier : List MemAccess) (cached : Bool) : Bool :=
  earlier.all fun x => !x.unperformed && !(x.isStore && (!cached || (match x with | .store _ _ _ _ c .. => !c | _ => false)))

/-- Whether the result of an outstanding load reserves a register (R128). -/
def Turner.reserved (t : Turner) (r : Nat) : Bool :=
  t.accesses.any fun a => match a with | .load rd .. => decide (rd.toNat = r) | .store .. => false

/-- Loads outstanding: reservations in use, of which there are eight (R128). -/
def Turner.reservations (t : Turner) : Nat := (t.accesses.filter fun a => !a.isStore).length

/-- Write a load's register from its data: sign- or zero-extended, with its poison bit and the load's address (R129, R165). -/
def writeLoad (t : Turner) (rd : Nat) (a : Nat) (k : LoadKind) (d : LoadData) : Turner :=
  let v := bytesToNat d.bytes
  let x : W64 := if k.signed then (BitVec.ofNat (8 * k.width) v).signExtend 64 else BitVec.ofNat 64 v
  let t1 := t.setG rd x
  if d.poison then
    { t1 with gpoison := t1.gpoison ||| BitVec.twoPow 32 rd, poisonAddr := vset t1.poisonAddr rd (BitVec.ofNat 48 a) }
  else t1

/-! ### The frame of an instruction (R126, R146, R176) -/

/-- The core commits instructions. -/
def coreRuns (s : State) : Bool := cclkRuns s && decide (s.turner.mode = .running)

/-- The pending interrupt that would be taken now: the lowest code, at K always, at S while IE = 1 (R146, R173). -/
def pendingInterrupt (t : Turner) : Option Nat :=
  if t.cstat.priv && !t.cstat.ie then none else (List.range 4).find? fun i => t.ipend.getLsbD i

/-- The exception of the oldest store that has failed and that no load waits before (R130). -/
def failedStore : List MemAccess → Option Exc
  | .store a _ _ _ _ sl sb true :: _ =>
    some { cause := 3, sub := 4, addr := a.setWidth 64, slot := sl.toNat, sBank := sb, access := 2, async := true }
  | .load _ _ _ _ _ (some _) :: rest => failedStore rest
  | _ => none

/-- Remove the oldest failed store. -/
def dropFailed : List MemAccess → List MemAccess
  | .store a d p q c sl sb f :: rest => if f then rest else .store a d p q c sl sb f :: dropFailed rest
  | x :: rest => x :: dropFailed rest
  | [] => []

/-- The oldest failed store is given up. -/
def dropStore (s : State) : State :=
  s.setTurner { s.turner with accesses := dropFailed s.turner.accesses, storesLeft := s.turner.storesLeft + 1 }

/-- The asynchronous exceptions that are taken at a commit boundary before anything else: a store that failed, with epc the next
instruction (R130), and a tile fault (07 R203). None where there is none. -/
def takeAsync (s : State) : Option State :=
  match failedStore s.turner.accesses with
  | some x =>
    if s.turner.loadsOut then some s
    else some (takeException (dropStore s) x s.turner.pc)
  | none =>
    if s.lattice.faultPending then
      match s.lattice.fault with
      | none => none
      | some f =>
        if s.turner.loadsOut then some s
        else
          let s1 := s.setLattice { s.lattice with faultPending := false }
          some (takeException s1
            { cause := 9, sub := f.subcode.toNat, addr := f.address.setWidth 64, access := 3, async := true } s.turner.pc)
    else none

/-- What the fetch of the instruction at pc comes to. -/
inductive FetchOutcome where
  | ok (s : State)
  | stall (s : State)
  | exc (s : State) (x : Exc)

/-- The fetch checks of the instruction at pc (R142, R169, R176): alignment, the EXECUTE right and the limit of s0 of the current
level, the map, and poison of its line. eaddr is the target offset (Table 6.8). -/
def fetchCheck (s : State) : FetchOutcome :=
  let t := s.turner
  let pc := t.pc
  match segAccess s (t.slot (!t.cstat.priv) 0) .execute (!t.cstat.priv) t.cstat.det pc.toNat 4 4 with
  | .bad f =>
    .exc s { cause := f.cause, sub := f.sub, addr := pc, sBank := t.cstat.priv, dev := BitVec.ofNat 64 (f.addr.getD 0) }
  | .ok a =>
    let bus (x : Nat) : Exc := { cause := 3, sub := x, addr := pc, sBank := t.cstat.priv }
    if s.region a = .control then .ok s
    else
      let ag := { turnerAgent (.fetch pc.toNat) t.pasid [] with loc := 0x2001 }
      if s.region a = .host then
        match translate s ag (a - 0xC00000000000) false with
        | .ok _ s1 => .ok s1
        | .wait s1 => .stall s1
        | .fail _ _ s1 => .exc s1 (bus 2)
      else
        match busRead s ag a 4 with
        | .ok _ s1 => .ok s1
        | .wait s1 => .stall s1
        | .fail _ _ s1 => .exc s1 (bus 3)

/-- What an instruction comes to once its decode checks have passed. -/
inductive TRes where
  /-- It commits; `cycles` is its count of Table 6.10. -/
  | next (s : State) (cycles : Nat)
  /-- It waits: for a reservation, for memory, for the tile queue. -/
  | stall (s : State)
  /-- It raises an exception with this epc. -/
  | exc (s : State) (x : Exc) (epc : W64)

/-- Continue at an offset. -/
def goto (s : State) (pc : W64) : State := s.setTurner { s.turner with pc := pc }

/-- Continue at the next instruction. -/
def advance (s : State) : State := goto s (s.turner.pc + 4)

/-- A privileged instruction at K raises PRIVILEGE (R144). -/
def privilege (s : State) : Option Exc := if s.turner.cstat.priv then none else some { cause := 8 }

/-- The first poisoned register that an instruction at K reads raises BUS_ERROR 0x03 with DEFERRED (R130). -/
def poisonExc (t : Turner) (reads : List Nat) : Option Exc :=
  if t.cstat.priv then none
  else (reads.find? fun r => t.gpoison.getLsbD r).map fun r =>
    { cause := 3, sub := 3, addr := (vget t.poisonAddr r 0).setWidth 64, deferred := true }

/-- One instruction at pc in the order of R176: asynchronous exceptions at the boundary, fetch checks, its own decode exception,
reservations, poison, then its effect. Where an interrupt is pending that would be taken now, an instruction that raises no
exception waits for the interrupt's entry (R146). In deterministic mode its count of CCLK cycles passes (R135, R179). -/
def turnerRun (s : State) (reads : List Nat) (writes : Option Nat) (decode : State → Option Exc) (body : State → TRes) : State :=
  if !coreRuns s then s
  else
    let s0 := drainStores s
    match takeAsync s0 with
    | some s1 => s1
    | none =>
      match fetchCheck s0 with
      | .exc s1 x => takeException s1 x s1.turner.pc
      | .stall s1 => s1
      | .ok s1 =>
        match decode s1 with
        | some x => takeException s1 x s1.turner.pc
        | none =>
          if (reads ++ writes.toList).any s1.turner.reserved then s1
          else
            match poisonExc s1.turner reads with
            | some x => takeException s1 x s1.turner.pc
            | none =>
              match body s1 with
              | .exc s2 x epc => takeException s2 x epc
              | .stall s2 => s2
              | .next s2 n =>
                if (pendingInterrupt s1.turner).isSome then s1
                else if s1.turner.cstat.det then passTime n s2 else s2

/-- No decode exception. -/
def noExc (_ : State) : Option Exc := none

/-! ### Loads and stores as they commit (R128, R129, R165) -/

/-- A load's entry among the accesses. -/
def pushLoad (s : State) (rd : BitVec 5) (a : Nat) (k : LoadKind) (pasid : Option (BitVec 20)) (cached : Bool)
    (result : Option LoadData) : State :=
  s.setTurner { s.turner with
    accesses := s.turner.accesses ++ [.load rd (BitVec.ofNat 48 a) k pasid cached result], pc := s.turner.pc + 4 }

/-- A load at a device address commits. It is performed now if the order lets it; its register is written now, or, where it
completes out of order, on LOAD_COMPLETION. `late`: it misses the L1D. An error that is decided before commit raises BUS_ERROR
precisely (Table 5.6). -/
def commitLoad (s : State) (rd : BitVec 5) (a : Nat) (k : LoadKind) (late : Bool) (ecc : List Ecc) (x : Exc) : TRes :=
  let t := s.turner
  let cached := isCached s a
  let outOfOrder := !t.cstat.det && (late || !cached)
  let full := decide (8 ≤ t.reservations)
  let wait (s1 : State) : TRes :=
    if full then .stall s else if t.cstat.det then .stall s1 else .next (pushLoad s1 rd a k t.pasid cached none) 8
  if outOfOrder && full then .stall s
  else if !mayPerform t.accesses cached then wait s
  else
    match performLoad s t.accesses a k.width t.pasid ecc with
    | .wait s1 => wait s1
    | .refused s1 =>
      if outOfOrder then .next (pushLoad s1 rd a k t.pasid cached (some (noData k.width))) 8
      else .exc s1 { x with sub := 2 } t.pc
    | .data d s1 =>
      if outOfOrder then .next (pushLoad s1 rd a k t.pasid cached (some d)) 8
      else if d.poison then .exc s1 { x with sub := 3 } t.pc
      else .next (advance (s1.setTurner (writeLoad s1.turner rd.toNat a k d))) 8

/-- A store at a device address through a slot commits, and is performed as soon as it may be; a store to a watched line is
uncached (10 R254), and a host store of the current kernel into a flush range is noted for its completion (R139, 10 R262). -/
def commitStore (s : State) (a : Nat) (data : List Byte) (poison : Bool) (slot : BitVec 3) (sBank : Bool) (cycles : Nat) : TRes :=
  let t := s.turner
  let cached := isCached s a && (watchers s (a / 64)).isEmpty
  let s1 := s.setTurner { t with
    accesses := t.accesses ++ [.store (BitVec.ofNat 48 a) data poison t.pasid cached slot sBank false], pc := t.pc + 4 }
  let s2 := match t.current with
    | none => s1
    | some k => match s1.op k with
      | none => s1
      | some o => if s.region a = .host then s1.setOp k (some { o with flush := noteFlush s1 o.flush (a + data.length - 1) }) else s1
  .next (drainStores s2) cycles

/-- The exception of a bus error at a device address through a slot. -/
def busExc (s : State) (a seg : Nat) (kBank : Bool) (access : Nat) : Exc :=
  { cause := 3, addr := BitVec.ofNat 64 a, slot := seg, sBank := s.turner.cstat.priv && !kBank, access := access }

/-- K = 1 at K raises PRIVILEGE (R165). -/
def kModifier (k : Bool) (s : State) : Option Exc := if k then privilege s else none

/-- A load instruction (R165). -/
def loadRun (s : State) (rd ra : BitVec 5) (seg : BitVec 3) (k : Bool) (disp : BitVec 12) (kind : LoadKind) (late : Bool)
    (ecc : List Ecc) : State :=
  turnerRun s [ra.toNat] (some rd.toNat) (kModifier k) fun s0 =>
    let s1 := (ecc.filter fun e => decide (e.unit = .l1i)).foldl cacheEvent s0
    let off := s1.turner.gr ra.toNat + disp.signExtend 64
    match dataPlace s1 k seg.toNat .read off kind.width 1 with
    | .error x => .exc s1 x s1.turner.pc
    | .ok (.rescue o) =>
      let d : LoadData := { bytes := s1.turner.rescueStack.readN o kind.width, poison := false }
      .next (advance (s1.setTurner (writeLoad s1.turner rd.toNat 0 kind d))) 8
    | .ok (.dev a) => commitLoad s1 rd a kind late ecc (busExc s1 a seg.toNat k 1)

/-- A store instruction of n bytes (R165, R166). -/
def storeRun (s : State) (rs ra : BitVec 5) (seg : BitVec 3) (k : Bool) (disp : BitVec 12) (n : Nat) : State :=
  turnerRun s [ra.toNat, rs.toNat] none (kModifier k) fun s1 =>
    let off := s1.turner.gr ra.toNat + disp.signExtend 64
    let data := natToBytes (s1.turner.gr rs.toNat).toNat n
    match dataPlace s1 k seg.toNat .write off n 2 with
    | .error x => .exc s1 x s1.turner.pc
    | .ok (.rescue o) =>
      .next (advance (s1.setTurner { s1.turner with rescueStack := s1.turner.rescueStack.writeN o data })) 2
    | .ok (.dev a) => commitStore s1 a data (s1.turner.gpoison.getLsbD rs.toNat) seg (s1.turner.cstat.priv && !k) 2

end Sys2Proof.Machine
end

