-- ==== Sys2Proof/Machine/Resets.lean ====
section
/-! DEFINITION. Function-level reset, PERST_N, the loss of the host link and its training (17 R433-R436, R441, Table 17.4; 02 R38,
R66; 03 R101). -/

namespace Sys2Proof.Machine
open Sys2Proof

/-! ### The order of R435 -/

/-- The Turner core is reset, with the modified host lines of the L2 written back first where the link still carries them;
completions that its runtime has asked for are posted, unless a store of the core is lost in the reset: a kernel that succeeded is
then aborted with the other operations (R435 step 2, 02 R52, 05 R154). A halt in progress is still counted (R436). -/
def stopCore (s : State) : State :=
  let s1 := drainStores (if s.turner.mode = .halted then (countHalt s).2 else s)
  let s2 := if s.link.up then writeBackHostLines s1 else s1.setLink { s1.link with l2Host := [], l2Poison := [] }
  let s3 := if s2.turner.accesses.any (·.isStore) then s2.setTurner { s2.turner with done := s2.turner.done.filter fun d => decide (d.status ≠ 0) } else s2
  postDone (coreReset s3)

/-- What an operation completes with that a reset finds unfinished: ABORTED, unless a fault is decided that waits for its flush reads
(03 R101, 10 R262). -/
def abortResult (o : Op) : Result :=
  match o.phase, o.closing with
  | .started, some r => if r.status = 0 then Result.aborted true o.progress else r
  | .started, none => Result.aborted true o.progress
  | _, _ => Result.aborted false 0

/-- Every operation whose status is not decided completes with ABORTED; together they take positions by SR index, then by SEQ (03 R88,
R101). -/
def abortOps (s : State) : State :=
  settle ((finishOrder s).foldl (fun s q =>
    if q.2.phase = .finished then s else decideOp s q.1 (abortResult q.2)) s)

/-- A KEEP_WRITE whose copy has not finished leaves a void extent; the data of the others stays, to be destaged (12 R321,
R329, R435 step 4). -/
def abandonCopies (c : Cache) : Cache :=
  { c with extents := c.extents.map fun e =>
      if e.ready then { e with waiter := none } else { e with void := true, released := true, waiter := none } }

/-- The completion entries of a ring that fit are written (03 R101). -/
def writeFitting (cr : Nat) : Nat → State → State
  | 0, s => s
  | n + 1, s => writeFitting cr n (writeOldest s cr false)

/-- The completion entries that fit into their rings are written while Bus Master Enable is 1 (03 R101). -/
def writeAllFitting (s : State) : State :=
  if s.link.cfg.busMaster then
    (List.range 32).foldl (fun s cr => writeFitting cr (s.cr cr).waiting.length s) (writePendingLines s)
  else s

/-- The state store of the Spindle, zeroed (09 R237). -/
def zeroStateStore (m : Memory) : Memory := m.zero 0x800040000000 0x800041000000

/-- The host link's part of a function-level reset: configuration space but for BAR4's size, the MSI-X table, the translation
cache, HL_SNOOP_EVICTIONS and HL_LANE_TEST (Tables 17.4, 21.1). -/
def clearedLink (l : Link) : Link :=
  { l with
    cfg := { Reset.config with bar4Enc := l.cfg.bar4Enc }
    msix := Reset.link.msix, pba := 0, atc := [], xlatAsked := [], xlatRefused := [], invalidations := [], snoopEvictions := 0, l2Host := [], l2Poison := []
    testLanes := 0, testBusy := false, testUnsupported := false, tested := 0, passed := 0 }

/-- The registers and tables that Table 17.4 clears at a function-level reset; CORE_LOCKED and the halt count are kept. -/
def clearRegisters (s : State) : State :=
  let t := s.turner
  let s1 := s.setTurner { Reset.turner with locked := t.locked, halts := t.halts }
  let s2 := ((s1.setQueue Reset.queue).setScale Reset.scale).setFinish Reset.finish
  let s3 := (s2.setSpindle Reset.spindle).setDev (zeroStateStore s2.dev)
  (s3.setLink (clearedLink s3.link)).setMgmt { s3.mgmt with ops := [] }

/-- The module in WARM: CCLK to the compute blocks is stopped and stacks 1-7 are in self-refresh (R443). -/
def toWarm (s : State) : State :=
  (s.setPower { s.power with state := .warm, draining := false, selfRefresh := true }).setClocks
    { s.clocks with cclkStopped := true }

/-- A function-level reset, in the order of R435. -/
def functionReset (s : State) : State :=
  let s1 := abortOps (stopCore (endScans s))
  let s2 := settleLog (s1.setCache (abandonCopies s1.cache))
  toWarm (clearRegisters (writeAllFitting s2))

/-- A configuration request that has an effect: it reaches a module whose link is up, and before WARM it completes with Request
Retry Status (R441). -/
def onConfig (s : State) (f : State → State) : State :=
  onLink s fun s => if s.power.starting then sendHost s .retry else f s

/-- FUNCTION_LEVEL_RESET: Initiate FLR (Table 17.3). -/
def execFunctionLevelReset (s : State) : Host.Outcome State Fault Refusal := .next (onConfig s functionReset)

/-- POWER_STATE_WRITE (02 R38): D3hot, or D0, whose transition performs a function-level reset; lines that are waited for are
then asked back. -/
def execPowerStateWrite (d3hot : Bool) (s : State) : Host.Outcome State Fault Refusal :=
  .next (onConfig s fun s =>
    let s1 := s.setLink { s.link with cfg := { s.link.cfg with d3hot := d3hot } }
    if s.link.cfg.d3hot && !d3hot then retryHome (functionReset s1) else s1)

/-- The link is lost with input present: the effects of a function-level reset (R66). Requests of the host that waited are lost
with it. -/
def loseLink (s : State) : State := functionReset (s.setLink { linkDown s.link with homeQueue := [] })

/-- LINK_LOSS (02 R66): the link is lost with input present. The loss in a lane test is none (20 R487). -/
def execLinkLoss (s : State) : Host.Outcome State Fault Refusal :=
  .next (onLink s loseLink)

/-! ### PERST_N and the settings image (R435, R440) -/

/-- The link's part of the settings image that the Ohmim holds: BAR4's size, HL_BAR4_BASE for the map, the shared window with
the HDM decoder not committed (01 R23, 02 R40, R41, R57, Table 17.4). -/
def imageLink (l : Link) (x : Settings) : Link :=
  { l with
    cfg := { l.cfg with bar4Enc := x.bar4Enc }
    bar4Base := if x.keepEnabled then 0x10 else 0
    winSize := x.window.extractLsb' 0 9, winBase := x.window.extractLsb' 28 20, hdmCommitted := false, commitError := false }

/-- The link's training state and the sticky AER fields, cleared (Table 17.4); retired lanes are kept. -/
def resetLink (l : Link) : Link :=
  { linkDown l with
    perstDue := false
    lanes := l.lanes.map fun x => { errors := [], due := false, lockFails := 0, retired := x.retired }
    aer := { corr := 0, uncorr := 0, log := none }, margins := Reset.link.margins, cxlMode := false, dir := [], biPending := [], homeQueue := [] }

/-- The held settings image takes effect: the Keep setting and the link's part. -/
def applyImage (s : State) : State :=
  let x := s.firmware.image
  (s.setPower { s.power with keepEnabled := x.keepEnabled }).setLink (imageLink s.link x)

/-- The reset of a PERST_N (R435, R436): the reset of R435, the link, and the settings image; WARM follows when the link has trained
again. A start-up in progress absorbs it: the link then waits for the release. -/
def perstReset (s : State) : State :=
  if s.power.starting then s.setLink (resetLink s.link)
  else
    let s1 := functionReset s
    let s2 := applyImage (s1.setLink (resetLink s1.link))
    s2.setPower { s2.power with starting := true }

/-- PERST_N (R435): the reset starts at once, or, with FCLK stopped, when the data plane goes on after the relock (R427). -/
def execPerstN (s : State) : Host.Outcome State Fault Refusal :=
  let s1 := s.setLink { s.link with perst := true }
  .next (if s.power.hbmFailed then s1
    else if s.running then perstReset s1
    else if s.power.compute && !s.power.pwrLoss then s1.setLink { s1.link with perstDue := true }
    else s1)

/-- PERST_N_DEASSERTION (R441): the release is latched; training may begin. -/
def execPerstNDeassertion (s : State) : Host.Outcome State Fault Refusal := .next (s.setLink { s.link with perst := false })

/-! ### Link training (02 R32-R35, R66) -/

/-- The rate that a training reaches: without a common reference clock not beyond 2.5 GT/s (R33). -/
def trainRate (x : LinkTrain) : BitVec 4 := if x.commonClock || x.rate.toNat = 0 then x.rate else 1

/-- The link trained as the host port and the lanes allow: up with the width, or down. Whether the port accepts lane reversal
shows in the training. A lane that misses symbol lock counts a failed training, one that reaches it none. CXL mode needs FLIT
mode (R33-R35, R54, Table 21.3). -/
def trainLink (l : Link) (x : LinkTrain) : Link :=
  let lane (i : Fin 16) : Lane :=
    let n := laneOf l i.val
    { n with lockFails := if x.noLock.getLsbD i.val then n.lockFails + 1 else 0 }
  let o := offerLanes { l with lanes := Vector.ofFn lane, reversalOk := x.reversal }
  let n := min x.width o.width
  if n = 0 ∨ x.rate = 0 then linkDown o
  else
    { o with
      up := true, trained := n, rate := trainRate x, flit := x.flit, cxlMode := x.cxl && x.flit, recovery := false
      best := if o.best < trainRate x then trainRate x else o.best
      inUse := BitVec.ofNat 16 ((2 ^ n - 1) * 2 ^ (if o.firstLane = 0 then 0 else 16 - n)) }

/-- The start-up or PERST_N in progress ends in WARM (R438 step 11, R441). -/
def completeStart (s : State) : State :=
  if s.power.starting then toWarm (s.setPower { s.power with starting := false }) else s

/-- The link trains, with PERST_N released; a failed training is reported to the management plane (14 Table 14.13). A Recovery
that the device directed ends with the link up over other lanes, or with the link lost (R34, R66). -/
def linkTrained (s : State) (x : LinkTrain) : State :=
  if !s.running || s.power.hbmFailed || s.link.perst || s.link.testBusy || !s.firmware.imageTaken then s
  else
    let l := trainLink s.link x
    if l.up then retryHome (sendPendingVectors (completeStart (s.setLink l)))
    else
      let s1 := if s.link.up then loseLink s else s
      faultEvent (s1.setLink { trainLink s1.link x with homeQueue := s1.link.homeQueue }) 0x6100 3

/-- LINK_TRAINED. -/
def execLinkTrained (x : LinkTrain) (s : State) : Host.Outcome State Fault Refusal := .next (linkTrained s x)

end Sys2Proof.Machine
end

