-- ==== Sys2Proof/Machine/Power.lean ====
section
/-! DEFINITION. Power: input loss and hold-up, the dump's end, the pack's protections, emergency off, the root PLL, start-up and
throttling (17_clocks_power_startup, 18_module_interface, 12 R320-R323, 13 R330, R350, 19 R473-R476). -/

namespace Sys2Proof.Machine
open Sys2Proof

/-! ### What a loss of the compute domains leaves (R321, 19 R476) -/

/-- The bytes of a range of a drive that are each old or new, as free bits say. -/
def tornBytes (s : State) (old new : List Byte) : List Byte :=
  let bits := s.free new.length
  List.zipWith (fun (i : Nat) (p : Byte × Byte) => if bits.getLsbD i then p.2 else p.1) (List.range new.length) (old.zip new)

/-- The outstanding write command of a stripe write to a member, cut short. -/
def tornCommand (s : State) (a : KArray) (w : StripeWrite) (c : DriveCmd) : State :=
  match a.writePort c.member with
  | none => s
  | some q =>
    let pos := a.chunkAddr w.stripe + c.off
    let data := commandData a w c
    (writeMedia s q pos (tornBytes s (readMedia s q pos data.length) data)).tookFree

/-- Every write command that has been issued and has not completed is cut short. -/
def tearWrites (s : State) : State :=
  match s.keep.array with
  | none => s
  | some a =>
    (issuedCommands s a).foldl (fun s1 c =>
      match writeOf s c.1 with
      | some w => if w.writing then tornCommand s1 a w c.2 else s1
      | none => s1) s

/-- What a drive has written without Force Unit Access and not flushed is kept or lost, byte by byte, from the latest write on
(11 R269; log entry 90). -/
def loseUnflushed (s : State) : State :=
  (List.range 8).foldl (fun s q =>
    match (s.port q).drive.or (s.port q).lost with
    | none => s
    | some d =>
      flushDrive (d.unflushed.foldl (fun s u =>
        let now := readMedia s q u.1 u.2.length
        (onDrive s q fun d => { d with media := d.media.writeN u.1 (tornBytes s u.2 now) }).tookFree) s) q) s

/-- The compute domains are shed: drive commands are cut short, data not flushed may be lost, copies that have not finished leave void extents, the rows of
stacks 1-7 and every queued row are forgotten, and the link is down. -/
def shedCompute (s : State) : State :=
  let s1 := loseUnflushed (tearWrites s)
  let s2 := s1.setCache (abandonCopies s1.cache)
  let s3 := s2.setFaults { s2.faults with rows := s2.faults.rows.filter fun t => t.row.stack = 0, retireQueue := [] }
  let s4 := s3.setLink { linkDown s3.link with l2Host := [], l2Poison := [], homeQueue := [], perstDue := false }
  (s4.setMgmt { s4.mgmt with tripN := false }).setPower
    { s4.power with compute := false, drvRefclk := false, selfRefresh := false, draining := false, starting := false }

/-- Nothing is powered (Table 17.2). -/
def unpowered (s : State) : State :=
  let s1 := s.setPower { s.power with state := .off, tailstock := false, retention := false, holdup := false, inputSwitch := false }
  let s2 := s1.setGauge { s1.gauge with fetClosed := false }
  (s2.setMgmt { s2.mgmt with holdAssure := false, assure := false, riseDue := false, tripN := false }).setClocks { s2.clocks with pllLocked := false }

/-- OFF with the Tailstock in retention mode, from the pack (R430). -/
def toRetention (s : State) : State :=
  (s.setPower { s.power with state := .off, retention := true, holdup := false }).setClocks { s.clocks with pllLocked := false }

/-- The pack can carry the hold-up domain. -/
def packPowers (g : Gauge) : Bool := g.present && g.fetClosed

/-- PWR_LOSS: the charger stops and a test is abandoned; sampling is at 64 Hz (13 R335, R337, R341). -/
def gaugeOnLoss (s : State) : State :=
  driveCharger (s.setGauge { abandonTest (pauseCharge s.gauge) s.mgmt.tick.toNat with fast := true, quiet := 0 })

/-- Input is lost (R15, R321, R323, R457, Table 1.10): PWR_LOSS is asserted and the input switch opens. With a pack the module is
in HOLDUP; without one nothing is powered. A power-on in progress that has not armed the vault goes to OFF with the vault as it was; the
retraining after a PERST_N, in WARM, is no such start-up. -/
def inputLost (s : State) : State :=
  let off : Power := { s.power with input := false, inputSwitch := false }
  if !s.power.compute then s.setPower off
  else
    let armed := s.cache.armed.isSome
    let s1 := gaugeOnLoss (shedCompute s)
    let s2 := s1.setPower { s1.power with input := false, inputSwitch := false, pwrLoss := true }
    if !packPowers s.gauge then unpowered (loseDump s2)
    else if s.power.starting && !armed && decide (s.power.state ≠ .warm) then toRetention s2
    else s2.setPower { s2.power with state := .holdup }

/-- PWR_LOSS: input has been below 40 V for 20 us (Table 12.7, Table 18.7). -/
def execPwrLoss (s : State) : Host.Outcome State Fault Refusal := .next (inputLost s)

/-- PWR_PRSNT_N_BREAK (R457). -/
def execPwrPrsntNBreak (s : State) : Host.Outcome State Fault Refusal :=
  .next (inputLost (s.setPower { s.power with present := false }))

/-- INPUT_OVERVOLTAGE (Table 18.7): handled as input loss. -/
def execInputOvervoltage (s : State) : Host.Outcome State Fault Refusal := .next (inputLost s)

/-- RAIL_OUT_OF_LIMITS (R462): treated as input loss. -/
def execRailOutOfLimits (s : State) : Host.Outcome State Fault Refusal := .next (inputLost s)

/-- INPUT_RETURN (R323): input is good again while the module is in HOLDUP or OFF. A dump runs on to its seal. -/
def execInputReturn (s : State) : Host.Outcome State Fault Refusal :=
  .next (if s.power.state = .holdup ∨ s.power.state = .off then s.setPower { s.power with input := true, present := true } else s)

/-! ### The end of a dump, and the pack (R321, R323, 13 R330, R333, R350) -/

/-- The end of a hold-up discharge writes the pack record (13 R333). -/
def endDischarge (s : State) (eepromOk : Bool) : State :=
  match s.gauge.record with
  | some r => s.setGauge (writeRecord s.gauge r eepromOk)
  | none => s

/-- VAULT_SEAL (R321): the SEAL is programmed and logged; with input still absent the module enters OFF. -/
def execVaultSeal (eepromOk : Bool) (s : State) : Host.Outcome State Fault Refusal :=
  .next (if decide (s.power.state = .holdup) && s.cache.dumping && s.clocks.pllLocked then
      let s1 := logCrumb (sealVault s) 0 0 0x0A
      if s.power.input then s1 else toRetention (endDischarge s1 eepromOk)
    else s)

/-- The pack has stopped supplying: in HOLDUP a dump ends unsealed and the module is OFF; in retention mode the Tailstock stops
(Table 1.10, R430, 12 R323). -/
def packStops (s : State) : State :=
  if s.power.compute then s
  else if s.power.state = .holdup then unpowered (loseDump s)
  else if s.power.retention then unpowered s
  else s

/-- PACK_CUTOFF (13 R330): a cell has stayed below 3,000 mV for 1 ms, and the FET opens. -/
def execPackCutoff (s : State) : Host.Outcome State Fault Refusal :=
  .next (if packPowers s.gauge then packStops (s.setGauge { s.gauge with fetClosed := false, cutoff := true }) else s)

/-- PACK_PROTECTION_TRIP (13 R330): overcurrent or overtemperature opens the FET. -/
def execPackProtectionTrip (s : State) : Host.Outcome State Fault Refusal :=
  .next (if packPowers s.gauge then packStops (s.setGauge { s.gauge with fetClosed := false }) else s)

/-- PACK_REMOVAL (13 R350): the estimate is not valid and HOLD_ASSURE falls. -/
def execPackRemoval (s : State) : Host.Outcome State Fault Refusal :=
  .next (if !s.gauge.present then s
    else if !s.power.tailstock then s.setGauge (packGone s.gauge)
    else packStops (logCrumb (assureFall (raiseLine (driveCharger (s.setGauge (packGone s.gauge))) 3)) 0 0 0x08))

/-- HOLDUP_RAIL_LOW (R459's corner): the hold-up slice is dropped and the vault left unsealed; the event is counted and recorded
in the first-fault record. -/
def execHoldupRailLow (s : State) : Host.Outcome State Fault Refusal :=
  .next (if s.power.state = .holdup ∧ s.power.compute = false then
      let s1 := mgmtFaultEvent (loseDump s) 0xA051 3
      toRetention (writeFfr s1 0xA051 3 (s1.free 8))
    else s)

/-! ### Emergency off (R437) -/

/-- EMERGENCY_OFF: the input switch and the pack FET open, every domain loses power, and the latch is set. -/
def execEmergencyOff (s : State) : Host.Outcome State Fault Refusal :=
  let s1 := if s.power.compute then shedCompute s else s
  let s2 := unpowered (loseDump s1)
  .next (s2.setPower { s2.power with epoN := true, epoLatch := true, afterEpo := true, pwrLoss := true })

/-- EPO_LATCH_CLEAR: with EPO_N released, input falls below 20 V and the latch clears. -/
def execEpoLatchClear (s : State) : Host.Outcome State Fault Refusal :=
  .next (if s.power.epoLatch then s.setPower { s.power with epoN := false, epoLatch := false, input := false } else s)

/-! ### Throttling (R444, R445) -/

/-- THROTTLE_REQ_CHANGE (R445): the level driven takes force, and ACTIVE and THROTTLED follow it in the same cycle (Table 1.10). The
event is raised where MG_STATE.THROTTLE, level above 0 or not, changes (03 Table 3.6, 01 Table 1.9). -/
def execThrottleReqChange (s : State) : Host.Outcome State Fault Refusal :=
  .next (if !s.running || decide (s.mgmt.driven = s.clocks.level) then s
    else
      let s1 := s.setClocks { s.clocks with level := s.mgmt.driven }
      let st := s.power.state
      let to_ : ModState := if st = .active ∧ s.mgmt.driven ≠ 0 then .throttled else if st = .throttled ∧ s.mgmt.driven = 0 then .active else st
      let s2 := s1.setPower { s1.power with state := to_ }
      if decide (s.mgmt.driven = 0) = decide (s.clocks.level = 0) then s2 else deviceEvent s2 7)

/-! ### HBM row retirement (19 R474-R476) -/

/-- One more repair used in a pseudo-channel. -/
def useRepair (f : FaultUnit) (r : HbmRow) : FaultUnit :=
  { f with repairs := (f.repairs.filter fun x => !(decide (x.stack = r.stack) && decide (x.pc = r.pc))) ++
      [{ stack := r.stack, pc := r.pc, used := repairsUsed f r.stack r.pc + 1 }] }

/-- A row has been repaired and leaves the queue; a row of the stack that is due takes the free place (R474 and its corner). -/
def leaveQueue (f : FaultUnit) (r : HbmRow) : FaultUnit :=
  let f1 := { f with retireQueue := f.retireQueue.erase r }
  match f1.rows.find? fun t => t.due && decide (t.row.stack = r.stack) with
  | some t => enqueueRow f1 t.row
  | none => f1

/-- First device address of a row: byte 0 of its column 0 (R513). -/
def rowAddress (sku : Sku) (r : HbmRow) : Nat :=
  r.stack * stackBytes sku + (r.row * 64 + r.bank * 4) * 16384 + r.pc * 256

/-- HBM_ROW_RETIREMENT (R474): the first queued row of a stack. `lost` are the lines, by line number, that its reading cannot
correct; `fails`: the programming of the repair fails, and the row stays in service. -/
def execHbmRowRetirement (stack : Fin 8) (lost : List Nat) (fails : Bool) (s : State) : Host.Outcome State Fault Refusal :=
  .next (match s.faults.retireQueue.find? fun r => r.stack = stack.val with
    | none => s
    | some r =>
      if !s.running then s
      else
        let mine := lost.filter fun l => decide (64 * l < hbmEnd s.power.sku ∧ hbmRow s.power.sku (64 * l) = r)
        let s1 := mine.foldl (fun s l => eccEvent s { line := l, uncorrected := true }) s
        if fails || pcExhausted s1.faults r.stack r.pc then
          let a := rowAddress s.power.sku r
          let s2 := faultEvent s1 (memLocation s1 a) 3 (BitVec.ofNat 64 a)
          s2.setFaults (leaveQueue s2.faults r)
        else
          let f := leaveQueue (useRepair s1.faults r) r
          s1.setFaults { f with retired := f.retired ++ [r] })

/-! ### Start-up (R432, R438-R442) -/

/-- A row that fails the test of a start is retired at once; in an exhausted pseudo-channel start-up stops (R438 step 5, R442,
19 R475). -/
def retireAtStart (s : State) (a : Nat) : State :=
  let r := hbmRow s.power.sku a
  if pcExhausted s.faults r.stack r.pc then
    let s1 := faultEvent s (memLocation s a) 3 (BitVec.ofNat 64 a)
    s1.setPower { s1.power with hbmFailed := true }
  else
    let s1 := faultAction s (memLocation s a) 2 (BitVec.ofNat 64 a)
    s1.setFaults { useRepair s1.faults r with retired := s1.faults.retired ++ [r] }

/-- The ports at a start: drives stay in their bays; port lockout, dropouts and errors are cleared, and DRVq_PERST_N is low until
step 9 (R432, R450, 11 R272). A drive that is not ready in time is absent. -/
def startPorts (k : Keep) (late : Byte) : Vector DrivePort 8 :=
  Vector.ofFn fun i =>
    { Reset.drivePort with
      drive := if late.getLsbD i.val then none else (vget k.ports i.val Reset.drivePort).drive, perst := true }

/-- The Ohmim at a power-on: every register of it is at its reset value, HBM and the on-die stores are zero, and the module's
image, vault areas, drives, repairs and retired lanes stay (Table 17.4, R438 steps 3 to 5). -/
def ohmimStart (s : State) (kind : BitVec 2) (e : StartUp) : State :=
  let f := s.faults
  let faults : FaultUnit := { Reset.faults with retired := f.retired, repairs := f.repairs }
  let link : Link := { resetLink (clearedLink s.link) with
    best := 0, perst := s.link.perst, reversalOk := s.link.reversalOk, sent := s.link.sent, dropped := s.link.dropped }
  let cache : Cache := { Reset.cache with area0 := s.cache.area0, area1 := s.cache.area1, resyncUuid := s.cache.resyncUuid }
  let power : Power := { s.power with
    draining := false, starting := true, hbmFailed := e.stackFails, input := true, inputSwitch := true, present := true
    pwrLoss := false, afterEpo := false, tailstock := true, retention := false, holdup := true, compute := true, selfRefresh := true
    drvRefclk := true, slotId := e.slot, trayId := e.tray }
  let clocks : Clocks := { Reset.clocks with startKind := kind, level := s.mgmt.driven }
  let s1 : State := { s with
    clocks := clocks, power := power, link := link, queue := Reset.queue, turner := Reset.turner, lattice := Reset.lattice
    finish := Reset.finish, spindle := Reset.spindle, scale := Reset.scale
    keep := { Reset.keep with ports := startPorts s.keep e.late }, cache := cache, faults := faults, dev := [] }
  e.badRows.foldl retireAtStart s1

/-- A stack that fails is recorded in the first-fault record and reported over PLDM Type 2 (R442). -/
def reportHbm (s : State) : State :=
  if s.power.hbmFailed then pldmEvent (writeFfr s 0x1000 3 (s.free 8)) 0x32 else s

/-- Retired lanes as the settings image names them (02 R34, Table 21.3). -/
def loadLanes (l : Link) (retired : W16) : Link :=
  let lane (i : Fin 16) : Lane := { errors := [], due := false, lockFails := 0, retired := retired.getLsbD i.val }
  offerLanes { l with lanes := Vector.ofFn lane }

/-- Steps 6, 7, 9 and 10 of Table 17.5: the settings image takes effect, the drives leave reset, the array is assembled and the
vault armed. Start-up stops before step 7 where a stack has failed (R442). -/
def afterNotice (s : State) : State :=
  if s.power.hbmFailed then s
  else
    let s1 := applyImage s
    let s2 := s1.setLink (loadLanes s1.link s1.firmware.image.lanes)
    keepStart (s2.setKeep { s2.keep with ports := s2.keep.ports.map fun p => { p with perst := false } })

/-- RESET_NOTICE at the queue engine; the first of a start brings the settings image, and start-up goes on (R438 step 6, R440). -/
def resetNotice (s : State) (m : MboxMsg) : State :=
  let s1 := takeNotice s m
  if s.firmware.imageTaken then s1 else afterNotice s1

/-- RESET_NOTICE. -/
def execResetNotice (s : State) : Host.Outcome State Fault Refusal := .next (withToDp s 0x84 resetNotice)

/-- The management reset of a start completes and its notice arrives, if it does so now; then the link trains, if it does so now. -/
def finishStart (s : State) (e : StartUp) : State :=
  if !e.notice || s.firmware.recovery then s
  else
    let s1 := handOver s
    let s2 := s1.setMgmt { s1.mgmt with selftestNo := s1.mgmt.selftestNo + 1, selftestOk := true }
    let s3 := withToDp (pumpToDp (completeMgmtReset s2)) 0x84 resetNotice
    match e.train with
    | some x => linkTrained s3 x
    | none => s3

/-- The Tailstock of a cold power-on: everything outside its flash is lost (R432). A pack that is present is read as at an
insertion (13 R349). -/
def coldTailstock (s : State) : State :=
  let m : Mgmt := { Reset.mgmt with ffr := s.mgmt.ffr, powerOns := s.mgmt.powerOns + 1, resetting := true, awaitNotice := true,
                                    side := s.mgmt.side, i3c := s.mgmt.i3c }
  let g0 : Gauge := { Reset.gauge with present := s.gauge.present, eeprom := s.gauge.eeprom, mirror := s.gauge.mirror }
  let g := if g0.present then startInsertion { g0 with fetClosed := true } else g0
  let s1 := ((s.setMgmt m).setGauge g).setJiman { Reset.jiman with flash := s.jiman.flash }
  let s2 := s1.setFirmware { bootMonitor s1.firmware s1.jiman.flash with pldm := .idle, imageTaken := false, status := 0 }
  if g.present && g.record.isNone then mgmtFaultEvent s2 0xA040 2 else s2

/-- START_UP (R438): a cold power-on. START_KIND is 2 after an emergency off (R437). -/
def execStartUp (e : StartUp) (s : State) : Host.Outcome State Fault Refusal :=
  .next (if decide (s.power.state = .off) && !s.power.tailstock && !s.power.epoLatch && !s.power.starting then
      let kind : BitVec 2 := if s.power.afterEpo then 2 else 0
      finishStart (reportHbm (ohmimStart (coldTailstock s) kind e)) e
    else s)

/-- The Tailstock of a retained power-on: a management reset, and what every power-on clears (R432). -/
def retainedTailstock (s : State) (retainedOk : Bool) : State :=
  let s1 := mgmtReset s retainedOk
  let m := s1.mgmt
  let s2 := s1.setMgmt { m with
    assureLock := false, mismatch := false, resets := 0, powerOns := m.powerOns + 1, hpReg := 0, hpCmd := none, latchHp := none
    ffrCmd := false, latchFfr := none, ops := [], doeOut := [], level := 0, driven := if m.trip then 3 else 0, tripN := m.trip
    sensors := m.sensors.map fun x => { x with retired := false } }
  let s3 := s2.setGauge { s2.gauge with chargeLock := none, inhibit := false, testAsked := false }
  s3.setFirmware { s3.firmware with imageTaken := false, status := 0 }

/-- A power-on with the Tailstock powered, from the shed compute domains on (R439). -/
def retainedStart (s : State) (e : StartUp) : State :=
  finishStart (reportHbm (ohmimStart (retainedTailstock s e.retainedOk) 1 e)) e

/-- What is left of a dump completes to its seal, which is logged (R439, Table 12.7). -/
def completeDump (s : State) (eepromOk : Bool) : State :=
  if s.power.state = .holdup then
    let s1 := beginDump s
    endDischarge (if s1.cache.dumping then logCrumb (sealVault s1) 0 0 0x0A else s1) eepromOk
  else s

/-- RETAINED_POWER_ON (R439): input returns to a powered Tailstock, in HOLDUP or in retention mode. -/
def execRetainedPowerOn (e : StartUp) (s : State) : Host.Outcome State Fault Refusal :=
  .next (if s.power.tailstock && !s.power.compute && !s.power.epoLatch && (s.clocks.pllLocked || s.power.retention) then
      retainedStart (completeDump s e.eepromOk) e
    else s)

/-! ### The root PLL (R425, R427) -/

/-- PLL_LOCK_LOSS: CCLK and FCLK stop; the loss is counted on the fault path and in CK_STATUS. -/
def execPllLockLoss (s : State) : Host.Outcome State Fault Refusal :=
  .next (if s.clocks.pllLocked then
      mgmtFaultEvent (s.setClocks { s.clocks with pllLocked := false, lockLosses := satInc s.clocks.lockLosses }) 0xA050 1
    else s)

/-- PLL_RELOCK: CCLK and FCLK resume at a common edge; a PERST_N that came in between has its reset now (R435). -/
def execPllRelock (s : State) : Host.Outcome State Fault Refusal :=
  .next (if s.power.holdup then
      let s1 := s.setClocks { s.clocks with pllLocked := true }
      if s1.running && s1.link.perstDue then perstReset s1 else s1
    else s)

/-- PLL_RELOCK_TIMEOUT: the compute domains are shed and the hold-up slice is powered down, with the vault left unsealed; where
there is input the module starts again as a power-on. -/
def execPllRelockTimeout (e : StartUp) (s : State) : Host.Outcome State Fault Refusal :=
  .next (if !s.clocks.pllLocked && s.power.holdup then
      let s1 := toRetention (loseDump (if s.power.compute then shedCompute s else s))
      if s.power.input then retainedStart s1 e else s1
    else s)

end Sys2Proof.Machine
end

