-- ==== Sys2Proof/Machine/Sideband.lean ====
section
/-! DEFINITION. The sideband services: MCTP control, PLDM Types 0, 2 and 5, SPDM and the vendor-defined commands
(14_management_plane R371-R377, 16_firmware_and_settings R414, R420). The codes of the messages are those of the
standards that the specification names (log entry 26). -/

namespace Sys2Proof.Machine
open Sys2Proof

/-- Send a message on the sideband. -/
def sideSend (s : State) (kind : Byte) (data : List Byte) : State :=
  s.setMgmt { s.mgmt with side := s.mgmt.side ++ [{ kind := kind, data := data }] }

/-- The sideband answers while the Tailstock is powered and no management reset is in progress: the target NACKs then (14
Corners); in recovery the boot monitor serves it. -/
def sideUp (s : State) : Bool := s.power.tailstock && (!s.mgmt.resetting || s.firmware.recovery)

/-- Serve an MCTP control command. -/
def onControl (s : State) (f : State → State) : State := if sideUp s then f s else s

/-- Serve a command of another message type: none is answered before an endpoint ID is assigned, and in recovery only PLDM
Type 5 is (14 Corners, R411). -/
def onService (s : State) (update : Bool) (f : State → State) : State :=
  if sideUp s && decide (s.mgmt.eid ≠ 0) && (update || !s.firmware.recovery) then f s else s

/-! ### MCTP control (R371) -/

/-- ENTDAA: the I3C target takes its dynamic address. -/
def execEntdaa (addr : Byte) (s : State) : Host.Outcome State Fault Refusal :=
  .next (onControl s fun s => if s.mgmt.i3c then s.setMgmt { s.mgmt with dynAddr := some addr } else s)

/-- Set Endpoint ID. -/
def execSetEndpointId (eid : Byte) (s : State) : Host.Outcome State Fault Refusal :=
  .next (onControl s fun s => sideSend (s.setMgmt { s.mgmt with eid := eid }) 0 [1, 0, 0, eid])

/-- Get Endpoint ID. -/
def execGetEndpointId (s : State) : Host.Outcome State Fault Refusal :=
  .next (onControl s fun s => sideSend s 0 [2, 0, s.mgmt.eid])

/-- Get MCTP Version Support: the contents of the answer are the standard's and are not stated; one version, a free value. -/
def execGetMctpVersionSupport (s : State) : Host.Outcome State Fault Refusal :=
  .next (onControl s fun s => (sideSend s 0 ([4, 0, 1] ++ natToBytes (s.free 32).toNat 4)).tookFree)

/-- Get Message Type Support: the types of Table 14.14. -/
def execGetMessageTypeSupport (s : State) : Host.Outcome State Fault Refusal :=
  .next (onControl s fun s => sideSend s 0 [5, 0, 4, 0x00, 0x01, 0x05, 0x7E])

/-- Get Vendor Defined Message Support: PCI vendor ID 0x1F7A. -/
def execGetVendorDefinedMessageSupport (s : State) : Host.Outcome State Fault Refusal :=
  .next (onControl s fun s => sideSend s 0 [6, 0, 0xFF, 0, 0x1F, 0x7A])

/-! ### PLDM (R372, R414) -/

/-- A PLDM Type 0 base command is answered with success; the contents beyond are the standard's (log entry 26). -/
def execPldmBaseCommand (cmd : Byte) (s : State) : Host.Outcome State Fault Refusal :=
  .next (onService s false fun s => sideSend s 1 [0, cmd, 0])

/-- The value of a PLDM Type 2 sensor. A drive's composite temperature stands in its NVMe-MI reply at a place the
specification does not give, so it is a free value. -/
def sensorValue (s : State) (x : PldmSensor) : W32 :=
  let m := s.mgmt
  let g := s.gauge
  match x with
  | .temperature n => BitVec.ofInt 32 (vget m.sensors n.val noSensor).value
  | .inputVoltage => m.rails.headD 0
  | .inputPower => BitVec.ofNat 32 (m.power.headD 0)
  | .rail n => m.rails.getD (n.val + 1) 0
  | .packEnergy => BitVec.ofNat 32 g.energy
  | .packSoc => BitVec.ofNat 32 g.sRep
  | .dirtyLimit => BitVec.ofNat 32 (limitField (vget m.words 0 0) / 256)
  | .driveTemperature _ => s.free 32
  | .assurance => BitVec.ofNat 32 m.holdAssure.toNat
  | .assuranceLockout => BitVec.ofNat 32 m.assureLock.toNat
  | .throttleLevel => m.driven.setWidth 32
  | .trip => BitVec.ofNat 32 m.trip.toNat
  | .packPresence => BitVec.ofNat 32 g.present.toNat
  | .packReplace =>
    match g.record with
    | some r => BitVec.ofNat 32 (decide (r.fcc < 280 ∨ 2048 < r.ageRatio ∨ 1000 ≤ r.cycles)).toNat
    | none => 0

/-- A PLDM Type 2 read. -/
def execPldmSensorRead (sensor : PldmSensor) (s : State) : Host.Outcome State Fault Refusal :=
  .next (onService s false fun s => (sideSend s 1 ([2, 0] ++ natToBytes (sensorValue s sensor).toNat 4)).tookFree)

/-- SetEventReceiver (R372). -/
def execSetEventReceiver (receiver : Byte) (s : State) : Host.Outcome State Fault Refusal :=
  .next (onService s false fun s => sideSend (s.setMgmt { s.mgmt with eventReceiver := some receiver }) 1 [2, 0x04, 0])

/-- A PLDM Type 5 answer: the command and its completion code. -/
def pldm5 (s : State) (cmd code : Byte) : State := sideSend s 1 [5, cmd, code]

/-- RequestUpdate is refused while a session of the admin ring is OPEN, and in PROBATION (R414). -/
def requestUpdate (s : State) : State :=
  let f := s.firmware
  if (f.session.state = .open ∧ f.session.pldm = false) ∨ (bootWinner f).state = .probation then pldm5 s 0x10 0x8A
  else pldm5 (s.setFirmware { f with pldm := .learn, session := { f.session with pldm := true } }) 0x10 0

def execRequestUpdate (s : State) : Host.Outcome State Fault Refusal := .next (onService s true requestUpdate)

/-- PassComponentTable for the one component (Table 16.5). -/
def passComponentTable (s : State) : State :=
  if s.firmware.pldm = .learn then
    pldm5 (s.setFirmware { s.firmware with pldm := .ready, session := { s.firmware.session with pldm := true } }) 0x13 0
  else pldm5 s 0x13 0x80

def execPassComponentTable (s : State) : Host.Outcome State Fault Refusal := .next (onService s true passComponentTable)

/-- UpdateComponent (Table 16.5). -/
def updateComponent (s : State) : State :=
  if s.firmware.pldm = .ready then
    pldm5 (s.setFirmware { s.firmware with pldm := .download, session := { s.firmware.session with pldm := true } }) 0x14 0
  else pldm5 s 0x14 0x80

def execUpdateComponent (s : State) : Host.Outcome State Fault Refusal := .next (onService s true updateComponent)

/-- After a COMPLETE session of PLDM: TransferComplete, then step 1 of R413 as VerifyComplete and step 2 as ApplyComplete. -/
def verifyAndApply (s : State) : State :=
  let s1 := pldm5 s 0x16 0
  match activateCheck s1.firmware s1.jiman.flash with
  | some _ => pldm5 s1 0x17 0x01
  | none => pldm5 (pldm5 (s1.setFirmware { writeHeader s1.firmware with pldm := .applied }) 0x17 0) 0x18 0

/-- The response to a RequestFirmwareData: a piece of at most 512 bytes (R412, Table 16.5). -/
def firmwareData (s : State) (offset : Nat) (data : List Byte) : State :=
  if s.firmware.pldm ≠ .download then s
  else
    let p := stagePiece s.firmware s.jiman.flash true offset (data.take 512)
    let s1 := (s.setFirmware p.1).setJiman { s.jiman with flash := p.2 }
    if s1.firmware.session.state = .complete then verifyAndApply s1 else s1

def execRequestFirmwareData (offset : Nat) (data : List Byte) (s : State) : Host.Outcome State Fault Refusal :=
  .next (onService s true fun s => firmwareData s offset data)

/-- ActivateFirmware: steps 3, 4 and 6 of R413. The boot monitor in recovery asks for its reset at once. -/
def activateFirmware (s : State) : State :=
  if s.firmware.pldm = .applied ∧ s.firmware.session.state = .complete then
    let s1 := logCrumb (pldm5 (s.setFirmware { activate s.firmware with pldm := .idle }) 0x1A 0) 0 0 0x0C
    if s1.firmware.recovery then mgmtReset s1 true else s1.setMgmt { s1.mgmt with resetAsked := true }
  else pldm5 s 0x1A 0x80

def execActivateFirmware (s : State) : Host.Outcome State Fault Refusal := .next (onService s true activateFirmware)

/-- CancelUpdate discards the session (R414). -/
def cancelUpdate (s : State) : State :=
  if s.firmware.pldm = .idle then pldm5 s 0x1D 0x80
  else pldm5 (s.setFirmware { s.firmware with pldm := .idle, session := { s.firmware.session with state := .none } }) 0x1D 0

def execCancelUpdate (s : State) : Host.Outcome State Fault Refusal := .next (onService s true cancelUpdate)

/-! ### SPDM (R373) -/

/-- The requests of the SPDM 1.2 responder. -/
inductive SpdmReq where
  | getVersion | getCapabilities | negotiateAlgorithms | getDigests | getCertificate | challenge | getMeasurements
  deriving DecidableEq, Repr

/-- The digests of the four measurement blocks: the active image's signed message, the boot monitor, the runtime, the settings
store (a free value: its bytes are not laid out). -/
def measurements (s : State) : List Byte :=
  let f := s.firmware
  let w := (bootWinner f).active
  let h := slotHeader f w
  let image := Cfg.sha384 (signedHeader h ++ codeBytes s.jiman.flash w (hfld h 12 4))
  let monitor := Cfg.sha384 ((List.range 4096).flatMap fun k => natToBytes (flashWord s.jiman.flash k).toNat 2)
  let runtime := match s.turner.retained with | some r => r.digest | none => 0
  natToBytes image.toNat 48 ++ natToBytes monitor.toNat 48 ++ natToBytes runtime.toNat 48 ++ natToBytes (s.free 384).toNat 48

/-- The responder's answer and its new connection state. An answer is its version, its code and what the request asks for; a
request out of order is answered with an error. Certificates and signatures are free values (the identity key never leaves the
die). -/
def spdmAnswer (s : State) (r : SpdmReq) : State × List Byte :=
  let m := s.mgmt
  let err : State × List Byte := (s, [0x12, 0x7F])
  match r with
  | .getVersion => (s.setMgmt { m with spdmVersion := true, spdmCaps := false, spdmAlgs := false }, [0x10, 0x04, 0x12])
  | .getCapabilities => if m.spdmVersion then (s.setMgmt { m with spdmCaps := true }, [0x12, 0x61]) else err
  | .negotiateAlgorithms => if m.spdmCaps then (s.setMgmt { m with spdmAlgs := true }, [0x12, 0x63]) else err
  | .getDigests => if m.spdmAlgs then (s.tookFree, [0x12, 0x01] ++ natToBytes (s.free 384).toNat 48) else err
  | .getCertificate => if m.spdmAlgs then (s.tookFree, [0x12, 0x02] ++ natToBytes (s.free 512).toNat 64) else err
  | .challenge => if m.spdmAlgs then (s.tookFree, [0x12, 0x03] ++ natToBytes (s.free 768).toNat 96) else err
  | .getMeasurements => if m.spdmAlgs then (s.tookFree, [0x12, 0x60] ++ measurements s) else err

/-- An SPDM request over MCTP. -/
def spdmSide (s : State) (r : SpdmReq) : State := let p := spdmAnswer s r; sideSend p.1 5 p.2

/-- SPDM GET_VERSION. -/
def execGetVersion (s : State) : Host.Outcome State Fault Refusal := .next (onService s false fun s => spdmSide s .getVersion)
/-- SPDM GET_CAPABILITIES. -/
def execGetCapabilities (s : State) : Host.Outcome State Fault Refusal :=
  .next (onService s false fun s => spdmSide s .getCapabilities)
/-- SPDM NEGOTIATE_ALGORITHMS. -/
def execNegotiateAlgorithms (s : State) : Host.Outcome State Fault Refusal :=
  .next (onService s false fun s => spdmSide s .negotiateAlgorithms)
/-- SPDM GET_DIGESTS. -/
def execGetDigests (s : State) : Host.Outcome State Fault Refusal := .next (onService s false fun s => spdmSide s .getDigests)
/-- SPDM GET_CERTIFICATE. -/
def execGetCertificate (s : State) : Host.Outcome State Fault Refusal :=
  .next (onService s false fun s => spdmSide s .getCertificate)
/-- SPDM CHALLENGE. -/
def execChallenge (s : State) : Host.Outcome State Fault Refusal := .next (onService s false fun s => spdmSide s .challenge)
/-- SPDM GET_MEASUREMENTS. -/
def execGetMeasurements (s : State) : Host.Outcome State Fault Refusal :=
  .next (onService s false fun s => spdmSide s .getMeasurements)

/-- The SPDM request of a message, by its request code. -/
def spdmDecode (bs : List Byte) : Option SpdmReq :=
  match (bs.getD 1 0).toNat with
  | 0x84 => some .getVersion
  | 0xE1 => some .getCapabilities
  | 0xE3 => some .negotiateAlgorithms
  | 0x81 => some .getDigests
  | 0x82 => some .getCertificate
  | 0x83 => some .challenge
  | 0xE0 => some .getMeasurements
  | _ => none

/-- Cut an answer into DOE_SPDM fragments. -/
def doeMsgs : Nat → List Byte → List MboxMsg
  | 0, _ => []
  | fuel + 1, bs => if bs = [] then [] else mkMsg 0x05 0 0 0 0 (bs.take 56) :: doeMsgs fuel (bs.drop 56)

/-- A fragment at the Jiman; the last one completes the request, which is answered through DOE_SPDM messages (R373). -/
def receiveDoe (last : Bool) (s : State) (m : MboxMsg) : State :=
  let bs := s.mgmt.doe ++ msgPayload m
  if !last then s.setMgmt { s.mgmt with doe := bs }
  else
    let s1 := s.setMgmt { s.mgmt with doe := [] }
    let p := match spdmDecode bs with | some r => spdmAnswer s1 r | none => (s1, [0x12, 0x7F])
    p.1.setMgmt { p.1.mgmt with outbox := p.1.mgmt.outbox ++ doeMsgs 16 p.2 }

/-- DOE_SPDM (R367, R373): a fragment from the host crosses to the Jiman, `last` with the request's end, or, without data, a
fragment of an answer crosses to the queue engine. -/
def execDoeSpdm (fragment : Option (List Byte)) (last : Bool) (s : State) : Host.Outcome State Fault Refusal :=
  match fragment with
  | some bs =>
    .next (if s.running then deliverToMg (s.setMgmt { s.mgmt with doeOut := s.mgmt.doeOut ++ [bs.take 56] }) 5 (receiveDoe last)
           else s)
  | none => .next (withToDp s 5 fun s _ => dpTake s)

/-! ### Vendor-defined commands (Table 14.14, R376, R420) -/

/-- Breadcrumb read: the entry at an index of the log. -/
def execBreadcrumbRead (index : BitVec 12) (s : State) : Host.Outcome State Fault Refusal :=
  .next (onService s false fun s =>
    match crumbAt s.mgmt index.toNat with
    | some c => sideSend s 0x7E (0 :: natToBytes (crumbBits c) 16)
    | none => sideSend s 0x7E [1])

/-- First-fault read: the 64 bytes, zeros while empty. -/
def execFirstFaultRead (s : State) : Host.Outcome State Fault Refusal :=
  .next (onService s false fun s => sideSend s 0x7E (0 :: natToBytes (s.mgmt.ffr.getD 0).toNat 64))

/-- First-fault clear (R376). -/
def execFirstFaultClear (s : State) : Host.Outcome State Fault Refusal :=
  .next (onService s false fun s => sideSend (s.setMgmt { s.mgmt with ffr := none }) 0x7E [0])

/-- Settings Read: every settings item (R420). -/
def execSettingsRead (s : State) : Host.Outcome State Fault Refusal :=
  .next (onService s false fun s =>
    let x := s.firmware.inUse
    sideSend s 0x7E (0 :: (natToBytes x.keepEnabled.toNat 1 ++ natToBytes x.bar4Enc 1 ++ natToBytes x.window.toNat 8 ++
      natToBytes x.lanes.toNat 2 ++ natToBytes x.uuid.toNat 16 ++ natToBytes x.smbus.toNat 1)))

/-- The items after a Settings Write. -/
def settingsAfter (x : Settings) (keepOn : Option Bool) (bar4 : Option Nat) (window : Option W64)
    (smbus : Option (BitVec 7)) : Settings :=
  { x with keepEnabled := keepOn.getD x.keepEnabled, bar4Enc := bar4.getD x.bar4Enc, window := window.getD x.window,
           smbus := smbus.getD x.smbus }

/-- Whether a Settings Write is accepted (R420). -/
def settingsOk (s : State) (keepOn : Option Bool) (bar4 : Option Nat) (window : Option W64)
    (smbus : Option (BitVec 7)) : Bool :=
  let x := settingsAfter s.firmware.inUse keepOn bar4 window smbus
  let addrOk := match smbus with | none => true | some a => decide (0x08 ≤ a.toNat ∧ a.toNat ≤ 0x77)
  let barOk := match bar4 with | none => true | some e => decide (10 ≤ e ∧ e ≤ 19)
  barOk && addrOk && !s.firmware.unreadable &&
    windowOk s.power.sku x.keepEnabled (bitsOf x.window.toNat 0 9) (bitsOf x.window.toNat 28 20)

/-- Settings Write (R420): refused whole, or a new copy of the active settings slot (R417). -/
def settingsWrite (s : State) (keepOn : Option Bool) (bar4 : Option Nat) (window : Option W64)
    (smbus : Option (BitVec 7)) : State :=
  if settingsOk s keepOn bar4 window smbus then
    sideSend (s.setFirmware (writeSettings s.firmware (settingsAfter s.firmware.inUse keepOn bar4 window smbus))) 0x7E [0]
  else sideSend s 0x7E [1]

def execSettingsWrite (keepOn : Option Bool) (bar4 : Option Nat) (window : Option W64) (smbus : Option (BitVec 7))
    (s : State) : Host.Outcome State Fault Refusal :=
  .next (onService s false fun s => settingsWrite s keepOn bar4 window smbus)

end Sys2Proof.Machine
end

