-- ==== Sys2Proof/Machine/Turner.lean ====
section
/-! DEFINITION. The scalar instructions of the Turner: integer, multiply and divide, loads, stores, branches and calls
(06_turner_instruction_set). -/

namespace Sys2Proof.Machine
open Sys2Proof

/-! ### Arithmetic (R161-R164) -/

/-- An operation in its W form or not: the W form works on bits [31:0] and sign-extends its result (R162). -/
def wForm (w : Bool) (f64 : W64 → W64 → W64) (f32 : W32 → W32 → W32) (a b : W64) : W64 :=
  if w then (f32 (a.setWidth 32) (b.setWidth 32)).signExtend 64 else f64 a b

/-- A truth value in a register. -/
def flag (b : Bool) : W64 := if b then 1 else 0

/-- Leading zero bits (Table 6.3). -/
def clz64 (x : W64) : W64 := BitVec.ofNat 64 (((List.range 64).find? fun i => x.getLsbD (63 - i)).getD 64)

/-- Trailing zero bits (Table 6.3). -/
def ctz64 (x : W64) : W64 := BitVec.ofNat 64 (((List.range 64).find? fun i => x.getLsbD i).getD 64)

/-- One bits (Table 6.3). -/
def popc64 (x : W64) : W64 := BitVec.ofNat 64 ((List.range 64).filter fun i => x.getLsbD i).length

/-- Signed quotient toward zero; by zero all ones; most negative by −1 is the dividend (R163). -/
def divS {n : Nat} (a b : BitVec n) : BitVec n := if b = 0 then BitVec.allOnes n else BitVec.ofInt n (a.toInt.tdiv b.toInt)
/-- Unsigned quotient; by zero all ones (R163). -/
def divU {n : Nat} (a b : BitVec n) : BitVec n := if b = 0 then BitVec.allOnes n else BitVec.ofNat n (a.toNat / b.toNat)
/-- Signed remainder with the sign of the dividend; by zero the dividend (R163). -/
def remS {n : Nat} (a b : BitVec n) : BitVec n := if b = 0 then a else BitVec.ofInt n (a.toInt.tmod b.toInt)
/-- Unsigned remainder; by zero the dividend (R163). -/
def remU {n : Nat} (a b : BitVec n) : BitVec n := if b = 0 then a else BitVec.ofNat n (a.toNat % b.toNat)

/-- High 64 bits of the signed product (Table 6.4). -/
def mulHighS (a b : W64) : W64 := BitVec.ofInt 64 (a.toInt * b.toInt / 2 ^ 64)
/-- High 64 bits of the unsigned product (Table 6.4). -/
def mulHighU (a b : W64) : W64 := BitVec.ofNat 64 (a.toNat * b.toNat / 2 ^ 64)

/-- A shift of 64 bits by rb[5:0], or of 32 by rb[4:0] (Table 6.3, R162). -/
def sll (w : Bool) (a b : W64) : W64 :=
  wForm w (fun x y => x <<< (y.toNat % 64)) (fun x y => x <<< (y.toNat % 32)) a b
def srl (w : Bool) (a b : W64) : W64 :=
  wForm w (fun x y => x >>> (y.toNat % 64)) (fun x y => x >>> (y.toNat % 32)) a b
def sra (w : Bool) (a b : W64) : W64 :=
  wForm w (fun x y => x.sshiftRight (y.toNat % 64)) (fun x y => x.sshiftRight (y.toNat % 32)) a b
def ror (w : Bool) (a b : W64) : W64 :=
  wForm w (fun x y => x.rotateRight (y.toNat % 64)) (fun x y => x.rotateRight (y.toNat % 32)) a b

/-- An instruction that writes rd from registers alone, with its count (Table 6.10). -/
def aluRun (s : State) (reads : List Nat) (rd : BitVec 5) (cycles : Nat) (f : Turner → W64) : State :=
  turnerRun s reads (some rd.toNat) noExc fun s1 =>
    .next (advance (s1.setTurner (s1.turner.setG rd.toNat (f s1.turner)))) cycles

/-- rd := f(ra, rb). -/
def alu3 (s : State) (rd ra rb : BitVec 5) (cycles : Nat) (f : W64 → W64 → W64) : State :=
  aluRun s [ra.toNat, rb.toNat] rd cycles fun t => f (t.gr ra.toNat) (t.gr rb.toNat)

/-- rd := f(ra, rb) by the multiply and divide unit: it completes out of order and takes a reservation, and would be the ninth
where eight are outstanding (R128). -/
def mulRun (s : State) (rd ra rb : BitVec 5) (cycles : Nat) (f : W64 → W64 → W64) : State :=
  turnerRun s [ra.toNat, rb.toNat] (some rd.toNat) noExc fun s1 =>
    let t := s1.turner
    if 8 ≤ t.reservations then .stall s1
    else .next (advance (s1.setTurner (t.setG rd.toNat (f (t.gr ra.toNat) (t.gr rb.toNat))))) cycles

/-- rd := f(ra). -/
def alu2 (s : State) (rd ra : BitVec 5) (f : W64 → W64) : State :=
  aluRun s [ra.toNat] rd 1 fun t => f (t.gr ra.toNat)

/-- Cycles of a division (Table 6.10). -/
def divCycles (w : Bool) : Nat := if w then 34 else 66

/-- ADD, ADD.W (Table 6.3). -/
def execAdd (rd ra rb : BitVec 5) (w : Bool) (s : State) : Host.Outcome State Fault Refusal :=
  .next (alu3 s rd ra rb 1 (wForm w (· + ·) (· + ·)))

/-- SUB, SUB.W (Table 6.3). -/
def execSub (rd ra rb : BitVec 5) (w : Bool) (s : State) : Host.Outcome State Fault Refusal :=
  .next (alu3 s rd ra rb 1 (wForm w (· - ·) (· - ·)))

/-- AND (Table 6.3). -/
def execAnd (rd ra rb : BitVec 5) (s : State) : Host.Outcome State Fault Refusal :=
  .next (alu3 s rd ra rb 1 (· &&& ·))

/-- OR (Table 6.3). -/
def execOr (rd ra rb : BitVec 5) (s : State) : Host.Outcome State Fault Refusal :=
  .next (alu3 s rd ra rb 1 (· ||| ·))

/-- XOR (Table 6.3). -/
def execXor (rd ra rb : BitVec 5) (s : State) : Host.Outcome State Fault Refusal :=
  .next (alu3 s rd ra rb 1 (· ^^^ ·))

/-- ANDN (Table 6.3). -/
def execAndn (rd ra rb : BitVec 5) (s : State) : Host.Outcome State Fault Refusal :=
  .next (alu3 s rd ra rb 1 (fun a b => a &&& ~~~b))

/-- SLL, SLL.W (Table 6.3). -/
def execSll (rd ra rb : BitVec 5) (w : Bool) (s : State) : Host.Outcome State Fault Refusal :=
  .next (alu3 s rd ra rb 1 (sll w))

/-- SRL, SRL.W (Table 6.3). -/
def execSrl (rd ra rb : BitVec 5) (w : Bool) (s : State) : Host.Outcome State Fault Refusal :=
  .next (alu3 s rd ra rb 1 (srl w))

/-- SRA, SRA.W (Table 6.3). -/
def execSra (rd ra rb : BitVec 5) (w : Bool) (s : State) : Host.Outcome State Fault Refusal :=
  .next (alu3 s rd ra rb 1 (sra w))

/-- ROR, ROR.W (Table 6.3). -/
def execRor (rd ra rb : BitVec 5) (w : Bool) (s : State) : Host.Outcome State Fault Refusal :=
  .next (alu3 s rd ra rb 1 (ror w))

/-- SLT (Table 6.3). -/
def execSlt (rd ra rb : BitVec 5) (s : State) : Host.Outcome State Fault Refusal :=
  .next (alu3 s rd ra rb 1 (fun a b => flag (a.slt b)))

/-- SLTU (Table 6.3). -/
def execSltu (rd ra rb : BitVec 5) (s : State) : Host.Outcome State Fault Refusal :=
  .next (alu3 s rd ra rb 1 (fun a b => flag (a.ult b)))

/-- MIN, signed (Table 6.3). -/
def execMin (rd ra rb : BitVec 5) (s : State) : Host.Outcome State Fault Refusal :=
  .next (alu3 s rd ra rb 1 (fun a b => if b.slt a then b else a))

/-- MAX, signed (Table 6.3). -/
def execMax (rd ra rb : BitVec 5) (s : State) : Host.Outcome State Fault Refusal :=
  .next (alu3 s rd ra rb 1 (fun a b => if a.slt b then b else a))

/-- MINU (Table 6.3). -/
def execMinu (rd ra rb : BitVec 5) (s : State) : Host.Outcome State Fault Refusal :=
  .next (alu3 s rd ra rb 1 (fun a b => if b.ult a then b else a))

/-- MAXU (Table 6.3). -/
def execMaxu (rd ra rb : BitVec 5) (s : State) : Host.Outcome State Fault Refusal :=
  .next (alu3 s rd ra rb 1 (fun a b => if a.ult b then b else a))

/-- CLZ (Table 6.3). -/
def execClz (rd ra : BitVec 5) (s : State) : Host.Outcome State Fault Refusal :=
  .next (alu2 s rd ra clz64)

/-- CTZ (Table 6.3). -/
def execCtz (rd ra : BitVec 5) (s : State) : Host.Outcome State Fault Refusal :=
  .next (alu2 s rd ra ctz64)

/-- POPC (Table 6.3). -/
def execPopc (rd ra : BitVec 5) (s : State) : Host.Outcome State Fault Refusal :=
  .next (alu2 s rd ra popc64)

/-- MUL, MUL.W (Table 6.4). -/
def execMul (rd ra rb : BitVec 5) (w : Bool) (s : State) : Host.Outcome State Fault Refusal :=
  .next (mulRun s rd ra rb 3 (wForm w (· * ·) (· * ·)))

/-- MULH (Table 6.4). -/
def execMulh (rd ra rb : BitVec 5) (s : State) : Host.Outcome State Fault Refusal :=
  .next (mulRun s rd ra rb 4 mulHighS)

/-- MULHU (Table 6.4). -/
def execMulhu (rd ra rb : BitVec 5) (s : State) : Host.Outcome State Fault Refusal :=
  .next (mulRun s rd ra rb 4 mulHighU)

/-- DIV, DIV.W (Table 6.4, R163). -/
def execDiv (rd ra rb : BitVec 5) (w : Bool) (s : State) : Host.Outcome State Fault Refusal :=
  .next (mulRun s rd ra rb (divCycles w) (wForm w divS divS))

/-- DIVU, DIVU.W (Table 6.4, R163). -/
def execDivu (rd ra rb : BitVec 5) (w : Bool) (s : State) : Host.Outcome State Fault Refusal :=
  .next (mulRun s rd ra rb (divCycles w) (wForm w divU divU))

/-- REM, REM.W (Table 6.4, R163). -/
def execRem (rd ra rb : BitVec 5) (w : Bool) (s : State) : Host.Outcome State Fault Refusal :=
  .next (mulRun s rd ra rb (divCycles w) (wForm w remS remS))

/-- REMU, REMU.W (Table 6.4, R163). -/
def execRemu (rd ra rb : BitVec 5) (w : Bool) (s : State) : Host.Outcome State Fault Refusal :=
  .next (mulRun s rd ra rb (divCycles w) (wForm w remU remU))

/-- ADDI (R164). -/
def execAddi (rd ra : BitVec 5) (imm : BitVec 16) (s : State) : Host.Outcome State Fault Refusal :=
  .next (alu2 s rd ra (· + imm.signExtend 64))

/-- ANDI (R164). -/
def execAndi (rd ra : BitVec 5) (imm : BitVec 16) (s : State) : Host.Outcome State Fault Refusal :=
  .next (alu2 s rd ra (· &&& imm.setWidth 64))

/-- ORI (R164). -/
def execOri (rd ra : BitVec 5) (imm : BitVec 16) (s : State) : Host.Outcome State Fault Refusal :=
  .next (alu2 s rd ra (· ||| imm.setWidth 64))

/-- XORI (R164). -/
def execXori (rd ra : BitVec 5) (imm : BitVec 16) (s : State) : Host.Outcome State Fault Refusal :=
  .next (alu2 s rd ra (· ^^^ imm.setWidth 64))

/-- SLTI (R164). -/
def execSlti (rd ra : BitVec 5) (imm : BitVec 16) (s : State) : Host.Outcome State Fault Refusal :=
  .next (alu2 s rd ra fun a => flag (a.slt (imm.signExtend 64)))

/-- SLTIU (R164): the immediate is sign-extended, the comparison unsigned. -/
def execSltiu (rd ra : BitVec 5) (imm : BitVec 16) (s : State) : Host.Outcome State Fault Refusal :=
  .next (alu2 s rd ra fun a => flag (a.ult (imm.signExtend 64)))

/-- MOVI (R164). -/
def execMovi (rd : BitVec 5) (imm : BitVec 16) (s : State) : Host.Outcome State Fault Refusal :=
  .next (aluRun s [] rd 1 fun _ => imm.signExtend 64)

/-- SLOI (R164). -/
def execSloi (rd ra : BitVec 5) (imm : BitVec 16) (s : State) : Host.Outcome State Fault Refusal :=
  .next (alu2 s rd ra fun a => (a <<< 16) ||| imm.setWidth 64)

/-- ADDPC (R164). -/
def execAddpc (rd : BitVec 5) (imm : BitVec 16) (s : State) : Host.Outcome State Fault Refusal :=
  .next (aluRun s [] rd 1 fun t => t.pc + imm.signExtend 64)

/-- A shift by an immediate; its W form has an amount below 32, other encodings are illegal (R164, Table 6.9). -/
def shiftImm (s : State) (rd ra : BitVec 5) (n : BitVec 6) (w : Bool) (kind : Nat) (f : Bool → W64 → W64 → W64) : State :=
  let word := BitVec.ofNat 32 (0x0A * 2 ^ 26 + rd.toNat * 2 ^ 21 + ra.toNat * 2 ^ 16 + w.toNat * 256 + kind * 64 + n.toNat)
  let bad (_ : State) : Option Exc := if w ∧ 32 ≤ n.toNat then some { cause := 1, addr := word.setWidth 64 } else none
  turnerRun s [ra.toNat] (some rd.toNat) bad fun s1 =>
    .next (advance (s1.setTurner (s1.turner.setG rd.toNat (f w (s1.turner.gr ra.toNat) (n.setWidth 64))))) 1

/-- SLLI, SLLI.W (R164). -/
def execSlli (rd ra : BitVec 5) (n : BitVec 6) (w : Bool) (s : State) : Host.Outcome State Fault Refusal :=
  .next (shiftImm s rd ra n w 0 sll)

/-- SRLI, SRLI.W (R164). -/
def execSrli (rd ra : BitVec 5) (n : BitVec 6) (w : Bool) (s : State) : Host.Outcome State Fault Refusal :=
  .next (shiftImm s rd ra n w 1 srl)

/-- SRAI, SRAI.W (R164). -/
def execSrai (rd ra : BitVec 5) (n : BitVec 6) (w : Bool) (s : State) : Host.Outcome State Fault Refusal :=
  .next (shiftImm s rd ra n w 2 sra)

/-- RORI, RORI.W (R164). -/
def execRori (rd ra : BitVec 5) (n : BitVec 6) (w : Bool) (s : State) : Host.Outcome State Fault Refusal :=
  .next (shiftImm s rd ra n w 3 ror)

/-! ### Loads and stores (R165) -/

/-- LD.B (R165). `late`: the load misses the L1D and completes out of order; `ecc`: the errors that its line reports. -/
def execLdB (rd ra : BitVec 5) (seg : BitVec 3) (k : Bool) (disp : BitVec 12) (late : Bool) (ecc : List Ecc) (s : State) : Host.Outcome State Fault Refusal :=
  .next (loadRun s rd ra seg k disp { width := 1, signed := true } late ecc)

/-- LD.BU (R165). `late`: the load misses the L1D and completes out of order; `ecc`: the errors that its line reports. -/
def execLdBu (rd ra : BitVec 5) (seg : BitVec 3) (k : Bool) (disp : BitVec 12) (late : Bool) (ecc : List Ecc) (s : State) : Host.Outcome State Fault Refusal :=
  .next (loadRun s rd ra seg k disp { width := 1, signed := false } late ecc)

/-- LD.H (R165). `late`: the load misses the L1D and completes out of order; `ecc`: the errors that its line reports. -/
def execLdH (rd ra : BitVec 5) (seg : BitVec 3) (k : Bool) (disp : BitVec 12) (late : Bool) (ecc : List Ecc) (s : State) : Host.Outcome State Fault Refusal :=
  .next (loadRun s rd ra seg k disp { width := 2, signed := true } late ecc)

/-- LD.HU (R165). `late`: the load misses the L1D and completes out of order; `ecc`: the errors that its line reports. -/
def execLdHu (rd ra : BitVec 5) (seg : BitVec 3) (k : Bool) (disp : BitVec 12) (late : Bool) (ecc : List Ecc) (s : State) : Host.Outcome State Fault Refusal :=
  .next (loadRun s rd ra seg k disp { width := 2, signed := false } late ecc)

/-- LD.W (R165). `late`: the load misses the L1D and completes out of order; `ecc`: the errors that its line reports. -/
def execLdW (rd ra : BitVec 5) (seg : BitVec 3) (k : Bool) (disp : BitVec 12) (late : Bool) (ecc : List Ecc) (s : State) : Host.Outcome State Fault Refusal :=
  .next (loadRun s rd ra seg k disp { width := 4, signed := true } late ecc)

/-- LD.WU (R165). `late`: the load misses the L1D and completes out of order; `ecc`: the errors that its line reports. -/
def execLdWu (rd ra : BitVec 5) (seg : BitVec 3) (k : Bool) (disp : BitVec 12) (late : Bool) (ecc : List Ecc) (s : State) : Host.Outcome State Fault Refusal :=
  .next (loadRun s rd ra seg k disp { width := 4, signed := false } late ecc)

/-- LD.D (R165). `late`: the load misses the L1D and completes out of order; `ecc`: the errors that its line reports. -/
def execLdD (rd ra : BitVec 5) (seg : BitVec 3) (k : Bool) (disp : BitVec 12) (late : Bool) (ecc : List Ecc) (s : State) : Host.Outcome State Fault Refusal :=
  .next (loadRun s rd ra seg k disp { width := 8, signed := false } late ecc)

/-- ST.B (R165, R166). -/
def execStB (rs ra : BitVec 5) (seg : BitVec 3) (k : Bool) (disp : BitVec 12) (s : State) : Host.Outcome State Fault Refusal :=
  .next (storeRun s rs ra seg k disp 1)

/-- ST.H (R165, R166). -/
def execStH (rs ra : BitVec 5) (seg : BitVec 3) (k : Bool) (disp : BitVec 12) (s : State) : Host.Outcome State Fault Refusal :=
  .next (storeRun s rs ra seg k disp 2)

/-- ST.W (R165, R166). -/
def execStW (rs ra : BitVec 5) (seg : BitVec 3) (k : Bool) (disp : BitVec 12) (s : State) : Host.Outcome State Fault Refusal :=
  .next (storeRun s rs ra seg k disp 4)

/-- ST.D (R165, R166). -/
def execStD (rs ra : BitVec 5) (seg : BitVec 3) (k : Bool) (disp : BitVec 12) (s : State) : Host.Outcome State Fault Refusal :=
  .next (storeRun s rs ra seg k disp 8)

/-! ### Control transfer (R167-R169) -/

/-- An offset in words from pc (R159). -/
def relTarget {n : Nat} (pc : W64) (off : BitVec n) : W64 := pc + (off.signExtend 64) <<< 2

/-- A compare-and-branch (R167): 8 cycles taken, 1 not taken. -/
def branchRun (s : State) (reads : List Nat) (off : BitVec 16) (taken : Turner → Bool) : State :=
  turnerRun s reads none noExc fun s1 =>
    if taken s1.turner then .next (goto s1 (relTarget s1.turner.pc off)) 8 else .next (advance s1) 1

/-- CB (R167, Table 6.5). -/
def cb (s : State) (ra rb : BitVec 5) (off : BitVec 16) (c : W64 → W64 → Bool) : State :=
  branchRun s [ra.toNat, rb.toNat] off fun t => c (t.gr ra.toNat) (t.gr rb.toNat)

/-- CBI (R167, Table 6.5): the second value is imm5, sign-extended. -/
def cbi (s : State) (ra : BitVec 5) (imm : BitVec 5) (off : BitVec 16) (c : W64 → W64 → Bool) : State :=
  branchRun s [ra.toNat] off fun t => c (t.gr ra.toNat) (imm.signExtend 64)

/-- CB.EQ (Table 6.5). -/
def execCbEq (ra rb : BitVec 5) (off : BitVec 16) (s : State) : Host.Outcome State Fault Refusal :=
  .next (cb s ra rb off (fun a b => a == b))

/-- CB.NE (Table 6.5). -/
def execCbNe (ra rb : BitVec 5) (off : BitVec 16) (s : State) : Host.Outcome State Fault Refusal :=
  .next (cb s ra rb off (fun a b => a != b))

/-- CB.LT (Table 6.5). -/
def execCbLt (ra rb : BitVec 5) (off : BitVec 16) (s : State) : Host.Outcome State Fault Refusal :=
  .next (cb s ra rb off BitVec.slt)

/-- CB.GE (Table 6.5). -/
def execCbGe (ra rb : BitVec 5) (off : BitVec 16) (s : State) : Host.Outcome State Fault Refusal :=
  .next (cb s ra rb off (fun a b => !a.slt b))

/-- CB.LTU (Table 6.5). -/
def execCbLtu (ra rb : BitVec 5) (off : BitVec 16) (s : State) : Host.Outcome State Fault Refusal :=
  .next (cb s ra rb off BitVec.ult)

/-- CB.GEU (Table 6.5). -/
def execCbGeu (ra rb : BitVec 5) (off : BitVec 16) (s : State) : Host.Outcome State Fault Refusal :=
  .next (cb s ra rb off (fun a b => !a.ult b))

/-- CBI.EQ (Table 6.5). -/
def execCbiEq (ra : BitVec 5) (imm : BitVec 5) (off : BitVec 16) (s : State) : Host.Outcome State Fault Refusal :=
  .next (cbi s ra imm off (fun a b => a == b))

/-- CBI.NE (Table 6.5). -/
def execCbiNe (ra : BitVec 5) (imm : BitVec 5) (off : BitVec 16) (s : State) : Host.Outcome State Fault Refusal :=
  .next (cbi s ra imm off (fun a b => a != b))

/-- CBI.LT (Table 6.5). -/
def execCbiLt (ra : BitVec 5) (imm : BitVec 5) (off : BitVec 16) (s : State) : Host.Outcome State Fault Refusal :=
  .next (cbi s ra imm off BitVec.slt)

/-- CBI.GE (Table 6.5). -/
def execCbiGe (ra : BitVec 5) (imm : BitVec 5) (off : BitVec 16) (s : State) : Host.Outcome State Fault Refusal :=
  .next (cbi s ra imm off (fun a b => !a.slt b))

/-- Depth and capacity of the shadow stack of the current level (R148). -/
def shadowDepth (t : Turner) : Nat := if t.cstat.priv then t.sssDepth else t.kssDepth
def shadowCapacity (t : Turner) : Nat := if t.cstat.priv then 256 else 1024

/-- The top entry of the shadow stack of the current level. -/
def shadowTop (t : Turner) : W64 :=
  if t.cstat.priv then vget t.sss (t.sssDepth - 1) 0 else vget t.kss (t.kssDepth - 1) 0

/-- Push an entry (R148). -/
def shadowPush (t : Turner) (v : W64) : Turner :=
  if t.cstat.priv then { t with sss := vset t.sss t.sssDepth v, sssDepth := t.sssDepth + 1 }
  else { t with kss := vset t.kss t.kssDepth v, kssDepth := t.kssDepth + 1 }

/-- Pop the top entry (R148). -/
def shadowPop (t : Turner) : Turner :=
  if t.cstat.priv then { t with sssDepth := t.sssDepth - 1 } else { t with kssDepth := t.kssDepth - 1 }

/-- A call to a target (R168). -/
def callRun (s : State) (reads : List Nat) (target : Turner → W64) : State :=
  turnerRun s reads none noExc fun s1 =>
    let t := s1.turner
    if shadowDepth t = shadowCapacity t then .exc s1 { cause := 7 } t.pc
    else
      let t1 := shadowPush { t with lk := t.pc + 4 } (t.pc + 4)
      .next (s1.setTurner { t1 with pc := target t }) 8

/-- J (R168). -/
def execJ (off : BitVec 26) (s : State) : Host.Outcome State Fault Refusal :=
  .next (turnerRun s [] none noExc fun s1 => .next (goto s1 (relTarget s1.turner.pc off)) 8)

/-- CALL (R168). -/
def execCall (off : BitVec 26) (s : State) : Host.Outcome State Fault Refusal :=
  .next (callRun s [] fun t => relTarget t.pc off)

/-- JR (R168). -/
def execJr (ra : BitVec 5) (s : State) : Host.Outcome State Fault Refusal :=
  .next (turnerRun s [ra.toNat] none noExc fun s1 => .next (goto s1 (s1.turner.gr ra.toNat)) 8)

/-- CALLR (R168). -/
def execCallr (ra : BitVec 5) (s : State) : Host.Outcome State Fault Refusal :=
  .next (callRun s [ra.toNat] fun t => t.gr ra.toNat)

/-- RET (R148, R168): eaddr of a mismatch is the top entry (Table 6.8). -/
def execRet (s : State) : Host.Outcome State Fault Refusal :=
  .next (turnerRun s [] none noExc fun s1 =>
    let t := s1.turner
    if shadowDepth t = 0 then .exc s1 { cause := 6, sub := 2 } t.pc
    else if shadowTop t ≠ t.lk then .exc s1 { cause := 6, sub := 1, addr := shadowTop t } t.pc
    else .next (s1.setTurner { shadowPop t with pc := t.lk }) 8)

/-- RDLK (R168). -/
def execRdlk (rd : BitVec 5) (s : State) : Host.Outcome State Fault Refusal :=
  .next (aluRun s [] rd 1 (·.lk))

/-- WRLK (R168). -/
def execWrlk (ra : BitVec 5) (s : State) : Host.Outcome State Fault Refusal :=
  .next (turnerRun s [ra.toNat] none noExc fun s1 =>
    .next (advance (s1.setTurner { s1.turner with lk := s1.turner.gr ra.toNat })) 1)

end Sys2Proof.Machine
end

