-- ==== Sys2Proof/Machine/TurnerSys.lean ====
section
/-! DEFINITION. The system instructions of the Turner, illegal encodings, interrupts, the completion of loads and stores after
commit, and the events of kernels, halts and budgets (05_turner_core, 06_turner_instruction_set). -/

namespace Sys2Proof.Machine
open Sys2Proof

/-! ### System instructions (R170, R171) -/

/-- NOP (Table 6.6). -/
def execTurnerNop (s : State) : Host.Outcome State Fault Refusal :=
  .next (turnerRun s [] none noExc fun s1 => .next (advance s1) 1)

/-- TRAP (Table 6.6, R146): epc is the offset after it. -/
def execTrap (code : BitVec 8) (s : State) : Host.Outcome State Fault Refusal :=
  .next (turnerRun s [] none noExc fun s1 => .exc s1 { cause := 0x0B, sub := code.toNat } (s1.turner.pc + 4))

/-- BREAK (Table 6.6, R146): epc is the offset after it. -/
def execTBreak (s : State) : Host.Outcome State Fault Refusal :=
  .next (turnerRun s [] none noExc fun s1 => .exc s1 { cause := 0x0A } (s1.turner.pc + 4))

/-- ERET (R147). -/
def execEret (s : State) : Host.Outcome State Fault Refusal :=
  .next (turnerRun s [] none privilege fun s1 => .next (s1.setTurner (returnFromHandler s1.turner)) 8)

/-- ERET.X (R147). -/
def execEretX (s : State) : Host.Outcome State Fault Refusal :=
  .next (turnerRun s [] none privilege fun s1 => .next (s1.setTurner (returnFromRescue s1.turner)) 8)

/-- ERET.L (R153, R171): the ready KERNEL in TC_LAUNCH is launched, or nothing happens. A launch writes every general register,
so it waits for loads that are out (R128). -/
def execEretL (s : State) : Host.Outcome State Fault Refusal :=
  .next (turnerRun s [] none privilege fun s1 =>
    match nextLaunch s1 with
    | none => .next (advance s1) 1
    | some (kid, o) => if s1.turner.loadsOut then .stall s1 else .next (launchKernel s1 kid o) 24)

/-- SYNC (R139): it completes only once every earlier access is globally observed. -/
def execSync (s : State) : Host.Outcome State Fault Refusal :=
  .next (turnerRun s [] none noExc fun s1 => if s1.turner.accesses.isEmpty then .next (advance s1) 3 else .stall s1)

/-- ISYNC (Table 6.6, R174). -/
def execIsync (s : State) : Host.Outcome State Fault Refusal :=
  .next (turnerRun s [] none noExc fun s1 => .next (advance (s1.setTurner s1.turner.isync)) 8)

/-! ### System registers (R172-R174, Table 6.7) -/

/-- A half of a segment slot. -/
def slotHalf (g : Segment) (high : Bool) : W64 := g.extractLsb' (if high then 64 else 0) 64

/-- A segment slot with a half replaced; reserved bits read 0. -/
def setSlotHalf (g : Segment) (high : Bool) (v : W64) : Segment :=
  (if high then (v ++ g.extractLsb' 0 64 : Segment) else (g.extractLsb' 64 64 ++ v : Segment)) &&& segMask

/-- Whether a number is in the TC window (Table 6.7). -/
def isWindowReg (sel : Nat) : Bool := decide (0x100 ≤ sel ∧ sel ≤ 0x1FF)

/-- The value of a core-local system register, none where the number is not assigned (Table 6.7). -/
def sysValue (s : State) (sel : Nat) : Option W64 :=
  let t := s.turner
  if 0x40 ≤ sel ∧ sel < 0x50 then some (slotHalf (vget t.sbank ((sel - 0x40) / 2) 0) (decide (sel % 2 = 1)))
  else if 0x50 ≤ sel ∧ sel < 0x60 then some (slotHalf (vget t.kbank ((sel - 0x50) / 2) 0) (decide (sel % 2 = 1)))
  else
    match sel with
    | 0x00 => some t.cstat.word
    | 0x01 => some t.ecause
    | 0x02 => some t.epc
    | 0x03 => some t.estat
    | 0x04 => some t.eaddr
    | 0x05 => some t.xcause
    | 0x06 => some t.xpc
    | 0x07 => some t.xstat
    | 0x08 => some t.xaddr
    | 0x10 => some (BitVec.ofNat 64 (s.clocks.cclk % 2 ^ 48))
    | 0x11 => some s.clocks.timebase
    | 0x12 => some t.timercmp
    | 0x13 => some (t.ipend.setWidth 64)
    | 0x14 => some (t.gpoison.setWidth 64)
    | 0x20 => some (BitVec.ofNat 64 t.kssDepth)
    | 0x21 => some (t.kssSel.setWidth 64)
    | 0x22 => some (vget t.kss t.kssSel.toNat 0)
    | 0x23 => some (BitVec.ofNat 64 t.sssDepth)
    | _ => none

/-- Whether a core-local number is assigned and RW or W1C at S (Table 6.7). -/
def sysWritable (sel : Nat) : Bool :=
  decide (sel ≤ 4) || decide (0x12 ≤ sel ∧ sel ≤ 0x14) || decide (0x20 ≤ sel ∧ sel ≤ 0x22) || decide (0x40 ≤ sel ∧ sel < 0x50)

/-- A write of a core-local system register (Table 6.7, R173, R174). A poison bit set through gpoison keeps the address that the
register's last poisoned load had (log entry 134). -/
def sysStore (s : State) (sel : Nat) (v : W64) : State :=
  let t := s.turner
  if 0x40 ≤ sel ∧ sel < 0x50 then
    let n := (sel - 0x40) / 2
    s.setTurner { t with sbankNext := vset t.sbankNext n (setSlotHalf (vget t.sbankNext n 0) (decide (sel % 2 = 1)) v) }
  else
    match sel with
    | 0x00 => s.setTurner { t with
        cstat := { t.cstat with ie := v.getLsbD 1, entry := v.getLsbD 3 }, cstatNext := some (v.getLsbD 0, v.getLsbD 2) }
    | 0x01 => s.setTurner { t with ecause := v }
    | 0x02 => s.setTurner { t with epc := v }
    | 0x03 => s.setTurner { t with estat := v }
    | 0x04 => s.setTurner { t with eaddr := v }
    | 0x12 =>
      let s1 := s.setTurner { t with timercmp := v }
      if timerMet s1 then s1 else s1.setTurner { s1.turner with icond := s1.turner.icond &&& 0b0111#4 }
    | 0x13 => s.setTurner { t with ipend := t.ipend &&& ~~~(v.setWidth 4) }
    | 0x14 => s.setTurner { t with gpoison := v.setWidth 32 }
    | 0x20 => if (v.setWidth 11).toNat ≤ 1024 then s.setTurner { t with kssDepth := (v.setWidth 11).toNat } else s
    | 0x21 => s.setTurner { t with kssSel := v.setWidth 10 }
    | 0x22 => s.setTurner { t with kss := vset t.kss t.kssSel.toNat v }
    | _ => s

/-- An ILLEGAL_OPCODE exception: eaddr is the word (Table 6.8). -/
def illegal (word : W32) : Exc := { cause := 1, addr := word.setWidth 64 }

/-- Whether R172 refuses an MFS at S. -/
def mfsRefused (s : State) (sel : Nat) : Bool := !isWindowReg sel && (sysValue s sel).isNone

/-- Whether R172 refuses an MTS at S. -/
def mtsRefused (sel : Nat) : Bool := !isWindowReg sel && !sysWritable sel

/-- The decode exceptions of MFS: at S a number that R172 refuses, at K every number but 0x010 and 0x011 (R144, R177). -/
def mfsExc (rd : BitVec 5) (sel : BitVec 12) (s : State) : Option Exc :=
  let word := BitVec.ofNat 32 (0x2F * 2 ^ 26 + rd.toNat * 2 ^ 21 + 6 * 4096 + sel.toNat)
  if s.turner.cstat.priv then (if mfsRefused s sel.toNat then some (illegal word) else none)
  else if sel = 0x010 ∨ sel = 0x011 then none
  else some { cause := 8 }

/-- The decode exceptions of MTS (R144, R177). -/
def mtsExc (sel : BitVec 12) (ra : BitVec 5) (s : State) : Option Exc :=
  let word := BitVec.ofNat 32 (0x2F * 2 ^ 26 + ra.toNat * 2 ^ 16 + 7 * 4096 + sel.toNat)
  if s.turner.cstat.priv then (if mtsRefused sel.toNat then some (illegal word) else none) else some { cause := 8 }

/-- The device address of a TC window register (R505). -/
def windowRegAddr (sel : Nat) : Nat := 0x800080040000 + 8 * (sel - 0x100)

/-- A TC window access in deterministic mode is outside the operand store (R134, R172). -/
def windowExc (s : State) (sel access : Nat) : Exc :=
  { cause := 3, sub := 5, addr := BitVec.ofNat 64 (windowRegAddr sel), sBank := s.turner.cstat.priv, access := access }

/-- MFS (R172). A TC window register is read out of order (R128). -/
def execMfs (rd : BitVec 5) (sel : BitVec 12) (s : State) : Host.Outcome State Fault Refusal :=
  .next (turnerRun s [] (some rd.toNat) (mfsExc rd sel) fun s1 =>
    if isWindowReg sel.toNat then
      if s1.turner.cstat.det then .exc s1 (windowExc s1 sel.toNat 1) s1.turner.pc
      else
        commitLoad s1 rd (windowRegAddr sel.toNat) { width := 8, signed := false } true [] (windowExc s1 sel.toNat 1)
    else
      .next (advance (s1.setTurner (s1.turner.setG rd.toNat ((sysValue s1 sel.toNat).getD 0)))) 3)

/-- MTS (R172, R174). A TC window register is written through the control window. -/
def execMts (sel : BitVec 12) (ra : BitVec 5) (s : State) : Host.Outcome State Fault Refusal :=
  .next (turnerRun s [ra.toNat] none (mtsExc sel ra) fun s1 =>
    let v := s1.turner.gr ra.toNat
    if isWindowReg sel.toNat then
      if s1.turner.cstat.det then .exc s1 (windowExc s1 sel.toNat 2) s1.turner.pc
      else commitStore s1 (windowRegAddr sel.toNat) (natToBytes v.toNat 8) false 0 s1.turner.cstat.priv 3
    else .next (advance (sysStore s1 sel.toNat v)) 3)

/-! ### Illegal encodings (R177, Table 6.9) -/

/-- Whether the tile encoding of a word breaks Table 7.3 (R188). -/
def tileIllegal (word : W32) : Bool :=
  let w := word.toNat
  let f (lo n : Nat) : Nat := bitsOf w lo n
  let badFmt (x : Nat) : Bool := decide (x = 0 ∨ 0xB ≤ x)
  match f 26 6 with
  | 0x30 => badFmt (f 16 4) || decide (f 0 1 ≠ 0)
  | 0x31 => decide (f 16 4 ≠ 0 ∨ f 0 1 ≠ 0)
  | 0x32 => decide (f 0 2 ≠ 0)
  | 0x33 => badFmt (f 17 4) || decide (f 16 1 ≠ 0 ∨ f 0 1 ≠ 0) || (decide (f 1 5 ≠ 0) && !isMxFmt (f 17 4))
  | 0x34 => decide (f 16 4 ≠ 0 ∨ f 0 1 ≠ 0) || (decide (f 23 1 = 1) && decide (f 11 5 ≠ 0))
  | 0x35 =>
    decide (f 0 9 ≠ 0) || (decide (f 24 1 = 1) && decide (3 < f 21 3)) ||
      (if f 25 1 = 1 ∧ f 24 1 = 0 then badFmt (f 14 4) else decide (f 14 4 ≠ 0))
  | 0x36 => decide (f 5 21 ≠ 0)
  | 0x37 =>
    match f 22 4 with
    | 0 => decide (f 16 4 ≠ 0 ∨ f 0 11 ≠ 0)
    | 1 => decide (f 0 21 ≠ 0)
    | 2 => decide (f 16 6 ≠ 0 ∨ f 0 16 = 0)
    | _ => true
  | _ => true

/-- Whether a word is an illegal encoding at the current level (Table 6.9). -/
def wordIllegal (s : State) (word : W32) : Bool :=
  let w := word.toNat
  let f (lo n : Nat) : Nat := bitsOf w lo n
  let major := f 26 6
  let rd := f 21 5
  let ra := f 16 5
  let rb := f 11 5
  let sel := f 0 12
  if major = 0x01 then
    decide (0x13 ≤ f 0 6) || decide (f 7 4 ≠ 0) ||
      (decide (f 6 1 = 1) && !(decide (f 0 6 ≤ 1) || decide (6 ≤ f 0 6 ∧ f 0 6 ≤ 9))) ||
      (decide (0x10 ≤ f 0 6) && decide (rb ≠ 0))
  else if 2 ≤ major ∧ major ≤ 7 then false
  else if major = 0x08 ∨ major = 0x0B then decide (ra ≠ 0)
  else if major = 0x09 then false
  else if major = 0x0A then decide (f 9 7 ≠ 0) || (decide (f 8 1 = 1) && decide (f 5 1 = 1))
  else if major = 0x0C then
    decide (7 ≤ f 0 4) || decide (f 5 6 ≠ 0) || (decide (f 4 1 = 1) && decide (f 0 4 = 1 ∨ f 0 4 = 2))
  else if 0x10 ≤ major ∧ major ≤ 0x16 then false
  else if 0x18 ≤ major ∧ major ≤ 0x1B then false
  else if 0x20 ≤ major ∧ major ≤ 0x29 then false
  else if major = 0x2C ∨ major = 0x2D then false
  else if major = 0x2E then
    match f 0 11 with
    | 0 => decide (rd ≠ 0 ∨ rb ≠ 0)
    | 1 => decide (rd ≠ 0 ∨ rb ≠ 0)
    | 2 => decide (rd ≠ 0 ∨ ra ≠ 0 ∨ rb ≠ 0)
    | 3 => decide (ra ≠ 0 ∨ rb ≠ 0)
    | 4 => decide (rd ≠ 0 ∨ rb ≠ 0)
    | _ => true
  else if major = 0x2F then
    match f 12 4 with
    | 0 => decide (rd ≠ 0 ∨ ra ≠ 0 ∨ sel ≠ 0)
    | 1 => decide (rd ≠ 0 ∨ ra ≠ 0 ∨ f 8 4 ≠ 0)
    | 2 => decide (rd ≠ 0 ∨ ra ≠ 0 ∨ sel ≠ 0)
    | 3 => decide (rd ≠ 0 ∨ ra ≠ 0 ∨ 2 < sel)
    | 4 => decide (rd ≠ 0 ∨ ra ≠ 0 ∨ sel ≠ 0)
    | 5 => decide (rd ≠ 0 ∨ ra ≠ 0 ∨ sel ≠ 0)
    | 6 => decide (ra ≠ 0) || (s.turner.cstat.priv && mfsRefused s sel)
    | 7 => decide (rd ≠ 0) || (s.turner.cstat.priv && mtsRefused sel)
    | _ => true
  else if 0x30 ≤ major ∧ major ≤ 0x37 then tileIllegal word
  else true

/-- ILLEGAL_OPCODE: the word fetched at pc is an illegal encoding, and the exception is raised at DE (R177); nothing happens for a
word that Table 6.9 does not make illegal (log entry 7). -/
def execIllegalOpcode (word : BitVec 32) (s : State) : Host.Outcome State Fault Refusal :=
  .next (if wordIllegal s word then turnerRun s [] none (fun _ => some (illegal word)) fun s1 => .stall s1 else s)

/-! ### Events of the core -/

/-- INTERRUPT_ENTRY: the pending interrupt with the lowest code is taken at the commit boundary (R146, R173). An asynchronous
exception is taken first. -/
def execInterruptEntry (s : State) : Host.Outcome State Fault Refusal :=
  .next (if !coreRuns s then s
    else
      let s0 := drainStores s
      match takeAsync s0 with
      | some s1 => s1
      | none =>
        match pendingInterrupt s0.turner with
        | none => s0
        | some i => takeException s0 { cause := 0x10 + i } s0.turner.pc)

/-- Perform the load at a place now, if the order lets it. -/
def performAt (s : State) (i : Nat) (ecc : List Ecc) : Option LoadData × State :=
  let earlier := s.turner.accesses.take i
  match s.turner.accesses[i]? with
  | some (.load _ _ _ _ _ (some d)) => (some d, s)
  | some (.load _ a k p cached none) =>
    if mayPerform earlier cached then
      match performLoad s earlier a.toNat k.width p ecc with
      | .data d s1 => (some d, s1)
      | .refused s1 => (some (noData k.width), s1)
      | .wait s1 => (none, s1)
    else (none, s)
  | _ => (none, s)

/-- LOAD_COMPLETION: the load at place i of the accesses completes after commit and writes its register, which is poisoned when the
data is (R128, R129). -/
def execLoadCompletion (i : Nat) (ecc : List Ecc) (s : State) : Host.Outcome State Fault Refusal :=
  .next (if !cclkRuns s then s
    else
      let s0 := drainStores s
      match performAt s0 i ecc with
      | (none, s1) => s1
      | (some d, s1) =>
        match s1.turner.accesses[i]? with
        | some (.load rd a k _ _ _) =>
          let t := { s1.turner with accesses := s1.turner.accesses.eraseIdx i }
          postDone (settleInvalidations (s1.setTurner (writeLoad t rd.toNat a.toNat k d)))
        | _ => s1)

/-- The accesses with their oldest pending store marked as failed, if no load waits before it. -/
def failOldest : List MemAccess → List MemAccess
  | .store a d p q c sl sb _ :: rest => .store a d p q c sl sb true :: rest
  | .load rd a k p c (some r) :: rest => .load rd a k p c (some r) :: failOldest rest
  | xs => xs

/-- ASYNC_STORE_FAILURE: the oldest store that is not yet observed fails at its destination, and the BUS_ERROR is taken at the next
commit boundary (R130). -/
def execAsyncStoreFailure (s : State) : Host.Outcome State Fault Refusal :=
  .next (if !cclkRuns s then s
    else
      let s1 := s.setTurner { s.turner with accesses := failOldest s.turner.accesses }
      if coreRuns s1 then (takeAsync s1).getD s1 else s1)

/-- TIMERCMP_REACHED: TIMEBASE has reached a non-zero timercmp, and ipend.TIMER is set once for it (R173). -/
def execTimercmpReached (s : State) : Host.Outcome State Fault Refusal :=
  .next (if coreRuns s && timerMet s && !s.turner.icond.getLsbD 3 then
      s.setTurner { s.turner with ipend := s.turner.ipend ||| 8, icond := s.turner.icond ||| 8 }
    else s)

/-- BUDGET_EXCEEDED: the current kernel's budget counter has passed its BUDGET, and ipend.BUDGET is set (R155, R173). -/
def execBudgetExceeded (s : State) : Host.Outcome State Fault Refusal :=
  .next (match s.turner.currentK with
    | none => s
    | some r =>
      if coreRuns s && r.passed && !r.overBudget then
        let t := s.turner.setRunning r.kid fun r => { r with overBudget := true }
        s.setTurner { t with ipend := t.ipend ||| 1 }
      else s)

/-- BUDGET_GRACE_TIMEOUT: 1 ms after BUDGET was raised for a kernel that the runtime has not completed, the core halts (R108,
R155). -/
def execBudgetGraceTimeout (s : State) : Host.Outcome State Fault Refusal :=
  .next (if coreRuns s && (s.turner.runningK.any fun r => r.overBudget) then haltCore s else s)

/-- HALT_WRITEBACK_COMPLETE (Table 5.7): every store and every modified line is written back, the running kernels complete with
FAULT_KERNEL code 0x02, and the halt is counted; the third in the window locks the core out, else the retained image is read
again. -/
def execHaltWritebackComplete (s : State) : Host.Outcome State Fault Refusal :=
  .next (if !cclkRuns s || decide (s.turner.mode ≠ .halted) then s
    else
      let s0 := drainStores s
      let s1 := if (failedStore s0.turner.accesses).isSome then dropStore s0 else s0
      if !s1.turner.accesses.isEmpty then s1
      else
        let s2 := postDone (failKernels (writeBackHostLines s1))
        let r := countHalt s2
        if r.1 then r.2
        else
          let s3 := coreReset r.2
          s3.setTurner { s3.turner with mode := .reloading })

/-- TC_KERNEL_DONE: the runtime writes word 0 with one 8-byte write (R154, R507). -/
def execTcKernelDone (value : BitVec 64) (s : State) : Host.Outcome State Fault Refusal :=
  .next (if runtimeWrites s then tcKernelDone s value else s)

/-- TC_RESUME: the runtime writes it (R516). -/
def execTcResume (value : BitVec 64) (s : State) : Host.Outcome State Fault Refusal :=
  .next (if runtimeWrites s then tcResume s (value.extractLsb' 0 10).toNat else s)

/-! ### KERNEL (04 R108, R112; 05 R153) -/

/-- KERNEL: once the order rules let it, the descriptor is ready for the core, which raises KERNEL_READY or PREEMPT, and it can fill
TC_LAUNCH; with no runtime loaded or the core locked out it is refused. Launched, it completes when the completion that the
runtime asked for, or its flush reads, are due (R153, R154). -/
def execKernel (k : Fin 512) (s : State) : Host.Outcome State Fault Refusal :=
  .next (match s.op k with
    | none => s
    | some o =>
      if o.opcode ≠ 0x08 || !s.running then s
      else
        match o.phase with
        | .finished => s
        | .started =>
          match o.closing with
          | some r => closeOp s k o r
          | none => if cclkRuns s then postDone (drainStores s) else s
        | .admitted =>
          if !orderAllows s o then s
          else if s.turner.locked || s.turner.retained.isNone then finishOp s k (Result.refused 0x12 0x20)
          else raiseKernelBits s)

end Sys2Proof.Machine
end

