-- ==== Sys2Proof/Machine/TurnerTile.lean ====
section
/-! DEFINITION. The commit of tile instructions: legality, ownership, the checks of R190 and R221, the tile queue and TBAR; the
asynchronous tile fault (05 R157; 07 R188-R193, R203). -/

namespace Sys2Proof.Machine
open Sys2Proof

/-- The row control word is in range for an instruction (Table 7.4); `dest` says whether AFIRST or DFIRST is used. -/
def rowControlOk (c : Nat) (dest : Bool) : Bool :=
  let first := c % 1024
  let count := bitsOf c 10 11
  decide (1 ≤ count ∧ count ≤ 1024 ∧ first + count ≤ 1024) && decide (c / 2 ^ 31 = 0) &&
    (!dest || decide (bitsOf c 21 10 + count ≤ 1024))

/-- A pitch is in range (Table 7.4). -/
def pitchOk (p : Nat) (least : Nat) : Bool := decide (p % 64 = 0 ∧ p < 2 ^ 32 ∧ least ≤ p)

/-- The finishing word of a TDRAIN is in range (08 R221). -/
def finishOk (f : Nat) (dest : Bool) : Bool :=
  let fmt := bitsOf f 0 4
  decide (fmt ≤ 0xB ∧ bitsOf f 4 2 ≠ 3) &&
    (decide (fmt ≠ 0xB) || decide (bitsOf f 11 1 = 0 ∧ bitsOf f 7 1 = 0 ∧ bitsOf f 4 2 = 0 ∧ bitsOf f 32 32 = 0x3F800000)) &&
    (!dest || decide (fmt = 3 ∨ fmt = 4 ∨ fmt = 0xA))

/-- Step 1 of R190: row control, pitch and finishing word. -/
def TileInstr.wordsOk (i : TileInstr) : Bool :=
  match i.kind with
  | .load => rowControlOk i.control false && pitchOk i.pitch 0
  | .store => rowControlOk i.control false && pitchOk i.pitch 1024
  | .mma => rowControlOk i.control true
  | .loadc => pitchOk i.pitch 0
  | .drain => rowControlOk i.control (decide (i.fld 23 1 = 1)) && finishOk i.rc.toNat (decide (i.fld 23 1 = 1))
  | .zero => rowControlOk i.control false
  | _ => true

/-- Whether the instruction names memory in EX, and the segment it names. -/
def TileInstr.memSeg (i : TileInstr) : Option Nat :=
  match i.kind with
  | .load => some (i.fld 20 3)
  | .store => some (i.fld 20 3)
  | .loadc => some (i.fld 21 3)
  | .drain => if i.fld 23 1 = 0 then some (i.fld 20 3) else none
  | .save => some (i.fld 18 3)
  | .restore => some (i.fld 18 3)
  | _ => none

/-- The right that its memory needs. -/
def TileInstr.need (i : TileInstr) : Need :=
  match i.kind with | .load => .read | .loadc => .read | .restore => .read | _ => .write

/-- The memory extents that R190 checks: offset and bytes. A TDRAIN to an MX format has one extent over its data and its scales
(08 R223); a TLOADC of an MX format has its planes' extent and that of its scales. -/
def TileInstr.extents (i : TileInstr) : List (Nat × Nat) :=
  let main := (i.offset, (i.count - 1) * i.pitch + i.rowBytes)
  match i.kind with
  | .loadc =>
    let mx := mxRowBytes (i.fld 17 4)
    if mx = 0 then [main] else [main, (i.rc.toNat, 1024 * mx)]
  | .drain => if isMxFmt (i.rc.toNat % 16) then [(i.offset, 1024 * i.rowBytes + 32 * i.count)] else [main]
  | _ => [main]

/-- The exception of the memory checks of R190, steps 2 to 5, if there is one: every extent passes a step before the next step
is looked at. -/
def tileMemExc (s : State) (i : TileInstr) (seg : Nat) (rescue : Bool) : Option Exc :=
  let g := i.seg
  let base : Exc := { cause := 0, slot := seg, sBank := i.priv, access := 3 }
  let ext := i.extents
  match ext.find? fun e => decide (e.1 % 64 ≠ 0) with
  | some e => some { base with cause := 2, addr := BitVec.ofNat 64 e.1 }
  | none =>
    if rescue then some { base with cause := 9, sub := 4 }
    else
      let bad := ext.filterMap fun e => match segAccess s g i.need (!i.priv) false e.1 e.2 1 with
        | .ok _ => none
        | .bad f => some (segExc f (BitVec.ofNat 64 e.1) seg i.priv 3)
      match bad.find? fun x => decide (x.cause ≠ 3), bad.head? with
      | some x, _ => some x
      | none, some x => some x
      | none, none =>
        let inStore := ext.all fun e => s.inRegion (segBase g + e.1) e.2 .operand
        let control := ext.any fun e => decide (s.region (segBase g + e.1) = .control)
        let onlyStore := decide (i.kind = .loadc) || decide (i.kind = .drain)
        if segType g = 2 || control || (onlyStore && !inStore) then some { base with cause := 9, sub := 4 } else none

/-- The checks of R190 that a TMMA's side streams get in EX: a TAG offset that is used is a multiple of 64, and the segment is
not of type HOST; their extents are checked when it issues (steps 2 and 5). -/
def sideExc (s : State) (i : TileInstr) : Option Exc :=
  let t := s.turner
  let seg := i.fld 12 3
  let base : Exc := { cause := 0, slot := seg, sBank := i.priv, access := 3 }
  let tag := i.rc.toNat / 2 ^ 32
  let tagged := decide (i.fld 15 1 = 1)
  if tagged && decide (tag % 64 ≠ 0) then some { base with cause := 2, addr := BitVec.ofNat 64 tag }
  else if segType i.seg = 2 || (tagged && isRescueSlot t (!t.cstat.priv) seg) then some { base with cause := 9, sub := 4 }
  else none

/-- A tile instruction at K of a kernel that does not own the tiles (R157, 06 R178). -/
def ownerExc (t : Turner) : Option Exc :=
  if !t.cstat.priv && decide (t.current.getD 0x3FF ≠ t.tileOwner.toNat) then some { cause := 9, sub := 1, access := 3 } else none

/-- The checks of a tile instruction in EX: ownership at K, then R190 (R157, R190). -/
def tileExc (s : State) (i : TileInstr) : Option Exc :=
  let t := s.turner
  match ownerExc t with
  | some x => some x
  | none =>
    if !i.wordsOk then some { cause := 9, sub := 2, access := 3 }
    else if i.kind = .mma then sideExc s i
    else
      match i.memSeg with
      | none => none
      | some seg => tileMemExc s i seg (isRescueSlot t (!t.cstat.priv) seg)

/-- The instruction as it is captured at commit. -/
def captureTile (s : State) (word : W32) (ra rb rc : Option (BitVec 5)) : TileInstr :=
  let t := s.turner
  let val (r : Option (BitVec 5)) : W64 := match r with | some x => t.gr x.toNat | none => 0
  let i : TileInstr :=
    { word := word, ra := val ra, rb := val rb, rc := val rc, owner := t.tileOwner, seg := 0, priv := t.cstat.priv, progress := 0
      storesBefore := t.storesLeft + (t.accesses.filter (·.isStore)).length }
  let seg := match i.kind with
    | .mma => i.fld 12 3
    | _ => i.memSeg.getD 0
  { i with seg := t.slot (!t.cstat.priv) seg }

/-- A tile instruction commits: it enters the queue of 16, or waits at RR while the queue is full (R178, R188, R193). -/
def tileRun (s : State) (word : W32) (ra rb rc : Option (BitVec 5)) : State :=
  turnerRun s ([ra, rb, rc].filterMap fun r => r.map (·.toNat)) none
    (fun _ => if tileIllegal word then some (illegal word) else none) fun s1 =>
      if 16 ≤ s1.lattice.queue.length then .stall s1
      else
        let i := captureTile s1 word ra rb rc
        match tileExc s1 i with
        | some x => .exc s1 x s1.turner.pc
        | none => .next (advance (s1.setLattice (pushTile s1.lattice i s1.clocks.cclk))) 1

/-- A word of Table 7.3 from its major opcode and its fields, each with the place of its lowest bit. -/
def tileWord (major : Nat) (fields : List (Nat × Nat)) : W32 :=
  BitVec.ofNat 32 (major * 2 ^ 26 + (fields.map fun p => p.1 * 2 ^ p.2).sum)

/-- TLOAD (Tables 7.3, 7.5). -/
def execTload (ot seg : BitVec 3) (fmt : BitVec 4) (ra rb rc : BitVec 5) (s : State) : Host.Outcome State Fault Refusal :=
  .next (tileRun s (tileWord 0x30 [(ot.toNat, 23), (seg.toNat, 20), (fmt.toNat, 16), (ra.toNat, 11), (rb.toNat, 6), (rc.toNat, 1)])
    (some ra) (some rb) (some rc))

/-- TSTORE (Tables 7.3, 7.5). -/
def execTstore (ot seg : BitVec 3) (ra rb rc : BitVec 5) (s : State) : Host.Outcome State Fault Refusal :=
  .next (tileRun s (tileWord 0x31 [(ot.toNat, 23), (seg.toNat, 20), (ra.toNat, 11), (rb.toNat, 6), (rc.toNat, 1)])
    (some ra) (some rb) (some rc))

/-- TMMA (Tables 7.3, 7.5). -/
def execTmma (at_ : BitVec 2) (ot : BitVec 3) (cp quad : BitVec 2) (acc v : Bool) (seg : BitVec 3) (rb rc : BitVec 5) (s : State) :
    Host.Outcome State Fault Refusal :=
  .next (tileRun s (tileWord 0x32 [(at_.toNat, 24), (ot.toNat, 21), (cp.toNat, 19), (quad.toNat, 17), (acc.toNat, 16), (v.toNat, 15),
    (seg.toNat, 12), (rb.toNat, 7), (rc.toNat, 2)]) none (some rb) (some rc))

/-- TLOADC (Tables 7.3, 7.5); its scale register is read for an MX format only. -/
def execTloadc (cp : BitVec 2) (seg : BitVec 3) (fmt : BitVec 4) (ra rb rc : BitVec 5) (s : State) :
    Host.Outcome State Fault Refusal :=
  .next (tileRun s (tileWord 0x33 [(cp.toNat, 24), (seg.toNat, 21), (fmt.toNat, 17), (ra.toNat, 11), (rb.toNat, 6), (rc.toNat, 1)])
    (some ra) (some rb) (if isMxFmt fmt.toNat then some rc else none))

/-- TDRAIN to memory or into an operand tile (Tables 7.3, 7.5): `d` is DEST, `sel` the segment or the tile. -/
def execTdrain (at_ : BitVec 2) (d : Bool) (sel : BitVec 3) (ra rb rc : BitVec 5) (s : State) : Host.Outcome State Fault Refusal :=
  .next (tileRun s (tileWord 0x34 [(at_.toNat, 24), (d.toNat, 23), (sel.toNat, 20), (ra.toNat, 11), (rb.toNat, 6), (rc.toNat, 1)])
    (if d then none else some ra) (some rb) (some rc))

/-- TSAVE (Tables 7.3, 7.5): `acc` is KIND. -/
def execTsave (acc : Bool) (index seg : BitVec 3) (ra : BitVec 5) (s : State) : Host.Outcome State Fault Refusal :=
  .next (tileRun s (tileWord 0x35 [(acc.toNat, 24), (index.toNat, 21), (seg.toNat, 18), (ra.toNat, 9)]) (some ra) none none)

/-- TREST (Tables 7.3, 7.5). -/
def execTrest (acc : Bool) (index seg : BitVec 3) (fmt : BitVec 4) (ra : BitVec 5) (s : State) : Host.Outcome State Fault Refusal :=
  .next (tileRun s (tileWord 0x35 [(1, 25), (acc.toNat, 24), (index.toNat, 21), (seg.toNat, 18), (fmt.toNat, 14), (ra.toNat, 9)])
    (some ra) none none)

/-- TZERO (Tables 7.3, 7.5). -/
def execTzero (at_ : BitVec 2) (rb : BitVec 5) (s : State) : Host.Outcome State Fault Refusal :=
  .next (tileRun s (tileWord 0x37 [(at_.toNat, 20), (rb.toNat, 11)]) none (some rb) none)

/-- TFOLD (Tables 7.3, 7.5). -/
def execTfold (f : Bool) (s : State) : Host.Outcome State Fault Refusal :=
  .next (tileRun s (tileWord 0x37 [(1, 22), (f.toNat, 21)]) none none none)

/-- TDLY (Tables 7.3, 7.5). -/
def execTdly (n : BitVec 16) (s : State) : Host.Outcome State Fault Refusal :=
  .next (tileRun s (tileWord 0x37 [(2, 22), (n.toNat, 0)]) none none none)

/-- Whether TBAR's ports name a port; 0 names all (Table 7.3). -/
def names (ports : BitVec 5) (bit : Nat) : Bool := decide (ports = 0) || ports.getLsbD bit

/-- Device memory as the Turner's committed stores will leave it. -/
def committedMem (s : State) : Memory :=
  s.turner.accesses.foldl (fun m x => match x with
    | .store a data _ _ _ _ _ false => m.writeN a.toNat data
    | _ => m) s.dev

/-- Whether a Spindle command is in progress, or its entry at HEAD is or will be eligible (09 R241). A store that set OWN and has
committed is seen though it is not performed yet. -/
def spindleActive (s : State) : Bool :=
  let own (s : State) : Bool := (fld (ringEntry s s.spindle.head.toNat) 1 1).testBit 0 == s.spindle.phase
  !s.spindle.running.isEmpty ||
    (s.spindle.enable && !s.spindle.faulted && (own s || own (s.setDev (committedMem s))))

/-- Whether a tile instruction for a named port is queued or incomplete (R191): one that has stopped with its fault is, until it
is resumed and completes, or is discarded. -/
def portsBusy (s : State) (ports : BitVec 5) : Bool :=
  let l := s.lattice
  ((l.restart ++ l.queue).any fun i => !(decide (i.kind = .fold) || decide (i.kind = .delay)) && names ports (i.port l.fold).bit) ||
    (l.flight.any fun f => !f.complete && names ports f.port.bit) ||
    ((l.fault.toList ++ l.held).any fun f => names ports f.port.bit) || (names ports 0 && spindleActive s)

/-- TBAR (R191): at K it is checked for ownership (06 R178); it waits at commit until no instruction for the named ports is
queued or incomplete; a pending tile fault is taken at it. -/
def execTbar (ports : BitVec 5) (s : State) : Host.Outcome State Fault Refusal :=
  .next (turnerRun s [] none noExc fun s1 =>
    match ownerExc s1.turner with
    | some x => .exc s1 x s1.turner.pc
    | none => if portsBusy s1 ports then .stall s1 else .next (advance s1) 1)

/-- TILE_ASYNC_FAULT: the instruction at place j of the flight meets its fault and stops at its progress; the fault is taken at the
next commit boundary (R203). -/
def execTileAsyncFault (j : Nat) (s : State) : Host.Outcome State Fault Refusal :=
  .next (match s.lattice.flight[j]? with
    | none => s
    | some f =>
      match f.stop with
      | none => s
      | some p =>
        if !cclkRuns s || f.complete then s
        else
          let s1 := raiseTile s j f p
          if coreRuns s1 then (takeAsync s1).getD s1 else s1)

end Sys2Proof.Machine
end

