-- ==== Sys2Proof/Machine/Dispatch.lean ====
section
/-! DEFINITION. The dispatch of the commands: one arm per constructor of Instr. -/

namespace Sys2Proof.Machine
open Sys2Proof

/-- The effect of a command on everything but the queue. -/
def exec (i : Instr) (s : State) : Host.Outcome State Fault Refusal :=
  match i with
  -- rings (03)
  | .doorbell ring => Sys2Proof.Machine.execDoorbell ring s
  | .push ring slot data => Sys2Proof.Machine.execPush ring slot data s
  | .crHead ring value => Sys2Proof.Machine.execCrHead ring value s
  | .fetchGrant => Sys2Proof.Machine.execFetchGrant s
  | .forwardScan ring => Sys2Proof.Machine.execForwardScan ring s
  | .ringReadReturn ring failed => Sys2Proof.Machine.execRingReadReturn ring failed s
  | .completionWrite cr refused => Sys2Proof.Machine.execCompletionWrite cr refused s
  | .msixCoalesceTimer cr => Sys2Proof.Machine.execMsixCoalesceTimer cr s
  | .enableSet => Sys2Proof.Machine.execEnableSet s
  | .enableClear => Sys2Proof.Machine.execEnableClear s
  | .drainComplete => Sys2Proof.Machine.execDrainComplete s
  -- operations (04)
  | .nop k => Sys2Proof.Machine.execNop k s
  | .copy k ecc => Sys2Proof.Machine.execCopy k ecc s
  | .convert k ecc => Sys2Proof.Machine.execConvert k ecc s
  | .fill k ecc => Sys2Proof.Machine.execFill k ecc s
  | .kernel k => Sys2Proof.Machine.execKernel k s
  | .wait k ecc => Sys2Proof.Machine.execWait k ecc s
  | .signal k ecc => Sys2Proof.Machine.execSignal k ecc s
  | .relay k => Sys2Proof.Machine.execRelay k s
  | .fence k => Sys2Proof.Machine.execFence k s
  | .streamPark k ecc => Sys2Proof.Machine.execStreamPark k ecc s
  | .streamUnpark k ecc => Sys2Proof.Machine.execStreamUnpark k ecc s
  | .histogramRead k => Sys2Proof.Machine.execHistogramRead k s
  | .keepWrite k ecc => Sys2Proof.Machine.execKeepWrite k ecc s
  | .keepRead k bad => Sys2Proof.Machine.execKeepRead k bad s
  | .keepCommit run => Sys2Proof.Machine.execKeepCommit run s
  | .keepScrub k bad => Sys2Proof.Machine.execKeepScrub k bad s
  | .ringCreate k => Sys2Proof.Machine.execRingCreate k s
  | .ringDelete k => Sys2Proof.Machine.execRingDelete k s
  | .ringReset k => Sys2Proof.Machine.execRingReset k s
  | .segmentSet k => Sys2Proof.Machine.execSegmentSet k s
  | .relayTableSet k => Sys2Proof.Machine.execRelayTableSet k s
  | .counterSet k => Sys2Proof.Machine.execCounterSet k s
  | .runtimeLoad k ecc => Sys2Proof.Machine.execRuntimeLoad k ecc s
  | .arrayCreate run => Sys2Proof.Machine.execArrayCreate run s
  | .arrayImport k => Sys2Proof.Machine.execArrayImport k s
  | .memberReplace k => Sys2Proof.Machine.execMemberReplace k s
  | .slotDefine k => Sys2Proof.Machine.execSlotDefine k s
  | .spareAdd k => Sys2Proof.Machine.execSpareAdd k s
  | .fwStage k ecc => Sys2Proof.Machine.execFwStage k ecc s
  | .fwActivate k => Sys2Proof.Machine.execFwActivate k s
  | .fwConfirm k => Sys2Proof.Machine.execFwConfirm k s
  | .telemetrySnapshot k => Sys2Proof.Machine.execTelemetrySnapshot k s
  | .vaultDiscard k => Sys2Proof.Machine.execVaultDiscard k s
  -- host link (02)
  | .bar4Read offset len ecc => Sys2Proof.Machine.execBar4Read offset len ecc s
  | .bar4Write offset data poison ecc => Sys2Proof.Machine.execBar4Write offset data poison ecc s
  | .atomicop bar4 offset op is64 ecc => Sys2Proof.Machine.execAtomicop bar4 offset op is64 ecc s
  | .cxlMemRead line ecc => Sys2Proof.Machine.execCxlMemRead line ecc s
  | .cxlMemWrite line data keep => Sys2Proof.Machine.execCxlMemWrite line data keep s
  | .backInvalidateResponse line => Sys2Proof.Machine.execBackInvalidateResponse line s
  | .backInvalidateTimeout line => Sys2Proof.Machine.execBackInvalidateTimeout line s
  | .hostSnoop line bad => Sys2Proof.Machine.execHostSnoop line bad s
  | .atsInvalidateRequest tag pasid page count => Sys2Proof.Machine.execAtsInvalidateRequest tag pasid page count s
  | .translationCompletion pasid page result => Sys2Proof.Machine.execTranslationCompletion pasid page result s
  | .completionTimeout r => Sys2Proof.Machine.execCompletionTimeout r s
  | .linkError e => Sys2Proof.Machine.execLinkError e s
  | .laneRetire lane => Sys2Proof.Machine.execLaneRetire lane s
  | .hdmDecoderCommit => Sys2Proof.Machine.execHdmDecoderCommit s
  | .resizableBarWrite enc => Sys2Proof.Machine.execResizableBarWrite enc s
  | .configurationRequest r => Sys2Proof.Machine.execConfigurationRequest r s
  | .powerStateWrite d3hot => Sys2Proof.Machine.execPowerStateWrite d3hot s
  | .linkLoss => Sys2Proof.Machine.execLinkLoss s
  | .functionLevelReset => Sys2Proof.Machine.execFunctionLevelReset s
  | .perstN => Sys2Proof.Machine.execPerstN s
  | .counterValueTaken => Sys2Proof.Machine.execCounterValueTaken s
  -- Turner instructions (06)
  | .add rd ra rb w => Sys2Proof.Machine.execAdd rd ra rb w s
  | .sub rd ra rb w => Sys2Proof.Machine.execSub rd ra rb w s
  | .and rd ra rb => Sys2Proof.Machine.execAnd rd ra rb s
  | .or rd ra rb => Sys2Proof.Machine.execOr rd ra rb s
  | .xor rd ra rb => Sys2Proof.Machine.execXor rd ra rb s
  | .andn rd ra rb => Sys2Proof.Machine.execAndn rd ra rb s
  | .sll rd ra rb w => Sys2Proof.Machine.execSll rd ra rb w s
  | .srl rd ra rb w => Sys2Proof.Machine.execSrl rd ra rb w s
  | .sra rd ra rb w => Sys2Proof.Machine.execSra rd ra rb w s
  | .ror rd ra rb w => Sys2Proof.Machine.execRor rd ra rb w s
  | .slt rd ra rb => Sys2Proof.Machine.execSlt rd ra rb s
  | .sltu rd ra rb => Sys2Proof.Machine.execSltu rd ra rb s
  | .min rd ra rb => Sys2Proof.Machine.execMin rd ra rb s
  | .max rd ra rb => Sys2Proof.Machine.execMax rd ra rb s
  | .minu rd ra rb => Sys2Proof.Machine.execMinu rd ra rb s
  | .maxu rd ra rb => Sys2Proof.Machine.execMaxu rd ra rb s
  | .clz rd ra => Sys2Proof.Machine.execClz rd ra s
  | .ctz rd ra => Sys2Proof.Machine.execCtz rd ra s
  | .popc rd ra => Sys2Proof.Machine.execPopc rd ra s
  | .mul rd ra rb w => Sys2Proof.Machine.execMul rd ra rb w s
  | .mulh rd ra rb => Sys2Proof.Machine.execMulh rd ra rb s
  | .mulhu rd ra rb => Sys2Proof.Machine.execMulhu rd ra rb s
  | .div rd ra rb w => Sys2Proof.Machine.execDiv rd ra rb w s
  | .divu rd ra rb w => Sys2Proof.Machine.execDivu rd ra rb w s
  | .rem rd ra rb w => Sys2Proof.Machine.execRem rd ra rb w s
  | .remu rd ra rb w => Sys2Proof.Machine.execRemu rd ra rb w s
  | .addi rd ra imm => Sys2Proof.Machine.execAddi rd ra imm s
  | .andi rd ra imm => Sys2Proof.Machine.execAndi rd ra imm s
  | .ori rd ra imm => Sys2Proof.Machine.execOri rd ra imm s
  | .xori rd ra imm => Sys2Proof.Machine.execXori rd ra imm s
  | .slti rd ra imm => Sys2Proof.Machine.execSlti rd ra imm s
  | .sltiu rd ra imm => Sys2Proof.Machine.execSltiu rd ra imm s
  | .movi rd imm => Sys2Proof.Machine.execMovi rd imm s
  | .sloi rd ra imm => Sys2Proof.Machine.execSloi rd ra imm s
  | .addpc rd imm => Sys2Proof.Machine.execAddpc rd imm s
  | .slli rd ra n w => Sys2Proof.Machine.execSlli rd ra n w s
  | .srli rd ra n w => Sys2Proof.Machine.execSrli rd ra n w s
  | .srai rd ra n w => Sys2Proof.Machine.execSrai rd ra n w s
  | .rori rd ra n w => Sys2Proof.Machine.execRori rd ra n w s
  | .ldB rd ra seg k disp late ecc => Sys2Proof.Machine.execLdB rd ra seg k disp late ecc s
  | .ldBu rd ra seg k disp late ecc => Sys2Proof.Machine.execLdBu rd ra seg k disp late ecc s
  | .ldH rd ra seg k disp late ecc => Sys2Proof.Machine.execLdH rd ra seg k disp late ecc s
  | .ldHu rd ra seg k disp late ecc => Sys2Proof.Machine.execLdHu rd ra seg k disp late ecc s
  | .ldW rd ra seg k disp late ecc => Sys2Proof.Machine.execLdW rd ra seg k disp late ecc s
  | .ldWu rd ra seg k disp late ecc => Sys2Proof.Machine.execLdWu rd ra seg k disp late ecc s
  | .ldD rd ra seg k disp late ecc => Sys2Proof.Machine.execLdD rd ra seg k disp late ecc s
  | .stB rs ra seg k disp => Sys2Proof.Machine.execStB rs ra seg k disp s
  | .stH rs ra seg k disp => Sys2Proof.Machine.execStH rs ra seg k disp s
  | .stW rs ra seg k disp => Sys2Proof.Machine.execStW rs ra seg k disp s
  | .stD rs ra seg k disp => Sys2Proof.Machine.execStD rs ra seg k disp s
  | .cbEq ra rb off => Sys2Proof.Machine.execCbEq ra rb off s
  | .cbNe ra rb off => Sys2Proof.Machine.execCbNe ra rb off s
  | .cbLt ra rb off => Sys2Proof.Machine.execCbLt ra rb off s
  | .cbGe ra rb off => Sys2Proof.Machine.execCbGe ra rb off s
  | .cbLtu ra rb off => Sys2Proof.Machine.execCbLtu ra rb off s
  | .cbGeu ra rb off => Sys2Proof.Machine.execCbGeu ra rb off s
  | .cbiEq ra imm off => Sys2Proof.Machine.execCbiEq ra imm off s
  | .cbiNe ra imm off => Sys2Proof.Machine.execCbiNe ra imm off s
  | .cbiLt ra imm off => Sys2Proof.Machine.execCbiLt ra imm off s
  | .cbiGe ra imm off => Sys2Proof.Machine.execCbiGe ra imm off s
  | .j off => Sys2Proof.Machine.execJ off s
  | .call off => Sys2Proof.Machine.execCall off s
  | .jr ra => Sys2Proof.Machine.execJr ra s
  | .callr ra => Sys2Proof.Machine.execCallr ra s
  | .ret => Sys2Proof.Machine.execRet s
  | .rdlk rd => Sys2Proof.Machine.execRdlk rd s
  | .wrlk ra => Sys2Proof.Machine.execWrlk ra s
  | .turnerNop => Sys2Proof.Machine.execTurnerNop s
  | .trap code => Sys2Proof.Machine.execTrap code s
  | .tBreak => Sys2Proof.Machine.execTBreak s
  | .eret => Sys2Proof.Machine.execEret s
  | .eretX => Sys2Proof.Machine.execEretX s
  | .eretL => Sys2Proof.Machine.execEretL s
  | .sync => Sys2Proof.Machine.execSync s
  | .isync => Sys2Proof.Machine.execIsync s
  | .mfs rd sel => Sys2Proof.Machine.execMfs rd sel s
  | .mts sel ra => Sys2Proof.Machine.execMts sel ra s
  -- Turner events (05)
  | .interruptEntry => Sys2Proof.Machine.execInterruptEntry s
  | .loadCompletion index ecc => Sys2Proof.Machine.execLoadCompletion index ecc s
  | .asyncStoreFailure => Sys2Proof.Machine.execAsyncStoreFailure s
  | .haltWritebackComplete => Sys2Proof.Machine.execHaltWritebackComplete s
  | .runtimeReload ecc failed => Sys2Proof.Machine.execRuntimeReload ecc failed s
  | .budgetExceeded => Sys2Proof.Machine.execBudgetExceeded s
  | .budgetGraceTimeout => Sys2Proof.Machine.execBudgetGraceTimeout s
  | .timercmpReached => Sys2Proof.Machine.execTimercmpReached s
  | .tcKernelDone value => Sys2Proof.Machine.execTcKernelDone value s
  | .tcResume value => Sys2Proof.Machine.execTcResume value s
  -- Lattice (07, 08)
  | .tload ot seg fmt ra rb rc => Sys2Proof.Machine.execTload ot seg fmt ra rb rc s
  | .tstore ot seg ra rb rc => Sys2Proof.Machine.execTstore ot seg ra rb rc s
  | .tmma at_ ot cp quad acc v seg rb rc => Sys2Proof.Machine.execTmma at_ ot cp quad acc v seg rb rc s
  | .tloadc cp seg fmt ra rb rc => Sys2Proof.Machine.execTloadc cp seg fmt ra rb rc s
  | .tdrain at_ d sel ra rb rc => Sys2Proof.Machine.execTdrain at_ d sel ra rb rc s
  | .tsave acc index seg ra => Sys2Proof.Machine.execTsave acc index seg ra s
  | .trest acc index seg fmt ra => Sys2Proof.Machine.execTrest acc index seg fmt ra s
  | .tbar ports => Sys2Proof.Machine.execTbar ports s
  | .tzero at_ rb => Sys2Proof.Machine.execTzero at_ rb s
  | .tfold f => Sys2Proof.Machine.execTfold f s
  | .tdly n => Sys2Proof.Machine.execTdly n s
  | .tileIssue ecc tecc => Sys2Proof.Machine.execTileIssue ecc tecc s
  | .tileInstructionComplete j => Sys2Proof.Machine.execTileInstructionComplete j s
  | .tileAsyncFault j => Sys2Proof.Machine.execTileAsyncFault j s
  | .resume => Sys2Proof.Machine.execResume s
  | .tileDiscard => Sys2Proof.Machine.execTileDiscard s
  | .nfPwlCommit value => Sys2Proof.Machine.execNfPwlCommit value s
  -- Spindle (09)
  | .spindleEnable on => Sys2Proof.Machine.execSpindleEnable on s
  | .spContinue => Sys2Proof.Machine.execSpContinue s
  | .spClear => Sys2Proof.Machine.execSpClear s
  | .spStep => Sys2Proof.Machine.execSpStep s
  | .spScan => Sys2Proof.Machine.execSpScan s
  | .spindleCommandComplete ecc tecc => Sys2Proof.Machine.execSpindleCommandComplete ecc tecc s
  -- Keep and cache (11, 12, 20)
  | .destageStripeStart ecc => Sys2Proof.Machine.execDestageStripeStart ecc s
  | .stripeLockGrant ecc => Sys2Proof.Machine.execStripeLockGrant ecc s
  | .stripeReadsComplete reads => Sys2Proof.Machine.execStripeReadsComplete reads s
  | .stripeWritesComplete lock => Sys2Proof.Machine.execStripeWritesComplete lock s
  | .driveCommandCompletion work member error => Sys2Proof.Machine.execDriveCommandCompletion work member error s
  | .driveCommandTimeout work member => Sys2Proof.Machine.execDriveCommandTimeout work member s
  | .driveLinkDown port => Sys2Proof.Machine.execDriveLinkDown port s
  | .driveLinkDownTimeout port => Sys2Proof.Machine.execDriveLinkDownTimeout port s
  | .driveLinkReturn port found => Sys2Proof.Machine.execDriveLinkReturn port found s
  | .driveControllerFatal port => Sys2Proof.Machine.execDriveControllerFatal port s
  | .unrecoveredReadError port stripe off len others => Sys2Proof.Machine.execUnrecoveredReadError port stripe off len others s
  | .driveInsertion port drive => Sys2Proof.Machine.execDriveInsertion port drive s
  | .rebuildAutoStart => Sys2Proof.Machine.execRebuildAutoStart s
  | .rebuildStep run => Sys2Proof.Machine.execRebuildStep run s
  | .resyncStep bad => Sys2Proof.Machine.execResyncStep bad s
  | .patrolScrubStep bad => Sys2Proof.Machine.execPatrolScrubStep bad s
  | .bitmapClearBatch => Sys2Proof.Machine.execBitmapClearBatch s
  | .drivePortTestDaily port => Sys2Proof.Machine.execDrivePortTestDaily port s
  | .kpPortTestStart ports => Sys2Proof.Machine.execKpPortTestStart ports s
  | .portTestEnd lock errors0 errors1 tenths => Sys2Proof.Machine.execPortTestEnd lock errors0 errors1 tenths s
  -- assurance, power, clock (01, 12, 17, 18)
  | .holdAssureFall => Sys2Proof.Machine.execHoldAssureFall s
  | .holdAssureRise => Sys2Proof.Machine.execHoldAssureRise s
  | .statusWordStale => Sys2Proof.Machine.execStatusWordStale s
  | .throttleReqChange => Sys2Proof.Machine.execThrottleReqChange s
  | .pwrLoss => Sys2Proof.Machine.execPwrLoss s
  | .vaultDumpStart => Sys2Proof.Machine.execVaultDumpStart s
  | .vaultSeal eepromOk => Sys2Proof.Machine.execVaultSeal eepromOk s
  | .inputReturn => Sys2Proof.Machine.execInputReturn s
  | .packCutoff => Sys2Proof.Machine.execPackCutoff s
  | .packProtectionTrip => Sys2Proof.Machine.execPackProtectionTrip s
  | .vaultReplay => Sys2Proof.Machine.execVaultReplay s
  | .emergencyOff => Sys2Proof.Machine.execEmergencyOff s
  | .pwrPrsntNBreak => Sys2Proof.Machine.execPwrPrsntNBreak s
  | .inputOvervoltage => Sys2Proof.Machine.execInputOvervoltage s
  | .railOutOfLimits => Sys2Proof.Machine.execRailOutOfLimits s
  | .holdupRailLow => Sys2Proof.Machine.execHoldupRailLow s
  | .startUp e => Sys2Proof.Machine.execStartUp e s
  | .retainedPowerOn e => Sys2Proof.Machine.execRetainedPowerOn e s
  | .pllLockLoss => Sys2Proof.Machine.execPllLockLoss s
  | .pllRelock => Sys2Proof.Machine.execPllRelock s
  | .pllRelockTimeout e => Sys2Proof.Machine.execPllRelockTimeout e s
  -- gauge (13)
  | .gaugeSample x eepromOk => Sys2Proof.Machine.execGaugeSample x eepromOk s
  | .restCorrection eepromOk => Sys2Proof.Machine.execRestCorrection eepromOk s
  | .chargeStart => Sys2Proof.Machine.execChargeStart s
  | .chargeEnd eepromOk => Sys2Proof.Machine.execChargeEnd eepromOk s
  | .chargeTimeout => Sys2Proof.Machine.execChargeTimeout s
  | .impedanceTestStart v0 => Sys2Proof.Machine.execImpedanceTestStart v0 s
  | .impedanceV10Sample v10 => Sys2Proof.Machine.execImpedanceV10Sample v10 s
  | .impedanceV200Sample v200 => Sys2Proof.Machine.execImpedanceV200Sample v200 s
  | .impedanceRetry v0 => Sys2Proof.Machine.execImpedanceRetry v0 s
  | .packInsertion eeprom => Sys2Proof.Machine.execPackInsertion eeprom s
  | .packRemoval => Sys2Proof.Machine.execPackRemoval s
  | .hpEventRearm crit => Sys2Proof.Machine.execHpEventRearm crit s
  | .hpControlTest inhibit => Sys2Proof.Machine.execHpControlTest inhibit s
  | .chargeInhibit inhibit => Sys2Proof.Machine.execChargeInhibit inhibit s
  -- management (14)
  | .controlLoopTick publish readings power rails retainedOk eepromOk => Sys2Proof.Machine.execControlLoopTick publish readings power rails retainedOk eepromOk s
  | .comparatorSelftest pass => Sys2Proof.Machine.execComparatorSelftest pass s
  | .lockstepMismatch retainedOk => Sys2Proof.Machine.execLockstepMismatch retainedOk s
  | .watchdogTimeout retainedOk => Sys2Proof.Machine.execWatchdogTimeout retainedOk s
  | .thermalTrip sensor value => Sys2Proof.Machine.execThermalTrip sensor value s
  | .tripClear readings => Sys2Proof.Machine.execTripClear readings s
  | .nvmeMiPoll port reply => Sys2Proof.Machine.execNvmeMiPoll port reply s
  | .opRequest => Sys2Proof.Machine.execOpRequest s
  | .mbxData toJiman => Sys2Proof.Machine.execMbxData toJiman s
  | .regWrite => Sys2Proof.Machine.execRegWrite s
  | .alert => Sys2Proof.Machine.execAlert s
  | .doeSpdm fragment last => Sys2Proof.Machine.execDoeSpdm fragment last s
  | .opReply => Sys2Proof.Machine.execOpReply s
  | .assureNotice => Sys2Proof.Machine.execAssureNotice s
  | .resetNotice => Sys2Proof.Machine.execResetNotice s
  | .mbxTake => Sys2Proof.Machine.execMbxTake s
  | .mbxSend => Sys2Proof.Machine.execMbxSend s
  | .pubWrite value => Sys2Proof.Machine.execPubWrite value s
  | .wdog => Sys2Proof.Machine.execWdog s
  | .flashCommand op => Sys2Proof.Machine.execFlashCommand op s
  | .flashOperationDone => Sys2Proof.Machine.execFlashOperationDone s
  | .signatureCommand => Sys2Proof.Machine.execSignatureCommand s
  | .blowRevoke slot => Sys2Proof.Machine.execBlowRevoke slot s
  | .oneshotTimerExpiry => Sys2Proof.Machine.execOneshotTimerExpiry s
  | .tickLoRead d => Sys2Proof.Machine.execTickLoRead d s
  -- sideband (14, 16)
  | .entdaa addr => Sys2Proof.Machine.execEntdaa addr s
  | .setEndpointId eid => Sys2Proof.Machine.execSetEndpointId eid s
  | .getEndpointId => Sys2Proof.Machine.execGetEndpointId s
  | .getMctpVersionSupport => Sys2Proof.Machine.execGetMctpVersionSupport s
  | .getMessageTypeSupport => Sys2Proof.Machine.execGetMessageTypeSupport s
  | .getVendorDefinedMessageSupport => Sys2Proof.Machine.execGetVendorDefinedMessageSupport s
  | .pldmBaseCommand cmd => Sys2Proof.Machine.execPldmBaseCommand cmd s
  | .pldmSensorRead sensor => Sys2Proof.Machine.execPldmSensorRead sensor s
  | .setEventReceiver receiver => Sys2Proof.Machine.execSetEventReceiver receiver s
  | .requestUpdate => Sys2Proof.Machine.execRequestUpdate s
  | .passComponentTable => Sys2Proof.Machine.execPassComponentTable s
  | .updateComponent => Sys2Proof.Machine.execUpdateComponent s
  | .requestFirmwareData offset data => Sys2Proof.Machine.execRequestFirmwareData offset data s
  | .activateFirmware => Sys2Proof.Machine.execActivateFirmware s
  | .cancelUpdate => Sys2Proof.Machine.execCancelUpdate s
  | .getVersion => Sys2Proof.Machine.execGetVersion s
  | .getCapabilities => Sys2Proof.Machine.execGetCapabilities s
  | .negotiateAlgorithms => Sys2Proof.Machine.execNegotiateAlgorithms s
  | .getDigests => Sys2Proof.Machine.execGetDigests s
  | .getCertificate => Sys2Proof.Machine.execGetCertificate s
  | .challenge => Sys2Proof.Machine.execChallenge s
  | .getMeasurements => Sys2Proof.Machine.execGetMeasurements s
  | .breadcrumbRead index => Sys2Proof.Machine.execBreadcrumbRead index s
  | .firstFaultRead => Sys2Proof.Machine.execFirstFaultRead s
  | .firstFaultClear => Sys2Proof.Machine.execFirstFaultClear s
  | .settingsRead => Sys2Proof.Machine.execSettingsRead s
  | .settingsWrite keepOn bar4 window smbus => Sys2Proof.Machine.execSettingsWrite keepOn bar4 window smbus s
  -- registers, tests, rows (19, 20, 21)
  | .mgFfrClear value => Sys2Proof.Machine.execMgFfrClear value s
  | .hbmRowRetirement stack lost fails => Sys2Proof.Machine.execHbmRowRetirement stack lost fails s
  | .hlLaneTestStart lanes => Sys2Proof.Machine.execHlLaneTestStart lanes s
  | .laneTestEnd locks errors => Sys2Proof.Machine.execLaneTestEnd locks errors s
  | .loopbackTimeout => Sys2Proof.Machine.execLoopbackTimeout s
  | .ckTimebaseRead host high => Sys2Proof.Machine.execCkTimebaseRead host high s
  | .registerWrite turner offset data => Sys2Proof.Machine.execRegisterWrite turner offset data s
  -- Jiman (15)
  | .jimanInterruptEntry => Sys2Proof.Machine.execJimanInterruptEntry s
  | .jimanPfx p => Sys2Proof.Machine.execJimanPfx p s
  | .jimanB off => Sys2Proof.Machine.execJimanB off s
  | .jimanCall off => Sys2Proof.Machine.execJimanCall off s
  | .jimanCb cond dx dy off => Sys2Proof.Machine.execJimanCb cond dx dy off s
  | .jimanCbz cond d off => Sys2Proof.Machine.execJimanCbz cond d off s
  | .jimanDbnz d off => Sys2Proof.Machine.execJimanDbnz d off s
  | .jimanIn d port => Sys2Proof.Machine.execJimanIn d port s
  | .jimanOut d port => Sys2Proof.Machine.execJimanOut d port s
  | .jimanLd inc seg a d bad => Sys2Proof.Machine.execJimanLd inc seg a d bad s
  | .jimanSt inc seg a d => Sys2Proof.Machine.execJimanSt inc seg a d s
  | .jimanLds d off bad => Sys2Proof.Machine.execJimanLds d off bad s
  | .jimanSts d off => Sys2Proof.Machine.execJimanSts d off s
  | .jimanMpy ac dx dy => Sys2Proof.Machine.execJimanMpy ac dx dy s
  | .jimanMac ac dx dy => Sys2Proof.Machine.execJimanMac ac dx dy s
  | .jimanMsu ac dx dy => Sys2Proof.Machine.execJimanMsu ac dx dy s
  | .jimanMpyu ac dx dy => Sys2Proof.Machine.execJimanMpyu ac dx dy s
  | .jimanCallm m => Sys2Proof.Machine.execJimanCallm m s
  | .jimanNop => Sys2Proof.Machine.execJimanNop s
  | .jimanEi => Sys2Proof.Machine.execJimanEi s
  | .jimanDi => Sys2Proof.Machine.execJimanDi s
  | .jimanIdle => Sys2Proof.Machine.execJimanIdle s
  | .jimanGrst => Sys2Proof.Machine.execJimanGrst s
  | .jimanRet bad => Sys2Proof.Machine.execJimanRet bad s
  | .jimanRetm bad => Sys2Proof.Machine.execJimanRetm bad s
  | .jimanReti bad => Sys2Proof.Machine.execJimanReti bad s
  | .jimanRetg bad => Sys2Proof.Machine.execJimanRetg bad s
  | .jimanBr a => Sys2Proof.Machine.execJimanBr a s
  | .jimanCallr a => Sys2Proof.Machine.execJimanCallr a s
  | .jimanMovb ss sd elems bad => Sys2Proof.Machine.execJimanMovb ss sd elems bad s
  | .jimanFillb sd d elems => Sys2Proof.Machine.execJimanFillb sd d elems s
  | .jimanMacb ac ss sd elems bad => Sys2Proof.Machine.execJimanMacb ac ss sd elems bad s
  | .jimanMvac ac d => Sys2Proof.Machine.execJimanMvac ac d s
  | .jimanMvach ac d => Sys2Proof.Machine.execJimanMvach ac d s
  | .jimanMvacl ac d => Sys2Proof.Machine.execJimanMvacl ac d s
  | .jimanLdac ac d => Sys2Proof.Machine.execJimanLdac ac d s
  | .jimanLdacl ac d => Sys2Proof.Machine.execJimanLdacl ac d s
  | .jimanShac ac n => Sys2Proof.Machine.execJimanShac ac n s
  | .jimanClrac ac => Sys2Proof.Machine.execJimanClrac ac s
  | .jimanNegac ac => Sys2Proof.Machine.execJimanNegac ac s
  | .jimanAddac ac => Sys2Proof.Machine.execJimanAddac ac s
  | .jimanSubac ac => Sys2Proof.Machine.execJimanSubac ac s
  | .jimanAbsac ac => Sys2Proof.Machine.execJimanAbsac ac s
  | .jimanDivs ac d => Sys2Proof.Machine.execJimanDivs ac d s
  | .jimanMvr d sys => Sys2Proof.Machine.execJimanMvr d sys s
  | .jimanMvs sys d => Sys2Proof.Machine.execJimanMvs sys d s
  | .jimanMov dx dy => Sys2Proof.Machine.execJimanMov dx dy s
  | .jimanAdd dx dy => Sys2Proof.Machine.execJimanAdd dx dy s
  | .jimanAdds dx dy => Sys2Proof.Machine.execJimanAdds dx dy s
  | .jimanSub dx dy => Sys2Proof.Machine.execJimanSub dx dy s
  | .jimanSubs dx dy => Sys2Proof.Machine.execJimanSubs dx dy s
  | .jimanAnd dx dy => Sys2Proof.Machine.execJimanAnd dx dy s
  | .jimanOr dx dy => Sys2Proof.Machine.execJimanOr dx dy s
  | .jimanXor dx dy => Sys2Proof.Machine.execJimanXor dx dy s
  | .jimanAndn dx dy => Sys2Proof.Machine.execJimanAndn dx dy s
  | .jimanShl dx dy => Sys2Proof.Machine.execJimanShl dx dy s
  | .jimanShr dx dy => Sys2Proof.Machine.execJimanShr dx dy s
  | .jimanSar dx dy => Sys2Proof.Machine.execJimanSar dx dy s
  | .jimanShls dx dy => Sys2Proof.Machine.execJimanShls dx dy s
  | .jimanMin dx dy => Sys2Proof.Machine.execJimanMin dx dy s
  | .jimanMax dx dy => Sys2Proof.Machine.execJimanMax dx dy s
  | .jimanNeg d dx => Sys2Proof.Machine.execJimanNeg d dx s
  | .jimanNegs d dx => Sys2Proof.Machine.execJimanNegs d dx s
  | .jimanAbs d dx => Sys2Proof.Machine.execJimanAbs d dx s
  | .jimanAbss d dx => Sys2Proof.Machine.execJimanAbss d dx s
  | .jimanNot d dx => Sys2Proof.Machine.execJimanNot d dx s
  | .jimanCls d dx => Sys2Proof.Machine.execJimanCls d dx s
  | .jimanMovda d ax => Sys2Proof.Machine.execJimanMovda d ax s
  | .jimanMovad ad dx => Sys2Proof.Machine.execJimanMovad ad dx s
  | .jimanMovi d imm => Sys2Proof.Machine.execJimanMovi d imm s
  | .jimanAddi d imm => Sys2Proof.Machine.execJimanAddi d imm s
  | .jimanShli d n => Sys2Proof.Machine.execJimanShli d n s
  | .jimanShri d n => Sys2Proof.Machine.execJimanShri d n s
  | .jimanSari d n => Sys2Proof.Machine.execJimanSari d n s
  | .jimanShlsi d n => Sys2Proof.Machine.execJimanShlsi d n s
  | .jimanAdda a imm => Sys2Proof.Machine.execJimanAdda a imm s
  | .jimanMovia a imm => Sys2Proof.Machine.execJimanMovia a imm s
  | .jimanMova a ax => Sys2Proof.Machine.execJimanMova a ax s
  | .jimanAddaD a dx => Sys2Proof.Machine.execJimanAddaD a dx s
  | .jimanSuba a dx => Sys2Proof.Machine.execJimanSuba a dx s
  | .jimanLdf a d bad => Sys2Proof.Machine.execJimanLdf a d bad s
  | .jimanRpti count len => Sys2Proof.Machine.execJimanRpti count len s
  | .jimanRpt d len => Sys2Proof.Machine.execJimanRpt d len s
  -- others
  | .illegalOpcode word => Sys2Proof.Machine.execIllegalOpcode word s
  | .linkTrained x => Sys2Proof.Machine.execLinkTrained x s
  | .perstNDeassertion => Sys2Proof.Machine.execPerstNDeassertion s
  | .epoLatchClear => Sys2Proof.Machine.execEpoLatchClear s
  | .msixVectorUnmask what => Sys2Proof.Machine.execMsixVectorUnmask what s
  | .driveRemoval port => Sys2Proof.Machine.execDriveRemoval port s

end Sys2Proof.Machine
end

