-- ==== Sys2Proof/Machine/Step.lean ====
section
/-! DEFINITION. The step: the command at the front of the queue runs, or time moves by one FCLK cycle. -/

namespace Sys2Proof.Machine
open Sys2Proof

/-- One step. With a command at the front of the queue, its effect on the state whose queue is the rest; with an
empty queue, one FCLK cycle of time, and what tile instructions and Spindle commands do in it (log entry 6). -/
def step (s : State) : Host.Outcome State Fault Refusal :=
  match s.pending with
  | [] => .next (settleTime (tickFclk s))
  | c :: rest => exec c { s with pending := rest }

/-- The state with the command that the word spells put at the front of its queue; the rows of the table give no
bits, so no word spells one. -/
def State.withFetchWord (s : State) (nbits w : Nat) : State :=
  match decodeTableWord nbits w with
  | some c => { s with pending := c :: s.pending }
  | none => s

end Sys2Proof.Machine
end

