-- ==== Sys2Proof/Safety.lean ====
section
/-! DEFINITION. The terms in which claims about the OM1 are made: when an instruction of the Turner commits, when an
operation of a ring runs and how it ends, when a Jiman unit runs, and the canonical form of every memory. -/

namespace Sys2Proof.Machine
open Sys2Proof

/-! ### Memories -/

/-- Every memory of the state is in its canonical form. -/
def memoriesWf (s : State) : Bool :=
  s.dev.wf && s.host.wf && s.turner.rescueStack.wf && s.lattice.tiles.wf && s.finish.bias.wf && s.finish.stage.wf &&
    s.jiman.ram.wf && s.jiman.flash.wf && s.finish.pwl.toList.all (fun x => match x with | some m => Memory.wf m | none => true) &&
    s.keep.ports.toList.all (fun p => (p.drive.toList ++ p.lost.toList).all fun d => d.media.wf)

/-! ### Hold-up assurance -/

/-- HOLD_ASSURE is high only under the conditions of R16 and R359, on a powered Tailstock and with no fall counted in the
cache; ASSURE is 1 only while it is high (R369); a lockout keeps the mismatch standing (R359). -/
structure AssuranceSound (s : State) : Prop where
  held : s.mgmt.holdAssure = true → assureHolds s = true ∧ s.power.tailstock = true ∧ s.cache.assureFell = none
  shown : s.mgmt.assure = true → s.mgmt.holdAssure = true
  locked : s.mgmt.assureLock = true → s.mgmt.mismatch = true

/-! ### The Turner -/

/-- An instruction that reads the registers `reads` and writes the register `writes` reaches its effect in the state s1: the
core runs, no asynchronous exception waits at the boundary, the fetch checks of R142 pass, no register it names is reserved by
a load (R128), none it reads at K is poisoned (R130), and no interrupt is to be taken (R146). s1 is the state once the
stores that may be performed have been, and its fetch. -/
structure Commits (s s1 : State) (reads : List Nat) (writes : Option Nat) : Prop where
  runs : coreRuns s = true
  boundary : takeAsync (drainStores s) = none
  fetched : fetchCheck (drainStores s) = .ok s1
  free : (reads ++ writes.toList).any s1.turner.reserved = false
  clean : poisonExc s1.turner reads = none
  quiet : pendingInterrupt s1.turner = none

/-- As `Commits`, for an instruction that raises an exception of its own at DE or in EX: pending interrupts wait. -/
structure Issues (s s1 : State) : Prop where
  runs : coreRuns s = true
  boundary : takeAsync (drainStores s) = none
  fetched : fetchCheck (drainStores s) = .ok s1

/-- In deterministic mode n CCLK cycles pass over an instruction, with what is due in each of them (R135). -/
def elapse (s1 : State) (n : Nat) (t : State) : State := if s1.turner.cstat.det then passTime n t else t

/-- Register n of the general registers has the value v and no poison, and the next instruction is at pc. -/
def wroteReg (s : State) (n : Nat) (v : W64) (pc : W64) : State :=
  { s with turner := { s.turner with
      g := vset s.turner.g n v, gpoison := s.turner.gpoison &&& ~~~(BitVec.twoPow 32 n), pc := pc } }

/-- The next instruction is at pc. -/
def wentTo (s : State) (pc : W64) : State := { s with turner := { s.turner with pc := pc } }

/-- Exception entry while ENTRY = 0 and RESCUE = 0 (R146): the four registers are saved, and the core continues at S, with
IE = 0 and ENTRY = 1, at offset 0. `noteK` keeps what a later halt reports of an exception taken at K (Table 5.7). -/
def enteredHandler (s : State) (cause addr estat epc : W64) (x : Exc) : State :=
  { s with turner := { noteK s.turner x epc with
      ecause := cause, epc := epc, estat := estat, eaddr := addr
      cstat := { s.turner.cstat with priv := true, ie := false, entry := true }, pc := 0 } }

/-- Entry into the Rescue handler, while ENTRY = 1 and RESCUE = 0 (R146, R150): the four x registers are saved, S-bank s7 becomes
the Rescue stack and is kept aside, and the core continues at S, with IE = 0 and RESCUE = 1, at offset 0x100. The BASE of that
slot is a free value (log entry 28). -/
def enteredRescue (s : State) (cause addr estat epc : W64) : State :=
  let seg := rescueSegment s
  { s with
    freeCtr := s.freeCtr + 1
    turner := { s.turner with
      xcause := cause, xpc := epc, xstat := estat, xaddr := addr
      cstat := { s.turner.cstat with priv := true, ie := false, rescue := true }
      savedS7 := vget s.turner.sbank 7 0, sbank := vset s.turner.sbank 7 seg
      sbankNext := vset s.turner.sbankNext 7 seg, pc := 0x100 } }

/-- What exception entry does (R146): a core halt while RESCUE = 1, the Rescue handler while ENTRY = 1, else the handler. -/
def entered (s : State) (cause addr estat epc : W64) (x : Exc) : State :=
  if s.turner.cstat.rescue then haltCore s
  else if s.turner.cstat.entry then enteredRescue s cause addr estat epc
  else enteredHandler s cause addr estat epc x

/-! ### The operations of the rings -/

/-- The operation of entry k has the opcode and works in the state s1 as o: it is started and no flush read of it is out, or it
may start now under the order rules and the limits of its block, and s1 is the state once it has (R119, R121). -/
def Performs (s : State) (k opcode : Nat) (s1 : State) (o : Op) : Prop :=
  s.running = true ∧ ∃ o0, s.op k = some o0 ∧ o0.opcode = opcode ∧
    ((o0.phase = .started ∧ o0.closing = none ∧ s1 = s ∧ o = o0) ∨
      (o0.phase = .admitted ∧ mayStart s k = true ∧ (s1, o) = startOp s k o0))

/-- The operation o of entry k has ended with a result: a silent success has released its entry, any other end has its
completion waiting on its completion ring (R88, R89, R117). -/
def Ended (t : State) (k : Nat) (o : Op) (r : Result) : Prop :=
  if o.silent && decide (r.status = 0) then t.op k = none
  else ∃ c ∈ (t.cr o.crIndex).waiting, c.entry = some k ∧ c.tag = o.tag ∧ c.seq = o.seq ∧ c.sr = o.sr ∧ c.result = r

/-- A line of device memory that the host does not hold, for which no request waits at its home agent, and for whose accesses
that agent's queue has room (R59, R60). -/
structure LineFree (s : State) (line : Nat) : Prop where
  notHeld : s.link.dir.contains line = false
  first : ∀ e ∈ s.link.homeQueue, line ∉ e.lines
  room : agentFull s.link.homeQueue line = false

/-- Every byte of [a, a + n) lies in region r of device memory, in a line that is free at its home agent, that is not marked as
poisoned and that no registered counter watches. -/
def Plain (s : State) (r : Region) (a n : Nat) : Prop :=
  ∀ x, a ≤ x → x < a + n → s.region x = r ∧ LineFree s (x / 64) ∧ s.poisoned x = false ∧ watchers s (x / 64) = []

/-- The ranges [a, a + n) and [b, b + m) share no byte. -/
def Apart (a n b m : Nat) : Prop := a + n ≤ b ∨ b + m ≤ a

/-- An operation's end brings nothing else of the device to its end: no submission ring is being reset or deleted, and no
invalidation of translations waits for reads to return (R97, R48). -/
structure EndsAlone (s : State) : Prop where
  rings : ∀ i < 32, (s.sr i).resetting = none
  resets : ∀ j p, s.op j = some p → p.aux = 1 → p.resets = none
  reads : s.link.invalidations = []

/-- The Turner is as it was, but for PREEMPT and KERNEL_READY, which a KERNEL that an end or a start has made ready raises (05 R153,
R156). -/
def SameCore (s t : State) : Prop := t.turner = { s.turner with ipend := t.turner.ipend, icond := t.turner.icond }

/-- Nothing but the queue engine has changed, and the interrupts of ready KERNELs. -/
def OnlyQueue (s t : State) : Prop := t = { s with queue := t.queue, turner := t.turner } ∧ SameCore s t

/-! ### The Jiman -/

/-- The Jiman executes: the Tailstock is powered, the Jiman does not wait in IDLE, and no CALLM waits for its CALL. -/
def JReady (s : State) : Prop := s.jiman.idle = false ∧ s.power.tailstock = true ∧ s.jiman.callm = none

/-- The word at pc is the last of a body that is being repeated (R395). -/
def jAtRepeatEnd (r : JRegs) : Prop := r.ra = true ∧ r.pc.setWidth 16 = r.rpe

/-- The state after an instruction of the state s that is no branch has left the registers r: its unit is over, and it
continues at the target of a taken branch whose delay slot it is, at the first word of a repeated body that has another pass,
or at the next word (R382, R392, R395). -/
def jEnded (s : State) (r : JRegs) : State :=
  let more := decide (r.rpc.toNat ≤ 1)
  let regs : JRegs := match s.jiman.branch.bind (·.target) with
    | some t => { r with pc := t }
    | none =>
      if r.ra = true ∧ r.pc.setWidth 16 = r.rpe then
        if more then { r with rpc := 0, ra := false, pc := r.pc + 1 }
        else { r with rpc := r.rpc - 1, pc := (r.pc &&& 0x10000) ||| r.rps.setWidth 17 }
      else { r with pc := r.pc + 1 }
  { s with jiman := { s.jiman with unit := none, pfx := none, callm := none, branch := none, regs := regs } }

/-- The state after a branch of the state s has left the registers r: its delay slot is next (R392). -/
def jBranched (s : State) (r : JRegs) (target : Option (BitVec 17)) : State :=
  { s with jiman := { s.jiman with
      unit := some (s.jiman.unit.getD s.jiman.regs), pfx := none, callm := none, branch := some { target := target }
      regs := { r with pc := r.pc + 1 } } }

/-- A field of w bits in the state s: with the waiting prefix before it, or sign-extended (R381). -/
def jSigned {w : Nat} (s : State) (f : BitVec w) : W16 :=
  match s.jiman.pfx with
  | none => f.signExtend 16
  | some p => (p ++ f).signExtend 16

/-- A field of w bits in the state s: with the waiting prefix before it, or zero-extended (R381). -/
def jUnsigned {w : Nat} (s : State) (f : BitVec w) : W16 :=
  match s.jiman.pfx with
  | none => f.setWidth 16
  | some p => (p ++ f).signExtend 16

/-- The word address of an offset in a segment of the Jiman, where R383 raises no fault. -/
def JMapped (base limit o : W16) (a : Nat) : Prop := o ≤ limit ∧ a = (base + o).toNat ∧ a < 0x8000

end Sys2Proof.Machine
end

