-- ==== Sys2Proof/Certificates/Slice0/Obligations.lean ====
section
/-! DEFINITION. The obligations: what is to be proved of the OM1, family by family of its commands. -/

open Sys2Proof Sys2Proof.Machine

/-- In every state whose queue has the command c at its front, a step is the effect of c on the state with the rest of
the queue. The queue is the model's own. [01_one_thread_one_lattice R28] -/
def Obligations.AStepRunsTheFrontCommand : Prop :=
  ∀ (s : State) (c : Instr) (rest : List Instr), s.pending = c :: rest → step s = exec c { s with pending := rest }

/-- That a step on an empty queue is one FCLK cycle is the model's choice (log entry 6). While the root PLL is locked
and the hold-up slice powered, TIMEBASE counts one in it and only clocks and the budget count of the current kernel
change, and then what tile instructions and Spindle commands do by that time; else time stands. With no tile instruction
and no Spindle command in progress, three such cycles from the start of the pattern are four CCLK periods, of which
throttle levels 0, 1, 2 and 3 deliver 4, 3, 2 and 1; with CCLK stopped none is counted. [17_clocks_power_startup R424, 17_clocks_power_startup R427, 17_clocks_power_startup R428, 17_clocks_power_startup R444, 17_clocks_power_startup Table 17.7] -/
def Obligations.AnIdleStepIsOneFclkCycle : Prop :=
  ∀ s : State, s.pending = [] →
    (s.clocks.pllLocked = false ∨ s.power.holdup = false → step s = .next (settleTime s)) ∧
    (s.clocks.pllLocked = true → s.power.holdup = true →
      (∃ t, step s = .next (settleTime t) ∧ t.clocks.timebase = s.clocks.timebase + 1 ∧ t.clocks.level = s.clocks.level ∧
        t = { s with clocks := t.clocks, turner := { s.turner with runningK := t.turner.runningK } } ∧
        (s.lattice.flight = [] → s.spindle.running = [] → step s = .next t)) ∧
      (s.clocks.phase = 0 → s.lattice.flight = [] → s.spindle.running = [] →
        ∃ t u v, step s = .next t ∧ step t = .next u ∧ step u = .next v ∧ v.clocks.phase = 0 ∧
          v.clocks.timebase = s.clocks.timebase + 3 ∧
          v.clocks.cclk = s.clocks.cclk + (if s.clocks.cclkStopped then 0 else 4 - s.clocks.level.toNat)))

/-- Whatever the command and the state, the command has an effect: no command of the table faults or is refused (log
entry 1). What the manual calls a refusal of a descriptor, a dropped write or an error response is a next state with
the completion, the counters and the records that the manual gives it. [03_descriptor_rings R88, 21_setup_registers R499, 01_one_thread_one_lattice R28] -/
def Obligations.EveryCommandAnswers : Prop := ∀ (i : Instr) (s : State), ∃ t, exec i s = .next t

/-- After reset the module is in WARM with FORCE_WT, HP_CONTROL and the fault counters 0, no ring and no descriptor in
the tracker, SR0 and CR0 at their reset columns, the queue engine disabled, the runtime unloaded and the Turner
stopped at S with offset 0x200, no tile owner, no halts, an empty Lattice queue, HBM and the tile stores zero, empty
segment, counter, relay and translation tables, all MSI-X vectors masked, the Spindle disabled, ASSURE 0, no
first-fault record, TIMEBASE 0 and throttle level 0. [01_one_thread_one_lattice Table 1.8, 03_descriptor_rings Table 3.1, 05_turner_core R147, 05_turner_core R151, 07_lattice R202, 09_spindle R243, 17_clocks_power_startup R438, 17_clocks_power_startup Table 17.4, 17_clocks_power_startup R428, 21_setup_registers Table 21.1, 19_faults_and_long_runs Table 19.3] -/
def Obligations.WhatResetLeaves : Prop :=
  let s := State.reset
  s.power.state = .warm ∧ s.power.draining = false ∧ s.pending = [] ∧
  s.cache.forceWt = false ∧ s.mgmt.hpReg = 0 ∧ (∀ n : Fin 9, s.faults.classes[n] = { corrected := 0, uncorrected := 0, actions := 0 }) ∧
  s.faults.alertsLost = 0 ∧
  s.queue.enable = false ∧ s.queue.sr0Config = 0 ∧ s.queue.cr0Config = 0x0001000000000000 ∧ s.queue.cr0Detail = 0 ∧
  s.queue.event = 0 ∧ s.queue.eventEnable = 0 ∧ (∀ k : Fin 512, s.queue.ops[k] = none) ∧
  (∀ r : Fin 32, s.queue.sr[r].exists_ = false ∧ s.queue.cr[r].exists_ = false) ∧
  s.turner.mode = .stopped ∧ s.turner.pc = 0x200 ∧ s.turner.cstat.priv = true ∧ s.turner.cstat.ie = false ∧
  s.turner.cstat.entry = false ∧ s.turner.cstat.rescue = false ∧ s.turner.gpoison = 0 ∧ s.turner.kssDepth = 0 ∧
  s.turner.sssDepth = 0 ∧ s.turner.tileOwner = 0x3FF ∧ s.turner.halts = [] ∧ s.turner.locked = false ∧
  (∀ n : Fin 8, s.turner.sbank[n] = 0 ∧ s.turner.kbank[n] = 0) ∧
  s.turner.retained = none ∧ s.lattice.tiles = [] ∧ s.lattice.queue = [] ∧ s.lattice.fold = false ∧ s.finish.stage = [] ∧
  s.spindle.enable = false ∧ s.spindle.running = [] ∧ s.scale.counters = [] ∧
  (∀ n : Fin 256, s.scale.relays[n].valid = false) ∧ s.link.atc = [] ∧ s.link.dir = [] ∧ s.link.pba = 0 ∧
  (∀ v : Fin 64, s.link.msix[v].mask = true) ∧
  s.mgmt.assure = false ∧ s.mgmt.assureLock = false ∧ s.mgmt.ffr = none ∧ s.mgmt.crumbs = [] ∧
  s.jiman.intEn = 0 ∧ s.keep.writes = [] ∧ s.cache.extents = [] ∧
  s.clocks.timebase = 0 ∧ s.clocks.level = 0 ∧ s.clocks.pllLocked = true ∧ s.dev = [] ∧ (∀ a, s.dev.read a = 0)

/-- The state after reset satisfies AssuranceSound, the invariant of hold-up assurance, and memoriesWf: every memory of
it is listed in rising order with no entry for a byte that reads 0. [01_one_thread_one_lattice R16, 14_management_plane R359, 17_clocks_power_startup R438] -/
def Obligations.ResetIsSound : Prop := AssuranceSound State.reset ∧ memoriesWf State.reset = true

/-- AssuranceSound is kept by every step from every state that has it: HOLD_ASSURE is high only while the Tailstock is
powered, a pack is present with a valid estimate, the comparator self-test has passed, no mismatch stands and
assurance is not locked out; the cache counts no fall while it is high; MG_STATE.ASSURE reads 1 only while
HOLD_ASSURE is high; and in lockout the mismatch stands. That the self-test passed within the last 10 ms is time,
which the commands tell. [01_one_thread_one_lattice R16, 01_one_thread_one_lattice R17, 14_management_plane R355, 14_management_plane R359, 14_management_plane R369, 13_holdup_pack_gauge R350] -/
def Obligations.AssuranceStaysSound : Prop :=
  ∀ s t : State, AssuranceSound s → step s = .next t → AssuranceSound t

/-- Whatever the state and the command, no step changes the SKU, the serial number, the revision or the key hashes; a
revocation fuse that is blown, in the Tailstock or in the Ohmim, stays blown; and a key slot that counts as revoked
goes on counting as revoked. [16_firmware_and_settings R407, 16_firmware_and_settings R408, 21_setup_registers Table 21.2] -/
def Obligations.IdentityAndFusesStay : Prop :=
  ∀ s t : State, step s = .next t →
    t.power.sku = s.power.sku ∧ t.power.serial = s.power.serial ∧ t.power.revision = s.power.revision ∧
    t.firmware.keyHash = s.firmware.keyHash ∧ s.firmware.revoked &&& t.firmware.revoked = s.firmware.revoked ∧
    s.firmware.ohmimRevoked &&& t.firmware.ohmimRevoked = s.firmware.ohmimRevoked ∧
    (∀ k, keyRevoked s.firmware k = true → keyRevoked t.firmware k = true)

/-- Of the model's own fields: when a command answers a next state, the commands that wait behind it are the same, in
the same order, and the count of free values taken has not fallen, so that a later free value is another one (log
entries 4 and 6). [01_one_thread_one_lattice R28] -/
def Obligations.CommandsLeaveTheQueue : Prop :=
  ∀ (i : Instr) (s t : State), exec i s = .next t → t.pending = s.pending ∧ s.freeCtr ≤ t.freeCtr

/-- DOORBELL of an existing ring sets DOORBELL_PENDING, and the ring becomes eligible 4 FCLK cycles after the bit is
set; of SR0 in WARM it is kept for the SR0 that enabling creates as well, of a ring that does not exist it is otherwise
dropped. PUSH as one aligned 64-byte write into an empty slot of an existing ring that is neither stopped nor being
reset is held for the one position at or after HEAD, at most 3 further, whose sequence number is the slot's index modulo
4, and counts as a doorbell; any other write of the push window, one into a full slot, or on a stopped ring, one being
reset or one that does not exist, is dropped and PUSH_DROPS counts it, saturating. CR_HEAD is taken when CR_TAIL - v is
at most N, and clears BAD_CR_HEAD; else it sets BAD_CR_HEAD and the credit stays. Nothing else of the module changes. A
read of the ring's BAR2 page returns the fields of Table 3.5 of the rings that exist, and 0 in the doorbell and the push
slots. [03_descriptor_rings R75, 03_descriptor_rings R76, 03_descriptor_rings R79, 03_descriptor_rings R82, 03_descriptor_rings R86, 03_descriptor_rings R518] -/
def Obligations.DoorbellsPushesAndCredit : Prop :=
  ∀ (s : State) (ring : Fin 32), barReachable s = true →
    let r := s.sr ring
    let rung (r : SubRing) : SubRing :=
      { r with doorbell := true, eligibleAt := if r.doorbell then r.eligibleAt else s.clocks.timebase + 4 }
    let kept : State := if ring = 0 ∧ s.power.state = .warm then
      { s with queue := { s.queue with sr0Doorbell := true } } else s
    exec (.doorbell ring) s = .next (if r.exists_ then kept.setSr ring (rung r) else kept) ∧
    (∀ slot : Fin 4,
      (∀ d : BitVec 512, r.exists_ = true → r.stopped = false → r.resetting = none → r.push[slot] = none →
        ∃ t q, exec (.push ring slot (some d)) s = .next t ∧ (q - r.head).toNat < 4 ∧ q.toNat % 4 = slot.val ∧
          t = s.setSr ring (rung { r with push := r.push.set slot (some { position := q, copy := d }) })) ∧
      (∀ d : Option (BitVec 512), d = none ∨ r.exists_ = false ∨ r.stopped = true ∨ r.resetting ≠ none ∨ r.push[slot] ≠ none →
        ∃ t, exec (.push ring slot d) s = .next t ∧
          t = s.setSr ring { r with pushDrops := BitVec.ofNat 32 (min (r.pushDrops.toNat + 1) 0xFFFFFFFF) })) ∧
    (∀ i < 4, pageRead s ring (0x040 + 0x040 * i) = 0) ∧ pageRead s ring 0 = 0 ∧
    pageRead s ring 0x008 = (if (s.cr ring).exists_ then (s.cr ring).head else 0) ∧
    pageRead s ring 0x01C = (if (s.cr ring).exists_ then (s.cr ring).tail else 0) ∧
    (r.exists_ = true → pageRead s ring 0x014 = r.stopSeq ∧ pageRead s ring 0x018 = r.head ∧
      pageRead s ring 0x020 = r.pushDrops ∧
      (pageRead s ring 0x010).getLsbD 1 = r.stopped ∧ (pageRead s ring 0x010).getLsbD 3 = r.doorbell) ∧
    (r.exists_ = false → ∀ o, o ≠ 0x008 → o ≠ 0x01C → pageRead s ring o = 0) ∧
    (∀ v : W32, (s.cr ring).exists_ = true →
      let c := s.cr ring
      exec (.crHead ring v) s = .next (s.setCr ring (if (c.tail - v).toNat ≤ 2 ^ c.log2 then
        { c with head := v, badHead := false } else { c with badHead := true })))

/-- FETCH_GRANT while the module serves rings grants SR0 if it may be granted, else the grantable ring at the highest
priority level that stands first above the ring last granted there; the grant has min(8, positions to the ring's
end, tracker entries) positions from HEAD and clears DOORBELL_PENDING. FORWARD_SCAN of a grant whose next position
has no bound push slot issues the grant's one read; a bound slot with matching OWN that passes every check, as the
grant's last position, is admitted as an operation with the sequence number HEAD, and HEAD advances.
RING_READ_RETURN over a single position in HBM admits a valid entry in the same way, ends the scan where OWN does
not match, and stops the ring at HEAD with reason 0x08 when the read fails. A NOP of a data ring that no order rule
holds starts as it is admitted. Other rings keep their state. [03_descriptor_rings R76, 03_descriptor_rings R77, 03_descriptor_rings R78, 03_descriptor_rings R81, 03_descriptor_rings R83, 03_descriptor_rings R96, 04_operations R117] -/
def Obligations.FetchingServesTheRings : Prop :=
  (∀ (s : State) (k : Fin 32), fetching s = true → grantable s k = true → (s.sr k).prio ≤ 7 →
    let last := vget s.queue.rr (s.sr k).prio 0
    let turn (j : Nat) : Nat := if last < j then j - last else j + 31 - last
    (k = 0 ∨ (grantable s 0 = false ∧ ∀ j : Fin 32, j ≠ 0 → j ≠ k → grantable s j = true →
      (s.sr j).prio < (s.sr k).prio ∨ ((s.sr j).prio = (s.sr k).prio ∧ turn k < turn j))) →
    ∃ t g, exec .fetchGrant s = .next t ∧ (t.sr k).grant = some g ∧ g.first = (s.sr k).head ∧ g.served = 0 ∧
      g.count = min 8 (min (2 ^ (s.sr k).log2 - (s.sr k).head.toNat % 2 ^ (s.sr k).log2) (room s k)) ∧
      g.reading = false ∧ (t.sr k).doorbell = false ∧ (∀ j < 32, j ≠ k.val → t.sr j = s.sr j) ∧
      t.queue.ops = s.queue.ops ∧ t.dev = s.dev ∧ t.host = s.host ∧ t.turner = s.turner) ∧
  (∀ (s : State) (k : Fin 32) (g : Grant), fetching s = true → (s.sr k).grant = some g → g.served < g.count →
    let r := s.sr k
    let admitted (t : State) (d : BitVec 512) : Prop :=
      ∃ e o, s.op e = none ∧ t.op e = some o ∧ o.sr = k.val ∧ o.seq = r.head ∧ o.desc = d ∧
        (o.phase = .admitted ∨ o.phase = .started ∧ k ≠ 0 ∧ fld d 0 1 = 0) ∧ o.fetch = s.clocks.timebase ∧ (t.sr k).head = r.head + 1 ∧ (t.sr k).grant = none ∧
        (∀ j < 512, j ≠ e → t.op j = s.op j) ∧ ∀ j < 32, j ≠ k.val → t.sr j = s.sr j
    let valid (d : BitVec 512) : Prop :=
      d.getLsbD 8 = phaseOf r.head r.log2 ∧ entryCheck s k d = none ∧ g.count = g.served + 1 ∧ 0 < g.shared ∧
        ∃ e < 448, s.op e = none
    (g.reading = false → readsOut s < 16 → s.inRegion r.base.toNat 1 .kernels = true ∨ nonPosted s < 1024 →
      ((∀ p, r.push[r.head.toNat % 4]? = some (some p) → p.position ≠ r.head) →
        exec (.forwardScan k) s = .next (s.setSr k { r with grant := some { g with reading := true } })) ∧
      (∀ d : BitVec 512, r.push[r.head.toNat % 4]? = some (some { position := r.head, copy := d }) → valid d →
        ∃ t, exec (.forwardScan k) s = .next t ∧ admitted t d)) ∧
    (g.reading = true → g.count = g.served + 1 →
      let at_ := r.base.toNat + 64 * (r.head.toNat % 2 ^ r.log2)
      let d := BitVec.ofNat 512 (s.dev.readLE at_ 64)
      (s.inRegion at_ 64 .kernels = true → at_ % 64 = 0 → LineFree s (at_ / 64) → s.poisoned at_ = false →
        (valid d → ∃ t, exec (.ringReadReturn k false) s = .next t ∧ admitted t d) ∧
        (d.getLsbD 8 ≠ phaseOf r.head r.log2 → g.served = 0 →
          exec (.ringReadReturn k false) s = .next (settleInvalidations (s.setSr k { r with grant := none })))) ∧
      (EndsAlone s → k ≠ 0 →
        ∃ t, exec (.ringReadReturn k true) s = .next t ∧ (t.sr k).stopped = true ∧ (t.sr k).reason = 0x08 ∧
          (t.sr k).stopSeq = r.head ∧ (t.sr k).head = r.head ∧ (t.sr k).grant = none ∧
          t.queue.stoppedRings.getLsbD k = true ∧ t.queue.event.getLsbD 1 = true ∧ t.queue.ops = s.queue.ops)))

/-- COMPLETION_WRITE on a ring with room in HBM writes the 16 bytes of the oldest waiting completion without a DETAIL
record at the position of CR_TAIL and no other byte of device memory, advances CR_TAIL, frees the tracker entry and
counts the entry for the vector, whose message goes out, or is held in the PBA, when COUNT or TIME is reached or the
entry asks for it. With no room, or before the status line that it has to follow, it writes nothing.
MSIX_COALESCE_TIMER sends the vector when COUNT is reached or the oldest counted entry is TIME units old, once for all
rings that share the vector and ask for it.
MSIX_VECTOR_UNMASK clears the mask of a vector or of the function, or sets MSI-X Enable; a vector alone pending that
may then go is sent and its PBA bit cleared, where the function can send. [03_descriptor_rings R86, 03_descriptor_rings R88, 03_descriptor_rings R91, 03_descriptor_rings R92, 04_operations R117, 04_operations Table 4.2] -/
def Obligations.CompletionsReachTheHost : Prop :=
  (∀ (s : State) (cr : Fin 32), s.running = true → EndsAlone s → (∀ k < 32, (s.sr k).linePending = false) →
    (s.cr cr).exists_ = true →
    let r := s.cr cr
    let at_ := r.base.toNat + 16 * (r.tail.toNat % 2 ^ r.log2)
    ((r.tail - r.head).toNat = 2 ^ r.log2 → exec (.completionWrite cr false) s = .next s) ∧
    (∀ c, r.waiting.head? = some c → lineWritten s c.sr c = false → exec (.completionWrite cr false) s = .next s) ∧
    (∀ (c : Cpl) (rest : List Cpl), r.waiting = c :: rest → (r.tail - r.head).toNat ≠ 2 ^ r.log2 → c.result.kind = 0 →
      lineWritten s c.sr c = true → at_ % 16 = 0 → s.inRegion at_ 16 .kernels = true → LineFree s (at_ / 64) →
      watchRoom s (at_ / 64) = true → s.dev.wf = true →
      ∃ t, exec (.completionWrite cr false) s = .next t ∧
        t.dev.readN at_ 16 = natToBytes c.tag.toNat 4 ++ natToBytes c.seq.toNat 4 ++ natToBytes c.time.toNat 4 ++
          natToBytes c.wait.toNat 2 ++
            [c.result.status, BitVec.ofNat 8 ((if r.tail.toNat / 2 ^ r.log2 % 2 = 0 then 1 else 0) + 4 * c.sr)] ∧
        (∀ a, a < at_ ∨ at_ + 16 ≤ a → t.dev.read a = s.dev.read a) ∧
        (t.cr cr).tail = r.tail + 1 ∧ (∃ more, (t.cr cr).waiting = rest ++ more) ∧
        (∀ e, c.entry = some e → t.op e = none) ∧ (∀ j < 512, c.entry ≠ some j → t.op j = s.op j) ∧
        ((r.count = 0 ∨ r.pendingMsgs + 1 < r.count) →
          (r.time = 0 ∨ r.pendingMsgs = 0 ∨ s.now - r.oldest.toNat < r.time * 1024) → c.notify = false →
          c.result.status ≠ 0x3F → (t.cr cr).pendingMsgs = r.pendingMsgs + 1 ∧ t.link = s.link) ∧
        ((0 < r.count ∧ r.count ≤ r.pendingMsgs + 1) ∨ c.notify = true ∨ c.result.status = 0x3F →
          (t.cr cr).pendingMsgs = 0 ∧
          ((∃ a d, HostMsg.msix r.vector a d ∈ t.link.sent) ∨ (r.vector < 64 → t.link.pba.getLsbD r.vector = true))))) ∧
  (∀ (s : State) (cr : Fin 32), s.running = true → (s.cr cr).exists_ = true →
    let r := s.cr cr
    let due := (r.count ≠ 0 ∧ r.count ≤ r.pendingMsgs) ∨
      (r.time ≠ 0 ∧ 0 < r.pendingMsgs ∧ r.time * 1024 ≤ s.now - r.oldest.toNat)
    let shares (j : Fin 32) : Prop := j ≠ cr ∧ (s.cr j).exists_ = true ∧ (s.cr j).vector = r.vector ∧
      vectorDue s (s.cr j) = true
    (¬due → exec (.msixCoalesceTimer cr) s = .next s) ∧
    (due →
      ((∀ j, ¬shares j) →
        exec (.msixCoalesceTimer cr) s = .next (sendVector (s.setCr cr { r with pendingMsgs := 0 }) r.vector)) ∧
      ∃ t, exec (.msixCoalesceTimer cr) s = .next t ∧ (∀ j, shares j ∨ j = cr → (t.cr j).pendingMsgs = 0) ∧
        (∀ j : Fin 32, ¬shares j → j ≠ cr → t.cr j = s.cr j) ∧ t.link.sent.length ≤ s.link.sent.length + 1)) ∧
  (∀ (s : State) (what : MsixChange) (v : Fin 64),
    let l := match what with
      | .vector w => { s.link with msix := s.link.msix.set w { s.link.msix[w] with mask := false } }
      | .function => { s.link with cfg := { s.link.cfg with msixMask := false } }
      | .enable => { s.link with cfg := { s.link.cfg with msixEnable := true } }
    let e := l.msix[v]
    let mayGo := l.cfg.busMaster && !l.cfg.d3hot && !l.recovery
    s.running = true → l.up = true → (∀ w, what = .vector w → l.cfg.memEnable = true ∧ l.cfg.d3hot = false) →
    l.cfg.msixEnable = true → l.cfg.msixMask = false → e.mask = false → l.pba = BitVec.twoPow 64 v →
    exec (.msixVectorUnmask what) s = .next { s with link := { l with
      pba := if mayGo then 0 else l.pba
      sent := if mayGo then l.sent ++ [.msix v e.addr e.data] else l.sent } })

/-- ENABLE_SET in WARM with QE_SR0_CONFIG and QE_CR0_CONFIG within Table 3.1 enables fetching: where SR0 and CR0 did not
exist, or their registers were written, they do, empty, with base, size, vector and coalescing as configured and a
doorbell of SR0 that came before, and the module serves rings as ACTIVE, THROTTLED or LOCKOUT; with a configuration that
fails, CONFIG_ERR is set and nothing else changes. ENABLE_CLEAR of a serving module clears ENABLE, sets DRAINING and ends
every scan, whose status line is written, and whose ring is ready again. DRAIN_COMPLETE with the tracker empty puts the
module in WARM with CCLK stopped and the L2's host lines written back to host memory; with an operation still held
it does nothing. [03_descriptor_rings R72, 03_descriptor_rings R73, 01_one_thread_one_lattice R27, 01_one_thread_one_lattice Table 1.10, 17_clocks_power_startup R443, 02_host_link R65] -/
def Obligations.TheQueueEngineIsEnabledAndDrained : Prop :=
  (∀ s : State, barReachable s = true → s.power.state = .warm → s.power.draining = false →
    (s.sr 0).exists_ = false ∨ s.queue.sr0Written = true → (s.cr 0).exists_ = false ∨ s.queue.cr0Written = true →
    ((sr0Ok s && cr0Ok s) = false →
      exec .enableSet s = .next { s with queue := { s.queue with configErr := true } }) ∧
    ((sr0Ok s && cr0Ok s) = true →
      ∃ t, exec .enableSet s = .next t ∧ t.queue.enable = true ∧ t.queue.configErr = false ∧
        (t.sr 0).exists_ = true ∧ (t.sr 0).base.toNat = s.queue.sr0Config.toNat / 4096 % 2 ^ 36 * 4096 ∧
        (t.sr 0).log2 = s.queue.sr0Config.toNat % 32 ∧ (t.sr 0).head = 0 ∧ (t.sr 0).doorbell = s.queue.sr0Doorbell ∧
        (t.cr 0).exists_ = true ∧ (t.cr 0).base.toNat = s.queue.cr0Config.toNat / 4096 % 2 ^ 36 * 4096 ∧
        (t.cr 0).log2 = s.queue.cr0Config.toNat % 32 ∧ (t.cr 0).vector = s.queue.cr0Config.toNat / 32 % 64 ∧
        (t.cr 0).count = s.queue.cr0Config.toNat / 2 ^ 48 % 256 ∧ (t.cr 0).tail = 0 ∧ (t.cr 0).head = 0 ∧
        t.power.state = (if s.turner.locked then .lockout else if s.clocks.level ≠ 0 then .throttled else .active) ∧
        t.clocks.cclkStopped = false ∧ (∀ j < 32, j ≠ 0 → t.sr j = s.sr j ∧ t.cr j = s.cr j) ∧ t.dev = s.dev ∧
        t.host = s.host ∧ t.turner = s.turner)) ∧
  (∀ s : State, barReachable s = true →
    s.power.state = .active ∨ s.power.state = .throttled ∨ s.power.state = .lockout → s.power.draining = false →
    ∃ t, exec .enableClear s = .next t ∧ t.queue.enable = false ∧ t.power.draining = true ∧
      t.power.state = s.power.state ∧ (∀ j < 32, (t.sr j).grant = none ∧ (t.sr j).head = (s.sr j).head ∧
        ((s.sr j).grant ≠ none → (t.sr j).doorbell = true ∧
          ((t.sr j).linePending = true ∨ (t.sr j).lineHead = (s.sr j).head)) ∧
        ((s.sr j).grant = none → t.sr j = s.sr j)) ∧
      t.queue.ops = s.queue.ops ∧ t.queue.cr = s.queue.cr ∧ t.turner = s.turner) ∧
  (∀ s : State, s.running = true → s.power.draining = true →
    ((∃ k < 512, s.op k ≠ none) → exec .drainComplete s = .next s) ∧
    ((∀ k < 512, s.op k = none) →
      exec .drainComplete s = .next { s with
        power := { s.power with state := .warm, draining := false, selfRefresh := true }
        clocks := { s.clocks with cclkStopped := true }
        host := s.link.l2Host.foldl (fun m p => m.writeN (64 * p.1) p.2) s.host
        link := { s.link with
          l2Host := [], l2Poison := []
          sent := s.link.sent ++ s.link.l2Poison.map fun l => .poisonedWrite none (64 * l) 64 } }))

/-- NOP and FENCE that perform end with SUCCESS and leave every other operation and all of the module but the queue
engine, and the interrupts of KERNELs made ready, as it was. RING_CREATE of a submission ring that does not exist, whose home completion ring does, and of a
completion ring that does not exist, brings it into being with the base, size, priority, home ring, PASID, vector,
coalescing and detail area of its descriptor, all counts 0; where that has changed since decode it ends with
REFUSED_NOT_READY code 0x26. RING_DELETE removes a completion ring that is no ring's home and that no operation
names, else it is refused with code 0x23. RING_RESET and RING_DELETE of a submission ring with an operation started
make it stop being served and end its unstarted operations with ABORTED; with no operation, completion or stop
record left of the ring, the reset ends with SUCCESS. It takes effect as its completion is posted, at once where that is
silent: push slots empty, STOPPED clear, HEAD 0 for CLEAR and STOP_SEQ for REPLAY of a stopped ring, and a deleted ring
is gone. [04_operations R105, 04_operations R110, 04_operations R111, 04_operations R123, 04_operations Table 4.6, 03_descriptor_rings R68, 03_descriptor_rings R97, 03_descriptor_rings R98, 03_descriptor_rings R99, 03_descriptor_rings R101] -/
def Obligations.OperationsOnRings : Prop :=
  ∀ (s s1 : State) (k : Fin 512) (o : Op), o.flush = [] → EndsAlone s →
    let others (t : State) : Prop := OnlyQueue s t ∧ ∀ j < 512, j ≠ k.val → t.op j = s.op j
    let i := fld o.desc 9 1
    (Performs s k 0x00 s1 o → ∃ t, exec (.nop k) s = .next t ∧ Ended t k o Result.ok ∧ others t) ∧
    (Performs s k 0x13 s1 o → ∃ t, exec (.fence k) s = .next t ∧ Ended t k o Result.ok ∧ others t) ∧
    (Performs s k 0x40 s1 o → 1 ≤ i → i < 32 → fld o.desc 8 1 = 0 →
      ((s.sr i).exists_ = false → (s.cr (fld o.desc 24 2)).exists_ = true →
        ∃ t, exec (.ringCreate k) s = .next t ∧ Ended t k o Result.ok ∧ others t ∧
          t.sr i = { Reset.subRing with
            exists_ := true, base := BitVec.ofNat 48 (fld o.desc 16 8), log2 := fld o.desc 10 1, prio := fld o.desc 11 1
            homeCr := fld o.desc 24 2, pasid := BitVec.ofNat 20 (fld o.desc 12 4) } ∧
          (∀ j < 32, j ≠ i → (t.sr j).head = (s.sr j).head ∧ (t.sr j).exists_ = (s.sr j).exists_)) ∧
      ((s.sr i).exists_ = true ∨ (s.cr (fld o.desc 24 2)).exists_ = false →
        ∃ t, exec (.ringCreate k) s = .next t ∧ Ended t k o (Result.refused 0x12 0x26) ∧ others t ∧
          (t.sr i).exists_ = (s.sr i).exists_)) ∧
    (Performs s k 0x40 s1 o → 1 ≤ i → i < 32 → fld o.desc 8 1 = 1 →
      ((s.cr i).exists_ = false →
        ∃ t, exec (.ringCreate k) s = .next t ∧ Ended t k o Result.ok ∧ others t ∧ (t.cr i).exists_ = true ∧
          (t.cr i).base = BitVec.ofNat 48 (fld o.desc 16 8) ∧ (t.cr i).log2 = fld o.desc 10 1 ∧
          (t.cr i).vector = fld o.desc 11 1 ∧ (t.cr i).count = fld o.desc 12 1 ∧ (t.cr i).time = fld o.desc 13 1 ∧
          (t.cr i).detailBase = BitVec.ofNat 48 (fld o.desc 32 8) ∧ (t.cr i).tail = 0 ∧ (t.cr i).head = 0) ∧
      ((s.cr i).exists_ = true →
        ∃ t, exec (.ringCreate k) s = .next t ∧ Ended t k o (Result.refused 0x12 0x26) ∧ others t)) ∧
    (Performs s k 0x41 s1 o → 1 ≤ i → i < 32 → fld o.desc 8 1 = 1 → (s.cr i).exists_ = true →
      let used : Prop := (∃ j < 32, (s.sr j).exists_ = true ∧ (s.sr j).homeCr = i) ∨ ∃ j p, s.op j = some p ∧ p.crIndex = i
      (used → ∃ t, exec (.ringDelete k) s = .next t ∧ Ended t k o (Result.refused 0x12 0x23) ∧ others t ∧
        (t.cr i).exists_ = true) ∧
      (¬used → ∃ t, exec (.ringDelete k) s = .next t ∧ Ended t k o Result.ok ∧ others t ∧ (t.cr i).exists_ = false)) ∧
    (∀ delete : Bool, Performs s k (if delete then 0x41 else 0x42) s1 o → 1 ≤ i → i < 32 → o.sr = 0 →
      (delete = true → fld o.desc 8 1 = 0) → (s.sr i).exists_ = true → (∀ j < 32, (s.sr j).stopRecord = none) →
      (∀ j p, j ≠ k.val → s.op j = some p → p.sr = 0 → p.phase ≠ .started) →
      let command : Instr := if delete then .ringDelete k else .ringReset k
      let mode : RingResetMode := if delete then .delete else if fld o.desc 10 1 = 0 then .clear else .replay
      ((∃ j p, s.op j = some p ∧ p.sr = i ∧ p.phase = .started) →
        ∃ t, exec command s = .next t ∧ (t.sr i).resetting = some mode ∧ (t.sr i).grant = none ∧
          (t.sr i).head = (s.sr i).head ∧
          (∀ j p, s.op j = some p → p.sr = i → p.phase = .admitted → Ended t j p (Result.aborted false 0)) ∧
          (∀ j p, j ≠ k.val → s.op j = some p → p.sr ≠ i ∨ p.phase ≠ .admitted → t.op j = some p)) ∧
      let isOver (t : State) : Prop := (t.sr i).resetting = none ∧ t.queue.stoppedRings.getLsbD i = false ∧
        (delete = true → (t.sr i).exists_ = false ∧ (t.sr i).head = 0 ∧
          ((t.sr i).linePending = false → t.sr i = Reset.subRing)) ∧
        (delete = false → (t.sr i).exists_ = true ∧ (t.sr i).stopped = false ∧ (t.sr i).push = Vector.replicate 4 none ∧
          (t.sr i).head = if fld o.desc 10 1 = 0 then 0 else if (s.sr i).stopped then (s.sr i).stopSeq
            else (s.sr i).head)
      ((∀ j p, s.op j = some p → p.sr ≠ i) → (∀ c < 32, ∀ w ∈ (s.cr c).waiting, w.sr ≠ i) →
        ∃ t, exec command s = .next t ∧ Ended t k o Result.ok ∧ (∀ j < 512, j ≠ k.val → t.op j = s.op j) ∧
          (o.silent = true → isOver t) ∧
          (o.silent = false → (t.sr i).resetting = some mode ∧ (t.sr i).head = (s.sr i).head ∧
            isOver (freeEntryOf t k true))))

/-- On memory of HBM for kernels or of the operand store that is not held by the host, poisoned or watched, with no
destination row overlapping a source row or another destination row, an operation that has written nothing yet ends
with SUCCESS and: COPY gives destination row i the bytes of source row i for every row; FILL gives the byte at each
address of its range the PATTERN byte of the address modulo 8; CONVERT gives element e of its destination the source
element decoded with its block scale, multiplied by SCALE and encoded in the destination format with its rounding
mode, and each MX block its scale byte; HISTOGRAM_READ writes the 320-byte record of its set, and clears the set
where asked. Every other byte of device memory, all host memory, the Turner, but for the interrupts of KERNELs
that the end makes ready, and the Lattice stay as they were. [04_operations R106, 04_operations R107, 04_operations R109, 04_operations R116, 08_numbers_and_finishing R219, 08_numbers_and_finishing R218, 08_numbers_and_finishing R231, 04_operations Table 4.4] -/
def Obligations.DataMoversWriteTheirDestination : Prop :=
  ∀ (s s1 : State) (k : Fin 512) (o : Op) (r1 r2 : Region), o.flush = [] → o.progress = 0 → o.aux = 0 → EndsAlone s →
    s.dev.wf = true → s.scale.delivered.length ≤ 1024 → (r1 = .kernels ∨ r1 = .operand) → (r2 = .kernels ∨ r2 = .operand) →
    let ends (c : Instr) (written : Nat → Prop) (p : State → Prop) : Prop :=
      ∃ t, exec c s = .next t ∧ Ended t k o Result.ok ∧ p t ∧ (∀ x, ¬written x → t.dev.read x = s.dev.read x) ∧
        t.host = s.host ∧ t.link = s.link ∧ SameCore s t ∧ t.lattice = s.lattice
    let f := fld o.desc
    (Performs s k 0x01 s1 o →
      let src (i : Nat) := f 8 8 + i * f 32 8
      let dst (i : Nat) := f 16 8 + i * f 40 8
      let n := f 24 4
      (∀ i < f 28 4, Plain s r1 (src i) n ∧ Plain s r2 (dst i) n ∧
        ∀ j < f 28 4, Apart (dst i) n (src j) n ∧ (i ≠ j → Apart (dst i) n (dst j) n)) →
      ends (.copy k []) (fun x => ∃ i < f 28 4, dst i ≤ x ∧ x < dst i + n) fun t =>
        t.finish = s.finish ∧ ∀ i < f 28 4, ∀ b < n, t.dev.read (dst i + b) = s.dev.read (src i + b)) ∧
    (Performs s k 0x03 s1 o → Plain s r2 (f 8 8) (f 16 8) →
      ends (.fill k []) (fun x => f 8 8 ≤ x ∧ x < f 8 8 + f 16 8) fun t =>
        t.finish = s.finish ∧ ∀ x, f 8 8 ≤ x → x < f 8 8 + f 16 8 →
          t.dev.read x = BitVec.ofNat 8 (f 24 8 / 256 ^ (x % 8))) ∧
    (Performs s k 0x02 s1 o → f 44 1 ≤ 11 → f 45 1 ≤ 11 → f 46 1 ≤ 2 → f 47 1 < 128 →
      let count := f 40 4
      let sb := fmtBits (f 44 1)
      let db := fmtBits (f 45 1)
      let smx := isMxFmt (f 44 1)
      let dmx := isMxFmt (f 45 1)
      (smx = true ∨ dmx = true → count % 32 = 0) →
      let sn := sb * count / 8
      let dn := db * count / 8
      let sc := if smx then count / 32 else 0
      let dc := if dmx then count / 32 else 0
      Plain s r1 (f 8 8) sn → Plain s r1 (f 24 8) sc → Plain s r2 (f 16 8) dn → Plain s r2 (f 32 8) dc →
      Apart (f 16 8) dn (f 8 8) sn → Apart (f 16 8) dn (f 24 8) sc → Apart (f 32 8) dc (f 8 8) sn →
      Apart (f 32 8) dc (f 24 8) sc → Apart (f 16 8) dn (f 32 8) dc →
      let bits (e : Nat) := s.dev.readLE (f 8 8) sn / 2 ^ (sb * e) % 2 ^ sb
      let value (e : Nat) : Val :=
        if smx then decodeMx (f 44 1) (bits e) (s.dev.read (f 24 8 + e / 32)).toNat else decodeElem (f 44 1) (bits e)
      let scaled (e : Nat) : Val :=
        if 10 ≤ f 44 1 ∧ 10 ≤ f 45 1 then value e else (value e).mul (val32 (BitVec.ofNat 32 (f 48 4)))
      let mode (e : Nat) := roundOf (f 46 1) (f 52 4) e
      let block (b : Nat) := mxBlock (f 45 1) (fun i => mode (32 * b + i)) ((List.range 32).map fun i => scaled (32 * b + i))
      ends (.convert k []) (fun x => (f 16 8 ≤ x ∧ x < f 16 8 + dn) ∨ (f 32 8 ≤ x ∧ x < f 32 8 + dc)) fun t =>
        t.finish = s.finish ∧
        (∀ e < count, t.dev.readLE (f 16 8) dn / 2 ^ (db * e) % 2 ^ db =
          (if dmx then (block (e / 32)).1.getD (e % 32) 0 else encodeElem (f 45 1) (mode e) true (scaled e)) % 2 ^ db) ∧
        (dmx = true → ∀ b < count / 32, t.dev.read (f 32 8 + b) = BitVec.ofNat 8 (block b).2)) ∧
    (Performs s k 0x1C s1 o → f 8 1 < 16 → f 16 8 % 64 = 0 → Plain s r2 (f 16 8) 320 →
      let clear := decide (f 9 1 = 1)
      ends (.histogramRead k) (fun x => f 16 8 ≤ x ∧ x < f 16 8 + 320) fun t =>
        t.dev.readN (f 16 8) 320 = histRecord s (f 8 1) clear ∧
        t.finish = if clear then { s.finish with hist := vset s.finish.hist (f 8 1) histClear } else s.finish)

/-- For COUNT slots from SLOT with an image that lies in HBM for kernels, is not held by the host, poisoned or watched,
while no Spindle command in progress names a slot: STREAM_PARK gives the image the 4,096 bytes of each slot's state,
and STREAM_UNPARK gives each slot the bytes of its image; no other byte of device memory changes and the operation
ends with SUCCESS. While a command in progress names the first slot, the operation waits and changes no memory. An image that does not lie in HBM for kernels ends it with FAULT_ACCESS code 0x10 and changes no
memory. [09_spindle R235, 09_spindle R236, 04_operations Table 4.4] -/
def Obligations.StreamsAreParkedAndRestored : Prop :=
  ∀ (s s1 : State) (k : Fin 512) (o : Op) (park : Bool), Performs s k (if park then 0x18 else 0x19) s1 o → o.flush = [] →
    o.progress = 0 → EndsAlone s → s.dev.wf = true → s.scale.delivered.length ≤ 1024 →
    let command : Instr := if park then .streamPark k [] else .streamUnpark k []
    let slot := fld o.desc 8 2
    let n := 4096 * fld o.desc 10 2
    let image := fld o.desc 16 8
    1 ≤ fld o.desc 10 2 → slot + fld o.desc 10 2 ≤ 4096 → image % 4096 = 0 →
    (Plain s .kernels image n → Plain s .spindle (streamBase slot) n → s.spindle.running = [] →
      ∃ t, exec command s = .next t ∧ Ended t k o Result.ok ∧
        (let src := if park then streamBase slot else image
         let dst := if park then image else streamBase slot
         (∀ b < n, t.dev.read (dst + b) = s.dev.read (src + b)) ∧
         ∀ x, x < dst ∨ dst + n ≤ x → t.dev.read x = s.dev.read x) ∧
        t.spindle = s.spindle ∧ t.host = s.host ∧ SameCore s t ∧ t.lattice = s.lattice) ∧
    (∀ c ∈ s.spindle.running, namesSlot c.entry slot = true → s.inRegion image n .kernels = true →
      ∃ t, exec command s = .next t ∧ t.dev = s.dev ∧ t.spindle = s.spindle ∧
        ∃ p, t.op k = some p ∧ p.phase = .started ∧ p.progress = 0) ∧
    (s.inRegion image n .kernels = false →
      ∃ t, exec command s = .next t ∧ Ended t k o (Result.fault 0x21 0x10 (opLocation o) image 0) ∧ t.dev = s.dev ∧
        t.spindle = s.spindle)

/-- COUNTER_SET registers a counter at an address in HBM for kernels outside the shared window, with its first value
stored where asked, or deregisters it, and its WAITs are held unevaluated again. SIGNAL adds ADDEND modulo 2^64 to
the 8 bytes of the counter registered at its start and delivers the new value, or with none registered ends with
FAULT_ACCESS code 0x10. WAIT reads its counter: with the comparison met it ends with
SUCCESS, else it is held as evaluated. COUNTER_VALUE_TAKEN compares a delivered value with the evaluated WAITs of
its counter and ends one whose comparison holds. RELAY_TABLE_SET writes its entry, or is refused with FAULT_ACCESS
code 0x10 where the address is not in the host windows. RELAY through an entry that is valid at its start writes the low SIZE bytes of
VALUE at its host address, and through an invalid one ends with FAULT_ACCESS code 0x10. No other byte of memory
changes. [10_scale_out R253, 10_scale_out R254, 10_scale_out R255, 10_scale_out R256, 10_scale_out R258, 10_scale_out R259, 10_scale_out R262, 04_operations Table 4.4] -/
def Obligations.CountersAndRelays : Prop :=
  ∀ (s s1 : State) (k : Fin 512) (o : Op), o.flush = [] → EndsAlone s → s.dev.wf = true → s.host.wf = true →
    let f := fld o.desc
    let sameDev (t : State) (a n : Nat) : Prop := ∀ x, x < a ∨ a + n ≤ x → t.dev.read x = s.dev.read x
    let holds (v : Nat) : Prop := if f 10 1 = 0 then f 16 8 ≤ v else v = f 16 8
    (Performs s k 0x46 s1 o → f 10 1 % 2 = 1 → (∀ c ∈ s.scale.counters, c.index ≠ f 8 2) →
      Plain s .kernels (f 16 8) 8 → f 16 8 % 8 = 0 → inShared s (f 16 8) = false → s.scale.delivered.length < 1024 →
      ∃ t, exec (.counterSet k) s = .next t ∧ Ended t k o Result.ok ∧
        (∀ c, c ∈ t.scale.counters ↔ c ∈ s.scale.counters ∨ c = { index := f 8 2, addr := BitVec.ofNat 48 (f 16 8) }) ∧
        sameDev t (f 16 8) 8 ∧ (f 10 1 = 1 → t.dev = s.dev) ∧ (f 10 1 = 3 → t.dev.readLE (f 16 8) 8 = f 24 8)) ∧
    (Performs s k 0x46 s1 o → f 10 1 % 2 = 0 → (∃ c ∈ s.scale.counters, c.index = f 8 2) →
      ∃ t, exec (.counterSet k) s = .next t ∧ Ended t k o Result.ok ∧ t.dev = s.dev ∧
        t.scale.counters = s.scale.counters.filter (fun c => c.index ≠ f 8 2) ∧
        ∀ j p, j ≠ k.val → s.op j = some p →
          t.op j = some (if p.opcode = 0x10 ∧ fld p.desc 8 2 = f 8 2 then { p with aux := 0 } else p)) ∧
    (∀ c, Performs s k 0x11 s1 o → o.target = none → counterAt s (f 8 2) = some c → c.addr.toNat % 8 = 0 →
      s.inRegion c.addr.toNat 8 .kernels = true → LineFree s (c.addr.toNat / 64) → s.poisoned c.addr.toNat = false → watchRoom s (c.addr.toNat / 64) = true →
      let sum := (s.dev.readLE c.addr.toNat 8 + f 16 8) % 2 ^ 64
      ∃ t, exec (.signal k []) s = .next t ∧ Ended t k o Result.ok ∧ t.dev.readLE c.addr.toNat 8 = sum ∧
        sameDev t c.addr.toNat 8 ∧ (c.index, BitVec.ofNat 64 sum) ∈ t.scale.delivered ∧
        t.scale.counters = s.scale.counters ∧ t.host = s.host ∧ SameCore s t) ∧
    (Performs s k 0x11 s1 o → o.target = none → counterAt s (f 8 2) = none →
      ∃ t, exec (.signal k []) s = .next t ∧ Ended t k o (Result.fault 0x21 0x10 0x5010 0 0) ∧ t.dev = s.dev) ∧
    (∀ c, s.op k = some o → o.opcode = 0x10 → o.aux = 0 → mayStart s k = true → counterAt s (f 8 2) = some c →
      s.inRegion c.addr.toNat 8 .kernels = true → LineFree s (c.addr.toNat / 64) → s.poisoned c.addr.toNat = false →
      (¬holds (s.dev.readLE c.addr.toNat 8) → exec (.wait k []) s = .next (s.setOp k (some { o with aux := 1 }))) ∧
      (holds (s.dev.readLE c.addr.toNat 8) →
        ∃ t, exec (.wait k []) s = .next t ∧ Ended t k o Result.ok ∧ OnlyQueue s t)) ∧
    (∀ v : W64, s.running = true → s.op k = some o → o.opcode = 0x10 → o.aux = 1 → o.phase = .admitted →
      s.scale.delivered = [(f 8 2, v)] → s.link.homeQueue = [] → holds v.toNat → (∀ j p, s.op j = some p → j ≠ k.val → p.opcode ≠ 0x10) →
      ∃ t, exec .counterValueTaken s = .next t ∧ Ended t k o Result.ok ∧ t.scale.delivered = [] ∧
        t.scale.counters = s.scale.counters ∧ t.dev = s.dev ∧ t.host = s.host) ∧
    (Performs s k 0x45 s1 o →
      let entry : RelayEntry :=
        { valid := decide (f 9 1 % 2 = 1), usePasid := decide (f 9 1 / 2 % 2 = 1), pasid := BitVec.ofNat 20 (f 12 4)
          addr := BitVec.ofNat 48 (f 16 8) }
      (f 9 1 % 2 = 0 ∨ s.inRegion (f 16 8) 8 .host = true →
        ∃ t, exec (.relayTableSet k) s = .next t ∧ Ended t k o Result.ok ∧ t.dev = s.dev ∧ t.host = s.host ∧
          t.scale = { s.scale with relays := vset s.scale.relays (f 8 1) entry }) ∧
      (f 9 1 % 2 = 1 → s.inRegion (f 16 8) 8 .host = false →
        ∃ t, exec (.relayTableSet k) s = .next t ∧ Ended t k o (Result.fault 0x21 0x10 0x5010 (f 16 8) 0) ∧
          t.scale = s.scale)) ∧
    (Performs s k 0x12 s1 o → o.target = none →
      let e := relayAt s (f 8 1)
      (e.valid = false → ∃ t, exec (.relay k) s = .next t ∧ Ended t k o (Result.fault 0x21 0x10 0x5010 0 0) ∧
        t.dev = s.dev ∧ t.host = s.host) ∧
      (e.valid = true → (e.usePasid = true → s.link.cfg.pasidEnable = true → s1.opPasid o = some e.pasid) →
        (f 9 1 = 4 ∨ f 9 1 = 8) → s.inRegion e.addr.toNat (f 9 1) .host = true → hostReachable s = true →
        s.link.cfg.atsEnable = false → s.link.l2Host = [] → flushRangeOf s e.addr.toNat = none →
        let h := e.addr.toNat - 0xC00000000000
        ∃ t, exec (.relay k) s = .next t ∧ Ended t k o Result.ok ∧ t.dev = s.dev ∧
          t.host.readLE h (f 9 1) = f 16 8 % 256 ^ f 9 1 ∧
          (∀ x, x < h ∨ h + f 9 1 ≤ x → t.host.read x = s.host.read x) ∧
          ∃ p, t.link.sent = s.link.sent ++ [.write p h (f 9 1) false]))

/-- KEEP_WRITE in write-back with room, a readable source and its half open, or openable, for its epoch: the bytes of
SRC are in the protected cache at the log tail, a ready extent of the slot, half and epoch with the next ADMIT_SEQ
is the log's last, the tail advances, the half's record is OPEN for the epoch, and it ends with SUCCESS, with the
note of the missing members where the array is degraded. KEEP_READ of a COMMITTED epoch with every member present
writes to DST the bytes that the members hold. KEEP_COMMIT with every extent of the half released and none voided
flushes every member and writes the record COMMITTED with the epoch, its byte count and the next RECORD_SEQ.
KEEP_SCRUB, with no work that goes ahead of it, of stripes whose parity agrees changes nothing of the Keep, and in check mode a stripe whose P differs is counted once. With no
usable array the first three are refused with code 0x21, on a FAILED array with ARRAY_FAILED, beyond the half with
0x01. [11_keep_array R285, 11_keep_array R286, 11_keep_array R287, 11_keep_array R288, 11_keep_array R292, 11_keep_array R301, 12_protected_cache_and_vault R305, 12_protected_cache_and_vault R306, 12_protected_cache_and_vault R312, 04_operations Table 4.4] -/
def Obligations.KeepOperationsOnAnArray : Prop :=
  ∀ (s : State) (k : Fin 512) (o : Op) (a : KArray) (e : SlotEntry), s.op k = some o → o.phase = .admitted → o.flush = [] →
    o.closing = none → o.progress = 0 → o.aux = 0 → o.degraded = 0 → mayStart s k = true → EndsAlone s → s.dev.wf = true →
    s.power.keepEnabled = true → s.cache.image = .none →
    let f := fld o.desc
    let half := halfOf (f 12 4)
    let refused (c : Instr) (st code : Byte) : Prop :=
      ∃ t, exec c s = .next t ∧ Ended t k o (Result.refused st code) ∧ t.keep = s.keep ∧ t.cache = s.cache ∧ t.dev = s.dev
    let usable : Prop := s.keep.array = some a ∧ a.isDown = false ∧ slotEntry a (f 8 2) = some e
    (o.opcode = 0x20 → headOfWrites s k o = true → writeThrough s = false → roomTest s (f 32 4) = true →
      (s.keep.array = none → refused (.keepWrite k []) 0x12 0x21) ∧
      (s.keep.array = some a → a.isDown = true → refused (.keepWrite k []) 0x11 0x10) ∧
      (usable → e.halfBytes < f 24 8 + f 32 4 → refused (.keepWrite k []) 0x10 0x01) ∧
      (usable → f 24 8 + f 32 4 ≤ e.halfBytes → 4096 ≤ f 32 4 → f 32 4 % 4096 = 0 → f 32 4 ≤ 2 ^ 26 →
        s.cache.tail % 4096 = 0 → Plain s .kernels (f 16 8) (f 32 4) →
        (∀ j p, s.op j = some p → j ≠ k.val → waitsForRoom s j p = false) → (∀ x ∈ s.cache.extents, x.waiter ≠ some k.val ∧ x.admitSeq ≤ s.cache.admitSeq) →
        openFor a (f 8 2) half (f 12 4) = true ∨ (halfRead s (f 8 2) half = false ∧ allReachable s a = true) →
        ∃ t x b r, exec (.keepWrite k []) s = .next t ∧ t.cache.extents = s.cache.extents ++ [x] ∧
          x.slot = f 8 2 ∧ x.half = half ∧ x.epoch.toNat = f 12 4 ∧ x.admitSeq = s.cache.admitSeq + 1 ∧
          x.offset = s.cache.tail ∧ x.length = f 32 4 ∧ x.ready = true ∧ x.released = false ∧ x.void = false ∧
          x.arrayByte = e.first half * a.width + f 24 8 ∧ t.cache.tail = s.cache.tail + f 32 4 ∧
          t.cache.admitSeq = s.cache.admitSeq + 1 ∧
          (∀ y < f 32 4, t.dev.read (dataAddr (s.cache.tail + y)) = s.dev.read (f 16 8 + y)) ∧
          (∀ z, (∀ y < f 32 4, z ≠ dataAddr (s.cache.tail + y)) → t.dev.read z = s.dev.read z) ∧
          t.keep.array = some b ∧ recordOf b (f 8 2) half = some r ∧ r.state = 1 ∧ r.epoch.toNat = f 12 4 ∧
          Ended t k o (if a.missing = 0 then Result.ok else Result.note 1 a.missingBits) ∧ t.host = s.host ∧
          SameCore s t)) ∧
    (o.opcode = 0x21 → keepTakes s k = true →
      (s.keep.array = none → refused (.keepRead k []) 0x12 0x21) ∧
      (s.keep.array = some a → a.isDown = true → refused (.keepRead k []) 0x11 0x10) ∧
      (usable → f 24 8 + f 32 4 ≤ e.halfBytes → readHalf a (f 8 2) (f 12 4) = none →
        refused (.keepRead k []) 0x12 0x22) ∧
      (∀ h, usable → f 24 8 + f 32 4 ≤ e.halfBytes → readHalf a (f 8 2) (f 12 4) = some h → 3 ≤ a.n → a.n ≤ 8 →
        1 ≤ a.p → a.p + 2 ≤ a.n → (∀ i < a.n, a.present i = true) → allReachable s a = true →
        readWaits s = false → Plain s .kernels (f 16 8) (f 32 4) → s.scale.delivered.length ≤ 1024 →
        ∃ t, exec (.keepRead k []) s = .next t ∧ Ended t k o Result.ok ∧ t.keep = s.keep ∧ t.cache = s.cache ∧
          (∀ y < f 32 4,
            let l := e.first h * a.width + f 24 8 + y
            let st := l / a.width
            ∀ q d, vget a.ports (a.memberAt st (l % a.width / a.chunk)) none = some q → (s.port q).drive = some d →
              t.dev.read (f 16 8 + y) = d.media.read (2 ^ 24 + st * a.chunk + l % a.chunk)) ∧
          (∀ z, z < f 16 8 ∨ f 16 8 + f 32 4 ≤ z → t.dev.read z = s.dev.read z) ∧ t.host = s.host)) ∧
    (o.opcode = 0x22 → keepTakes s k = true →
      (s.keep.array = none → refused (.keepCommit ⟨k, []⟩) 0x12 0x21) ∧
      (s.keep.array = some a → a.isDown = true → refused (.keepCommit ⟨k, []⟩) 0x11 0x10) ∧
      (usable → (∀ x ∈ s.cache.extents, x.slot = f 8 2 → x.half = half → x.released = true) →
        halfWriting s e half = false → (f 8 2, half) ∉ s.cache.poisonedHalves → allReachable s a = true →
        ∃ t b r, exec (.keepCommit ⟨k, []⟩) s = .next t ∧ t.keep.array = some b ∧ recordOf b (f 8 2) half = some r ∧
          r.state = 2 ∧ r.epoch.toNat = f 12 4 ∧ r.bytes.toNat = f 24 8 ∧ r.seq = a.recordSeq + 1 ∧
          b.recordSeq = a.recordSeq + 1 ∧ b.slots = a.slots ∧ t.cache = s.cache ∧ t.dev = s.dev ∧
          (∀ q ∈ a.livePorts, ∀ d, (t.port q).drive = some d → d.unflushed = []) ∧ Ended t k o (if a.missing = 0 then Result.ok else Result.note 1 a.missingBits)) ∧
      (usable → (∀ x ∈ s.cache.extents, x.slot = f 8 2 → x.half = half → x.released = true) →
        halfWriting s e half = false → (f 8 2, half) ∈ s.cache.poisonedHalves →
        ∃ t, exec (.keepCommit ⟨k, []⟩) s = .next t ∧ t.keep = s.keep ∧ Ended t k o (Result.fault 0x22 0x20 0x8001 0 0))) ∧
    (o.opcode = 0x23 → keepTakes s k = true → s.keep.array = some a → a.isDown = false → f 16 8 < a.stripes →
      s.keep.writes = [] → allReachable s a = true → 3 ≤ a.n → a.n ≤ 8 → 1 ≤ a.p → a.p + 2 ≤ a.n → a.missing = 0 →
      a.rebuild = none → a.resync = [] → stepWaitsForDestage s a = false →
      let data (st : Nat) := readStripe s a [] st 0 a.chunk
      let pOf (st : Nat) := readPosition s a [] st a.k 0 a.chunk
      let qFits (st : Nat) (ds : List (List Byte)) : Prop :=
        a.p = 2 → readPosition s a [] st (a.k + 1) 0 a.chunk = some (parityQ a.chunk ds)
      ((∀ st, f 16 8 ≤ st → st < scrubEnd a o → ∀ ds, data st = some ds → pOf st = some (parityP a.chunk ds) ∧ qFits st ds) →
        ∃ t, exec (.keepScrub k []) s = .next t ∧ Ended t k o Result.ok ∧ t.keep = s.keep ∧ t.dev = s.dev ∧
          t.faults = s.faults) ∧
      (f 8 1 = 0 → f 24 8 = 1 → (∀ ds, data (f 16 8) = some ds → pOf (f 16 8) ≠ some (parityP a.chunk ds)) →
        ∃ t, exec (.keepScrub k []) s = .next t ∧ Ended t k o Result.ok ∧
          t.keep = { s.keep with scrubMismatches := BitVec.ofNat 32 (min (s.keep.scrubMismatches.toNat + 1) 0xFFFFFFFF) } ∧
          t.dev = s.dev))

/-- ARRAY_CREATE on usable drives with no array assembled and no image waiting assembles an array of those members in
port order with the P and chunk size asked for and every region set and to be resynced, records its UUID in the
settings, and ends with SUCCESS; with an array assembled it is refused with code 0x23. ARRAY_IMPORT with no ports
detaches an idle array, and with ports assembles the array of the superblock with the highest GENERATION there.
SLOT_DEFINE gives a slot that is not defined two disjoint free runs of stripes large enough for its half, or takes
an idle slot out. MEMBER_REPLACE marks the member failed and starts its rebuild on the port's drive; SPARE_ADD makes
the port's drive a spare, or takes it out. On no array, or a FAILED one, the last three are refused with code 0x21. [11_keep_array R268, 11_keep_array R272, 11_keep_array R280, 11_keep_array R281, 11_keep_array R282, 11_keep_array R284, 11_keep_array R295, 11_keep_array R296, 11_keep_array R517, 04_operations Table 4.6] -/
def Obligations.OperationsOnTheArray : Prop :=
  ∀ (s s1 : State) (k : Fin 512) (o : Op), o.aux = 0 → o.flush = [] → EndsAlone s → s.power.keepEnabled = true →
    s.cache.image = .none →
    let f := fld o.desc
    let qs := portsOf (f 8 1)
    let refused (c : Instr) (st code : Byte) : Prop :=
      ∃ t, exec c s = .next t ∧ Ended t k o (Result.refused st code) ∧ t.cache = s.cache ∧ t.dev = s.dev ∧
        t.keep.array = s.keep.array ∧ t.keep.spares = s.keep.spares
    (Performs s k 0x50 s1 o → 3 ≤ qs.length → 1 ≤ f 9 1 → f 9 1 + 2 ≤ qs.length → f 9 1 ≤ 2 →
      (∀ q ∈ qs, usableDrive s q ≠ none) →
      (s.keep.array ≠ none → refused (.arrayCreate ⟨k, []⟩) 0x12 0x23) ∧
      (s.keep.array = none →
        ∃ t a, exec (.arrayCreate ⟨k, []⟩) s = .next t ∧ t.keep.array = some a ∧ a.n = qs.length ∧ a.p = f 9 1 ∧
          a.chunk256 = decide (f 10 1 = 1) ∧ a.failed = 0 ∧ (∀ i < qs.length, vget a.ports i none = qs[i]?) ∧
          a.slots = [] ∧ a.records = [] ∧ a.rebuild = none ∧ a.resyncAll = true ∧ a.resync = List.range a.regions ∧
          a.bitmap = List.range a.regions ∧ t.firmware.inUse.uuid = a.uuid ∧
          (∀ q, q < 8 → q ∉ qs → s.keep.spares.getLsbD q = false → t.port q = s.port q) ∧ Ended t k o Result.ok)) ∧
    (Performs s k 0x51 s1 o → qs = [] →
      (∀ j p, s.op j = some p → p.opcode < 0x20 ∨ 0x23 < p.opcode) → (∀ x ∈ s.cache.extents, x.released = true) →
      ∃ t, exec (.arrayImport k) s = .next t ∧ Ended t k o Result.ok ∧ t.keep.array = none ∧ t.keep.spares = 0 ∧
        t.firmware.inUse.uuid = 0 ∧ t.keep.ports = s.keep.ports ∧ t.dev = s.dev) ∧
    (∀ (x : Nat × Superblock) (a : KArray) (spares : Byte), Performs s k 0x51 s1 o → qs ≠ [] → s.keep.array = none →
      bestBy (fun y : Nat × Superblock => y.2.generation) ((superblocksOn s qs).filter fun y => y.2.index ≠ 0xFF) = some x →
      assembleFrom s qs x.2.uuid = some (a, spares) → a.missing = 0 →
      ∃ t b, exec (.arrayImport k) s = .next t ∧ Ended t k o Result.ok ∧ t.keep.array = some b ∧ b.uuid = x.2.uuid ∧
        b.n = a.n ∧ b.p = a.p ∧ b.ports = a.ports ∧ b.slots = a.slots ∧ b.records = a.records ∧
        t.keep.spares = spares ∧ t.firmware.inUse.uuid = x.2.uuid) ∧
    (Performs s k 0x53 s1 o →
      (s.keep.array = none ∨ (∃ a, s.keep.array = some a ∧ a.isDown = true) → refused (.slotDefine k) 0x12 0x21) ∧
      (∀ a need fa fb, s.keep.array = some a → a.isDown = false → allReachable s a = true → f 10 1 % 2 = 0 →
        slotEntry a (f 8 2) = none → need = (f 16 8 + a.width - 1) / a.width → 0 < need →
        freeRun a.stripes need (takenRuns a) = some fa →
        freeRun a.stripes need ((fa, need) :: takenRuns a) = some fb →
        ∃ t b e, exec (.slotDefine k) s = .next t ∧ Ended t k o Result.ok ∧ t.keep.array = some b ∧
          slotEntry b (f 8 2) = some e ∧ e.halfBytes = f 16 8 ∧ e.firstA = fa ∧ e.firstB = fb ∧ e.halfStripes = need ∧
          Apart fa need fb need ∧ fa + need ≤ a.stripes ∧ fb + need ≤ a.stripes ∧
          (∀ r ∈ takenRuns a, Apart fa need r.1 r.2 ∧ Apart fb need r.1 r.2) ∧
          (∀ j, j ≠ f 8 2 → slotEntry b j = slotEntry a j) ∧
          recordOf b (f 8 2) 0 = none ∧ recordOf b (f 8 2) 1 = none ∧ b.recordSeq = a.recordSeq + 3) ∧
      (∀ a e, s.keep.array = some a → a.isDown = false → allReachable s a = true → f 10 1 % 2 = 1 →
        slotEntry a (f 8 2) = some e → keepBusy s (f 8 2) [0x20, 0x21, 0x22] = false →
        (∀ x ∈ s.cache.extents, x.released = true) →
        ∃ t b, exec (.slotDefine k) s = .next t ∧ Ended t k o Result.ok ∧ t.keep.array = some b ∧
          slotEntry b (f 8 2) = none ∧ ∀ j, j ≠ f 8 2 → slotEntry b j = slotEntry a j)) ∧
    (Performs s k 0x52 s1 o → f 8 1 < 8 → f 9 1 < 8 →
      (s.keep.array = none ∨ (∃ a, s.keep.array = some a ∧ a.isDown = true) → refused (.memberReplace k) 0x12 0x21) ∧
      (∀ a d, s.keep.array = some a → a.isDown = false → underTest s (f 9 1) = false → allReachable s a = true →
        f 8 1 < a.n → a.n ≤ 8 → usableDrive s (f 9 1) = some d → memberOrTarget s (f 9 1) = false → a.rebuild = none →
        tooSmall a d = false → a.missing + (if a.present (f 8 1) then 1 else 0) ≤ a.p →
        ∃ t b, exec (.memberReplace k) s = .next t ∧ Ended t k o Result.ok ∧ t.keep.array = some b ∧
          b.rebuild = some { member := f 8 1, port := f 9 1, progress := 0, regions := none } ∧
          b.isFailed (f 8 1) = true ∧ (∀ i, i ≠ f 8 1 → b.isFailed i = a.isFailed i) ∧ b.slots = a.slots ∧
          (t.port (f 9 1)).locked = false ∧ t.keep.spares.getLsbD (f 9 1) = false)) ∧
    (Performs s k 0x54 s1 o → f 8 1 < 8 →
      (s.keep.array = none ∨ (∃ a, s.keep.array = some a ∧ a.isDown = true) → refused (.spareAdd k) 0x12 0x21) ∧
      (∀ a d, s.keep.array = some a → a.isDown = false → underTest s (f 8 1) = false → allReachable s a = true →
        usableDrive s (f 8 1) = some d → memberOrTarget s (f 8 1) = false →
        (f 9 1 % 2 = 0 → tooSmall a d = false →
          ∃ t b, exec (.spareAdd k) s = .next t ∧ Ended t k o Result.ok ∧ t.keep.array = some b ∧
            t.keep.spares = s.keep.spares ||| BitVec.twoPow 8 (f 8 1) ∧ (t.port (f 8 1)).locked = false ∧
            b.generation = a.generation + 1 ∧ b.slots = a.slots) ∧
        (f 9 1 % 2 = 1 →
          ∃ t d', exec (.spareAdd k) s = .next t ∧ Ended t k o Result.ok ∧ t.keep.array = some a ∧
            t.keep.spares.getLsbD (f 8 1) = false ∧ (t.port (f 8 1)).drive = some d' ∧
            (d.media.wf = true → ∀ x, d'.media.read x = if x < 8192 then 0 else d.media.read x))))

/-- FW_STAGE of a readable source, FW_ACTIVATE, FW_CONFIRM and TELEMETRY_SNAPSHOT that perform, have made no request yet
and find the mailbox free with nothing else to send after the first RESET_NOTICE, put an OP_REQUEST with their
opcode, the next SEQ and bytes 8-63 of their descriptor in the buffer, raise the Jiman's mailbox interrupt and stay
in the tracker; nothing else of the module changes. VAULT_DISCARD with an image waiting and no array recorded
appends DISCARDED to the image's area, sets IMAGE to NONE and DISCARDED; on a FAILED array with dirty data it
releases every extent; with neither it is refused with code 0x25. [04_operations R113, 14_management_plane R367, 14_management_plane R368, 14_management_plane R370, 12_protected_cache_and_vault R328, 12_protected_cache_and_vault Table 12.9, 16_firmware_and_settings R412] -/
def Obligations.OperationsOfTheTailstock : Prop :=
  (∀ (s s1 : State) (k : Fin 512) (o : Op) (i : Fin 4),
    let opcode := [0x58, 0x59, 0x5A, 0x60].getD i 0
    let command : Instr := [.fwStage k [], .fwActivate k, .fwConfirm k].getD i (.telemetrySnapshot k)
    Performs s k opcode s1 o → (opcode = 0x58 → Plain s .kernels (fld o.desc 16 8) (fld o.desc 28 4)) →
    s.mgmt.ops = [] → s.mgmt.toMg = none → s.mgmt.awaitNotice = false → s.faults.alerts = [] → s.mgmt.latchHp = none →
    s.mgmt.latchFfr = none → s.mgmt.doeOut = [] →
    ∃ t m, exec command s = .next t ∧ t.mgmt.toMg = some m ∧ fld m 0 1 = 1 ∧ fld m 1 1 = opcode ∧
      fld m 2 2 = (s.mgmt.seq + 1).toNat ∧ fld m 8 56 = fld o.desc 8 56 ∧ t.jiman.intPend = s.jiman.intPend ||| 2 ∧
      t.op k = some o ∧ t = { s1 with
        mgmt := { s.mgmt with toMg := some m, seq := s.mgmt.seq + 1
                              ops := [{ entry := k, seq := s.mgmt.seq + 1, sent := true, offset := 0 }] }
        jiman := { s.jiman with intPend := s.jiman.intPend ||| 2 } }) ∧
  (∀ (s s1 : State) (k : Fin 512) (o : Op), Performs s k 0x61 s1 o → EndsAlone s →
    ((s.cache.image = .awaiting ∨ s.cache.image = .stale) → s.keep.array = none → s.firmware.inUse.uuid = 0 →
      ∃ t, exec (.vaultDiscard k) s = .next t ∧ Ended t k o Result.ok ∧ t.cache.image = .none ∧ t.cache.discarded = true ∧
        (∃ r, t.cache.area s.cache.imageArea = s.cache.area s.cache.imageArea ++ [r] ∧ r.body = .discarded) ∧
        t.cache.area (!s.cache.imageArea) = s.cache.area (!s.cache.imageArea) ∧ t.cache.extents = s.cache.extents ∧
        t.queue.event.getLsbD 8 = true ∧ t.keep = s.keep ∧ t.dev = s.dev) ∧
    (∀ a, s.cache.image = .none → s.keep.array = some a → a.isDown = true → (∃ e ∈ s.cache.extents, e.live = true) →
      (∀ e ∈ s.cache.extents, e.live = true ∨ e.released = true) → (∀ e ∈ s.cache.extents, e.waiter = none) →
      ∃ t, exec (.vaultDiscard k) s = .next t ∧ Ended t k o Result.ok ∧ t.cache.extents = [] ∧
        t.cache.head = s.cache.tail ∧ t.cache.discarded = true ∧ t.keep = s.keep ∧ t.dev = s.dev) ∧
    (s.cache.image = .none → (s.keep.array = none ∨ ∀ e ∈ s.cache.extents, e.live = false) →
      ∃ t, exec (.vaultDiscard k) s = .next t ∧ Ended t k o (Result.refused 0x12 0x25) ∧ t.cache = s.cache ∧
        t.keep = s.keep ∧ t.dev = s.dev))

/-- With the link up, the module running, Memory Space Enable 1 and no request waiting: a BAR4 request whose bytes lie
in the BAR and in HBM for kernels, in lines that nothing holds or waits for, not poisoned or watched, is served at once. A read completes
with the bytes and changes nothing else; a write stores its bytes and no others, and one that is poisoned also marks
its lines and is reported; a read of no byte, as another module's flush read is, completes too; an aligned AtomicOp completes with the old value and stores FetchAdd's sum, Swap's value
or, where equal, CAS's new value. A request with a byte outside is refused: a read or AtomicOp completes as
Unsupported Request, a write is dropped, each is counted at 0x6101 and recorded in AER, and memory stays. A read of
a line that the host holds waits, with its back-invalidate sent. [02_host_link R39, 02_host_link R40, 02_host_link R41, 02_host_link R42, 02_host_link R43, 02_host_link R59, 02_host_link Table 2.4, 19_faults_and_long_runs R477] -/
def Obligations.Bar4RequestsAreServed : Prop :=
  ∀ (s : State) (offset n : Nat) (data : List Byte) (is64 : Bool) (op : AtomicOp), s.link.up = true → s.running = true →
    s.link.cfg.memEnable = true → s.link.homeQueue = [] → s.dev.wf = true → s.scale.delivered.length ≤ 1024 →
    let a := s.link.bar4Base.toNat * 2 ^ 30 + offset
    let inBar (n : Nat) : Prop := offset + n ≤ 2 ^ (s.link.cfg.bar4Enc + 20)
    let allowed (n : Nat) : Prop := inBar n ∧ (n = 0 ∨ s.inRegion a n .kernels = true)
    let said (m : HostMsg) : State := { s with link := { s.link with sent := s.link.sent ++ [m] } }
    let stored (t : State) (d : List Byte) : Prop :=
      t.dev.readN a d.length = d ∧ (∀ x, x < a ∨ a + d.length ≤ x → t.dev.read x = s.dev.read x) ∧ t.host = s.host ∧
        t.queue = s.queue ∧ t.turner = s.turner ∧ t.lattice = s.lattice
    let refused (t : State) : Prop :=
      t.dev = s.dev ∧ t.host = s.host ∧ t.queue = s.queue ∧ t.turner = s.turner ∧
        t.link.aer.uncorr = s.link.aer.uncorr ||| 0x100000 ∧
        t.faults = faultUnitEvent s.faults 0x6101 2 (BitVec.ofNat 64 a) false
    (inBar n → Plain s .kernels a n →
      exec (.bar4Read offset n []) s = .next (said (.completion (s.dev.readN a n) false))) ∧
    (¬allowed n →
      ∃ t, exec (.bar4Read offset n []) s = .next t ∧ refused t ∧ HostMsg.unsupported ∈ t.link.sent) ∧
    (inBar 64 → a % 64 = 0 → s.inRegion a 64 .kernels = true → s.link.dir.contains (a / 64) = true →
      s.link.biPending = [] → s.link.cfg.d3hot = false → s.link.recovery = false →
      exec (.bar4Read offset 64 []) s = .next { s with link := { s.link with
        biPending := [a / 64], sent := s.link.sent ++ [.biSnpInv (a / 64)], homeQueue := [.bar4Read a 64 []] } }) ∧
    (0 < data.length → inBar data.length → Plain s .kernels a data.length →
      (∃ t, exec (.bar4Write offset data false []) s = .next t ∧ stored t data ∧ t.link = s.link ∧ t.faults.poison = s.faults.poison) ∧
      ∃ t, exec (.bar4Write offset data true []) s = .next t ∧ stored t data ∧
        (∀ x, t.poisoned x = true ↔ s.poisoned x = true ∨ (a / 64 ≤ x / 64 ∧ x / 64 ≤ (a + data.length - 1) / 64)) ∧
        t.link.aer.uncorr = s.link.aer.uncorr ||| 0x1000) ∧
    (¬allowed data.length →
      ∃ t, exec (.bar4Write offset data false []) s = .next t ∧ refused t ∧ t.link.dropped = s.link.dropped + 1) ∧
    (let w := if is64 then 8 else 4
     let old := s.dev.readLE a w
     let new := match op with
       | .fetchAdd v => (old + v) % 256 ^ w
       | .swap v => v % 256 ^ w
       | .cas x v => if old = x % 256 ^ w then v % 256 ^ w else old
     (offset % w = 0 → inBar w → Plain s .kernels a w →
       ∃ t, exec (.atomicop true offset op is64 []) s = .next t ∧ stored t (natToBytes new w) ∧
         t.link = { s.link with sent := s.link.sent ++ [.completion (natToBytes old w) false] }) ∧
     (offset % w = 0 → ¬allowed w →
       ∃ t, exec (.atomicop true offset op is64 []) s = .next t ∧ refused t ∧ HostMsg.unsupported ∈ t.link.sent) ∧
     (offset % w = 0 →
       ∃ t, exec (.atomicop false offset op is64 []) s = .next t ∧ t.dev = s.dev ∧ HostMsg.unsupported ∈ t.link.sent))

/-- With the link up and the module running: CXL_MEM_READ of a line of the committed shared window that nothing waits
for gives its 64 bytes and, unless the line is watched, records it as held where its directory set has room;
CXL_MEM_WRITE stores the line, clears its poison, and the directory holds it only where the host keeps it.
BACK_INVALIDATE_RESPONSE to a pending back-invalidate frees the directory entry; BACK_INVALIDATE_TIMEOUT also
poisons the line and reports it. HOST_SNOOP answers a line modified in the Turner L2 with its data, which host
memory then holds, or with poison where the line holds it, and any other with none. HDM_DECODER_COMMIT commits with a window and back-invalidate enabled,
else records Commit Error. ATS_INVALIDATE_REQUEST drops the matching translations and answers,
at once where no host read that is out uses them, and else when they have returned; TRANSLATION_COMPLETION to a request
sent puts the translation first in the cache, or records the refusal for each that waits. [02_host_link R47, 02_host_link R48, 02_host_link R49, 02_host_link R55, 02_host_link R57, 02_host_link R58, 02_host_link R59, 02_host_link R60, 02_host_link R62, 10_scale_out R254, 19_faults_and_long_runs R479] -/
def Obligations.CoherenceAndTranslation : Prop :=
  ∀ (s : State) (line : Nat), s.link.up = true → s.running = true → s.link.homeQueue = [] → s.dev.wf = true →
    s.scale.delivered.length ≤ 1024 →
    let window : Prop := s.link.cxlMode = true ∧ s.link.hdmCommitted = true ∧ s.link.winSize ≠ 0 ∧
      s.link.winBase.toNat * 2 ^ 28 ≤ 64 * line ∧
      64 * line < s.link.winBase.toNat * 2 ^ 28 + s.link.winSize.toNat * 2 ^ 28
    let room : Prop := line ∈ s.link.dir ∨ (s.link.dir.filter fun l => l % 2 ^ 18 = line % 2 ^ 18).length < 16
    let held : List Nat := if line ∈ s.link.dir then s.link.dir else s.link.dir ++ [line]
    (window → line ∉ s.link.biPending → s.poisoned (64 * line) = false →
      (watchers s line = [] → room →
        exec (.cxlMemRead line []) s = .next { s with link := { s.link with
          dir := held, sent := s.link.sent ++ [.memData line (s.dev.readN (64 * line) 64) false] } }) ∧
      (watchers s line ≠ [] →
        exec (.cxlMemRead line []) s = .next { s with link := { s.link with
          sent := s.link.sent ++ [.memData line (s.dev.readN (64 * line) 64) false] } })) ∧
    (∀ (data : Vector Byte 64) (keep : Bool), window → watchers s line = [] → (keep = true → room) →
      ∃ t, exec (.cxlMemWrite line data keep) s = .next t ∧ t.dev.readN (64 * line) 64 = data.toList ∧
        (∀ x, x < 64 * line ∨ 64 * line + 64 ≤ x → t.dev.read x = s.dev.read x) ∧ t.poisoned (64 * line) = false ∧
        (∀ x, x / 64 ≠ line → t.poisoned x = s.poisoned x) ∧
        t.link = { s.link with dir := (if keep then held else s.link.dir.erase line),
                               sent := s.link.sent ++ [.memCmp line] } ∧ t.host = s.host ∧ t.queue = s.queue) ∧
    (line ∈ s.link.biPending →
      exec (.backInvalidateResponse line) s = .next { s with link := { s.link with
        dir := s.link.dir.erase line, biPending := s.link.biPending.erase line } } ∧
      ∃ t, exec (.backInvalidateTimeout line) s = .next t ∧ t.poisoned (64 * line) = true ∧
        t.link.dir = s.link.dir.erase line ∧ t.link.biPending = s.link.biPending.erase line ∧
        t.link.aer.uncorr = s.link.aer.uncorr ||| 0x400000 ∧ t.dev = s.dev ∧ t.queue = s.queue) ∧
    ((∀ p ∈ s.link.l2Host, p.1 ≠ line) →
      exec (.hostSnoop line false) s = .next { s with link := { s.link with
        sent := s.link.sent ++ [.snoopRsp line none false] } }) ∧
    (∀ d rest, s.link.l2Host = (line, d) :: rest →
      (line ∉ s.link.l2Poison →
        exec (.hostSnoop line false) s = .next { s with
          host := s.host.writeN (64 * line) d
          link := { s.link with l2Host := rest, sent := s.link.sent ++ [.snoopRsp line (some d) false] } }) ∧
      (line ∈ s.link.l2Poison →
        exec (.hostSnoop line false) s = .next { s with link := { s.link with
          l2Host := rest, l2Poison := s.link.l2Poison.erase line
          sent := s.link.sent ++ [.snoopRsp line (some d) true] } })) ∧
    (s.link.cxlMode = true →
      exec .hdmDecoderCommit s = .next (if s.link.winSize ≠ 0 ∧ s.link.cfg.biEnable = true then
        { s with link := { s.link with hdmCommitted := true, commitError := false } }
        else { s with link := { s.link with commitError := true } })) ∧
    (∀ (tag : Fin 32) (p : Option (BitVec 20)) (page count : Nat), s.link.cfg.atsEnable = true →
      s.link.invalidations = [] →
      let used : Prop := ∃ r ∈ hostReads s, r.1 = p ∧ page ≤ r.2 ∧ r.2 < page + count
      ∃ t, exec (.atsInvalidateRequest tag p page count) s = .next t ∧
        (∀ e, e ∈ t.link.atc ↔ e ∈ s.link.atc ∧ ¬(e.pasid = p ∧ page ≤ e.page ∧ e.page < page + count)) ∧
        (¬used → t = { s with link := { s.link with
          atc := t.link.atc, sent := s.link.sent ++ [.invalidateCompletion tag] } }) ∧
        (used → t = { s with link := { s.link with
          atc := t.link.atc, invalidations := [{ tag := tag, pasid := p, page := page, count := count }] } })) ∧
    (∀ (p : Option (BitVec 20)) (page : Nat) (result : Option (BitVec 34 × Bool × Bool)) (ask : XlatAsk),
      (s.link.xlatAsked.find? fun x => x.isFor p page) = some ask →
      let refused : List XlatRefusal := s.link.xlatRefused ++ ask.who.map fun w => { who := w, pasid := p, page := page }
      exec (.translationCompletion p page result) s = .next { s with link := { s.link with
        xlatAsked := s.link.xlatAsked.erase ask
        atc := match result with
          | some (x, r, w) => if r || w then
              ({ pasid := p, page := page, target := x.toNat, canRead := r, canWrite := w } :: s.link.atc).take 4096
            else s.link.atc
          | none => s.link.atc
        xlatRefused := match result with
          | some (_, r, w) => if r || w then s.link.xlatRefused else refused
          | none => refused } })

/-- With the link up and the module running: a CONFIGURATION_REQUEST before WARM gets Request Retry Status; later a read
gives the register as Table 2.1 has it, a write changes its one field, base addresses above their BAR's size, and 1
bits clear AER status. A margin step that the device offers is taken, or ends above the limit. RESIZABLE_BAR_WRITE takes
encodings 10 to 19. LINK_ERROR is counted at its location and recorded at its AER bit; a symbol error, and a lane in
error of a bad FLIT or a replay, is counted at its lane, and with 4,096 stamps kept within a second the lane is due.
LANE_RETIRE of a lane that is due, or failed lock in two trainings, takes it out of service, in the settings too, the
widest group without a retired lane is offered, and the link goes through Recovery. COMPLETION_TIMEOUT of a load's host
read gives it poison and 0xFF bytes, and so do UR and CA with their own AER bits.
HL_LANE_TEST_START in WARM puts the link into Loopback, LANE_TEST_END heals the lanes that passed, LOOPBACK_TIMEOUT
reports UNSUPPORTED. [02_host_link R34, 02_host_link R35, 02_host_link R36, 02_host_link R39, 02_host_link R40, 02_host_link Table 2.1, 02_host_link Table 2.4, 05_turner_core R129, 17_clocks_power_startup R441, 20_in_the_rack R487, 20_in_the_rack R488, 20_in_the_rack R489] -/
def Obligations.ConfigurationErrorsAndLanes : Prop :=
  (∀ (s : State), s.running = true → s.link.testBusy = true →
    exec .loopbackTimeout s = .next { s with link := { s.link with testBusy := false, testUnsupported := true } } ∧
    ∀ (locks : BitVec 16) (errors : Vector Nat 16),
      (∀ i : Fin 16, s.link.testLanes.getLsbD i = true → locks.getLsbD i = true ∧ errors[i] ≤ rateErrors s.link.best) →
      ∃ t, exec (.laneTestEnd locks errors) s = .next t ∧ t.link.testBusy = false ∧ t.link.tested = s.link.testLanes ∧
        t.link.passed = s.link.testLanes ∧
        (∀ i : Fin 16, t.link.lanes[i].retired = (s.link.lanes[i].retired && !s.link.testLanes.getLsbD i)) ∧
        t.firmware.inUse.lanes = s.firmware.inUse.lanes &&& ~~~s.link.testLanes ∧ t.faults = s.faults) ∧
  ∀ (s : State), s.link.up = true → s.running = true →
    let said (m : HostMsg) : State := { s with link := { s.link with sent := s.link.sent ++ [m] } }
    let cfg (c : Config) : State := { s with link := { s.link with cfg := c } }
    let c := s.link.cfg
    (∀ r, s.power.starting = true → exec (.configurationRequest r) s = .next (said .retry)) ∧
    (s.power.starting = false →
      exec (.configurationRequest (.read .id)) s =
        .next (said (.configData (if s.power.sku = .om1_384 then 0x0E011F7A else 0x0E021F7A))) ∧
      exec (.configurationRequest (.read .classRevision)) s =
        .next (said (.configData (0x12000000 ||| s.power.revision.setWidth 32))) ∧
      exec (.configurationRequest (.read .subsystem)) s = .next (said (.configData 0x00011F7A)) ∧
      exec (.configurationRequest (.read .serialLow)) s = .next (said (.configData (BitVec.ofNat 32 s.power.serial.toNat))) ∧
      exec (.configurationRequest (.read .aerCorrectable)) s = .next (said (.configData s.link.aer.corr)) ∧
      exec (.configurationRequest (.read .serialHigh)) s = .next (said (.configData (BitVec.ofNat 32 (s.power.serial.toNat / 2 ^ 32)))) ∧
      exec (.configurationRequest (.read .aerUncorrectable)) s = .next (said (.configData s.link.aer.uncorr)) ∧
      (∀ v, ∃ log, exec (.configurationRequest (.clearUncorrectable v)) s = .next { s with link := { s.link with
        aer := { s.link.aer with uncorr := s.link.aer.uncorr &&& ~~~v, log := log } } } ∧
        (s.link.aer.log = none → log = none) ∧
        ∀ x, s.link.aer.log = some x → log = if v.getLsbD x.1 then none else some x) ∧
      (∀ v, exec (.configurationRequest (.clearCorrectable v)) s = .next { s with link := { s.link with
        aer := { s.link.aer with corr := s.link.aer.corr &&& ~~~v } } }) ∧
      (s.link.pba = 0 → ∀ (v : BitVec 4) (b : W64),
        exec (.configurationRequest (.completionTimeout v)) s = .next (cfg { c with cplTimeout := v }) ∧
        (let above (n : Nat) : W64 := BitVec.ofNat 64 (b.toNat / 2 ^ n * 2 ^ n)
         exec (.configurationRequest (.bar0 b)) s = .next (cfg { c with bar0 := above 26 }) ∧
         exec (.configurationRequest (.bar2 b)) s = .next (cfg { c with bar2 := above 17 }) ∧
         exec (.configurationRequest (.bar4 b)) s = .next (cfg { c with bar4 := above (c.bar4Enc + 20) }))) ∧
      (s.link.pba = 0 → ∀ v : BitVec 3,
        exec (.configurationRequest (.maxPayload v)) s = .next (cfg { c with maxPayload := v }) ∧
        exec (.configurationRequest (.maxRead v)) s = .next (cfg { c with maxRead := v })) ∧
      (∀ (lane : Fin 16) (right : Bool) (steps errors : Nat), errors < 64 →
        let m := s.link.margins[lane]
        let status : MarginStatus := if steps < 1 ∨ 16 < steps then .refused else if m.limit < errors then .tooMany
          else .margining errors
        exec (.configurationRequest (.margin lane (.timing right steps errors))) s = .next { s with link := { s.link with
          margins := s.link.margins.set lane { m with status := status }
          sent := s.link.sent ++ [.margin lane status] } }) ∧
      (s.link.pba = 0 → ∀ v : Bool,
        exec (.configurationRequest (.memEnable v)) s = .next (cfg { c with memEnable := v }) ∧
        exec (.configurationRequest (.busMaster v)) s = .next (cfg { c with busMaster := v }) ∧
        exec (.configurationRequest (.pasidEnable v)) s = .next (cfg { c with pasidEnable := v }) ∧
        exec (.configurationRequest (.atsEnable v)) s = .next (cfg { c with atsEnable := v }) ∧
        exec (.configurationRequest (.relaxedOrdering v)) s = .next (cfg { c with relaxed := v }) ∧
        exec (.configurationRequest (.cxlCache v)) s = .next (cfg { c with cxlCache := v }) ∧
        exec (.configurationRequest (.backInvalidate v)) s = .next (cfg { c with biEnable := v }) ∧
        exec (.configurationRequest (.aspmL1 v)) s = .next (cfg { c with aspmL1 := v }) ∧
        exec (.configurationRequest (.msixEnable v)) s = .next (cfg { c with msixEnable := v }) ∧
        exec (.configurationRequest (.functionMask v)) s = .next (cfg { c with msixMask := v }))) ∧
    (∀ enc, exec (.resizableBarWrite enc) s =
      .next (if 10 ≤ enc ∧ enc ≤ 19 then cfg { c with bar4Enc := enc } else s)) ∧
    (∀ o d ecc, exec (.linkError (.poisonedBar4 o d ecc)) s = exec (.bar4Write o d true ecc) s) ∧
    (∀ i : Fin 2,
      ∃ t, exec (.linkError ([LinkErr.poisonedBar02, .unsupportedPosted].getD i .poisonedBar02)) s = .next t ∧
        t.link.dropped = s.link.dropped + 1 ∧ t.faults = faultUnitEvent s.faults 0x6101 2 0 false ∧
        t.link.aer.uncorr = s.link.aer.uncorr ||| BitVec.twoPow 32 ([12, 20].getD i 12) ∧ t.dev = s.dev ∧
        t.queue = s.queue) ∧
    (∃ t, exec (.linkError .unsupportedNonPosted) s = .next t ∧ HostMsg.unsupported ∈ t.link.sent ∧
      t.faults = faultUnitEvent s.faults 0x6101 2 0 false ∧ t.dev = s.dev ∧ t.queue = s.queue) ∧
    (∀ (i : Fin 6) (lanes : W16),
      let e := [LinkErr.badFlit lanes, .replay lanes, .replayTimeout lanes, .malformedTlp, .receiverOverflow, .flowControl].getD i
        (.badFlit lanes)
      let sev := [1, 1, 1, 2, 2, 2].getD i 1
      let bit := [6, 8, 12, 18, 17, 13].getD i 6
      ∃ t, exec (.linkError e) s = .next t ∧ t.faults = faultUnitEvent s.faults 0x6100 sev 0 false ∧
        t.link.aer.corr = (if sev = 1 then s.link.aer.corr ||| BitVec.twoPow 32 bit else s.link.aer.corr) ∧
        t.link.aer.uncorr = (if sev = 1 then s.link.aer.uncorr else s.link.aer.uncorr ||| BitVec.twoPow 32 bit) ∧
        (∀ j : Fin 16, if sev = 1 ∧ lanes.getLsbD j = true then
            s.link.lanes[j].errors.length < 4096 → t.link.lanes[j].errors = s.link.lanes[j].errors ++ [s.now]
          else t.link.lanes[j] = s.link.lanes[j]) ∧
        t.dev = s.dev ∧ t.queue = s.queue ∧ t.link.cfg = s.link.cfg) ∧
    (∀ lane : Fin 16,
      let x := s.link.lanes[lane]
      (∃ t, exec (.linkError (.symbol lane)) s = .next t ∧
        t.faults = faultUnitEvent s.faults (BitVec.ofNat 16 (0x6000 + lane)) 1 0 false ∧
        (x.errors.length = 4096 → s.now - x.errors.headD 0 ≤ 1200000000 →
          t.link.lanes[lane].due = true ∧ t.link.lanes[lane].errors = []) ∧
        (x.errors.length < 4096 → t.link.lanes[lane].due = x.due ∧ t.link.lanes[lane].errors = x.errors ++ [s.now]) ∧
        ∀ j : Fin 16, j ≠ lane → t.link.lanes[j] = s.link.lanes[j]) ∧
      (x.retired = false → x.due = true ∨ 2 ≤ x.lockFails →
        ∃ t, exec (.laneRetire lane) s = .next t ∧ t.link.lanes[lane].retired = true ∧
          (∀ j : Fin 16, j ≠ lane → t.link.lanes[j] = s.link.lanes[j]) ∧
          t.firmware.inUse.lanes = s.firmware.inUse.lanes ||| BitVec.twoPow 16 lane ∧
          t.link.width = (offeredWidth t.link).1 ∧ t.link.up = true ∧ t.link.recovery = true ∧ t.dev = s.dev) ∧
      (x.retired = false → x.due = false → x.lockFails < 2 → exec (.laneRetire lane) s = .next s)) ∧
    (∀ rd a kd p f rest, s.turner.accesses = .load rd a kd p f none :: rest → 0xC00000000000 ≤ a.toNat →
      let failed := MemAccess.load rd a kd p f (some { bytes := List.replicate kd.width 0xFF, poison := true })
      let fails (i : Instr) (bit : Nat) : Prop :=
        ∃ t, exec i s = .next t ∧ t.turner = { s.turner with accesses := failed :: rest } ∧
          t.link.aer.uncorr = s.link.aer.uncorr ||| BitVec.twoPow 32 bit ∧ t.dev = s.dev ∧ t.queue = s.queue
      fails (.completionTimeout (.load 0)) 14 ∧ fails (.linkError (.refusedRead (.load 0) true)) 15 ∧
        fails (.linkError (.refusedRead (.load 0) false)) 20) ∧
    (∀ m : BitVec 16, barReachable s = true → s.power.state = .warm → s.power.draining = false → m ≠ 0 →
      s.link.testBusy = false →
      exec (.hlLaneTestStart m) s = .next { s with link := { s.link with
        up := false, trained := 0, rate := 0, flit := false, inUse := 0, recovery := false, testBusy := true
        testUnsupported := false, testLanes := m } })

/-- FUNCTION_LEVEL_RESET of a module past start-up whose core is not halted leaves it in WARM with CCLK stopped and not
draining: no ring, operation, event, counter, relay, segment, kernel or Spindle command is left, the core, the
Lattice, the finishing path and the Spindle stand as at reset but for CORE_LOCKED and the halts, the Spindle state
store reads 0, configuration space stands as at reset but for BAR4's size, and the Keep, the firmware and the gauge
are unchanged. POWER_STATE_WRITE to D3hot only records it, and back to D0 does the same reset. LINK_LOSS does it
with the link down; PERST_N also trains the link anew, puts the settings image in force, and waits for training, and
with the compute domains powered and FCLK stopped it is kept until the relock. LINK_TRAINED with a rate, a lane group
and PERST_N released brings the link up at the smaller width, at 2.5 GT/s without a common clock, in CXL mode only with
FLITs, and ends a start in WARM; without them it is down. PERST_N_DEASSERTION releases PERST_N. [17_clocks_power_startup R435, 17_clocks_power_startup R436, 17_clocks_power_startup R441, 17_clocks_power_startup Table 17.4, 02_host_link R35, 02_host_link R38, 02_host_link R66, 03_descriptor_rings R101] -/
def Obligations.ResetsLeaveTheModuleInWarm : Prop :=
  (∀ s : State, s.link.up = true → s.running = true → s.power.starting = false → s.turner.mode ≠ .halted →
    let cleared (t : State) : Prop :=
      t.power.state = .warm ∧ t.power.draining = false ∧ t.clocks.cclkStopped = true ∧ t.queue = Reset.queue ∧
        t.turner = { Reset.turner with locked := s.turner.locked, halts := s.turner.halts } ∧ t.lattice = Reset.lattice ∧
        t.finish = Reset.finish ∧ t.spindle = Reset.spindle ∧ t.scale = Reset.scale ∧ t.keep = s.keep ∧
        t.firmware = s.firmware ∧ t.gauge = s.gauge ∧ t.cache.area0 = s.cache.area0 ∧
        (∀ x, 0x800040000000 ≤ x → x < 0x800041000000 → t.dev.read x = 0) ∧ t.mgmt.ops = [] ∧ t.link.l2Host = []
    (s.cache.image ≠ .replaying →
      (∃ t, exec .functionLevelReset s = .next t ∧ cleared t ∧ t.link.up = true ∧
        t.link.cfg = { Reset.config with bar4Enc := s.link.cfg.bar4Enc } ∧ t.link.pba = 0 ∧ t.link.atc = []) ∧
      (s.link.cfg.d3hot = true →
        ∃ t, exec (.powerStateWrite false) s = .next t ∧ cleared t ∧ t.link.up = true ∧ t.link.cfg.d3hot = false) ∧
      (∃ t, exec .linkLoss s = .next t ∧ cleared t ∧ t.link.up = false ∧ t.link.trained = 0 ∧
        ∀ r ∈ t.link.homeQueue, ∃ w l, r = .device w l)) ∧
    exec (.powerStateWrite true) s = .next { s with link := { s.link with cfg := { s.link.cfg with d3hot := true } } } ∧
    (s.link.cfg.d3hot = false → exec (.powerStateWrite false) s = .next s)) ∧
  (∀ s : State, s.running = true → s.power.hbmFailed = false → s.power.starting = false → s.turner.mode ≠ .halted →
    ∃ t, exec .perstN s = .next t ∧ t.power.state = .warm ∧ t.power.starting = true ∧ t.link.up = false ∧
      t.link.perst = true ∧ t.queue = Reset.queue ∧
      t.turner = { Reset.turner with locked := s.turner.locked, halts := s.turner.halts } ∧ t.keep = s.keep ∧
      t.power.keepEnabled = s.firmware.image.keepEnabled ∧ t.link.cfg.bar4Enc = s.firmware.image.bar4Enc ∧
      t.link.bar4Base = (if s.firmware.image.keepEnabled then 0x10 else 0) ∧ t.link.aer = { corr := 0, uncorr := 0, log := none } ∧
      t.link.hdmCommitted = false ∧ t.link.dir = [] ∧
      ∀ i : Fin 16, t.link.lanes[i].retired = s.link.lanes[i].retired ∧ t.link.lanes[i].errors = []) ∧
  (∀ s : State, s.running = false → s.power.hbmFailed = false → s.power.compute = true → s.power.pwrLoss = false →
    exec .perstN s = .next { s with link := { s.link with perst := true, perstDue := true } }) ∧
  (∀ s : State, exec .perstNDeassertion s = .next { s with link := { s.link with perst := false } }) ∧
  (∀ (s : State) (x : LinkTrain), s.running = true → s.power.hbmFailed = false → s.link.perst = false →
    s.link.testBusy = false → s.firmware.imageTaken = true → s.link.pba = 0 → s.link.homeQueue = [] →
    let offer := offeredWidth { s.link with reversalOk := x.reversal }
    (x.rate ≠ 0 → 0 < min x.width offer.1 →
      ∃ t, exec (.linkTrained x) s = .next t ∧ t.link.up = true ∧
        t.link.rate = (if x.commonClock then x.rate else 1) ∧ t.link.flit = x.flit ∧ t.link.recovery = false ∧
        t.link.trained = min x.width offer.1 ∧ t.link.cxlMode = (x.cxl && x.flit) ∧
        t.power.state = (if s.power.starting then .warm else s.power.state) ∧ t.power.starting = false ∧
        t.queue = s.queue ∧ t.dev = s.dev ∧
        (∀ i : Fin 16, t.link.lanes[i].lockFails = if x.noLock.getLsbD i then s.link.lanes[i].lockFails + 1 else 0)) ∧
    (x.rate = 0 ∨ min x.width offer.1 = 0 →
      ∃ t, exec (.linkTrained x) s = .next t ∧ t.link.up = false ∧ t.link.trained = 0 ∧
        (s.link.up = true → t.power.state = .warm) ∧
        (s.link.up = false → t.power = s.power ∧ t.queue = s.queue ∧ t.dev = s.dev ∧
          t.faults = faultUnitEvent s.faults 0x6100 3 0 false)))

/-- For every instruction of Tables 6.3 and 6.4 in its 64-bit and W forms, and every state in which it commits: the next
state is the one in which rd holds the result of the tables with its poison bit clear and the pc is 4 further, after
its count of CCLK cycles in deterministic mode; nothing else changes. Shift amounts are rb[5:0], in the W form
rb[4:0]; W results are sign-extended; a quotient by zero is all ones and a remainder by zero the dividend; the most
negative dividend by -1 gives itself and remainder 0; CLZ and CTZ count 0 to 64. While eight loads are
outstanding a multiply or divide would take the ninth reservation, and waits. [R162, R163, 06_turner_instruction_set Table 6.3, 06_turner_instruction_set Table 6.4] -/
def Obligations.TurnerIntegerGroupsWriteTheirResult : Prop :=
  ∀ (s s1 : State) (rd ra rb : BitVec 5),
    let a := s1.turner.gr ra.toNat
    let b := s1.turner.gr rb.toNat
    let a32 : W32 := a.setWidth 32
    let b32 : W32 := b.setWidth 32
    let gives (i : Instr) (n : Nat) (v : W64) : Prop :=
      exec i s = .next (elapse s1 n (wroteReg s1 rd.toNat v (s1.turner.pc + 4)))
    let truth (c : Bool) : W64 := if c then 1 else 0
    (Commits s s1 [ra.toNat, rb.toNat] (some rd.toNat) →
      gives (.add rd ra rb false) 1 (a + b) ∧
      gives (.add rd ra rb true) 1 ((a32 + b32).signExtend 64) ∧
      gives (.sub rd ra rb false) 1 (a - b) ∧
      gives (.sub rd ra rb true) 1 ((a32 - b32).signExtend 64) ∧
      gives (.and rd ra rb) 1 (a &&& b) ∧
      gives (.or rd ra rb) 1 (a ||| b) ∧
      gives (.xor rd ra rb) 1 (a ^^^ b) ∧
      gives (.andn rd ra rb) 1 (a &&& ~~~b) ∧
      gives (.sll rd ra rb false) 1 (a <<< (b.toNat % 64)) ∧
      gives (.sll rd ra rb true) 1 ((a32 <<< (b.toNat % 32)).signExtend 64) ∧
      gives (.srl rd ra rb false) 1 (a >>> (b.toNat % 64)) ∧
      gives (.srl rd ra rb true) 1 ((a32 >>> (b.toNat % 32)).signExtend 64) ∧
      gives (.sra rd ra rb false) 1 (a.sshiftRight (b.toNat % 64)) ∧
      gives (.sra rd ra rb true) 1 ((a32.sshiftRight (b.toNat % 32)).signExtend 64) ∧
      gives (.ror rd ra rb false) 1 (a.rotateRight (b.toNat % 64)) ∧
      gives (.ror rd ra rb true) 1 ((a32.rotateRight (b.toNat % 32)).signExtend 64) ∧
      gives (.slt rd ra rb) 1 (truth (decide (a.toInt < b.toInt))) ∧
      gives (.sltu rd ra rb) 1 (truth (decide (a.toNat < b.toNat))) ∧
      gives (.min rd ra rb) 1 (if a.toInt ≤ b.toInt then a else b) ∧
      gives (.max rd ra rb) 1 (if a.toInt ≤ b.toInt then b else a) ∧
      gives (.minu rd ra rb) 1 (if a.toNat ≤ b.toNat then a else b) ∧
      gives (.maxu rd ra rb) 1 (if a.toNat ≤ b.toNat then b else a)) ∧
    (Commits s s1 [ra.toNat, rb.toNat] (some rd.toNat) → 8 ≤ s1.turner.reservations →
      exec (.mulh rd ra rb) s = .next s1 ∧ exec (.mulhu rd ra rb) s = .next s1 ∧ ∀ w : Bool,
        exec (.mul rd ra rb w) s = .next s1 ∧ exec (.div rd ra rb w) s = .next s1 ∧ exec (.divu rd ra rb w) s = .next s1 ∧
        exec (.rem rd ra rb w) s = .next s1 ∧ exec (.remu rd ra rb w) s = .next s1) ∧
    (Commits s s1 [ra.toNat, rb.toNat] (some rd.toNat) → s1.turner.reservations < 8 →
      gives (.mul rd ra rb false) 3 (a * b) ∧
      gives (.mul rd ra rb true) 3 ((a32 * b32).signExtend 64) ∧
      gives (.mulh rd ra rb) 4 (BitVec.ofInt 64 (a.toInt * b.toInt / 2 ^ 64)) ∧
      gives (.mulhu rd ra rb) 4 (BitVec.ofNat 64 (a.toNat * b.toNat / 2 ^ 64)) ∧
      gives (.div rd ra rb false) 66
        (if b = 0 then BitVec.allOnes 64 else if a = BitVec.intMin 64 ∧ b.toInt = -1 then a
         else BitVec.ofInt 64 (a.toInt.tdiv b.toInt)) ∧
      gives (.div rd ra rb true) 34
        ((if b32 = 0 then BitVec.allOnes 32 else if a32 = BitVec.intMin 32 ∧ b32.toInt = -1 then a32
          else BitVec.ofInt 32 (a32.toInt.tdiv b32.toInt)).signExtend 64) ∧
      gives (.divu rd ra rb false) 66 (if b = 0 then BitVec.allOnes 64 else BitVec.ofNat 64 (a.toNat / b.toNat)) ∧
      gives (.divu rd ra rb true) 34
        ((if b32 = 0 then BitVec.allOnes 32 else BitVec.ofNat 32 (a32.toNat / b32.toNat)).signExtend 64) ∧
      gives (.rem rd ra rb false) 66
        (if b = 0 then a else if a = BitVec.intMin 64 ∧ b.toInt = -1 then 0
         else BitVec.ofInt 64 (a.toInt.tmod b.toInt)) ∧
      gives (.rem rd ra rb true) 34
        ((if b32 = 0 then a32 else if a32 = BitVec.intMin 32 ∧ b32.toInt = -1 then 0
          else BitVec.ofInt 32 (a32.toInt.tmod b32.toInt)).signExtend 64) ∧
      gives (.remu rd ra rb false) 66 (if b = 0 then a else BitVec.ofNat 64 (a.toNat % b.toNat)) ∧
      gives (.remu rd ra rb true) 34
        ((if b32 = 0 then a32 else BitVec.ofNat 32 (a32.toNat % b32.toNat)).signExtend 64)) ∧
    (Commits s s1 [ra.toNat] (some rd.toNat) →
      (∃ n ≤ 64, gives (.clz rd ra) 1 (BitVec.ofNat 64 n) ∧ (∀ i < n, a.getLsbD (63 - i) = false) ∧
        (n < 64 → a.getLsbD (63 - n) = true)) ∧
      (∃ n ≤ 64, gives (.ctz rd ra) 1 (BitVec.ofNat 64 n) ∧ (∀ i < n, a.getLsbD i = false) ∧
        (n < 64 → a.getLsbD n = true)) ∧
      gives (.popc rd ra) 1 (BitVec.ofNat 64 ((List.range 64).map fun i => (a.getLsbD i).toNat).sum))

/-- For every I-format integer instruction and every shift by an immediate, and every state in which it commits: rd
receives the value of R164 (ADDI, SLTI, SLTIU, MOVI and ADDPC sign-extend imm16, the others zero-extend it), its
poison bit clears, the pc is 4 further and nothing else changes. A W shift whose amount has bit 5 set raises
ILLEGAL_OPCODE at DE with eaddr the instruction word and epc its offset, whatever registers it names. [06_turner_instruction_set R159, 06_turner_instruction_set R162, 06_turner_instruction_set R164, 06_turner_instruction_set R177] -/
def Obligations.TurnerImmediatesWriteTheirResult : Prop :=
  (∀ (s s1 : State) (rd ra : BitVec 5) (imm : BitVec 16), Commits s s1 [ra.toNat] (some rd.toNat) →
    let a := s1.turner.gr ra.toNat
    let sext : W64 := imm.signExtend 64
    let zext : W64 := imm.setWidth 64
    let gives (i : Instr) (v : W64) : Prop :=
      exec i s = .next (elapse s1 1 (wroteReg s1 rd.toNat v (s1.turner.pc + 4)))
    gives (.addi rd ra imm) (a + sext) ∧ gives (.andi rd ra imm) (a &&& zext) ∧ gives (.ori rd ra imm) (a ||| zext) ∧
    gives (.xori rd ra imm) (a ^^^ zext) ∧
    gives (.slti rd ra imm) (if a.toInt < sext.toInt then 1 else 0) ∧
    gives (.sltiu rd ra imm) (if a.toNat < sext.toNat then 1 else 0) ∧
    gives (.sloi rd ra imm) ((a <<< 16) ||| zext)) ∧
  (∀ (s s1 : State) (rd : BitVec 5) (imm : BitVec 16), Commits s s1 [] (some rd.toNat) →
    let sext : W64 := imm.signExtend 64
    let gives (i : Instr) (v : W64) : Prop :=
      exec i s = .next (elapse s1 1 (wroteReg s1 rd.toNat v (s1.turner.pc + 4)))
    gives (.movi rd imm) sext ∧ gives (.addpc rd imm) (s1.turner.pc + sext)) ∧
  (∀ (s s1 : State) (rd ra : BitVec 5) (n : BitVec 6), Commits s s1 [ra.toNat] (some rd.toNat) →
    let a := s1.turner.gr ra.toNat
    let a32 : W32 := a.setWidth 32
    let gives (i : Instr) (v : W64) : Prop :=
      exec i s = .next (elapse s1 1 (wroteReg s1 rd.toNat v (s1.turner.pc + 4)))
    gives (.slli rd ra n false) (a <<< n.toNat) ∧ gives (.srli rd ra n false) (a >>> n.toNat) ∧
    gives (.srai rd ra n false) (a.sshiftRight n.toNat) ∧ gives (.rori rd ra n false) (a.rotateRight n.toNat) ∧
    (n.toNat < 32 →
      gives (.slli rd ra n true) ((a32 <<< n.toNat).signExtend 64) ∧
      gives (.srli rd ra n true) ((a32 >>> n.toNat).signExtend 64) ∧
      gives (.srai rd ra n true) ((a32.sshiftRight n.toNat).signExtend 64) ∧
      gives (.rori rd ra n true) ((a32.rotateRight n.toNat).signExtend 64))) ∧
  (∀ (s s1 : State) (rd ra : BitVec 5) (n : BitVec 6), Issues s s1 → 32 ≤ n.toNat →
    let word (kind : Nat) : W64 :=
      BitVec.ofNat 64 (0x0A * 2 ^ 26 + rd.toNat * 2 ^ 21 + ra.toNat * 2 ^ 16 + 256 + kind * 64 + n.toNat)
    let raises (i : Instr) (kind : Nat) : Prop :=
      exec i s = .next (takeException s1 { cause := 1, addr := word kind } s1.turner.pc)
    raises (.slli rd ra n true) 0 ∧ raises (.srli rd ra n true) 1 ∧ raises (.srai rd ra n true) 2 ∧
    raises (.rori rd ra n true) 3)

/-- For every load of R165, through any slot of the current bank or at S with .K, that commits with no access
outstanding and whose checks of R141 give a device address in HBM, the operand store or the Spindle state store, on
a line that nothing holds or waits for, that is not poisoned and reports no error: a load that completes in order
(deterministic mode, or cached and not late) writes rd with the little-endian bytes at the address, sign- or
zero-extended as its mnemonic says, and the pc is 4 further; one that completes out of order reserves rd, and
LOAD_COMPLETION at its place then writes rd with its data, with the poison bit of the data, and frees the place. A
load through the Rescue stack reads the core-private bytes. [06_turner_instruction_set R165, 05_turner_core R128, 05_turner_core R129, 05_turner_core R141, 05_turner_core R150] -/
def Obligations.TurnerLoadsWriteTheBytesOfMemory : Prop :=
  (∀ (s s1 : State) (rd ra : BitVec 5) (seg : BitVec 3) (k : Bool) (disp : BitVec 12) (late : Bool) (a : Nat),
    Commits s s1 [ra.toNat] (some rd.toNat) → (k = true → s1.turner.cstat.priv = true) → s1.turner.accesses = [] →
    LineFree s1 (a / 64) → s1.poisoned a = false →
    let placed (w : Nat) : Prop :=
      dataPlace s1 k seg.toNat .read (s1.turner.gr ra.toNat + disp.signExtend 64) w 1 = .ok (.dev a) ∧
      (s1.inRegion a w .kernels = true ∨ s1.inRegion a w .operand = true ∨ s1.inRegion a w .spindle = true)
    let inOrder : Bool := s1.turner.cstat.det || (!late && isCached s1 a)
    let writes (i : Instr) (kind : LoadKind) (v : W64) : Prop :=
      exec i s = .next (elapse s1 8
        (if inOrder then wroteReg s1 rd.toNat v (s1.turner.pc + 4)
         else { s1 with turner := { s1.turner with
            accesses := [.load rd (BitVec.ofNat 48 a) kind s1.turner.pasid (isCached s1 a)
              (some { bytes := s1.dev.readN a kind.width, poison := false })]
            pc := s1.turner.pc + 4 } }))
    (placed 1 →
      writes (.ldB rd ra seg k disp late []) { width := 1, signed := true } ((s1.dev.read a).signExtend 64) ∧
      writes (.ldBu rd ra seg k disp late []) { width := 1, signed := false } ((s1.dev.read a).setWidth 64)) ∧
    (placed 2 →
      writes (.ldH rd ra seg k disp late []) { width := 2, signed := true }
        ((BitVec.ofNat 16 (s1.dev.readLE a 2)).signExtend 64) ∧
      writes (.ldHu rd ra seg k disp late []) { width := 2, signed := false } (BitVec.ofNat 64 (s1.dev.readLE a 2))) ∧
    (placed 4 →
      writes (.ldW rd ra seg k disp late []) { width := 4, signed := true }
        ((BitVec.ofNat 32 (s1.dev.readLE a 4)).signExtend 64) ∧
      writes (.ldWu rd ra seg k disp late []) { width := 4, signed := false } (BitVec.ofNat 64 (s1.dev.readLE a 4))) ∧
    (placed 8 →
      writes (.ldD rd ra seg k disp late []) { width := 8, signed := false } (BitVec.ofNat 64 (s1.dev.readLE a 8)))) ∧
  (∀ (s : State) (i : Nat) (ecc : List Ecc) (rd : BitVec 5) (a : DevAddr) (kind : LoadKind) (p : Option (BitVec 20))
      (c : Bool) (d : LoadData),
    cclkRuns s = true → s.turner.done = [] → s.turner.accesses.all (fun x => !x.isStore) = true →
    s.link.invalidations = [] → s.turner.accesses[i]? = some (.load rd a kind p c (some d)) →
    exec (.loadCompletion i ecc) s = .next { s with turner := { s.turner with
      accesses := s.turner.accesses.eraseIdx i
      g := vset s.turner.g rd.toNat
        (if kind.signed then (BitVec.ofNat (8 * kind.width) (bytesToNat d.bytes)).signExtend 64
         else BitVec.ofNat 64 (bytesToNat d.bytes))
      gpoison := if d.poison then s.turner.gpoison &&& ~~~(BitVec.twoPow 32 rd.toNat) ||| BitVec.twoPow 32 rd.toNat
        else s.turner.gpoison &&& ~~~(BitVec.twoPow 32 rd.toNat)
      poisonAddr := if d.poison then vset s.turner.poisonAddr rd.toNat a else s.turner.poisonAddr } }) ∧
  (∀ (s s1 : State) (rd ra : BitVec 5) (seg : BitVec 3) (disp : BitVec 12) (late : Bool) (ecc : List Ecc) (o : Nat),
    Commits s s1 [ra.toNat] (some rd.toNat) →
    dataPlace s1 false seg.toNat .read (s1.turner.gr ra.toNat + disp.signExtend 64) 8 1 = .ok (.rescue o) →
    exec (.ldD rd ra seg false disp late ecc) s = .next (elapse s1 8
      (wroteReg s1 rd.toNat (BitVec.ofNat 64 (s1.turner.rescueStack.readLE o 8)) (s1.turner.pc + 4))))

/-- For every store of R165 that commits with no access outstanding: when the checks of R141 place its w bytes at a
device address in HBM, the operand store or the Spindle state store, on a line that nothing holds or waits for, with
room for its watched counters, then the w low bytes of rs stand at that address, little-endian, every other byte of
device memory, all host memory and all tiles are unchanged, the Turner changes only its pc (and the model's count of stores that have left), and
the line is poisoned if and only if it was, or rs carries poison and the line is no line of the Spindle's store; through the Rescue stack the same bytes are written there; a host
address reached uncached with ATS disabled receives them in host memory, and the write is sent to the host, poisoned where rs is. [06_turner_instruction_set R165, 06_turner_instruction_set R166, 05_turner_core R139, 05_turner_core R141, 05_turner_core R150] -/
def Obligations.TurnerStoresWriteTheirBytesOnly : Prop :=
  ∀ (s s1 : State) (rs ra : BitVec 5) (seg : BitVec 3) (k : Bool) (disp : BitVec 12),
    Commits s s1 [ra.toNat, rs.toNat] none → (k = true → s1.turner.cstat.priv = true) → s1.turner.accesses = [] →
    s1.dev.wf = true → s1.host.wf = true →
    let form (w : Nat) : Option Instr :=
      if w = 1 then some (.stB rs ra seg k disp) else if w = 2 then some (.stH rs ra seg k disp)
      else if w = 4 then some (.stW rs ra seg k disp) else if w = 8 then some (.stD rs ra seg k disp) else none
    let byte (j : Nat) : Byte := (s1.turner.gr rs.toNat).extractLsb' (8 * j) 8
    let place (w : Nat) := dataPlace s1 k seg.toNat .write (s1.turner.gr ra.toNat + disp.signExtend 64) w 2
    ∀ (w : Nat) (i : Instr), form w = some i →
      (∀ a, place w = .ok (.dev a) →
        (s1.inRegion a w .kernels = true ∨ s1.inRegion a w .operand = true ∨ s1.inRegion a w .spindle = true) →
        LineFree s1 (a / 64) → watchRoom s1 (a / 64) = true →
        ∃ t, exec i s = .next (elapse s1 2 t) ∧ (∀ j < w, t.dev.read (a + j) = byte j) ∧
          (∀ x, x < a ∨ a + w ≤ x → t.dev.read x = s1.dev.read x) ∧ t.host = s1.host ∧
          t.turner = { s1.turner with pc := s1.turner.pc + 4, storesLeft := s1.turner.storesLeft + 1 } ∧
          t.lattice = s1.lattice ∧ t.finish = s1.finish ∧
          t.poisoned a = (s1.poisoned a || (s1.turner.gpoison.getLsbD rs.toNat && !s1.inRegion a w .spindle))) ∧
      (∀ o, place w = .ok (.rescue o) →
        exec i s = .next (elapse s1 2 { s1 with turner := { s1.turner with
          rescueStack := s1.turner.rescueStack.writeN o (natToBytes (s1.turner.gr rs.toNat).toNat w)
          pc := s1.turner.pc + 4 } })) ∧
      (∀ a, place w = .ok (.dev a) → s1.inRegion a w .host = true → hostReachable s1 = true →
        s1.link.cfg.atsEnable = false → (s1.link.l2Host.any fun p => p.1 = (a - 0xC00000000000) / 64) = false →
        ∃ t, exec i s = .next (elapse s1 2 t) ∧ (∀ j < w, t.host.read (a - 0xC00000000000 + j) = byte j) ∧
          (∀ x, x < a - 0xC00000000000 ∨ a - 0xC00000000000 + w ≤ x → t.host.read x = s1.host.read x) ∧
          t.dev = s1.dev ∧
          t.turner = { s1.turner with pc := s1.turner.pc + 4, storesLeft := s1.turner.storesLeft + 1 } ∧
          (let p := if s1.link.cfg.pasidEnable then s1.turner.pasid else none
           let h := a - 0xC00000000000
           t.link.sent = s1.link.sent ++
             [if s1.turner.gpoison.getLsbD rs.toNat then .poisonedWrite p h w else .write p h w false]))

/-- For every compare-and-branch that commits, the next state differs from the state at its commit in the pc alone: pc
plus four times the sign-extended off16 when the condition of Table 6.5 holds between g[ra] and g[rb], or between
g[ra] and the sign-extended imm5, else pc + 4; in deterministic mode 8 CCLK cycles pass over a taken branch and 1
over one not taken. [R167, 06_turner_instruction_set Table 6.5] -/
def Obligations.TurnerBranchesCompareAndWriteNothing : Prop :=
  ∀ (s s1 : State) (ra rb imm : BitVec 5) (off : BitVec 16),
    let branch (i : Instr) (c : Bool) : Prop :=
      exec i s = .next (if c then elapse s1 8 (wentTo s1 (s1.turner.pc + (off.signExtend 64) * 4))
        else elapse s1 1 (wentTo s1 (s1.turner.pc + 4)))
    let a := s1.turner.gr ra.toNat
    (Commits s s1 [ra.toNat, rb.toNat] none →
      let b := s1.turner.gr rb.toNat
      branch (.cbEq ra rb off) (decide (a = b)) ∧ branch (.cbNe ra rb off) (decide (a ≠ b)) ∧
      branch (.cbLt ra rb off) (decide (a.toInt < b.toInt)) ∧ branch (.cbGe ra rb off) (decide (b.toInt ≤ a.toInt)) ∧
      branch (.cbLtu ra rb off) (decide (a.toNat < b.toNat)) ∧ branch (.cbGeu ra rb off) (decide (b.toNat ≤ a.toNat))) ∧
    (Commits s s1 [ra.toNat] none →
      let b : W64 := imm.signExtend 64
      branch (.cbiEq ra imm off) (decide (a = b)) ∧ branch (.cbiNe ra imm off) (decide (a ≠ b)) ∧
      branch (.cbiLt ra imm off) (decide (a.toInt < b.toInt)) ∧ branch (.cbiGe ra imm off) (decide (b.toInt ≤ a.toInt)))

/-- For every jump, call and return that commits: J goes to pc + 4 x off26 and JR to g[ra]; CALL and CALLR with room on
the shadow stack of the current level (1,024 entries at K, 256 at S) write pc + 4 to lk, push it and go to their
target, and on a full stack take SHADOW_OVERFLOW with epc their own offset and lk unchanged; RET with a top entry
equal to lk pops it and goes to lk, and otherwise takes RETURN_MISMATCH with sub-code 2 on an empty stack or 1 with
eaddr the top entry, popping nothing; RDLK copies lk to rd and WRLK copies g[ra] to lk. [R168, 05_turner_core R148] -/
def Obligations.TurnerCallsAndReturnsKeepTheShadowStack : Prop :=
  ∀ (s s1 : State) (ra rd : BitVec 5) (off : BitVec 26),
    let t := s1.turner
    let target := t.pc + (off.signExtend 64) * 4
    let depth := if t.cstat.priv then t.sssDepth else t.kssDepth
    let capacity := if t.cstat.priv then 256 else 1024
    let top : W64 := if t.cstat.priv then vget t.sss (depth - 1) 0 else vget t.kss (depth - 1) 0
    let pushed (dest : W64) : Turner :=
      if t.cstat.priv then
        { t with lk := t.pc + 4, sss := vset t.sss depth (t.pc + 4), sssDepth := depth + 1, pc := dest }
      else { t with lk := t.pc + 4, kss := vset t.kss depth (t.pc + 4), kssDepth := depth + 1, pc := dest }
    let popped : Turner :=
      if t.cstat.priv then { t with sssDepth := depth - 1, pc := t.lk } else { t with kssDepth := depth - 1, pc := t.lk }
    (Commits s s1 [] none →
      exec (.j off) s = .next (elapse s1 8 (wentTo s1 target)) ∧
      (depth ≠ capacity → exec (.call off) s = .next (elapse s1 8 { s1 with turner := pushed target })) ∧
      (depth = capacity → exec (.call off) s = .next (takeException s1 { cause := 7 } t.pc)) ∧
      (depth ≠ 0 → top = t.lk → exec .ret s = .next (elapse s1 8 { s1 with turner := popped })) ∧
      (depth = 0 → exec .ret s = .next (takeException s1 { cause := 6, sub := 2 } t.pc)) ∧
      (depth ≠ 0 → top ≠ t.lk → exec .ret s = .next (takeException s1 { cause := 6, sub := 1, addr := top } t.pc))) ∧
    (Commits s s1 [ra.toNat] none →
      exec (.jr ra) s = .next (elapse s1 8 (wentTo s1 (t.gr ra.toNat))) ∧
      (depth ≠ capacity → exec (.callr ra) s = .next (elapse s1 8 { s1 with turner := pushed (t.gr ra.toNat) })) ∧
      (depth = capacity → exec (.callr ra) s = .next (takeException s1 { cause := 7 } t.pc)) ∧
      exec (.wrlk ra) s = .next (elapse s1 1 { s1 with turner := { t with lk := t.gr ra.toNat, pc := t.pc + 4 } })) ∧
    (Commits s s1 [] (some rd.toNat) →
      exec (.rdlk rd) s = .next (elapse s1 1 (wroteReg s1 rd.toNat t.lk (t.pc + 4))))

/-- With no load outstanding: TRAP code and BREAK take cause 0x0B with sub-code = code and cause 0x0A, with epc the
offset after them; a word whose major opcode Table 6.2 does not list takes cause 0x01 with eaddr the word and epc
its own offset; INTERRUPT_ENTRY takes the pending interrupt with the lowest code, cause 0x10 + its bit, with epc the
next instruction. Entry halts the core while RESCUE = 1; while ENTRY = 1 it saves xcause, xpc, xstat and xaddr,
makes S-bank s7 the Rescue stack and continues at S with IE = 0 and RESCUE = 1 at offset 0x100; else it saves
ecause, epc, estat and eaddr and continues at S with IE = 0 and ENTRY = 1 at offset 0. The saved status is cstat; 9
CCLK cycles pass in deterministic mode. [05_turner_core R145, 05_turner_core R146, 05_turner_core R150, 05_turner_core R135, 06_turner_instruction_set R173, 06_turner_instruction_set R175, 06_turner_instruction_set R177, 06_turner_instruction_set Table 6.6] -/
def Obligations.TurnerTrapsAndInterruptsEnterTheHandler : Prop :=
  ∀ (s s1 : State),
    let takes (cause : Nat) (addr epc : W64) (sub : Nat) : State :=
      elapse s1 9 (entered s1 (BitVec.ofNat 64 (cause + 256 * sub)) addr s1.turner.cstat.word epc
        { cause := cause, sub := sub, addr := addr })
    s1.turner.loadsOut = false →
    (Issues s s1 →
      (∀ code, exec (.trap code) s = .next (takes 0x0B 0 (s1.turner.pc + 4) code.toNat)) ∧
      exec .tBreak s = .next (takes 0x0A 0 (s1.turner.pc + 4) 0) ∧
      (∀ word : W32, bitsOf word.toNat 26 6 ∈ [0x00, 0x0D, 0x0E, 0x0F, 0x17, 0x1C, 0x1D, 0x1E, 0x1F, 0x2A, 0x2B, 0x38, 0x39,
          0x3A, 0x3B, 0x3C, 0x3D, 0x3E, 0x3F] →
        exec (.illegalOpcode word) s = .next (takes 0x01 (word.setWidth 64) s1.turner.pc 0))) ∧
    (∀ i, coreRuns s = true → drainStores s = s1 → takeAsync s1 = none → pendingInterrupt s1.turner = some i →
      i < 4 ∧ s1.turner.ipend.getLsbD i = true ∧ (∀ j < i, s1.turner.ipend.getLsbD j = false) ∧
      (s1.turner.cstat.priv = false ∨ s1.turner.cstat.ie = true) ∧
      exec .interruptEntry s = .next (takes (0x10 + i) 0 s1.turner.pc 0))

/-- For every such instruction that commits: NOP, and SYNC with no access outstanding, only advance the pc; ISYNC puts
the S-bank slots and the PRIV and DET that MTS has written in force and advances the pc. At S, ERET continues at epc
with cstat from estat[4:0]; ERET.X continues at xpc with cstat from xstat[4:0] and, while RESCUE = 1, S-bank s7 as
it was before the Rescue handler; ERET.L with no KERNEL ready only advances the pc. At K the three forms of ERET
take PRIVILEGE, with epc their own offset. [06_turner_instruction_set R170, 06_turner_instruction_set R171, 06_turner_instruction_set R174, 05_turner_core R144, 05_turner_core R147, 05_turner_core R139, 05_turner_core R136] -/
def Obligations.TurnerReturnsRestoreTheStatus : Prop :=
  (∀ (s s1 : State), Commits s s1 [] none →
    let t := s1.turner
    exec .turnerNop s = .next (elapse s1 1 (wentTo s1 (t.pc + 4))) ∧
    (t.accesses = [] → exec .sync s = .next (elapse s1 3 (wentTo s1 (t.pc + 4)))) ∧
    (t.cstatNext = none →
      exec .isync s = .next (elapse s1 8 { s1 with turner := { t with sbank := t.sbankNext, pc := t.pc + 4 } })) ∧
    (∀ p d, t.cstatNext = some (p, d) →
      exec .isync s = .next (elapse s1 8 { s1 with turner := { t with
        sbank := t.sbankNext, cstat := { t.cstat with priv := p, det := d }, cstatNext := none, pc := t.pc + 4 } })) ∧
    (t.cstat.priv = true →
      exec .eret s = .next (elapse s1 8 { s1 with turner := { t with
        cstat := { priv := t.estat.getLsbD 0, ie := t.estat.getLsbD 1, det := t.estat.getLsbD 2, entry := t.estat.getLsbD 3
                   rescue := t.estat.getLsbD 4 }
        cstatNext := none, pc := t.epc } }) ∧
      exec .eretX s = .next (elapse s1 8 { s1 with turner := { t with
        cstat := { priv := t.xstat.getLsbD 0, ie := t.xstat.getLsbD 1, det := t.xstat.getLsbD 2, entry := t.xstat.getLsbD 3
                   rescue := t.xstat.getLsbD 4 }
        cstatNext := none, pc := t.xpc
        sbank := if t.cstat.rescue then vset t.sbank 7 t.savedS7 else t.sbank
        sbankNext := if t.cstat.rescue then vset t.sbankNext 7 t.savedS7 else t.sbankNext } }) ∧
      (s1.opList.all (fun q => !kernelReady s1 q.2) = true →
        exec .eretL s = .next (elapse s1 1 (wentTo s1 (t.pc + 4)))))) ∧
  (∀ (s s1 : State), Issues s s1 → s1.turner.cstat.priv = false →
    exec .eret s = .next (takeException s1 { cause := 8 } s1.turner.pc) ∧
    exec .eretX s = .next (takeException s1 { cause := 8 } s1.turner.pc) ∧
    exec .eretL s = .next (takeException s1 { cause := 8 } s1.turner.pc))

/-- For a committing ERET.L at S with no load outstanding, where the KERNEL of entry kid fills TC_LAUNCH: the K bank is
loaded from the segment table that its descriptor names, g1 to g5 receive its ARG0 to ARG4, g31 the size of slot s7,
every other register 0, with no poison and lk 0; the K shadow stack is empty; the core continues at K at ENTRY with
DET = MODE.DETERMINISTIC; the kernel is running and current, with its BUDGET, and its operation is started. S-bank
slots written by MTS come into force; memory, the tiles and the link are unchanged. [05_turner_core R153, 05_turner_core R149, 05_turner_core R133, 05_turner_core Table 5.9, 04_operations R112] -/
def Obligations.LaunchingAKernelSetsTheCore : Prop :=
  ∀ (s s1 : State) (kid : Nat) (o : Op), Commits s s1 [] none → s1.turner.cstat.priv = true → s1.turner.loadsOut = false →
    nextLaunch s1 = some (kid, o) → kid < 512 → s1.op kid = some o →
    ∃ t, exec .eretL s = .next (elapse s1 24 t) ∧
      t.turner.kbank = vget s1.turner.segTables (fld o.desc 16 2) (Vector.replicate 8 0) ∧
      t.turner.gr 0 = 0 ∧ (∀ j, j < 5 → t.turner.gr (j + 1) = BitVec.ofNat 64 (fld o.desc (24 + 8 * j) 8)) ∧
      (∀ j, 6 ≤ j → j < 31 → t.turner.gr j = 0) ∧
      t.turner.gr 31 = BitVec.ofNat 64 (segSize (vget t.turner.kbank 7 0)) ∧
      t.turner.gpoison = 0 ∧ t.turner.lk = 0 ∧ t.turner.kssDepth = 0 ∧ t.turner.pc = BitVec.ofNat 64 (fld o.desc 8 8) ∧
      t.turner.cstat = { s1.turner.isync.cstat with priv := false, det := decide (fld o.desc 18 1 % 2 = 1) } ∧
      t.turner.sbank = s1.turner.sbankNext ∧ t.turner.current = some kid ∧
      (∃ r ∈ t.turner.runningK, r.kid = kid ∧ r.budget = BitVec.ofNat 32 (fld o.desc 20 4) ∧ r.used = 0 ∧
        r.pasid = s1.opPasid o) ∧
      (∃ o', t.op kid = some o' ∧ o'.phase = .started ∧ o'.desc = o.desc) ∧
      t.dev = s1.dev ∧ t.host = s1.host ∧ t.lattice = s1.lattice ∧ t.link = s1.link

/-- For every core-local system register of Table 6.7: MFS at S writes rd with its value, zero-extended; at K the cycle
and timebase registers alone are read and every other number takes PRIVILEGE. MTS at S writes the register's low
bits: IE and ENTRY of cstat at once, PRIV and DET and the S-bank slots (their reserved bits as 0) for a later ISYNC,
ipend by writing 1 to clear, kss_depth only up to 1,024, kss_data the entry kss_sel; at K MTS takes PRIVILEGE. At S
an MFS of an unassigned number below 0x100, and an MTS of such a number or of a read-only register, takes
ILLEGAL_OPCODE with eaddr the instruction word. Nothing else changes but rd, its poison bit and the pc. [06_turner_instruction_set R172, 06_turner_instruction_set R173, 06_turner_instruction_set R174, 06_turner_instruction_set Table 6.7, 05_turner_core R144] -/
def Obligations.TurnerSystemRegistersReadAndWrite : Prop :=
  (∀ (s s1 : State) (rd : BitVec 5), Commits s s1 [] (some rd.toNat) →
    let t := s1.turner
    let reads (sel : BitVec 12) (v : W64) : Prop :=
      exec (.mfs rd sel) s = .next (elapse s1 3 (wroteReg s1 rd.toNat v (t.pc + 4)))
    reads 0x010 (BitVec.ofNat 64 (s1.clocks.cclk % 2 ^ 48)) ∧ reads 0x011 s1.clocks.timebase ∧
    (t.cstat.priv = true →
      reads 0x000 t.cstat.word ∧ reads 0x001 t.ecause ∧ reads 0x002 t.epc ∧ reads 0x003 t.estat ∧ reads 0x004 t.eaddr ∧
      reads 0x005 t.xcause ∧ reads 0x006 t.xpc ∧ reads 0x007 t.xstat ∧ reads 0x008 t.xaddr ∧ reads 0x012 t.timercmp ∧
      reads 0x013 (t.ipend.setWidth 64) ∧ reads 0x014 (t.gpoison.setWidth 64) ∧ reads 0x020 (BitVec.ofNat 64 t.kssDepth) ∧
      reads 0x021 (t.kssSel.setWidth 64) ∧ reads 0x022 (vget t.kss t.kssSel.toNat 0) ∧
      reads 0x023 (BitVec.ofNat 64 t.sssDepth) ∧
      (∀ n, n < 8 →
        reads (BitVec.ofNat 12 (0x40 + 2 * n)) ((vget t.sbank n 0).extractLsb' 0 64) ∧
        reads (BitVec.ofNat 12 (0x41 + 2 * n)) ((vget t.sbank n 0).extractLsb' 64 64) ∧
        reads (BitVec.ofNat 12 (0x50 + 2 * n)) ((vget t.kbank n 0).extractLsb' 0 64) ∧
        reads (BitVec.ofNat 12 (0x51 + 2 * n)) ((vget t.kbank n 0).extractLsb' 64 64)))) ∧
  (∀ (s s1 : State) (ra : BitVec 5), Commits s s1 [ra.toNat] none → s1.turner.cstat.priv = true →
    let t := s1.turner
    let v := t.gr ra.toNat
    let writes (sel : BitVec 12) (t' : Turner) : Prop :=
      exec (.mts sel ra) s = .next (elapse s1 3 { s1 with turner := { t' with pc := t.pc + 4 } })
    writes 0x000 { t with cstat := { t.cstat with ie := v.getLsbD 1, entry := v.getLsbD 3 }
                          cstatNext := some (v.getLsbD 0, v.getLsbD 2) } ∧
    writes 0x001 { t with ecause := v } ∧ writes 0x002 { t with epc := v } ∧ writes 0x003 { t with estat := v } ∧
    writes 0x004 { t with eaddr := v } ∧
    writes 0x012 { t with
      timercmp := v
      icond := if v ≠ 0 ∧ v.toNat ≤ s1.clocks.timebase.toNat then t.icond else t.icond &&& 7 } ∧
    writes 0x013 { t with ipend := t.ipend &&& ~~~(v.setWidth 4) } ∧ writes 0x014 { t with gpoison := v.setWidth 32 } ∧
    writes 0x020 (if v.toNat % 2 ^ 11 ≤ 1024 then { t with kssDepth := v.toNat % 2 ^ 11 } else t) ∧
    writes 0x021 { t with kssSel := v.setWidth 10 } ∧ writes 0x022 { t with kss := vset t.kss t.kssSel.toNat v } ∧
    (∀ n, n < 8 →
      writes (BitVec.ofNat 12 (0x40 + 2 * n)) { t with
        sbankNext := vset t.sbankNext n (((vget t.sbankNext n 0).extractLsb' 64 64 ++ v : Segment) &&& segMask) } ∧
      writes (BitVec.ofNat 12 (0x41 + 2 * n)) { t with
        sbankNext := vset t.sbankNext n ((v ++ (vget t.sbankNext n 0).extractLsb' 0 64 : Segment) &&& segMask) })) ∧
  (∀ (s s1 : State) (r : BitVec 5) (sel : BitVec 12), Issues s s1 →
    (s1.turner.cstat.priv = false → sel ≠ 0x010 → sel ≠ 0x011 →
      exec (.mfs r sel) s = .next (takeException s1 { cause := 8 } s1.turner.pc)) ∧
    (s1.turner.cstat.priv = false → exec (.mts sel r) s = .next (takeException s1 { cause := 8 } s1.turner.pc)) ∧
    (s1.turner.cstat.priv = true →
      sel.toNat < 0x100 → ¬(sel.toNat ≤ 0x08 ∨ (0x10 ≤ sel.toNat ∧ sel.toNat ≤ 0x14) ∨
        (0x20 ≤ sel.toNat ∧ sel.toNat ≤ 0x23) ∨ (0x40 ≤ sel.toNat ∧ sel.toNat ≤ 0x5F)) →
      exec (.mfs r sel) s = .next (takeException s1
        { cause := 1, addr := BitVec.ofNat 64 (0x2F * 2 ^ 26 + r.toNat * 2 ^ 21 + 6 * 4096 + sel.toNat) } s1.turner.pc)) ∧
    (s1.turner.cstat.priv = true →
      sel.toNat < 0x100 → ¬(sel.toNat ≤ 0x04 ∨ (0x12 ≤ sel.toNat ∧ sel.toNat ≤ 0x14) ∨
        (0x20 ≤ sel.toNat ∧ sel.toNat ≤ 0x22) ∨ (0x40 ≤ sel.toNat ∧ sel.toNat ≤ 0x4F)) →
      exec (.mts sel r) s = .next (takeException s1
        { cause := 1, addr := BitVec.ofNat 64 (0x2F * 2 ^ 26 + r.toNat * 2 ^ 16 + 7 * 4096 + sel.toNat) } s1.turner.pc)))

/-- BUDGET_EXCEEDED raises ipend bit 0 for the current kernel once, when its counter has passed a non-zero BUDGET;
TIMERCMP_REACHED raises bit 3 once when TIMEBASE has reached a non-zero timercmp. TC_RESUME by the runtime at S
makes a running kernel current and loads the K bank from its segment table. TC_KERNEL_DONE with SUCCESS or with
FAULT_KERNEL code 1 takes the current kernel off the running ones, and with no store outstanding and the tile unit
idle its operation ends with that result, PROGRESS the EPC word and INFO ecause and estat; any other status does
nothing. [05_turner_core R154, 05_turner_core R155, 06_turner_instruction_set R173, 21_setup_registers R507, 05_turner_core R516] -/
def Obligations.KernelEventsOfTheTurner : Prop :=
  (∀ (s : State) (r : Running), coreRuns s = true → s.turner.currentK = some r → r.budget ≠ 0 →
    r.budget.toNat < r.used / 1024 → r.overBudget = false →
    exec .budgetExceeded s = .next { s with turner := { s.turner with
      runningK := s.turner.runningK.map fun q => if q.kid = r.kid then { q with overBudget := true } else q
      ipend := s.turner.ipend ||| 1 } }) ∧
  (∀ (s : State), coreRuns s = true → s.turner.timercmp ≠ 0 → s.turner.timercmp.toNat ≤ s.clocks.timebase.toNat →
    exec .timercmpReached s = .next (if s.turner.icond.getLsbD 3 then s else
      { s with turner := { s.turner with ipend := s.turner.ipend ||| 8, icond := s.turner.icond ||| 8 } })) ∧
  (∀ (s : State) (v : BitVec 64) (r : Running), cclkRuns s = true → s.turner.mode = .running → s.turner.cstat.priv = true →
    s.turner.runningK.find? (fun q => q.kid = v.toNat % 1024) = some r → s.turner.current ≠ some r.kid →
    ∃ t, exec (.tcResume v) s = .next t ∧ t.turner.current = some r.kid ∧
      t.turner.kbank = vget s.turner.segTables r.segTable (Vector.replicate 8 0) ∧ t.turner.g = s.turner.g ∧
      t.turner.runningK = s.turner.runningK ∧ t.queue = s.queue ∧ t.dev = s.dev ∧ t.lattice = s.lattice) ∧
  (∀ (s : State) (v : BitVec 64) (r : Running) (o : Op), cclkRuns s = true → s.turner.mode = .running →
    s.turner.cstat.priv = true → s.turner.currentK = some r → r.kid < 512 → s.op r.kid = some o → o.flush = [] →
    s.turner.done = [] → s.turner.accesses = [] → s.lattice.queue = [] → s.lattice.restart = [] → s.lattice.flight = [] →
    s.lattice.fault = none →
    (v.toNat % 65536 = 0 →
      ∃ t, exec (.tcKernelDone v) s = .next t ∧ t.turner.current = none ∧ (∀ q ∈ t.turner.runningK, q.kid ≠ r.kid) ∧
        t.turner.g = s.turner.g ∧ t.turner.pc = s.turner.pc ∧ Ended t r.kid o Result.ok) ∧
    (v.toNat % 65536 = 0x0120 →
      ∃ t, exec (.tcKernelDone v) s = .next t ∧ t.turner.current = none ∧ (∀ q ∈ t.turner.runningK, q.kid ≠ r.kid) ∧
        Ended t r.kid o { status := 0x20, kind := 3, code := 1, location := 0, address := 0, progress := s.turner.doneEpc
                          info := BitVec.ofNat 64 (v.toNat / 65536 % 256) ||| (BitVec.ofNat 64 (v.toNat / 2 ^ 32) <<< 32) }) ∧
    (v.toNat % 256 ≠ 0 → v.toNat % 256 ≠ 0x20 → exec (.tcKernelDone v) s = .next s))

/-- ASYNC_STORE_FAILURE of the oldest unobserved store, with no load out, is taken as BUS_ERROR 0x04 with ASYNC, eaddr
the store's device address, estat the slot and bank it went through, and epc the next instruction, and the store is
dropped. BUDGET_GRACE_TIMEOUT halts the core: commit stops with xcause as the halt cause, no load stays out, the
tile unit is reset, no Spindle command stays in progress, DP_ALERT and CORE_HALT are raised. HALT_WRITEBACK_COMPLETE
with every store observed writes back the L2's host lines, ends the running kernel with FAULT_KERNEL code 0x02, and
counts the halt: the third within 600 seconds of the first kept one locks the core out, and a serving module enters
LOCKOUT; else the retained image is to be read again. [05_turner_core R130, 05_turner_core R151, 05_turner_core R155, 05_turner_core Table 5.7, 19_faults_and_long_runs R470] -/
def Obligations.HaltsOfTheTurner : Prop :=
  (∀ (s : State) (a : DevAddr) (d : List Byte) (p : Bool) (q : Option (BitVec 20)) (c sb f : Bool) (sl : BitVec 3)
      (rest : List MemAccess),
    coreRuns s = true → s.turner.accesses = .store a d p q c sl sb f :: rest → s.turner.loadsOut = false →
    let s1 : State := { s with turner := { s.turner with accesses := rest, storesLeft := s.turner.storesLeft + 1 } }
    exec .asyncStoreFailure s = .next (elapse s1 9 (entered s1 0x403 (a.setWidth 64)
      (s.turner.cstat.word ||| BitVec.ofNat 64 (sl.toNat * 256 + sb.toNat * 2048 + 2 * 4096 + 32768)) s.turner.pc
      { cause := 3, sub := 4, addr := a.setWidth 64, slot := sl.toNat, sBank := sb, access := 2, async := true }))) ∧
  (∀ (s : State), coreRuns s = true → (s.turner.runningK.any fun r => r.overBudget) = true →
    ∃ t, exec .budgetGraceTimeout s = .next t ∧ t.turner.mode = .halted ∧
      t.turner.lastHaltCause = s.turner.xcause.setWidth 8 ∧ t.turner.loadsOut = false ∧ t.turner.g = s.turner.g ∧
      t.turner.runningK = s.turner.runningK ∧ t.lattice = Reset.lattice ∧ t.spindle.running = [] ∧
      t.spindle.enable = false ∧ t.mgmt.dpAlert = true ∧ t.queue.event.getLsbD 2 = true ∧ t.host = s.host ∧
      t.queue.ops = s.queue.ops) ∧
  (∀ (s : State) (r : Running) (o : Op), cclkRuns s = true → s.turner.mode = .halted → s.turner.accesses = [] →
    s.turner.done = [] → s.turner.runningK = [r] → s.turner.current = some r.kid → r.kid < 512 → s.op r.kid = some o →
    o.flush = [] →
    let third : Prop := ∃ h1 h2 : W64, s.turner.halts = [h1, h2] ∧ s.now - h1.toNat ≤ 600 * 1200000000
    ∃ t, exec .haltWritebackComplete s = .next t ∧ t.turner.runningK = [] ∧ t.turner.current = none ∧
      t.link.l2Host = [] ∧ t.turner.retained = s.turner.retained ∧ t.turner.segTables = s.turner.segTables ∧
      Ended t r.kid o { status := 0x20, kind := 3, code := 2, location := 0x2004, address := 0, progress := r.lastEpc
                        info := r.lastCause.setWidth 64 ||| (r.lastEstat.setWidth 64 <<< 32) } ∧
      (third → t.turner.locked = true ∧ t.turner.mode = .stopped ∧
        ((s.power.state = .active ∨ s.power.state = .throttled) → t.power.state = .lockout)) ∧
      (¬third → t.turner.mode = .reloading ∧ t.turner.locked = s.turner.locked ∧ t.power.state = s.power.state))

/-- A KERNEL that the order rules let start is ready for the core when a runtime is loaded and the core is not locked
out: it stays admitted and, with the core running and no kernel running or ready before, KERNEL_READY rises; with no
runtime loaded or the core locked out it ends with REFUSED_NOT_READY 0x20. SEGMENT_SET, once no launched kernel uses
its table, writes the one slot of the one table that its descriptor names, with SIZE 0 where TYPE is INVALID, and
ends with SUCCESS. [04_operations R108, 04_operations R112, 05_turner_core R140, 05_turner_core R153, 06_turner_instruction_set R173, 04_operations Table 4.6] -/
def Obligations.KernelsAndSegmentsReachTheCore : Prop :=
  (∀ (s : State) (k : Fin 512) (o : Op), s.running = true → s.op k = some o → o.opcode = 0x08 → o.phase = .admitted →
    orderAllows s o = true →
    (s.turner.locked = false → s.turner.retained.isSome = true →
      ∃ t, exec (.kernel k) s = .next t ∧ OnlyQueue s t ∧ t.queue = s.queue ∧
        (s.turner.mode = .running → s.turner.runningK = [] → s.turner.icond.getLsbD 2 = false →
          t.turner.ipend.getLsbD 2 = true)) ∧
    (s.turner.locked = true ∨ s.turner.retained = none → o.flush = [] → EndsAlone s →
      ∃ t, exec (.kernel k) s = .next t ∧ Ended t k o (Result.refused 0x12 0x20) ∧ SameCore s t ∧ t.dev = s.dev)) ∧
  (∀ (s s1 : State) (k : Fin 512) (o : Op), Performs s k 0x44 s1 o → o.flush = [] → EndsAlone s →
    (s.opList.any fun q => decide (q.2.opcode = 0x08) && decide (q.2.phase = .started) &&
      decide (fld q.2.desc 16 2 = fld o.desc 8 2)) = false →
    let table := vget s.turner.segTables (fld o.desc 8 2) (Vector.replicate 8 0)
    let slot := mkSegment (fld o.desc 16 8) (if fld o.desc 11 1 = 0 then 0 else fld o.desc 24 8) (fld o.desc 11 1)
      (fld o.desc 12 1)
    let tables := vset s.turner.segTables (fld o.desc 8 2) (vset table (fld o.desc 10 1) slot)
    ∃ t, exec (.segmentSet k) s = .next t ∧ Ended t k o Result.ok ∧
      SameCore { s with turner := { s.turner with segTables := tables } } t ∧
      t.dev = s.dev ∧ t.lattice = s.lattice ∧ t.spindle = s.spindle)

/-- For an image of LENGTH >= 512 bytes in HBM or the operand store whose lines and whose body's lines are neither held
or waited for nor poisoned nor watched, whose body does not overlap it, with no Spindle command in progress and no
error met: RUNTIME_LOAD of an image whose header and signature pass copies the body to LOAD_BASE, records address,
length, digest and base, clears the lockout and the halts, ends with SUCCESS and leaves the core running at S at
offset 0x200 with the S bank of the header; a module in LOCKOUT serves again. RUNTIME_RELOAD of the retained image
after a halt, whose digest matches, copies the body again and starts it the same way. [16_firmware_and_settings R421, 16_firmware_and_settings R422, 16_firmware_and_settings R423, 05_turner_core R152, 01_one_thread_one_lattice R29] -/
def Obligations.RuntimeImagesStartTheCore : Prop :=
  ∀ (s s1 : State) (src base length : Nat),
    let clear (a n : Nat) : Prop := (s1.inRegion a n .kernels = true ∨ s1.inRegion a n .operand = true) ∧
      ∀ x, a ≤ x → x < a + n → LineFree s1 (x / 64) ∧ s1.poisoned x = false ∧ watchers s1 (x / 64) = []
    let image := s1.dev.readN src length
    let h := headerOf image
    let started (t : State) : Prop :=
      t.turner.mode = .running ∧ t.turner.pc = 0x200 ∧ t.turner.sbank = headerBank h ∧
      t.turner.cstat = { priv := true, ie := false, det := false, entry := false, rescue := false } ∧
      (∀ x < length - 512, t.dev.read (base + x) = s1.dev.read (src + 512 + x)) ∧
      (∀ x, x < base ∨ base + (length - 512) ≤ x → t.dev.read x = s1.dev.read x)
    512 ≤ length → clear src length → (length = 512 ∨ clear base (length - 512)) → hfld h 16 8 = base →
    (base + (length - 512) ≤ src ∨ src + length ≤ base) → s1.scale.delivered.length ≤ 1024 → s1.dev.wf = true →
    s1.spindle.running = [] → EndsAlone s1 →
    (∀ (k : Fin 512) (o : Op), Performs s k 0x48 s1 o → runtimeLoadReady s = true → o.flush = [] →
      fld o.desc 16 8 = src → fld o.desc 24 4 = length → runtimeHeaderOk s1 h length = true →
      signatureOk s1.firmware h (image.drop 512) = true →
      ∃ t, exec (.runtimeLoad k []) s = .next t ∧ started t ∧ Ended t k o Result.ok ∧ t.turner.locked = false ∧
        t.turner.halts = [] ∧
        t.turner.retained = some { addr := BitVec.ofNat 48 src, length := length, digest := Cfg.sha384 image
                                   loadBase := BitVec.ofNat 48 base } ∧
        t.power.state = (if s.power.state = .lockout then (if s.clocks.level = 0 then .active else .throttled)
          else s.power.state)) ∧
    (∀ (r : Retained), s = s1 → cclkRuns s = true → s.turner.mode = .reloading → s.turner.retained = some r →
      s.turner.cstat = { priv := true, ie := false, det := false, entry := false, rescue := false } →
      r.addr.toNat = src → r.length = length → r.loadBase.toNat = base → r.digest = Cfg.sha384 image →
      ∃ t, exec (.runtimeReload [] false) s = .next t ∧ started t ∧ t.turner.retained = some r ∧
        t.turner.halts = s.turner.halts)

/-- For every tile instruction of Table 7.5 that commits with its checks of R157 and R190 passed and fewer than 16
entries queued: one entry is appended to the tile queue, holding its word as Table 7.3 encodes it, the values of the
registers it names, the tile owner, the level, the slot it names and how many stores of the core came before it, with
progress 0; the pc is 4 further and nothing else changes. On a full queue it waits. A kernel that does not own the tiles takes TILE_FAULT sub-code 1
instead, and a format code or field that Table 7.3 does not allow takes ILLEGAL_OPCODE. TBAR, which a kernel
that does not own the tiles may not execute either, only advances the pc where no instruction is queued, incomplete or
held with its fault. [07_lattice R188, 07_lattice R190, 07_lattice R191, 07_lattice R193, 07_lattice Table 7.3, 05_turner_core R157, 06_turner_instruction_set R178] -/
def Obligations.TileInstructionsEnterTheQueue : Prop :=
  (∀ (s s1 : State) (a b c : BitVec 5) (ot seg sel index : BitVec 3) (fmt : BitVec 4) (at_ cp quad : BitVec 2) (acc v f : Bool)
      (n : BitVec 16),
    let g (r : BitVec 5) : W64 := s1.turner.gr r.toNat
    let entered_ (i : Instr) (word : Nat) (reads : List Nat) (x y z : W64) (slot : Nat) : Prop :=
      let e : TileInstr :=
        { word := BitVec.ofNat 32 word, ra := x, rb := y, rc := z, owner := s1.turner.tileOwner
          seg := s1.turner.slot (!s1.turner.cstat.priv) slot, priv := s1.turner.cstat.priv, progress := 0
          storesBefore := s1.turner.storesLeft + (s1.turner.accesses.filter (·.isStore)).length }
      Commits s s1 reads none → tileIllegal (BitVec.ofNat 32 word) = false →
        (16 ≤ s1.lattice.queue.length → exec i s = .next s1) ∧
        (s1.lattice.queue.length < 16 → tileExc s1 e = none →
          exec i s = .next (elapse s1 1 { s1 with
            lattice := pushTile s1.lattice e s1.clocks.cclk
            turner := { s1.turner with pc := s1.turner.pc + 4 } })) ∧
        (s1.lattice.queue.length < 16 → s1.turner.cstat.priv = false →
          s1.turner.current.getD 0x3FF ≠ s1.turner.tileOwner.toNat →
          exec i s = .next (takeException s1 { cause := 9, sub := 1, access := 3 } s1.turner.pc))
    let abc := a.toNat * 2 ^ 11 + b.toNat * 2 ^ 6 + c.toNat * 2
    entered_ (.tload ot seg fmt a b c) (0x30 * 2 ^ 26 + ot.toNat * 2 ^ 23 + seg.toNat * 2 ^ 20 + fmt.toNat * 2 ^ 16 + abc)
      [a.toNat, b.toNat, c.toNat] (g a) (g b) (g c) seg.toNat ∧
    entered_ (.tstore ot seg a b c) (0x31 * 2 ^ 26 + ot.toNat * 2 ^ 23 + seg.toNat * 2 ^ 20 + abc)
      [a.toNat, b.toNat, c.toNat] (g a) (g b) (g c) seg.toNat ∧
    entered_ (.tmma at_ ot cp quad acc v seg b c)
      (0x32 * 2 ^ 26 + at_.toNat * 2 ^ 24 + ot.toNat * 2 ^ 21 + cp.toNat * 2 ^ 19 + quad.toNat * 2 ^ 17 + acc.toNat * 2 ^ 16 +
        v.toNat * 2 ^ 15 + seg.toNat * 2 ^ 12 + b.toNat * 2 ^ 7 + c.toNat * 2 ^ 2)
      [b.toNat, c.toNat] 0 (g b) (g c) seg.toNat ∧
    (isMxFmt fmt.toNat = true →
      entered_ (.tloadc cp seg fmt a b c) (0x33 * 2 ^ 26 + cp.toNat * 2 ^ 24 + seg.toNat * 2 ^ 21 + fmt.toNat * 2 ^ 17 + abc)
        [a.toNat, b.toNat, c.toNat] (g a) (g b) (g c) seg.toNat) ∧
    (isMxFmt fmt.toNat = false →
      entered_ (.tloadc cp seg fmt a b c) (0x33 * 2 ^ 26 + cp.toNat * 2 ^ 24 + seg.toNat * 2 ^ 21 + fmt.toNat * 2 ^ 17 + abc)
        [a.toNat, b.toNat] (g a) (g b) 0 seg.toNat) ∧
    entered_ (.tdrain at_ false sel a b c) (0x34 * 2 ^ 26 + at_.toNat * 2 ^ 24 + sel.toNat * 2 ^ 20 + abc)
      [a.toNat, b.toNat, c.toNat] (g a) (g b) (g c) sel.toNat ∧
    entered_ (.tdrain at_ true sel a b c) (0x34 * 2 ^ 26 + at_.toNat * 2 ^ 24 + 2 ^ 23 + sel.toNat * 2 ^ 20 + abc)
      [b.toNat, c.toNat] 0 (g b) (g c) 0 ∧
    entered_ (.tsave acc index seg a)
      (0x35 * 2 ^ 26 + acc.toNat * 2 ^ 24 + index.toNat * 2 ^ 21 + seg.toNat * 2 ^ 18 + a.toNat * 2 ^ 9) [a.toNat]
      (g a) 0 0 seg.toNat ∧
    entered_ (.trest acc index seg fmt a)
      (0x35 * 2 ^ 26 + 2 ^ 25 + acc.toNat * 2 ^ 24 + index.toNat * 2 ^ 21 + seg.toNat * 2 ^ 18 + fmt.toNat * 2 ^ 14 +
        a.toNat * 2 ^ 9) [a.toNat] (g a) 0 0 seg.toNat ∧
    entered_ (.tzero at_ b) (0x37 * 2 ^ 26 + at_.toNat * 2 ^ 20 + b.toNat * 2 ^ 11) [b.toNat] 0 (g b) 0 0 ∧
    entered_ (.tfold f) (0x37 * 2 ^ 26 + 2 ^ 22 + f.toNat * 2 ^ 21) [] 0 0 0 0 ∧
    entered_ (.tdly n) (0x37 * 2 ^ 26 + 2 * 2 ^ 22 + n.toNat) [] 0 0 0 0) ∧
  (∀ (s s1 : State) (ot seg : BitVec 3) (a b c : BitVec 5) (fmt : BitVec 4), Issues s s1 → fmt = 0 ∨ 0xB ≤ fmt.toNat →
    let word := 0x30 * 2 ^ 26 + ot.toNat * 2 ^ 23 + seg.toNat * 2 ^ 20 + fmt.toNat * 2 ^ 16 + a.toNat * 2 ^ 11 +
      b.toNat * 2 ^ 6 + c.toNat * 2
    exec (.tload ot seg fmt a b c) s =
      .next (takeException s1 { cause := 1, addr := BitVec.ofNat 64 word } s1.turner.pc)) ∧
  (∀ (s s1 : State) (ports : BitVec 5), Commits s s1 [] none →
    (s1.turner.cstat.priv = true ∨ s1.turner.current.getD 0x3FF = s1.turner.tileOwner.toNat → s1.lattice.queue = [] →
      s1.lattice.restart = [] → s1.lattice.flight.all (·.complete) = true → s1.lattice.fault = none → s1.lattice.held = [] →
      s1.spindle.running = [] → s1.spindle.enable = false →
      exec (.tbar ports) s = .next (elapse s1 1 { s1 with turner := { s1.turner with pc := s1.turner.pc + 4 } })) ∧
    (s1.turner.cstat.priv = false → s1.turner.current.getD 0x3FF ≠ s1.turner.tileOwner.toNat →
      exec (.tbar ports) s = .next (takeException s1 { cause := 9, sub := 1, access := 3 } s1.turner.pc)))

/-- With CCLK running, no tile fault and the delay over, TILE_ISSUE takes the head of the queue, but not while a store to
the operand store that the core committed before it waits. TDLY n holds the next
issue back n CCLK cycles; TFOLD, with nothing in flight, sets the fold mode. TZERO with nothing in flight makes
every byte of its COUNT accumulator rows from FIRST on read 0 and no other byte of any tile change. TLOAD of a
format whose rows are 1 KiB, with nothing in flight, its port free and its memory readable and free of errors, puts
the bytes of each memory row into the tile's row and sets the tile's format. Both are then in flight with their
issue cycle, and the queue holds what was behind them. [07_lattice R192, 07_lattice R193, 07_lattice R197, 07_lattice R198, 07_lattice R189, 07_lattice Table 7.5, 07_lattice Table 7.3] -/
def Obligations.TilesIssueFromTheQueue : Prop :=
  ∀ (s : State) (i : TileInstr) (rest : List TileInstr), cclkRuns s = true → s.lattice.fault = none →
    s.lattice.restart = [] → s.lattice.queue = i :: rest → s.lattice.delayUntil ≤ s.clocks.cclk → s.lattice.flight = [] →
    s.spindle.running = [] →
    (storesPending s i = true → exec (.tileIssue [] []) s = .next s) ∧
    (i.kind = .delay → storesPending s i = false →
      exec (.tileIssue [] []) s = .next { s with lattice := { s.lattice with
        queue := rest, headSince := s.clocks.cclk, delayUntil := s.clocks.cclk + bitsOf i.word.toNat 0 16 } }) ∧
    (i.kind = .fold → storesPending s i = false →
      exec (.tileIssue [] []) s = .next { s with lattice := { s.lattice with
        queue := rest, headSince := s.clocks.cclk, fold := decide (bitsOf i.word.toNat 21 1 = 1), delayUntil := s.clocks.cclk + 1 } }) ∧
    (i.kind = .zero → storesPending s i = false → portFree s i = true → i.progress = 0 → s.lattice.tiles.wf = true →
      let lo := rowBase i.tile (i.control % 1024)
      let hi := lo + 4096 * bitsOf i.control 10 11
      ∃ t f, exec (.tileIssue [] []) s = .next t ∧ t.lattice.queue = rest ∧ t.lattice.flight = [f] ∧ f.instr = i ∧
        f.issued = s.clocks.cclk ∧ f.complete = false ∧ (∀ x, lo ≤ x → x < hi → t.lattice.tiles.read x = 0) ∧
        (∀ x, x < lo ∨ hi ≤ x → t.lattice.tiles.read x = s.lattice.tiles.read x) ∧
        t.lattice.fmts = s.lattice.fmts ∧ t.dev = s.dev ∧ t.host = s.host ∧ t.turner = s.turner) ∧
    (i.kind = .load → storesPending s i = false → i.progress = 0 → s.lattice.tiles.wf = true → i.rowBytes = 1024 →
      (∀ r < i.count, (s.inRegion (i.rowAddr r) 1024 .kernels = true ∨ s.inRegion (i.rowAddr r) 1024 .operand = true) ∧
        ∀ x < 1024, LineFree s ((i.rowAddr r + x) / 64) ∧ s.poisoned (i.rowAddr r + x) = false) →
      ∃ t f, exec (.tileIssue [] []) s = .next t ∧ t.lattice.queue = rest ∧ t.lattice.flight = [f] ∧ f.instr = i ∧
        f.issued = s.clocks.cclk ∧ f.stop = none ∧
        (∀ r < i.count, ∀ x < 1024,
          t.lattice.tiles.read (rowBase i.tile (i.first + r) + x) = s.dev.read (i.rowAddr r + x)) ∧
        (∀ x, x < rowBase i.tile i.first ∨ rowBase i.tile (i.first + i.count) ≤ x →
          t.lattice.tiles.read x = s.lattice.tiles.read x) ∧
        t.lattice.fmts = vset s.lattice.fmts (bitsOf i.word.toNat 23 3) (BitVec.ofNat 4 (bitsOf i.word.toNat 16 4)) ∧
        t.dev = s.dev ∧ t.host = s.host ∧ t.turner = s.turner)

/-- TILE_INSTRUCTION_COMPLETE of the only instruction in flight, without a stop, writes the rows of memory it has left
where every line is free at its home agent and none is watched, and leaves nothing in flight; every other byte of device
memory and every tile byte stay. TILE_ASYNC_FAULT at an instruction with a stop and no memory to write, while the core does not run, records
LT_TFAULT with its instruction, port, sub-code, address and progress for the next commit boundary; while it runs
with no access out, the TILE_FAULT is taken at once. By the runtime at S, RESUME restarts the faulting instruction
from its progress, but not for sub-codes 5 and 6, and DISCARD empties the queue; each makes the next held fault
current. With nothing in flight NF_PWL_COMMIT installs a valid staged table in its slot and clears ERR, else sets ERR. [07_lattice R191, 07_lattice R203, 07_lattice R205, 07_lattice Table 7.11, 08_numbers_and_finishing R227] -/
def Obligations.TileInstructionsEndOrFault : Prop :=
  (∀ (s : State) (f : InFlight), cclkRuns s = true → s.lattice.flight = [f] → f.complete = false → f.stop = none →
    s.dev.wf = true → s.scale.counters = [] → s.scale.delivered.length ≤ 1024 → s.faults.poison = [] →
    (∀ p ∈ f.mem.flatten, p.2 ≠ [] ∧
      (s.inRegion p.1 p.2.length .kernels = true ∨ s.inRegion p.1 p.2.length .operand = true) ∧
      ∀ x < p.2.length, LineFree s ((p.1 + x) / 64)) →
    f.mem.flatten.Pairwise (fun p q => Apart p.1 p.2.length q.1 q.2.length) →
    ∃ t, exec (.tileInstructionComplete 0) s = .next t ∧ t.lattice.flight = [] ∧ t.lattice.tiles = s.lattice.tiles ∧
      (∀ p ∈ f.mem.flatten, t.dev.readN p.1 p.2.length = p.2) ∧
      (∀ x, (∀ p ∈ f.mem.flatten, x < p.1 ∨ p.1 + p.2.length ≤ x) → t.dev.read x = s.dev.read x) ∧
      t.lattice.queue = s.lattice.queue ∧ t.host = s.host ∧ t.turner = s.turner ∧ t.lattice.fmts = s.lattice.fmts) ∧
  (∀ (s : State) (j : Nat) (f : InFlight) (p : TileStop), cclkRuns s = true → s.lattice.flight[j]? = some f →
    f.stop = some p → f.complete = false → f.mem = [] → f.instr.kind = .mma → s.lattice.fault = none →
    let record : TileFault :=
      { instr := f.instr, subcode := p.subcode, port := f.port, address := p.address, progress := p.progress }
    (s.turner.mode ≠ .running →
      ∃ t, exec (.tileAsyncFault j) s = .next t ∧ t.lattice.fault = some record ∧ t.lattice.faultPending = true ∧
        t.turner = s.turner ∧ t.dev = s.dev ∧ t.lattice.tiles = s.lattice.tiles) ∧
    (s.turner.mode = .running → s.turner.accesses = [] → s.turner.cstat.det = false → s.turner.cstat.entry = false →
      s.turner.cstat.rescue = false →
      ∃ t, exec (.tileAsyncFault j) s = .next t ∧ t.lattice.fault = some record ∧ t.lattice.faultPending = false ∧
        t.turner.ecause = BitVec.ofNat 64 (9 + 256 * p.subcode.toNat) ∧ t.turner.epc = s.turner.pc ∧ t.turner.pc = 0 ∧
        t.turner.eaddr = p.address.setWidth 64 ∧ t.turner.g = s.turner.g ∧ t.dev = s.dev)) ∧
  (∀ (s : State) (f : TileFault), cclkRuns s = true → s.turner.mode = .running → s.turner.cstat.priv = true →
    s.lattice.fault = some f →
    let next : Lattice :=
      { s.lattice with
        fault := s.lattice.held.head?, held := s.lattice.held.drop 1, faultPending := !s.lattice.held.isEmpty }
    (exec .resume s = .next (if f.subcode = 5 ∨ f.subcode = 6 then s else
      { s with lattice := { next with restart := s.lattice.restart ++ [{ f.instr with progress := f.progress }] } })) ∧
    exec .tileDiscard s = .next { s with lattice := { next with queue := [] } }) ∧
  (∀ (s : State) (v : W32), cclkRuns s = true → s.turner.mode = .running → s.turner.cstat.priv = true →
    s.lattice.flight = [] →
    exec (.nfPwlCommit v) s = .next (if pwlOk s.finish.stage then
      { s with finish := { s.finish with pwl := vset s.finish.pwl (v.toNat % 8) (some s.finish.stage), commitErr := false } }
      else { s with finish := { s.finish with commitErr := true } }))

/-- By the runtime at S: ENABLE := 1 takes effect only when SP_WINDOW lies in the operand store and the ring in the
window, ENABLE := 0 always; CONTINUE clears FAULTED; CLEAR, with no command in progress, sets HEAD to 0 and PHASE to
1 and clears FAULTED, and with one in progress does nothing; the entry at HEAD waits anew from the write that enables the
ring, continues it or clears it. While the core does not run at S none of them does
anything. [09_spindle R238, 09_spindle R242, 09_spindle Table 9.3, 21_setup_registers R502, 21_setup_registers R508] -/
def Obligations.SpindleControlWrites : Prop :=
  ∀ (s : State) (on : Bool),
    let mayWrite : Bool := cclkRuns s && decide (s.turner.mode = .running) && s.turner.cstat.priv
    (mayWrite = true →
      exec (.spindleEnable on) s = .next (if on = true ∧ ringInWindow s = false then s else
        { s with spindle := { s.spindle with
            enable := on
            headSince := if on = true ∧ s.spindle.enable = false then s.clocks.cclk else s.spindle.headSince } }) ∧
      exec .spContinue s =
        .next { s with spindle := { s.spindle with faulted := false, headSince := s.clocks.cclk } } ∧
      exec .spClear s = .next (if s.spindle.running = [] then
        { s with spindle := { s.spindle with head := 0, phase := true, faulted := false, headSince := s.clocks.cclk } }
        else s)) ∧
    (mayWrite = false →
      exec (.spindleEnable on) s = .next s ∧ exec .spContinue s = .next s ∧ exec .spClear s = .next s)

/-- An eligible entry at HEAD that may issue, in a readable line without poison: HEAD moves on, with PHASE flipped behind the ring's
last entry; a well-formed STEP within its bounds and planes, or a well-formed SCAN within its bounds, joins the
commands in progress with its cycle of issue; otherwise SP_STATUS records FAULTED with code 1 for a malformed entry,
2 for one out of bounds, 3 for a STEP in fold mode or with a plane outside FP8, and the entry's STATUS byte is
written. SPINDLE_COMMAND_COMPLETE with clean reads ends the oldest command: its STATUS byte becomes 0x80, and a STEP
that has read its streams writes the cell state and the output of every column of each stream it has not written
yet as R245 defines them. [09_spindle R239, 09_spindle R240, 09_spindle R241, 09_spindle R242, 09_spindle R245, 09_spindle R251, 09_spindle Table 9.4] -/
def Obligations.SpindleCommandsIssueAndEnd : Prop :=
  (∀ (s : State) (scan : Bool), cclkRuns s = true → eligible s = true →
    let e := ringEntry s s.spindle.head.toNat
    let at_ := s.spindle.base.toNat + 64 * s.spindle.head.toNat
    let command : Instr := if scan then .spScan else .spStep
    decide (fld e 0 1 = 2) = scan → mayIssue s e scan = true → s.poisoned at_ = false → s.dev.wf = true →
    at_ % 64 = 0 → s.inRegion at_ 64 .operand = true → LineFree s (at_ / 64) →
    let malformed := if scan then scanMalformed e else stepMalformed e
    let code : Nat := if malformed then 1 else if outOfBounds s.spindle e then 2
      else if !scan && stepUnfit s.lattice then 3 else 0
    ∃ t, exec command s = .next t ∧
      (t.spindle.head.toNat = if s.spindle.head.toNat + 1 = 2 ^ s.spindle.log2.toNat then 0
        else (s.spindle.head.toNat + 1) % 1024) ∧
      (t.spindle.phase = if s.spindle.head.toNat + 1 = 2 ^ s.spindle.log2.toNat then !s.spindle.phase else s.spindle.phase) ∧
      t.lattice = s.lattice ∧ t.turner = s.turner ∧ t.host = s.host ∧
      (code = 0 → t.dev = s.dev ∧ t.spindle.faulted = s.spindle.faulted ∧
        ∃ c, t.spindle.running = s.spindle.running ++ [c] ∧ c.entry = e ∧ c.issued = s.clocks.cclk ∧
          c.index = s.spindle.head.toNat) ∧
      (code ≠ 0 → t.spindle.running = s.spindle.running ∧ t.spindle.faulted = true ∧ t.spindle.code.toNat = code ∧
        t.spindle.faultIndex = s.spindle.head ∧ t.dev.read (at_ + 2) = BitVec.ofNat 8 (128 + code) ∧
        ∀ x, x ≠ at_ + 2 → t.dev.read x = s.dev.read x)) ∧
  (∀ (s : State) (c : SpCommand) (rest : List SpCommand), cclkRuns s = true → s.spindle.running = c :: rest →
    s.dev.wf = true → fld c.entry 0 1 = 1 → fld c.entry 6 2 ≤ 1024 → fld c.entry 4 2 + fld c.entry 6 2 ≤ 4096 →
    c.inputs.length = fld c.entry 6 2 → c.slots.length = fld c.entry 6 2 → s.link.homeQueue = [] →
    (∀ b < fld c.entry 6 2, c.done ≤ b → (readsClean s (spindleAgent []) c b).1 = true) →
    (let out := windowAddr s (fld c.entry 24 8)
     let n := 1024 * fld c.entry 6 2
     0x800000000000 ≤ out ∧ out + n ≤ 0x80000A000000 ∧ out % 64 = 0 ∧
      (s.spindle.base.toNat + 64 * c.index + 2 < out ∨ out + n ≤ s.spindle.base.toNat + 64 * c.index + 2) ∧
      s.spindle.base.toNat + 64 * c.index + 2 < 0x800040000000) →
    ∃ t, exec (.spindleCommandComplete [] []) s = .next t ∧ t.spindle.running = rest ∧
      t.spindle.faulted = s.spindle.faulted ∧ t.dev.read (s.spindle.base.toNat + 64 * c.index + 2) = 0x80 ∧
      (∀ b < fld c.entry 6 2, c.done ≤ b → ∀ n < 1024,
        let r := stepElem c b n (c.input s b) (c.slot s b)
        t.dev.readLE (streamBase (fld c.entry 4 2 + b) + 4 * n) 4 = r.1.toNat ∧
        t.dev.read (windowAddr s (fld c.entry 24 8) + 1024 * b + n) =
          BitVec.ofNat 8 ((layoutOf (fld c.entry 52 1)).encode .nearest true
            ((val32 r.2).mul (val32 (f32 c.entry 48))))) ∧
      t.lattice = s.lattice ∧ t.turner = s.turner ∧ t.host = s.host) ∧
  (∀ (s : State) (c : SpCommand) (rest : List SpCommand), cclkRuns s = true → s.spindle.running = c :: rest →
    fld c.entry 0 1 = 2 → (readsClean s (spindleAgent []) c 0).1 = true → s.dev.wf = true → s.link.homeQueue = [] →
    ∃ t, exec (.spindleCommandComplete [] []) s = .next t ∧ t.spindle.running = rest ∧
      t.spindle.faulted = s.spindle.faulted ∧ t.dev.read (s.spindle.base.toNat + 64 * c.index + 2) = 0x80 ∧
      t.lattice = s.lattice ∧ t.turner = s.turner ∧ t.host = s.host)

/-- On an assembled array that is not FAILED, with no image to restore: DESTAGE_STRIPE_START takes the lowest free lock
for the next stripe of the oldest extent, sets its region's bit and takes its data from the cache, or waits where
the stripe is locked; STRIPE_LOCK_GRANT gives a waiting write its lock in the same way. STRIPE_READS_COMPLETE with
no read left computes P and Q, journals them in the slot of the lock, in the cache's memory too, and issues the writes to
the members concerned. DRIVE_COMMAND_COMPLETION of an issued command takes it off the list, and in the writing phase puts
its bytes of P, Q or the new data on the member's drive; one that fails, or DRIVE_COMMAND_TIMEOUT, fails the member. STRIPE_WRITES_COMPLETE with
no write left frees lock and journal slot, and an extent all of whose stripes are then covered is released. [11_keep_array R270, 11_keep_array R274, 11_keep_array R279, 11_keep_array R289, 11_keep_array R291, 11_keep_array Table 11.1, 12_protected_cache_and_vault R308, 12_protected_cache_and_vault R314, 12_protected_cache_and_vault R315, 12_protected_cache_and_vault R316] -/
def Obligations.StripeWritesOfTheKeep : Prop :=
  ∀ (s : State) (a : KArray) (lock : Fin 256), s.running = true → s.power.keepEnabled = true → s.cache.image = .none →
    s.keep.array = some a → a.isDown = false → allReachable s a = true → s.faults.poison = [] →
    let carried (t : State) (w : StripeWrite) (st l : Nat) : Prop :=
      w.stripe = st ∧ w.lock = some l ∧ w.snap = snapSeq s.cache ∧ w.writing = false ∧ w.bad = [] ∧
      w.pieces = (stripeUnits s a st w.snap).map (fun u =>
        ({ chunk := u.1, off := u.2.1, data := s.dev.readN u.2.2.2 4096 } : StripePiece)) ∧
      w.method = stripeMethod a st w.pieces ∧ w.outs = readCommands s a st w.pieces w.method ∧
      (∃ b, t.keep.array = some b ∧ st / a.perRegion ∈ b.bitmap ∧ b.failed = a.failed) ∧ t.cache = s.cache ∧ t.dev = s.dev
    (∀ st, nextDestage s a = some st →
      (freeLock s = some lock.val → (∀ w ∈ s.keep.writes, w.stripe ≠ st) → stripeUnits s a st (snapSeq s.cache) ≠ [] →
        ∃ t w, exec (.destageStripeStart []) s = .next t ∧ t.keep.writes = s.keep.writes ++ [w] ∧ carried t w st lock) ∧
      (freeLock s ≠ none → (∃ w ∈ s.keep.writes, w.stripe = st) →
        ∃ t w, exec (.destageStripeStart []) s = .next t ∧ t.keep.writes = s.keep.writes ++ [w] ∧ w.stripe = st ∧
          w.lock = none ∧ t.keep.array = s.keep.array ∧ t.cache = s.cache ∧ t.dev = s.dev)) ∧
    (∀ w0 rest, s.keep.writes = w0 :: rest → w0.lock = none → (∀ w ∈ rest, w.lock = none) →
      stripeUnits s a w0.stripe (snapSeq s.cache) ≠ [] →
      ∃ t w, exec (.stripeLockGrant []) s = .next t ∧ t.keep.writes = w :: rest ∧ carried t w w0.stripe 0) ∧
    (∀ w pq, writeOf s lock.val = some w → w.writing = false → w.outs = [] → newParity s a w [] = some pq →
      ∃ t w', exec (.stripeReadsComplete ⟨lock, []⟩) s = .next t ∧ writeOf t lock.val = some w' ∧
        w' = { w with writing := true, p := pq.1, q := pq.2, outs := writeCommands s a w } ∧
        t.cache = { s.cache with journal := t.cache.journal } ∧
        t.cache.journal = s.cache.journal.set lock (some { stripe := w.stripe, snap := w.snap, p := pq.1, q := pq.2 }) ∧
        t.keep.array = s.keep.array ∧ t.keep.ports = s.keep.ports ∧
        t.dev = s.dev.writeN (journalAddr lock) (pq.1 ++ pq.2)) ∧
    (∀ w (m : Fin 8) q d c, writeOf s lock.val = some w → commandOf s a lock m = some c → m.val < a.n → a.n ≤ 8 →
      a.present m = true → vget a.ports m none = some q → q < 8 → (s.port q).drive = some d → (s.port q).lost = none →
      (∀ i < a.n, i ≠ m.val → a.present i = true → vget a.ports i none ≠ some q) →
      (w.writing = false →
        ∃ t w', exec (.driveCommandCompletion (.stripe lock) m false) s = .next t ∧ writeOf t lock.val = some w' ∧
          w' = { w with outs := w.outs.erase c } ∧ t.keep.ports = s.keep.ports ∧ t.keep.array = s.keep.array) ∧
      (w.writing = true → d.media.wf = true → a.memberAt w.stripe (a.positionOf w.stripe m) = m →
        ∃ t w' d', exec (.driveCommandCompletion (.stripe lock) m false) s = .next t ∧ writeOf t lock.val = some w' ∧
          w' = { w with outs := w.outs.erase c } ∧ (t.port q).drive = some d' ∧ t.keep.array = s.keep.array ∧
          (∀ j < 8, j ≠ q → t.port j = s.port j) ∧
          (let at_ := 2 ^ 24 + w.stripe * a.chunk + c.off
           (a.positionOf w.stripe m = a.k → c.off + c.len ≤ w.p.length →
              d'.media.readN at_ c.len = (w.p.drop c.off).take c.len) ∧
            (a.positionOf w.stripe m = a.k + 1 → c.off + c.len ≤ w.q.length →
              d'.media.readN at_ c.len = (w.q.drop c.off).take c.len) ∧
            (∀ p, w.pieces = [p] → a.positionOf w.stripe m = p.chunk → p.chunk < a.k → c.off = p.off →
              c.len = p.data.length → p.off + p.data.length ≤ a.chunk → d'.media.readN at_ c.len = p.data) ∧
            (∀ x, x < at_ → d'.media.read x = d.media.read x))) ∧
      (∃ t b, exec (.driveCommandTimeout (.stripe lock) m) s = .next t ∧ t.keep.array = some b ∧ b.isFailed m = true ∧
        ∀ i, i ≠ m.val → b.isFailed i = a.isFailed i) ∧
      (w.writing = true →
        ∃ t b, exec (.driveCommandCompletion (.stripe lock) m true) s = .next t ∧ t.keep.array = some b ∧ b.isFailed m = true)) ∧
    (∀ w, writeOf s lock.val = some w → w.writing = true → w.outs = [] → w.bad = [] →
      ∃ t b, exec (.stripeWritesComplete lock) s = .next t ∧ t.keep.writes = s.keep.writes.filter (fun x => x.lock ≠ some lock.val) ∧
        t.cache.journal[lock] = none ∧ t.keep.array = some b ∧
        (w.stripe / a.perRegion, s.clocks.timebase) ∈ b.regionWritten ∧ t.keep.ports = s.keep.ports ∧ t.dev = s.dev ∧
        (∀ e, s.cache.extents = [e] → e.live = true → e.admitSeq ≤ w.snap → e.waiter = none →
          (w.stripe ∈ a.stripesOf e → (∀ x ∈ a.stripesOf e, x = w.stripe ∨ x ∈ e.covered) →
            t.cache.extents = [] ∧ t.cache.head = s.cache.tail) ∧
          (w.stripe ∉ a.stripesOf e → t.cache.extents = [e])))

/-- DRIVE_LINK_DOWN of a member holds its drive as lost; DRIVE_LINK_RETURN of the same usable drive gives it back;
DRIVE_LINK_DOWN_TIMEOUT and DRIVE_CONTROLLER_FATAL fail the member. UNRECOVERED_READ_ERROR on a member whose range
the others decide, on a stripe that is not locked, rewrites that range from them and counts the error at the port. DRIVE_INSERTION at an empty port
puts the drive there, and one that was a member recorded as failed by the last superblock is re-added as a rebuild
of the set regions, or waits to be while a member's link is lost. DRIVE_REMOVAL of a drive that is no member empties the port and ends its being a spare.
KP_PORT_TEST_START and DRIVE_PORT_TEST_DAILY put an eligible port under test, and PORT_TEST_END records TESTED and
PASS, or locks out a port that fails. [11_keep_array R267, 11_keep_array R271, 11_keep_array R272, 11_keep_array R294, 11_keep_array R295, 11_keep_array R297, 11_keep_array R519, 11_keep_array Table 11.1, 20_in_the_rack R492, 20_in_the_rack R493, 20_in_the_rack Table 20.4] -/
def Obligations.DrivesAndTheirPorts : Prop :=
  ∀ (s : State) (q : Fin 8), s.running = true →
    let p := s.port q
    let port (x : DrivePort) : State := { s with keep := { s.keep with ports := s.keep.ports.set q x } }
    (∀ (a : KArray) (i : Nat) (d : Drive), s.keep.array = some a → a.present i = true → a.n ≤ 8 →
      vget a.ports i none = some q.val → (∀ j < a.n, j ≠ i → a.present j = true → vget a.ports j none ≠ some q.val) →
      (p.drive = some d → exec (.driveLinkDown q) s = .next (port { p with drive := none, lost := some d })) ∧
      (p.lost = some d → d.ident.usable = true →
        exec (.driveLinkReturn q none) s = .next (port { p with drive := some d, lost := none })) ∧
      (p.lost = some d →
        ∃ t b, exec (.driveLinkDownTimeout q) s = .next t ∧ (t.port q).lost = none ∧ t.keep.array = some b ∧
          b.isFailed i = true ∧ ∀ j, j ≠ i → b.isFailed j = a.isFailed j) ∧
      (∃ t b, exec (.driveControllerFatal q) s = .next t ∧ t.keep.array = some b ∧ b.isFailed i = true ∧
        (∀ j, j ≠ i → b.isFailed j = a.isFailed j) ∧ b.generation = a.generation + 1) ∧
      (∀ (st off len : Nat) (ds : List (List Byte)), allReachable s a = true → canLock s st = true → st < a.stripes →
        off + len ≤ a.chunk → p.drive = some d → d.media.wf = true → p.readErrors.length < 15 → a.positionOf st i < a.k →
        readStripe s a [i] st off len = some ds → (ds.getD (a.positionOf st i) []).length = len →
        ∃ t d', exec (.unrecoveredReadError q st off len []) s = .next t ∧ (t.port q).drive = some d' ∧
          d'.media.readN (2 ^ 24 + st * a.chunk + off) len = ds.getD (a.positionOf st i) [] ∧
          (∀ x, x < 2 ^ 24 + st * a.chunk + off ∨ 2 ^ 24 + st * a.chunk + off + len ≤ x →
            d'.media.read x = d.media.read x) ∧
          (t.port q).readErrors.length = p.readErrors.length + 1 ∧ t.keep.array = s.keep.array ∧
          t.faults = faultUnitEvent s.faults (BitVec.ofNat 16 (0x7000 + q)) 1 0 false ∧ t.dev = s.dev)) ∧
    (∀ (x : Drive), p.drive = none → p.lost = none → s.cache.image = .none →
      (s.keep.array = none → exec (.driveInsertion q x) s = .next (port { p with drive := some x })) ∧
      (∀ a i, s.keep.array = some a → s.power.keepEnabled = true → readdAs (port { p with drive := some x }) a q = some i →
        a.readds = [] → a.rebuild = none → a.k ≤ a.n - a.missing →
        ∃ t b, exec (.driveInsertion q x) s = .next t ∧ t.keep.array = some b ∧ b.slots = a.slots ∧
          (allReachable (port { p with drive := some x }) a = true → b.readds = [] ∧
            b.rebuild = some { member := i, port := q, progress := 0, regions := some a.bitmap }) ∧
          (allReachable (port { p with drive := some x }) a = false → b.readds = [(i, q.val)] ∧ b.rebuild = none))) ∧
    (∀ (x : Drive), p.drive = some x → memberOrTarget s q = false →
      ∃ t, exec (.driveRemoval q) s = .next t ∧ (t.port q).drive = none ∧ t.keep.spares.getLsbD q = false ∧
        (∀ j < 8, j ≠ q.val → t.port j = s.port j ∧ t.keep.spares.getLsbD j = s.keep.spares.getLsbD j) ∧ t.cache = s.cache ∧
        t.dev = s.dev) ∧
    (testable s q = true →
      (underTest s q = false → q.val ∉ s.keep.portTest.queue → 86400 * 1200000000 ≤ s.now - p.lastTest.toNat →
        ∃ t, exec (.drivePortTestDaily q) s = .next t ∧
          t.keep.portTest = (if portTestBusy s then { s.keep.portTest with queue := s.keep.portTest.queue ++ [q.val] }
            else { queue := [], running := some q.val }) ∧ t.keep.ports = s.keep.ports) ∧
      (barReachable s = true → portTestBusy s = false →
        ∃ t, exec (.kpPortTestStart (BitVec.twoPow 8 q)) s = .next t ∧
          t.keep.portTest = { queue := [], running := some q.val } ∧ t.keep.testPorts = BitVec.twoPow 8 q)) ∧
    (∀ (lock : Bool) (e0 e1 tenths : Nat), s.keep.portTest = { queue := [], running := some q.val } →
      let pass : Prop := lock = true ∧ e0 ≤ tenths / 10 ∧ e1 ≤ tenths / 10
      ∃ t, exec (.portTestEnd lock e0 e1 tenths) s = .next t ∧ t.keep.portTest = { queue := [], running := none } ∧
        (t.port q).lastTest = s.clocks.timebase ∧ t.keep.testTested = s.keep.testTested ||| BitVec.twoPow 8 q ∧
        (pass → t.keep.testPass = s.keep.testPass ||| BitVec.twoPow 8 q ∧ (t.port q).locked = p.locked ∧
          t.faults = s.faults) ∧
        (¬pass → t.keep.testPass.getLsbD q = false ∧ (t.port q).locked = true ∧
          t.faults = faultUnitEvent s.faults (BitVec.ofNat 16 (0x7000 + q)) 3 0 true))

/-- On an assembled array that is not FAILED, with no image and no stripe locked: REBUILD_AUTO_START begins the rebuild
of the lowest member failed for 30 seconds onto the lowest usable spare. REBUILD_STEP writes the target's data chunk
of the next stripe as the others decide it and advances the progress, and at the last stripe the member is present
again; it waits where it has to for destage. RESYNC_STEP rewrites P of the next stripe of the lowest region from its data and moves on. PATROL_SCRUB_STEP
of a stripe whose parity agrees moves on, and past the last stripe records KP_SCRUB_PASS; it waits while a rebuild, a
resync, a KEEP_SCRUB or destage goes before it. BITMAP_CLEAR_BATCH with
every member present clears the bits of regions that are neither to be resynced nor being written and were not
written for 5 seconds, at most once per second. [11_keep_array R279, 11_keep_array R296, 11_keep_array R298, 11_keep_array R299, 11_keep_array R300, 11_keep_array R302] -/
def Obligations.BackgroundWorkOfTheKeep : Prop :=
  ∀ (s : State) (a : KArray), s.running = true → s.power.keepEnabled = true → s.cache.image = .none →
    s.keep.array = some a → a.isDown = false → allReachable s a = true → s.keep.writes = [] → 3 ≤ a.n → a.n ≤ 8 → 1 ≤ a.p →
    a.p + 2 ≤ a.n →
    (∀ q i : Fin 8, (∀ j < q, s.keep.spares.getLsbD j = true → (s.port j).locked = true ∨ usableDrive s j = none) →
      s.keep.spares.getLsbD q = true → (s.port q).locked = false → usableDrive s q ≠ none → underTest s q = false →
      i.val < a.n → a.isFailed i = true → 30 * 1200000000 ≤ s.now - (a.failedAt[i]).toNat →
      (∀ j : Fin 8, j < i → a.isFailed j = true → s.now - (a.failedAt[j]).toNat < 30 * 1200000000) →
      a.rebuild = none → a.readds = [] →
      ∃ t b, exec .rebuildAutoStart s = .next t ∧ t.keep.array = some b ∧
        b.rebuild = some { member := i, port := q, progress := 0, regions := none } ∧
        t.keep.spares = s.keep.spares &&& ~~~(BitVec.twoPow 8 q) ∧ b.generation = a.generation + 1 ∧
        (∀ j, b.isFailed j = a.isFailed j) ∧ t.dev = s.dev) ∧
    (∀ (r : Rebuild) (d : Drive) (ds : List (List Byte)), a.rebuild = some r → r.regions = none → r.progress < a.stripes →
      r.member < a.n → a.present r.member = false → a.isFailed r.member = true → r.port < 8 →
      (s.port r.port).drive = some d → d.media.wf = true →
      (∀ i < a.n, a.present i = true → vget a.ports i none ≠ some r.port) →
      a.positionOf r.progress r.member < a.k → a.memberAt r.progress (a.positionOf r.progress r.member) = r.member →
      readStripe s a [r.member] r.progress 0 a.chunk = some ds →
      (ds.getD (a.positionOf r.progress r.member) []).length = a.chunk →
      rebuildWaits s = false →
      ∃ t d' b, exec (.rebuildStep ⟨[], false⟩) s = .next t ∧ (t.port r.port).drive = some d' ∧ t.keep.array = some b ∧
        d'.media.readN (2 ^ 24 + r.progress * a.chunk) a.chunk = ds.getD (a.positionOf r.progress r.member) [] ∧
        (r.progress + 1 < a.stripes → b.rebuild = some { r with progress := r.progress + 1 } ∧ b.failed = a.failed) ∧
        (r.progress + 1 = a.stripes → b.rebuild = none ∧ b.isFailed r.member = false ∧ b.generation = a.generation + 1) ∧
        t.cache = s.cache ∧ t.dev = s.dev) ∧
    (∀ r, a.rebuild = some r → a.readds = [] → rebuildWaits s = true → exec (.rebuildStep ⟨[], false⟩) s = .next s) ∧
    (∀ (g st q : Nat) (rs : List Nat) (d : Drive) (ds : List (List Byte)), a.resync = g :: rs → a.rebuild = none →
      stepWaitsForDestage s a = false →
      st = max a.resyncNext (g * a.perRegion) → g ∈ a.bitmap → a.resyncAll = false →
      readStripe s a [] st 0 a.chunk = some ds → (∀ x ∈ ds, x.length = a.chunk) →
      a.writePort (a.memberAt st a.k) = some q → q < 8 → (s.port q).drive = some d → d.media.wf = true → a.p = 1 →
      ∃ t d' b, exec (.resyncStep []) s = .next t ∧ (t.port q).drive = some d' ∧ t.keep.array = some b ∧
        d'.media.readN (2 ^ 24 + st * a.chunk) a.chunk = parityP a.chunk ds ∧
        (if (g + 1) * a.perRegion ≤ st + 1 ∨ a.stripes ≤ st + 1 then b.resync = rs ∧ b.resyncNext = 0
          else b.resync = g :: rs ∧ b.resyncNext = st + 1) ∧
        b.failed = a.failed ∧ t.cache = s.cache ∧ t.dev = s.dev) ∧
    (patrolWaits s a = true → exec (.patrolScrubStep []) s = .next s) ∧
    (patrolWaits s a = false → a.missing = 0 → s.keep.patrolNext < a.stripes →
      (∀ ds, readStripe s a [] s.keep.patrolNext 0 a.chunk = some ds →
        readPosition s a [] s.keep.patrolNext a.k 0 a.chunk = some (parityP a.chunk ds) ∧
        (a.p = 2 → readPosition s a [] s.keep.patrolNext (a.k + 1) 0 a.chunk = some (parityQ a.chunk ds))) →
      let last := decide (a.stripes ≤ s.keep.patrolNext + 1)
      exec (.patrolScrubStep []) s = .next { s with keep := { s.keep with
        patrolNext := if last then 0 else s.keep.patrolNext + 1
        scrubPass := if last then s.clocks.timebase else s.keep.scrubPass } }) ∧
    (a.missing = 0 → a.rebuild = none → 1200000000 ≤ s.now - s.keep.lastClear.toNat →
      let old (r : Nat) : Prop := r ∉ a.resync ∧ ∀ x ∈ a.regionWritten, x.1 = r → 5 * 1200000000 ≤ s.now - x.2.toNat
      (∃ r ∈ a.bitmap, old r) →
      ∃ t b, exec (.bitmapClearBatch) s = .next t ∧ t.keep.array = some b ∧ t.keep.lastClear = s.clocks.timebase ∧
        (∀ r, r ∈ b.bitmap ↔ r ∈ a.bitmap ∧ ¬old r) ∧ b.resync = a.resync ∧ t.cache = s.cache ∧ t.dev = s.dev) ∧
    (s.now - s.keep.lastClear.toNat < 1200000000 → exec (.bitmapClearBatch) s = .next s)

/-- In HOLDUP with compute shed and FCLK running, VAULT_DUMP_START appends to the armed area one JOURNAL record for each
occupied slot and one EXTENT record with its data for each unreleased extent, none while an image is REPLAYING,
leaves the other area, and drops the row queues. VAULT_SEAL appends the SEAL with both counts, GENERATION and the
chain over the records before it: the area is then PENDING, or DONE with nothing in it, if its records are valid,
and with input absent the module enters OFF in retention. VAULT_REPLAY of an image with only EXTENT records rebuilds
the log in order and keeps the Keep; of one with a single JOURNAL record rewrites its P, appends REPLAYED and ends
the image. HOLDUP_RAIL_LOW leaves the area without a SEAL, in OFF with retention, counts lost dirty data, and fills
the first-fault record.
It is concluded, under conditions on the state and the operands alone, that each of these commands answers a next
state: VAULT_DUMP_START, VAULT_SEAL, VAULT_REPLAY, HOLDUP_RAIL_LOW. [12_protected_cache_and_vault R318, 12_protected_cache_and_vault R321, 12_protected_cache_and_vault R322, 12_protected_cache_and_vault R323, 12_protected_cache_and_vault R324, 12_protected_cache_and_vault R327, 12_protected_cache_and_vault Table 12.6, 12_protected_cache_and_vault Table 12.8, 18_module_interface R459, 19_faults_and_long_runs R476] -/
def Obligations.TheVaultIsDumpedSealedAndReplayed : Prop :=
  (∀ (s : State) (area : Bool), s.power.state = .holdup → s.cache.armed = some area → s.clocks.pllLocked = true →
    let rs := s.cache.area area
    (s.power.pwrLoss = true → s.power.compute = false → s.power.holdup = true → areaClass rs = .unsealed →
      s.cache.dumping = false →
      let js := (List.finRange 256).filterMap fun i =>
        s.cache.journal[i].map fun x => VaultBody.journal x.stripe x.snap x.p x.q
      let es := (s.cache.extents.filter fun e => e.ready && !e.released && !e.void).map fun e =>
        VaultBody.extent e.arrayByte e.admitSeq e.slot e.half e.epoch
          ((List.range (e.length / 4096)).flatMap fun i => s.dev.readN (dataAddr (e.offset + 4096 * i)) 4096)
      let bodies := if s.cache.image = .replaying then [] else js ++ es
      ∃ t, exec .vaultDumpStart s = .next t ∧
        t.cache.area area = rs ++ bodies.map (mkRecord (areaSeq s.cache area)) ∧ t.cache.area (!area) = s.cache.area (!area) ∧
        t.cache.dumping = true ∧ t.cache.extents = s.cache.extents ∧ t.cache.journal = s.cache.journal ∧
        t.faults = { s.faults with rows := [], retireQueue := [] } ∧ t.power = s.power ∧ t.keep = s.keep ∧ t.dev = s.dev ∧
        t.mgmt = s.mgmt ∧ t.gauge = s.gauge) ∧
    (∀ eepromOk : Bool, s.cache.dumping = true → rs ≠ [] →
      let nj := (rs.filter fun r => r.body.type = 2).length
      let ne := (rs.filter fun r => r.body.type = 3).length
      let g := match s.keep.array with | some a => a.generation | none => 0
      let chain := crc32c (rs.flatMap fun r => natToBytes r.headerCrc.toNat 4)
      ∃ t, exec (.vaultSeal eepromOk) s = .next t ∧
        t.cache.area area = rs ++ [mkRecord (areaSeq s.cache area) (.seal nj ne g chain)] ∧
        t.cache.area (!area) = s.cache.area (!area) ∧ t.cache.dumping = false ∧ t.cache.extents = s.cache.extents ∧
        t.keep = s.keep ∧ t.dev = s.dev ∧ t.mgmt.crumbCount = s.mgmt.crumbCount + 1 ∧
        (validRecords rs = rs → areaClass (t.cache.area area) = (if nj = 0 ∧ ne = 0 then .done else .pending)) ∧
        (s.power.input = true → t.power = s.power ∧ t.clocks = s.clocks ∧ t.gauge = s.gauge) ∧
        (s.power.input = false →
          t.power = { s.power with state := .off, retention := true, holdup := false } ∧ t.clocks.pllLocked = false ∧
          (s.gauge.record = none → t.gauge = s.gauge)))) ∧
  (∀ (s : State) (a : KArray), s.keep.array = some a → s.running = true → s.cache.image = .replaying →
    s.cache.restored = false → a.isDown = false → allReachable s a = true →
    let rs := validRecords (s.cache.area s.cache.imageArea)
    let exts := rs.filterMap fun r => match r.body with
      | .extent ab sq sl h ep d => some (ab, sq, sl, h, ep, d)
      | _ => none
    let jnls := rs.filterMap fun r => match r.body with
      | .journal st sn p q => some (st, sn, p, q)
      | _ => none
    (jnls = [] → exts ≠ [] →
      ∃ t, exec .vaultReplay s = .next t ∧ t.cache.image = .replaying ∧ t.cache.restored = true ∧ t.keep = s.keep ∧
        t.cache.extents.map (fun e => (e.arrayByte, e.admitSeq, e.slot, e.half, e.epoch, e.length)) =
          exts.map (fun x => (x.1, x.2.1, x.2.2.1, x.2.2.2.1, x.2.2.2.2.1, x.2.2.2.2.2.length)) ∧
        (∀ e ∈ t.cache.extents, e.ready = true ∧ e.released = false ∧ e.void = false) ∧ t.cache.head = 0 ∧
        t.cache.area0 = s.cache.area0 ∧ t.cache.area1 = s.cache.area1 ∧
        ∀ x, exts = [x] → s.dev.wf = true → x.2.2.2.2.2.length % 4096 = 0 → x.2.2.2.2.2.length ≤ 4096 * dataUnits →
          t.dev.readN 0 x.2.2.2.2.2.length = x.2.2.2.2.2) ∧
    (∀ (st sn : Nat) (p q : List Byte) (i : Nat) (m : Fin 8) (d : Drive), exts = [] → jnls = [(st, sn, p, q)] →
      a.memberAt st a.k = i → a.present i = true → a.p = 1 → i < a.n → a.n ≤ 8 → vget a.ports i none = some m.val →
      (s.port m).drive = some d → d.media.wf = true →
      ∃ t d', exec .vaultReplay s = .next t ∧ (t.port m).drive = some d' ∧
        d'.media.readN (2 ^ 24 + st * a.chunk) p.length = p ∧ t.cache.image = .none ∧ t.cache.restored = false ∧
        t.cache.area s.cache.imageArea =
          s.cache.area s.cache.imageArea ++ [mkRecord (areaSeq s.cache s.cache.imageArea) .replayed] ∧
        t.cache.journal = Vector.replicate 256 none ∧ t.dev = s.dev)) ∧
  (∀ s : State, s.power.state = .holdup → s.power.compute = false →
    ∃ t, exec .holdupRailLow s = .next t ∧ t.power = { s.power with state := .off, retention := true, holdup := false } ∧
      t.clocks.pllLocked = false ∧ t.cache.armed = none ∧ t.cache.dumping = false ∧ t.cache.area0 = s.cache.area0 ∧
      t.cache.area1 = s.cache.area1 ∧ t.mgmt.ffr ≠ none ∧ (s.mgmt.ffr ≠ none → t.mgmt.ffr = s.mgmt.ffr) ∧
      t.mgmt.crumbCount = s.mgmt.crumbCount + 1 ∧ t.keep = s.keep ∧ t.dev = s.dev ∧
      t.faults = (if openArea s.cache ≠ none ∧ ∃ e ∈ s.cache.extents, e.ready = true ∧ e.released = false ∧ e.void = false
        then faultUnitEvent s.faults 0x9000 2 0 false else s.faults))

/-- With compute powered, PWR_LOSS, INPUT_OVERVOLTAGE, RAIL_OUT_OF_LIMITS and PWR_PRSNT_N_BREAK assert PWR_LOSS, open
the input switch, shed compute with the link down, stop the charger and abandon a test: with a pack the module is in
HOLDUP with the Tailstock, the hold-up slice and HOLD_ASSURE as they were; without one nothing is powered and the
armed area is left unsealed; a start that has not armed the vault goes to OFF in retention. INPUT_RETURN in HOLDUP
or OFF only gives input back. PACK_CUTOFF and PACK_PROTECTION_TRIP open the FET, and with compute off end HOLDUP or
retention in OFF with nothing powered. PACK_REMOVAL makes the estimate invalid, stops the charger and drops
HOLD_ASSURE. EMERGENCY_OFF removes all power and sets the latch; EPO_LATCH_CLEAR clears it.
It is concluded, under conditions on the state and the operands alone, that each of these commands answers a next
state: PWR_LOSS, INPUT_RETURN, PACK_CUTOFF, PACK_PROTECTION_TRIP, EMERGENCY_OFF, PWR_PRSNT_N_BREAK,
INPUT_OVERVOLTAGE, RAIL_OUT_OF_LIMITS, PACK_REMOVAL, EPO_LATCH_CLEAR. [01_one_thread_one_lattice R15, 01_one_thread_one_lattice Table 1.10, 12_protected_cache_and_vault R321, 12_protected_cache_and_vault R323, 13_holdup_pack_gauge R330, 13_holdup_pack_gauge R350, 17_clocks_power_startup R430, 17_clocks_power_startup R437, 18_module_interface R457, 18_module_interface R462, 18_module_interface Table 18.7] -/
def Obligations.LosingAndRegainingPower : Prop :=
  let dark (t : State) : Prop :=
    t.power.state = .off ∧ t.power.tailstock = false ∧ t.power.retention = false ∧ t.power.holdup = false ∧
    t.power.compute = false ∧ t.power.inputSwitch = false ∧ t.gauge.fetClosed = false ∧ t.mgmt.holdAssure = false ∧
    t.mgmt.assure = false ∧ t.clocks.pllLocked = false ∧ t.cache.armed = none ∧ t.cache.dumping = false
  (∀ (s : State) (c : Instr), c ∈ [Instr.pwrLoss, .inputOvervoltage, .railOutOfLimits, .pwrPrsntNBreak] →
    (s.power.compute = true →
      ∃ t, exec c s = .next t ∧ t.power.input = false ∧ t.power.inputSwitch = false ∧ t.power.pwrLoss = true ∧
        t.power.compute = false ∧ t.power.draining = false ∧ t.power.starting = false ∧ t.link.up = false ∧ t.link.l2Host = [] ∧
        t.power.present = (if c = .pwrPrsntNBreak then false else s.power.present) ∧ t.mgmt.tripN = false ∧
        t.gauge.fast = true ∧ t.gauge.imp = .idle ∧ t.jiman.chgCtrl = 0 ∧ t.faults.retireQueue = [] ∧
        t.cache.area0 = s.cache.area0 ∧ t.cache.area1 = s.cache.area1 ∧ t.keep.array = s.keep.array ∧ t.dev = s.dev ∧
        t.turner = s.turner ∧
        (s.keep.writes = [] → (∀ j < 8, ∀ d, (s.port j).drive.or (s.port j).lost = some d → d.unflushed = []) →
          t.keep = s.keep) ∧
        (s.gauge.present = true → s.gauge.fetClosed = true → s.power.starting = false ∨ s.cache.armed ≠ none →
          t.power.state = .holdup ∧ t.power.tailstock = s.power.tailstock ∧ t.power.holdup = s.power.holdup ∧
            t.mgmt.holdAssure = s.mgmt.holdAssure ∧ t.cache.armed = s.cache.armed ∧ t.clocks = s.clocks) ∧
        (s.gauge.present = true → s.gauge.fetClosed = true → s.power.starting = true → s.cache.armed = none →
          t.power.state = .off ∧ t.power.retention = true ∧ t.power.tailstock = s.power.tailstock ∧ t.power.holdup = false) ∧
        (s.gauge.present = false ∨ s.gauge.fetClosed = false → dark t)) ∧
    (s.power.compute = false →
      exec c s = .next { s with power := { s.power with
        input := false, inputSwitch := false, present := if c = .pwrPrsntNBreak then false else s.power.present } })) ∧
  (∀ s : State,
    (s.power.state = .holdup ∨ s.power.state = .off →
      exec .inputReturn s = .next { s with power := { s.power with input := true, present := true } }) ∧
    (s.power.state ≠ .holdup → s.power.state ≠ .off → exec .inputReturn s = .next s)) ∧
  (∀ (s : State) (c : Instr), c = .packCutoff ∨ c = .packProtectionTrip → s.gauge.present = true → s.gauge.fetClosed = true →
    let opened : State := { s with gauge := { s.gauge with
      fetClosed := false, cutoff := if c = .packCutoff then true else s.gauge.cutoff } }
    (s.power.compute = true → exec c s = .next opened) ∧
    (s.power.compute = false → s.power.state = .holdup →
      ∃ t, exec c s = .next t ∧ dark t ∧ t.gauge = opened.gauge ∧ t.keep = s.keep ∧ t.dev = s.dev) ∧
    (s.power.compute = false → s.power.state = .off → s.power.retention = true →
      ∃ t, exec c s = .next t ∧ t.power.state = .off ∧ t.power.tailstock = false ∧ t.power.retention = false ∧
        t.gauge = opened.gauge ∧ t.cache = s.cache ∧ t.mgmt.holdAssure = false)) ∧
  (∀ s : State, s.gauge.present = true → s.power.tailstock = true →
    ∃ t, exec .packRemoval s = .next t ∧ t.gauge.present = false ∧ t.gauge.record = none ∧ t.gauge.last = none ∧
      t.gauge.estimated = false ∧ t.gauge.validLatch = false ∧ t.gauge.charge = .off ∧ t.gauge.energy = 0 ∧
      t.gauge.rc = s.gauge.rc ∧ t.jiman.chgCtrl = 0 ∧ t.jiman.testLoad = false ∧ t.jiman.intPend.getLsbD 3 = true ∧
      t.mgmt.holdAssure = false ∧
      (∃ x, t.mgmt.crumbs.getLast? = some x ∧ x.event = 0x08 ∧ x.location = 0 ∧ x.severity = 0 ∧ x.tick = s.mgmt.tick) ∧
      (s.mgmt.holdAssure = true →
        t.mgmt.assure = false ∧ (s.power.compute = true → t.cache.assureFell = some s.clocks.timebase)) ∧
      (s.power.compute = true → t.power = s.power ∧ t.clocks = s.clocks) ∧
      (s.power.compute = false → s.power.state = .holdup → dark t) ∧ t.keep = s.keep ∧ t.dev = s.dev) ∧
  (∀ s : State,
    (∃ t, exec .emergencyOff s = .next t ∧ dark t ∧ t.power.epoN = true ∧ t.power.epoLatch = true ∧
      t.power.afterEpo = true ∧ t.power.pwrLoss = true ∧ t.cache.area0 = s.cache.area0 ∧ t.cache.area1 = s.cache.area1 ∧
      t.keep.array = s.keep.array ∧ t.firmware = s.firmware ∧ t.gauge = { s.gauge with fetClosed := false }) ∧
    (s.power.epoLatch = true →
      exec .epoLatchClear s = .next { s with power := { s.power with epoN := false, epoLatch := false, input := false } }))

/-- START_UP of an unpowered module whose latch is clear powers it with START_KIND 0, or 2 after an emergency off,
TIMEBASE 0, the compute blocks as at reset and HBM zero, and keeps the vault areas; RETAINED_POWER_ON, and
PLL_RELOCK_TIMEOUT with input, do so with START_KIND 1 and the charge count kept. With the notice of a start the
settings image is in, and the module is in WARM once the link is up. PLL_LOCK_LOSS stops the clocks and is counted,
PLL_RELOCK resumes them. THROTTLE_REQ_CHANGE takes the driven level: ACTIVE and THROTTLED follow, and its event is
set where the level becomes 0 or leaves 0. HOLD_ASSURE_FALL drops HOLD_ASSURE and ASSURE; HOLD_ASSURE_RISE raises HOLD_ASSURE and sends ASSURE_NOTICE.
STATUS_WORD_STALE makes the limit 0. HBM_ROW_RETIREMENT repairs the first queued row of its stack and counts the
repair; one that fails is reported and not retired.
It is concluded, under conditions on the state and the operands alone, that each of these commands answers a next
state: HOLD_ASSURE_FALL, HOLD_ASSURE_RISE, STATUS_WORD_STALE, THROTTLE_REQ_CHANGE, START_UP, RETAINED_POWER_ON,
PLL_LOCK_LOSS, PLL_RELOCK, PLL_RELOCK_TIMEOUT, HBM_ROW_RETIREMENT. [01_one_thread_one_lattice R14, 01_one_thread_one_lattice R16, 01_one_thread_one_lattice R17, 01_one_thread_one_lattice Table 1.10, 14_management_plane R369, 17_clocks_power_startup R425, 17_clocks_power_startup R427, 17_clocks_power_startup R437, 17_clocks_power_startup R438, 17_clocks_power_startup R439, 17_clocks_power_startup R445, 19_faults_and_long_runs R474] -/
def Obligations.StartingClocksAndAssurance : Prop :=
  let started (s : State) (e : StartUp) (kind : BitVec 2) (t : State) : Prop :=
    t.power.input = true ∧ t.power.tailstock = true ∧ t.power.retention = false ∧ t.power.holdup = true ∧
    t.power.compute = true ∧ t.power.pwrLoss = false ∧ t.power.afterEpo = false ∧ t.power.slotId = e.slot ∧
    t.power.trayId = e.tray ∧ t.clocks.startKind = kind ∧ t.clocks.timebase = 0 ∧ t.clocks.pllLocked = true ∧
    t.clocks.cclkStopped = true ∧ t.turner = Reset.turner ∧ t.lattice = Reset.lattice ∧ t.spindle = Reset.spindle ∧
    t.scale = Reset.scale ∧ t.queue.ops = Reset.queue.ops ∧ t.queue.enable = false ∧ t.dev = [] ∧
    t.mgmt.powerOns = s.mgmt.powerOns + 1 ∧ t.mgmt.assureLock = false ∧
    (e.notice = false → t.power.state = s.power.state ∧ t.power.starting = true ∧ t.link.up = false ∧ t.keep.array = none ∧
      t.mgmt.resetting = true ∧ t.firmware.imageTaken = false) ∧
    (e.notice = true → t.firmware.recovery = false →
      t.firmware.imageTaken = true ∧ t.mgmt.resetting = false ∧ t.mgmt.awaitNotice = false ∧
      t.power.keepEnabled = t.firmware.image.keepEnabled ∧ (t.link.up = true → e.train ≠ none) ∧
      t.power.starting = !t.link.up ∧ (t.link.up = true → t.power.state = .warm))
  let healthy (e : StartUp) : Prop := e.stackFails = false ∧ e.badRows = []
  (∀ (s : State) (e : StartUp), healthy e →
    (s.power.state = .off → s.power.tailstock = false → s.power.epoLatch = false → s.power.starting = false →
      ∃ t, exec (.startUp e) s = .next t ∧ started s e (if s.power.afterEpo then 2 else 0) t ∧ t.jiman.flash = s.jiman.flash ∧
        (e.notice = false → t.cache.area0 = s.cache.area0 ∧ t.cache.area1 = s.cache.area1)) ∧
    (s.power.state = .off → s.power.tailstock = true → s.power.compute = false → s.power.epoLatch = false →
      s.power.retention = true →
      ∃ t, exec (.retainedPowerOn e) s = .next t ∧ started s e 1 t ∧ (e.retainedOk = true → t.gauge.rc = s.gauge.rc) ∧
        (e.notice = false → t.cache.area0 = s.cache.area0 ∧ t.cache.area1 = s.cache.area1)) ∧
    (s.clocks.pllLocked = false → s.power.holdup = true →
      (s.power.input = true → ∃ t, exec (.pllRelockTimeout e) s = .next t ∧
        started { s with power := { s.power with state := .off } } e 1 t) ∧
      (s.power.input = false →
        ∃ t, exec (.pllRelockTimeout e) s = .next t ∧ t.power.state = .off ∧ t.power.retention = true ∧
          t.power.holdup = false ∧ t.power.compute = false ∧ t.cache.armed = none ∧ t.clocks.pllLocked = false))) ∧
  (∀ s : State,
    (s.clocks.pllLocked = true →
      ∃ t, exec .pllLockLoss s = .next t ∧ t.mgmt.crumbCount = s.mgmt.crumbCount + 1 ∧
        t.clocks = { s.clocks with pllLocked := false, lockLosses := satInc s.clocks.lockLosses } ∧
        t.power = s.power ∧ t.queue = s.queue ∧ t.keep = s.keep ∧ t.cache = s.cache ∧ t.dev = s.dev) ∧
    (s.power.holdup = true → s.link.perstDue = false → exec .pllRelock s = .next { s with clocks := { s.clocks with pllLocked := true } }) ∧
    (s.running = true → s.mgmt.driven ≠ s.clocks.level →
      ∃ t, exec .throttleReqChange s = .next t ∧ t.clocks = { s.clocks with level := s.mgmt.driven } ∧
        (s.power.state = .active → t.power.state = .throttled ∨ s.mgmt.driven = 0 ∧ t.power.state = .active) ∧
        (s.power.state = .throttled → s.mgmt.driven = 0 → t.power.state = .active) ∧
        (s.power.state = .throttled → s.mgmt.driven ≠ 0 → t.power = s.power) ∧
        (s.power.state ≠ .active → s.power.state ≠ .throttled → t.power = s.power) ∧
        (s.mgmt.driven = 0 ∨ s.clocks.level = 0 → t.queue.event.getLsbD 7 = true) ∧
        (s.mgmt.driven ≠ 0 → s.clocks.level ≠ 0 → t.queue = s.queue) ∧
        (∀ b < 32, b ≠ 7 → t.queue.event.getLsbD b = s.queue.event.getLsbD b) ∧ t.queue.ops = s.queue.ops ∧
        t.turner = s.turner ∧ t.dev = s.dev) ∧
    (s.mgmt.holdAssure = true →
      ∃ t, exec .holdAssureFall s = .next t ∧ t.mgmt.holdAssure = false ∧ t.mgmt.assure = false ∧ t.mgmt.riseDue = false ∧
        t.cache = { s.cache with assureFell := some s.clocks.timebase } ∧ t.mgmt.crumbCount = s.mgmt.crumbCount + 1 ∧
        (s.mgmt.assure = true → s.running = true → t.queue.event.getLsbD 4 = true) ∧ t.gauge = s.gauge ∧ t.power = s.power) ∧
    (s.mgmt.holdAssure = false → exec .holdAssureFall s = .next { s with mgmt := { s.mgmt with riseDue := false } }) ∧
    (s.power.tailstock = true → s.mgmt.riseDue = true → s.mgmt.resetting = false → s.gauge.present = true → s.gauge.validLatch = true →
      s.mgmt.selftestOk = true → s.mgmt.mismatch = false → s.mgmt.assureLock = false →
      ∃ t, exec .holdAssureRise s = .next t ∧ t.mgmt.holdAssure = true ∧ t.mgmt.riseDue = false ∧
        t.mgmt.assure = s.mgmt.assure ∧ t.cache = { s.cache with assureFell := none } ∧
        (∃ m, t.mgmt.outbox = s.mgmt.outbox ++ [m] ∧ fld m 0 1 = 0x83 ∧ fld m 8 1 = 1) ∧ t.gauge = s.gauge ∧
        t.power = s.power) ∧
    (∃ t, exec .statusWordStale s = .next t ∧ t.mgmt.stale = true ∧ t.limit = 0 ∧ t.mgmt.words = s.mgmt.words ∧
      (262144 ≤ s.limit → s.gauge.warnArmed = true → s.running = true →
        t.queue.event.getLsbD 5 = true ∧ t.gauge.warnArmed = false) ∧
      (16384 ≤ s.limit → s.gauge.critArmed = true → s.running = true →
        t.queue.event.getLsbD 6 = true ∧ t.gauge.critArmed = false) ∧
      (s.limit < 16384 → t = { s with mgmt := { s.mgmt with stale := true } }) ∧ t.dev = s.dev)) ∧
  (∀ (s : State) (stack : Fin 8) (r : HbmRow), s.running = true →
    s.faults.retireQueue.find? (fun r => r.stack = stack.val) = some r →
    pcExhausted s.faults r.stack r.pc = false →
    (∀ x ∈ s.faults.rows, x.due = false) →
    (∃ t, exec (.hbmRowRetirement stack [] false) s = .next t ∧ t.faults.retired = s.faults.retired ++ [r] ∧
      t.faults.retireQueue = s.faults.retireQueue.erase r ∧
      repairsUsed t.faults r.stack r.pc = repairsUsed s.faults r.stack r.pc + 1 ∧
      (∀ x y, x ≠ r.stack ∨ y ≠ r.pc → repairsUsed t.faults x y = repairsUsed s.faults x y) ∧
      t.faults.classes = s.faults.classes ∧ t = { s with faults := t.faults }) ∧
    (∃ t, exec (.hbmRowRetirement stack [] true) s = .next t ∧ t.faults.retired = s.faults.retired ∧
      t.faults.retireQueue = s.faults.retireQueue.erase r ∧ t.faults.repairs = s.faults.repairs ∧
      t.faults.alerts.length + t.faults.alertsLost.toNat ≥ s.faults.alerts.length + s.faults.alertsLost.toNat ∧
      t = { s with faults := t.faults }))

/-- With a pack, an estimate and no test, GAUGE_SAMPLE adds 64 or 1 times the current to RC within 0 and FCC, adds a
discharge to the residue (one cycle at 73,728,000, which writes the record), moves the anchor's count, sets 64 Hz
sampling from 50 mA or on PWR_LOSS and 1 Hz after 64 quiet samples, times rest below 20 mA, pauses a charge whose
conditions fail, and goes to constant voltage at 8.2 V; it latches the sample and raises line 3. REST_CORRECTION
after 30 minutes sets RC from the OCV of the lower cell, takes an anchor, and moves FCC by at most 8 mAh within 200
to 420 from the anchor before. CHARGE_START starts below an SoC of 970 or resumes; CHARGE_END below 20 mA sets RC to
FCC; CHARGE_TIMEOUT stops the charge, and the second of a serial in 7 days locks it.
It is concluded, under conditions on the state and the operands alone, that each of these commands answers a next
state: GAUGE_SAMPLE, REST_CORRECTION, CHARGE_START, CHARGE_END, CHARGE_TIMEOUT. [13_holdup_pack_gauge R335, 13_holdup_pack_gauge R336, 13_holdup_pack_gauge R337, 13_holdup_pack_gauge R338, 13_holdup_pack_gauge R339, 13_holdup_pack_gauge R343] -/
def Obligations.TheChargeCountAndTheCharger : Prop :=
  ∀ (s : State) (r : PackRecord) (eepromOk : Bool), s.gauge.present = true → s.gauge.record = some r →
    s.gauge.estimated = true → s.gauge.inserting = none → s.gauge.imp = .idle → s.power.tailstock = true →
    let g := s.gauge
    let allowed (x : Sample) : Prop :=
      s.power.pwrLoss = false ∧ 5 ≤ x.temp ∧ x.temp ≤ 44 ∧ g.inhibit = false ∧ g.chargeLock ≠ some r.serial
    (∀ x : Sample,
      let dq : Int := if g.fast then x.current else 64 * x.current
      let u := if g.fast then 1 else 64
      ∃ t, exec (.gaugeSample x eepromOk) s = .next t ∧ t.gauge.last = some x ∧ (t.gauge.rc : Int) =
          max 0 (min ((r.fcc * 230400 : Nat) : Int) ((g.rc : Int) + dq)) ∧
        t.gauge.anchor = g.anchor.map (fun a => (a.1, a.2 + dq)) ∧
        (0 ≤ dq → t.gauge.record = some r) ∧
        (dq < 0 → r.residue + dq.natAbs < 73728000 →
          t.gauge.record = some { r with residue := r.residue + dq.natAbs } ∧ t.gauge.eeprom = g.eeprom) ∧
        (dq < 0 → 73728000 ≤ r.residue + dq.natAbs →
          t.gauge.record = some { r with
            residue := r.residue + dq.natAbs - 73728000, cycles := r.cycles + 1, writeSeq := r.writeSeq + 1, crcOk := true }) ∧
        (50 ≤ x.current.natAbs ∨ s.power.pwrLoss = true → t.gauge.fast = true ∧ t.gauge.quiet = 0) ∧
        (x.current.natAbs < 50 → s.power.pwrLoss = false →
          t.gauge.quiet = g.quiet + 1 ∧ t.gauge.fast = (g.fast && decide (g.quiet + 1 < 64))) ∧
        t.gauge.restTime = (if x.current.natAbs < 20 then g.restTime + u else 0) ∧
        t.gauge.idleTime = (if x.current.natAbs < 20 then g.idleTime + u else 0) ∧
        (¬allowed x → (g.charge = .constantCurrent ∨ g.charge = .constantVoltage) →
          t.gauge.charge = .paused ∧ t.jiman.chgCtrl = 0) ∧
        (allowed x → t.gauge.charge =
          if g.charge = .constantCurrent ∧ 8200 ≤ x.cell0 + x.cell1 then .constantVoltage else g.charge) ∧
        (s.power.pwrLoss = false → t.gauge.sRep = g.sRep) ∧ (s.power.pwrLoss = true → t.gauge.sRep = sInt t.gauge) ∧
        t.jiman.sampleSeq = s.jiman.sampleSeq + 1 ∧ t.jiman.intPend = s.jiman.intPend ||| 8 ∧
        t = { s with gauge := t.gauge, jiman := t.jiman }) ∧
    (∀ x : Sample, g.last = some x →
      let soc := socOfVoltage (min x.cell0 x.cell1)
      (30 * 60 * 64 ≤ g.restTime → g.anchor = none →
        exec (.restCorrection eepromOk) s = .next { s with gauge := { g with
          unrested := false, restTime := 0, anchor := some (soc, 0), rc := soc * (r.fcc * 230400) / 1000 } }) ∧
      (∀ (s1 : Nat) (dc : Int), 30 * 60 * 64 ≤ g.restTime → g.anchor = some (s1, dc) →
        let ds : Int := (soc : Int) - s1
        let meas := dc.natAbs * 1000 / (ds.natAbs * 230400)
        let moved := if r.fcc < meas then min (r.fcc + 8) meas else max (r.fcc - 8) meas
        let fcc := if 400 ≤ ds.natAbs ∧ 0 < ds * dc then max 200 (min 420 moved) else r.fcc
        ∃ t r', exec (.restCorrection eepromOk) s = .next t ∧ t.gauge.record = some r' ∧ r'.fcc = fcc ∧
          (fcc = r.fcc → r' = r) ∧ (fcc ≠ r.fcc → r' = { r with fcc := fcc, writeSeq := r.writeSeq + 1, crcOk := true }) ∧
          t.gauge.anchor = some (soc, 0) ∧ t.gauge.rc = soc * (fcc * 230400) / 1000 ∧ t.gauge.unrested = false ∧
          t.gauge.restTime = 0 ∧ t = { s with gauge := t.gauge }) ∧
      (g.restTime < 30 * 60 * 64 → exec (.restCorrection eepromOk) s = .next s) ∧
      (allowed x → g.charge = .off → sInt g < 970 →
        ∃ t, exec .chargeStart s = .next t ∧
          t.gauge = { g with charge := .constantCurrent, chargeStart := s.mgmt.tick.toNat } ∧
          t.jiman.chgCtrl = (if x.temp ≤ 14 then 3 else 1) ∧ t = { s with gauge := t.gauge, jiman := t.jiman }) ∧
      (allowed x → g.charge = .paused →
        ∃ t, exec .chargeStart s = .next t ∧ t.gauge = { g with charge := .constantCurrent } ∧
          t.jiman.chgCtrl = (if x.temp ≤ 14 then 3 else 1) ∧ t = { s with gauge := t.gauge, jiman := t.jiman }) ∧
      (g.charge = .off → 970 ≤ sInt g → exec .chargeStart s = .next s) ∧
      (g.charge = .constantVoltage → x.current < 20 → g.anchor = none →
        ∃ t, exec (.chargeEnd eepromOk) s = .next t ∧
          t.gauge = { g with charge := .off, anchor := some (1000, 0), rc := r.fcc * 230400 } ∧ t.jiman.chgCtrl = 0 ∧
          t = { s with gauge := t.gauge, jiman := t.jiman }) ∧
      (g.charge = .constantCurrent → exec (.chargeEnd eepromOk) s = .next s)) ∧
    (g.charge ≠ .off →
      let kept := g.timeouts.filter fun t => t.2 = r.serial
      (kept = [] → ∃ t, exec .chargeTimeout s = .next t ∧ t.gauge.charge = .off ∧ t.gauge.chargeLock = g.chargeLock ∧
        t.gauge.timeouts = g.timeouts ++ [(s.mgmt.tick.toNat, r.serial)] ∧ t.jiman.chgCtrl = 0 ∧
        t.mgmt.crumbCount = s.mgmt.crumbCount + 1 ∧ t.gauge.rc = g.rc ∧ t.gauge.record = some r) ∧
      (∀ t0, kept = [(t0, r.serial)] → s.mgmt.tick.toNat - t0 ≤ 604800000 →
        ∃ t, exec .chargeTimeout s = .next t ∧ t.gauge.charge = .off ∧ t.gauge.chargeLock = some r.serial ∧
          t.jiman.chgCtrl = 0 ∧ t.mgmt.crumbCount = s.mgmt.crumbCount + 1))

/-- IMPEDANCE_TEST_START, above an SoC of 500 after a minute below 20 mA at 0 to 55 degrees, when asked for, 24 hours
after the last test or first since insertion, keeps V0, closes the test load, pauses a charge and samples at 64 Hz;
IMPEDANCE_RETRY does so after an abandoned test; IMPEDANCE_V10_SAMPLE and IMPEDANCE_V200_SAMPLE keep V10 and V200,
and the second opens the load. PACK_INSERTION selects a valid EEPROM record, or counts its absence, holds the
charger off for four samples and drops HOLD_ASSURE; the fourth sample makes the first estimate from the mean and
asks for a management reset. HP_EVENT_REARM arms HP_WARN at 327,680 or HP_CRIT at 20,480. HP_CONTROL_TEST and
CHARGE_INHIBIT set what HP_CONTROL reads back and latch the value for the Jiman.
It is concluded, under conditions on the state and the operands alone, that each of these commands answers a next
state: GAUGE_SAMPLE, IMPEDANCE_TEST_START, IMPEDANCE_V10_SAMPLE, IMPEDANCE_V200_SAMPLE, IMPEDANCE_RETRY,
PACK_INSERTION, HP_EVENT_REARM, HP_CONTROL_TEST, CHARGE_INHIBIT. [13_holdup_pack_gauge R332, 13_holdup_pack_gauge R341, 13_holdup_pack_gauge R347, 13_holdup_pack_gauge R348, 13_holdup_pack_gauge R349, 13_holdup_pack_gauge Table 13.3, 14_management_plane R368] -/
def Obligations.ImpedanceInsertionAndControl : Prop :=
  (∀ (s : State) (r : PackRecord) (x : Sample) (v0 : Nat), s.gauge.present = true → s.gauge.record = some r →
    s.gauge.estimated = true → s.gauge.imp = .idle → s.power.pwrLoss = false → s.gauge.last = some x → 0 ≤ x.temp →
    x.temp ≤ 55 → 500 < sInt s.gauge → 60 * 64 ≤ s.gauge.idleTime →
    let loaded (t : State) : Prop :=
      t.gauge.imp = .loaded v0 ∧ t.gauge.lastTest = some s.mgmt.tick.toNat ∧ t.gauge.testAsked = false ∧
      t.gauge.retryAt = none ∧ t.gauge.fast = true ∧ t.gauge.quiet = 0 ∧ t.jiman.testLoad = true ∧ t.jiman.chgCtrl = 0 ∧
      t.gauge.charge = (if s.gauge.charge = .constantCurrent ∨ s.gauge.charge = .constantVoltage then .paused
        else s.gauge.charge) ∧ t.gauge.record = some r ∧ t.gauge.rc = s.gauge.rc ∧
      t = { s with gauge := t.gauge, jiman := t.jiman }
    (s.gauge.retryAt = none → s.gauge.testAsked = true ∨ s.gauge.lastTest = none ∨
        (∃ t0, s.gauge.lastTest = some t0 ∧ 86400000 ≤ s.mgmt.tick.toNat - t0) →
      ∃ t, exec (.impedanceTestStart v0) s = .next t ∧ loaded t) ∧
    (∀ t0, s.gauge.retryAt = none → s.gauge.testAsked = false → s.gauge.lastTest = some t0 →
      s.mgmt.tick.toNat - t0 < 86400000 → exec (.impedanceTestStart v0) s = .next s) ∧
    (s.gauge.retryAt ≠ none → ∃ t, exec (.impedanceRetry v0) s = .next t ∧ loaded t)) ∧
  (∀ (s : State) (v0 v10 v200 : Nat),
    (s.gauge.imp = .loaded v0 →
      exec (.impedanceV10Sample v10) s = .next { s with gauge := { s.gauge with imp := .sampled10 v0 v10 } }) ∧
    (s.gauge.imp = .sampled10 v0 v10 →
      exec (.impedanceV200Sample v200) s = .next { s with
        gauge := { s.gauge with imp := .sampled200 v0 v10 v200 }, jiman := { s.jiman with testLoad := false } })) ∧
  (∀ (s : State) (e : Option PackRecord), s.power.tailstock = true →
    let inserted (t : State) : Prop :=
      t.gauge.present = true ∧ t.gauge.fetClosed = true ∧ t.gauge.charge = .off ∧ t.gauge.estimated = false ∧
      t.gauge.validLatch = false ∧ t.gauge.inserting = some [] ∧ t.gauge.unrested = true ∧ t.gauge.anchor = none ∧
      t.gauge.energy = 0 ∧ t.mgmt.holdAssure = false ∧ t.jiman.chgCtrl = 0 ∧ t.jiman.testLoad = false ∧
      t.jiman.intPend.getLsbD 3 = true ∧ t.power = s.power ∧ t.keep = s.keep ∧ t.dev = s.dev
    (∀ r, e = some r → r.magicOk = true → r.version = 1 → r.crcOk = true → r.chem = 1 → r.serial ∉ s.gauge.eepromRo →
      (∀ q ∈ s.gauge.mirror, q.serial ≠ r.serial) →
      ∃ t x, exec (.packInsertion e) s = .next t ∧ inserted t ∧ t.gauge.record = some r ∧
        t.gauge.mirror = (r :: s.gauge.mirror).take 8 ∧ t.mgmt.crumbs.getLast? = some x ∧ x.event = 0x08) ∧
    (e = none →
      ∃ t x, exec (.packInsertion e) s = .next t ∧ inserted t ∧ t.gauge.record = none ∧ t.gauge.mirror = s.gauge.mirror ∧
        t.mgmt.crumbs.getLast? = some x ∧ x.location = 0xA040 ∧ x.severity = 2)) ∧
  (∀ (s : State) (r : PackRecord) (x : Sample) (l : List Nat), s.power.tailstock = true → s.gauge.present = true →
    s.gauge.record = some r → s.gauge.estimated = false → s.gauge.inserting = some l →
    (l.length < 3 →
      ∃ t, exec (.gaugeSample x true) s = .next t ∧ t.gauge.inserting = some (l ++ [min x.cell0 x.cell1]) ∧
        t.gauge.estimated = false ∧ t.mgmt = s.mgmt ∧ t.gauge.rc = s.gauge.rc) ∧
    (l.length = 3 → s.power.pwrLoss = false →
      let soc := socOfVoltage ((l.sum + min x.cell0 x.cell1) / 4)
      ∃ t, exec (.gaugeSample x true) s = .next t ∧ t.gauge.inserting = none ∧ t.gauge.estimated = true ∧
        t.gauge.rc = soc * (r.fcc * 230400) / 1000 ∧ t.gauge.sRep = soc ∧ t.gauge.unrested = true ∧
        t.mgmt = { s.mgmt with resetAsked := true })) ∧
  (∀ s : State,
    (∀ crit : Bool, (if crit then 20480 else 327680) ≤ s.limit →
      exec (.hpEventRearm crit) s = .next { s with gauge := { s.gauge with
        critArmed := crit || s.gauge.critArmed, warnArmed := !crit || s.gauge.warnArmed } }) ∧
    (∀ crit : Bool, s.limit < (if crit then 20480 else 327680) → exec (.hpEventRearm crit) s = .next s) ∧
    (∀ inhibit : Bool, s.running = true → s.link.up = true → s.link.cfg.memEnable = true → s.link.cfg.d3hot = false →
      let back : W32 := if inhibit then 2 else 0
      exec (.hpControlTest inhibit) s = .next { s with mgmt := { s.mgmt with hpReg := back, latchHp := some (back + 1) } } ∧
      exec (.chargeInhibit inhibit) s = .next { s with mgmt := { s.mgmt with hpReg := back, latchHp := some back } }))

/-- A CONTROL_LOOP_TICK that publishes advances the Jiman tick, raises line 0, writes the tick into all five status
words, refreshes the watchdog, ends staleness, and sets the throttle level: 3 from a hot sensor at 102 degrees, 0
kept while every entry condition is false; without a pack LIMIT is 0; a reset asked for begins, and a reset in
progress with a self-test passed completes with a RESET_NOTICE. One that does not publish while the last has not is
held and counted. COMPARATOR_SELFTEST records a pass; a failure drops HOLD_ASSURE and is counted. LOCKSTEP_MISMATCH,
not in lockout, and WATCHDOG_TIMEOUT drop HOLD_ASSURE, are counted, fill the first-fault record and begin a
management reset; the third fault in 24 hours locks assurance out. THERMAL_TRIP forces level 3 until TRIP_CLEAR.
NVME_MI_POLL records its port.
It is concluded, under conditions on the state and the operands alone, that each of these commands answers a next
state: CONTROL_LOOP_TICK, COMPARATOR_SELFTEST, LOCKSTEP_MISMATCH, WATCHDOG_TIMEOUT, THERMAL_TRIP, TRIP_CLEAR,
NVME_MI_POLL. [01_one_thread_one_lattice R14, 14_management_plane R355, 14_management_plane R357, 14_management_plane R358, 14_management_plane R359, 14_management_plane R360, 14_management_plane R361, 14_management_plane R363, 14_management_plane R365, 14_management_plane R374, 14_management_plane Table 14.6, 14_management_plane Table 14.11] -/
def Obligations.TicksFaultsAndTrips : Prop :=
  (∀ (s : State) (rd : Vector (Option Int) 24) (power : Nat) (rails : List W32) (ok ok' : Bool),
    s.power.tailstock = true → s.firmware.recovery = false → s.mgmt.tickHeld = false →
    (s.mgmt.tickRunning = false →
      ∃ t, exec (.controlLoopTick true rd power rails ok ok') s = .next t ∧ t.mgmt.tick = s.mgmt.tick + 1 ∧
        (∀ k : Fin 5, bitsOf t.mgmt.words[k].toNat 32 16 = (s.mgmt.tick + 1).toNat % 65536) ∧
        (s.mgmt.resetAsked = false → s.mgmt.selftestFailed = false → t.jiman.intPend.getLsbD 0 = true) ∧
        t.mgmt.wdogAt = s.clocks.timebase ∧ t.power = s.power ∧ t.keep = s.keep ∧ t.dev = s.dev ∧ t.clocks = s.clocks ∧
        (bitsOf s.mgmt.words[0].toNat 32 16 ≠ (s.mgmt.tick + 1).toNat % 65536 → t.mgmt.stale = false) ∧
        (s.gauge.present = false → bitsOf t.mgmt.words[0].toNat 0 23 = 0) ∧
        ((∃ n : Fin 20, ∃ v : Int, s.mgmt.sensors[n].retired = false ∧ rd[n] = some v ∧ 816 ≤ v ∧ v ≤ 1200) →
          t.mgmt.level = 3) ∧
        (s.mgmt.level = 0 → (∀ n : Fin 24, s.mgmt.sensors[n].retired = false ∧ ∃ v : Int, rd[n] = some v ∧ -320 ≤ v ∧ v < 360) →
          s.mgmt.power.sum + power < 14000000 → t.mgmt.level = 0) ∧
        (s.mgmt.trip = true → t.mgmt.driven = 3) ∧
        ((∃ n : Fin 20, ∃ v : Int, rd[n] = some v ∧ 840 ≤ v) → t.mgmt.trip = true ∧ t.mgmt.driven = 3) ∧
        (s.mgmt.resetAsked = true → t.mgmt.resetting = true ∧ t.mgmt.holdAssure = false ∧
          t.mgmt.resets = satInc s.mgmt.resets) ∧
        (s.mgmt.resetting = true → s.mgmt.selftestOk = true → s.mgmt.resetAsked = false → s.mgmt.selftestFailed = false →
          t.mgmt.resetting = false ∧ ∃ m ∈ t.mgmt.outbox, fld m 0 1 = 0x84)) ∧
    (s.mgmt.tickRunning = true →
      ∃ t, exec (.controlLoopTick false rd power rails ok ok') s = .next t ∧ t.mgmt.tick = s.mgmt.tick + 1 ∧
        t.mgmt.tickHeld = true ∧ t.mgmt.tickRunning = true ∧ t.mgmt.overruns = satInc s.mgmt.overruns ∧
        t.mgmt.words = s.mgmt.words ∧ t.mgmt.level = s.mgmt.level ∧ t.mgmt.wdogAt = s.mgmt.wdogAt ∧ t.power = s.power ∧
        t.queue = s.queue ∧ t.dev = s.dev)) ∧
  (∀ s : State, s.power.tailstock = true →
    let third : Prop := ∃ a b c : W32, s.mgmt.faultTicks = [a, b, c] ∧ (s.mgmt.tick - b).toNat ≤ 86400000
    let reset (t : State) : Prop :=
      t.mgmt.resetting = true ∧ t.mgmt.holdAssure = false ∧ t.mgmt.selftestOk = false ∧ t.mgmt.toMg = none ∧
      t.mgmt.toDp = none ∧ t.mgmt.outbox = [] ∧ t.mgmt.awaitNotice = true ∧ t.mgmt.resets = satInc s.mgmt.resets ∧
      t.mgmt.words = s.mgmt.words ∧ t.mgmt.tick = s.mgmt.tick ∧ t.mgmt.ops = s.mgmt.ops ∧ t.jiman.regs = Reset.jregs ∧
      t.jiman.flash = s.jiman.flash ∧ t.gauge.validLatch = false ∧ t.gauge.rc = s.gauge.rc ∧
      t.mgmt.faultCounter = s.mgmt.faultCounter + 1 ∧ t.mgmt.ffr ≠ none ∧ (s.mgmt.ffr ≠ none → t.mgmt.ffr = s.mgmt.ffr) ∧
      (s.mgmt.assureLock = true ∨ third → t.mgmt.assureLock = true) ∧
      (s.mgmt.assureLock = false → s.mgmt.faultTicks.length < 2 → t.mgmt.assureLock = false) ∧
      t.power = s.power ∧ t.keep = s.keep ∧ t.dev = s.dev
    (exec (.comparatorSelftest true) s = .next { s with mgmt := { s.mgmt with
      selftestNo := s.mgmt.selftestNo + 1, selftestOk := if s.mgmt.assureLock then s.mgmt.selftestOk else true } }) ∧
    (s.mgmt.assureLock = false →
      ∃ t, exec (.comparatorSelftest false) s = .next t ∧ t.mgmt.selftestNo = s.mgmt.selftestNo + 1 ∧
        t.mgmt.selftestOk = false ∧ t.mgmt.selftestFailed = true ∧ t.mgmt.holdAssure = false ∧
        t.mgmt.faultCounter = s.mgmt.faultCounter + 1 ∧ (third → t.mgmt.assureLock = true) ∧
        t.mgmt.resetting = s.mgmt.resetting ∧ t.power = s.power ∧ t.dev = s.dev) ∧
    (∀ ok : Bool,
      (s.mgmt.assureLock = false → ∃ t, exec (.lockstepMismatch ok) s = .next t ∧ reset t ∧ (ok = false → t.jiman.ram = [])) ∧
      (s.mgmt.assureLock = true → exec (.lockstepMismatch ok) s = .next s) ∧
      (∃ t, exec (.watchdogTimeout ok) s = .next t ∧ reset t ∧ (ok = false → t.jiman.ram = []))) ∧
    (∀ (n : Fin 20) (v : Int), 840 ≤ v → s.mgmt.trip = false →
      ∃ t, exec (.thermalTrip n v) s = .next t ∧ t.mgmt.trip = true ∧ t.mgmt.tripN = true ∧ t.mgmt.driven = 3 ∧
        t.mgmt.level = s.mgmt.level ∧ t.mgmt.sensors[n].value = v ∧ t.mgmt.crumbCount = s.mgmt.crumbCount + 1 ∧
        t.clocks = s.clocks ∧ t.power = s.power ∧ t.dev = s.dev) ∧
    (∀ readings : Vector Int 20, s.mgmt.trip = true → (∀ n : Fin 20, readings[n] < 816) →
      exec (.tripClear readings) s = .next { s with mgmt := { s.mgmt with
        trip := false, tripN := false, driven := s.mgmt.level } }) ∧
    (∀ (readings : Vector Int 20) (n : Fin 20), 816 ≤ readings[n] → exec (.tripClear readings) s = .next s) ∧
    (∀ (q : Fin 8) (w h : Bool) (v : W64),
      (∃ t, exec (.nvmeMiPoll q (some (w, h, v))) s = .next t ∧
        t.mgmt.polls = s.mgmt.polls.set q { fails := 0, responds := true, smartWarn := w, tempWarn := h, reply := v } ∧
        t.mgmt.words = s.mgmt.words ∧ t.dev = s.dev) ∧
      (∃ t, exec (.nvmeMiPoll q none) s = .next t ∧
        t.mgmt.polls = s.mgmt.polls.set q { s.mgmt.polls[q] with
          fails := s.mgmt.polls[q].fails + 1
          responds := s.mgmt.polls[q].responds && decide (s.mgmt.polls[q].fails + 1 < 3) } ∧ t.dev = s.dev)))

/-- OP_REQUEST gives the Jiman a request and frees the buffer; one whose SEQ it has completed is answered again, and
FW_ACTIVATE without a complete session and FW_CONFIRM in CONFIRMED are refused with 0x12 and 0x24. DATA carries the
next image bytes to the Jiman, or snapshot bytes to the destination of their operation. REG_WRITE latches HP_CONTROL
or MG_FFR_CLEAR for the next tick. ALERT is logged with its location and severity. DOE_SPDM crosses to the Jiman,
and the last fragment of GET_VERSION is answered. OP_REPLY completes the operation that its SEQ names with its
status and code. ASSURE_NOTICE sets ASSURE only while HOLD_ASSURE is high. RESET_NOTICE ends the wait for it, brings
FW_STATUS and revocation bits, and has every open request sent again. MBX_TAKE frees the buffer; MBX_SEND fills the
other if it is free.
It is concluded, under conditions on the state and the operands alone, that each of these commands answers a next
state: OP_REQUEST, DATA, REG_WRITE, ALERT, DOE_SPDM, OP_REPLY, ASSURE_NOTICE, RESET_NOTICE, MBX_TAKE, MBX_SEND. [14_management_plane R367, 14_management_plane R368, 14_management_plane R369, 14_management_plane R370, 14_management_plane R373, 14_management_plane Table 14.12, 16_firmware_and_settings R408, 16_firmware_and_settings R413, 16_firmware_and_settings R415, 21_setup_registers R501, 19_faults_and_long_runs R472] -/
def Obligations.MessagesOfTheMailbox : Prop :=
  (∀ (s : State) (m : MboxMsg), s.mgmt.toMg = some m → s.power.tailstock = true → s.mgmt.resetting = false →
    let taken := { s.mgmt with toMg := none }
    let seq := BitVec.ofNat 16 (fld m 2 2)
    (fld m 0 1 = 1 →
      (∀ r, s.mgmt.retainedReply = some (seq, r) →
        exec .opRequest s = .next { s with mgmt := { taken with outbox := s.mgmt.outbox ++ [r] } }) ∧
      ((∀ r, s.mgmt.retainedReply ≠ some (seq, r)) → fld m 1 1 ≠ 0x59 → fld m 1 1 ≠ 0x5A →
        ∃ body : List Byte, body.length = 56 ∧ bytesToNat body = fld m 8 56 ∧
          exec .opRequest s = .next { s with mgmt := { taken with
            jop := some { opcode := BitVec.ofNat 8 (fld m 1 1), seq := seq, body := body, data := [] } } }) ∧
      ((∀ r, s.mgmt.retainedReply ≠ some (seq, r)) →
        (fld m 1 1 = 0x59 ∧ s.firmware.session.state ≠ .complete ∨
          fld m 1 1 = 0x5A ∧ (bootWinner s.firmware).state = .confirmed) →
        ∃ t r, exec .opRequest s = .next t ∧ t.mgmt.outbox = s.mgmt.outbox ++ [r] ∧ fld r 0 1 = 0x81 ∧
          fld r 2 2 = fld m 2 2 ∧ fld r 4 1 = 0x12 ∧ fld r 5 1 = 0x24 ∧ t.mgmt.retainedReply = some (seq, r) ∧
          t.mgmt.toMg = none ∧ t.firmware = s.firmware ∧ t.dev = s.dev)) ∧
    (∀ o : JOp, fld m 0 1 = 2 → s.mgmt.jop = some o → o.opcode = 0x58 → o.seq = seq → fld m 8 4 = o.data.length →
      o.data.length + 52 < bytesToNat ((o.body.drop 20).take 4) →
      ∃ o', exec (.mbxData true) s = .next { s with mgmt := { taken with jop := some o' } } ∧ o'.opcode = o.opcode ∧
        o'.seq = o.seq ∧ o'.body = o.body ∧ o'.data.length = o.data.length + 52 ∧ o'.data.take o.data.length = o.data ∧
        bytesToNat (o'.data.drop o.data.length) = fld m 12 52) ∧
    (fld m 0 1 = 3 →
      let v := BitVec.ofNat 32 (fld m 8 4)
      (fld m 12 1 = 1 → exec .regWrite s = .next { s with mgmt := { taken with
        ffrCmd := true, latchFfr := if s.mgmt.latchFfr = some v then none else s.mgmt.latchFfr } }) ∧
      (fld m 12 1 ≠ 1 → exec .regWrite s = .next { s with mgmt := { taken with
        hpCmd := some v, latchHp := if s.mgmt.latchHp = some v then none else s.mgmt.latchHp } })) ∧
    (fld m 0 1 = 4 → ∃ t x, exec .alert s = .next t ∧ t.mgmt.toMg = none ∧ t.mgmt.crumbs.getLast? = some x ∧
      x.location.toNat = fld m 8 2 ∧ x.severity.toNat = fld m 10 1 ∧ t.mgmt.crumbCount = s.mgmt.crumbCount + 1 ∧
      t.faults = s.faults ∧ t.dev = s.dev)) ∧
  (∀ (s : State) (bs : List Byte), s.running = true → s.power.tailstock = true → s.mgmt.resetting = false →
    s.mgmt.toMg = none → s.mgmt.awaitNotice = false → s.faults.alerts = [] → s.mgmt.latchHp = none → s.mgmt.latchFfr = none →
    s.mgmt.doeOut = [] → bs.length = 56 →
    (∃ t, exec (.doeSpdm (some bs) false) s = .next t ∧ t.mgmt.doe = s.mgmt.doe ++ bs ∧ t.mgmt.toMg = none ∧
      t.mgmt.doeOut = [] ∧ t.mgmt.outbox = s.mgmt.outbox ∧ t.dev = s.dev) ∧
    (s.mgmt.doe = [] → bs.getD 1 0 = 0x84 →
      ∃ t r, exec (.doeSpdm (some bs) true) s = .next t ∧ t.mgmt.doe = [] ∧ t.mgmt.outbox = s.mgmt.outbox ++ [r] ∧
        fld r 0 1 = 5 ∧ fld r 8 3 = 0x120410 ∧ t.mgmt.spdmVersion = true ∧ t.mgmt.spdmCaps = false ∧
        t.mgmt.spdmAlgs = false)) ∧
  (∀ (s : State) (m : MboxMsg), s.mgmt.toDp = some m → s.running = true →
    let seq := BitVec.ofNat 16 (fld m 2 2)
    (fld m 0 1 = 5 → exec (.doeSpdm none true) s = .next { s with mgmt := { s.mgmt with toDp := none } }) ∧
    (∀ (q : MgmtOp) (o : Op), s.mgmt.ops = [q] → q.seq = seq → q.entry < 512 → s.op q.entry = some o →
      (fld m 0 1 = 2 → fld m 8 4 + 52 ≤ 4096 → s.dev.wf = true →
        Plain s .kernels (fld o.desc 16 6 + fld m 8 4) 52 →
        ∃ t, exec (.mbxData false) s = .next t ∧ t.mgmt.toDp = none ∧
          bytesToNat (t.dev.readN (fld o.desc 16 6 + fld m 8 4) 52) = fld m 12 52 ∧
          (∀ x, x < fld o.desc 16 6 + fld m 8 4 ∨ fld o.desc 16 6 + fld m 8 4 + 52 ≤ x → t.dev.read x = s.dev.read x) ∧
          t.op q.entry = some { o with progress := fld m 8 4 + 52 } ∧ t.mgmt.ops = s.mgmt.ops) ∧
      (fld m 0 1 = 0x81 → o.flush = [] → EndsAlone s → s.mgmt.replyReset = false →
        ∃ t, exec .opReply s = .next t ∧ t.mgmt.toDp = none ∧ t.mgmt.ops = [] ∧ t.dev = s.dev ∧ t.keep = s.keep ∧
          (fld m 4 1 = 0 → Ended t q.entry o Result.ok) ∧
          (fld m 4 1 ≠ 0 → Ended t q.entry o (Result.refused (BitVec.ofNat 8 (fld m 4 1)) (BitVec.ofNat 8 (fld m 5 1)))) ∧
          (0x58 ≤ fld m 1 1 → fld m 1 1 ≤ 0x5A → t.firmware.status = BitVec.ofNat 64 (fld m 8 8)))) ∧
    (fld m 0 1 = 0x83 →
      ∃ t, exec .assureNotice s = .next t ∧ t.mgmt.toDp = none ∧
        t.mgmt.assure = ((fld m 8 1).testBit 0 && s.mgmt.holdAssure) ∧
        (t.mgmt.assure ≠ s.mgmt.assure → t.queue.event.getLsbD 4 = true) ∧ t.mgmt.holdAssure = s.mgmt.holdAssure ∧
        t.dev = s.dev ∧ t.cache = s.cache) ∧
    (fld m 0 1 = 0x84 → s.firmware.imageTaken = true →
      exec .resetNotice s = .next { s with
        mgmt := { s.mgmt with
          toDp := none, awaitNotice := false, ops := s.mgmt.ops.map fun q => { q with sent := false, offset := 0 } }
        firmware := { s.firmware with
          status := BitVec.ofNat 64 (fld m 8 8)
          ohmimRevoked := s.firmware.ohmimRevoked ||| BitVec.ofNat 2 (fld m 16 1) } })) ∧
  (∀ s : State,
    exec .mbxTake s = .next { s with mgmt := { s.mgmt with toMg := none } } ∧
    (s.mgmt.toDp = none → exec .mbxSend s = .next { s with mgmt := { s.mgmt with toDp := some s.jiman.mbxOut } }) ∧
    (s.mgmt.toDp ≠ none → exec .mbxSend s = .next s))

/-- PUB_WRITE of 1 to 5 publishes the staged word there, a dirty-limit word with a new tick ends staleness, and any
other value does nothing. WDOG refreshes the watchdog. FLASH_COMMAND starts an operation in the bank of its address
if none runs, and FLASH_OPERATION_DONE ends it with line 6: an erased word above the boot monitor takes the 14 data
bits, a sector above it reads erased, and every other word stays; the boot monitor's words never change.
SIGNATURE_COMMAND passes the image of manufacture with a correct header and fails one with a wrong header.
BLOW_REVOKE sets its fuse and no other. ONESHOT_TIMER_EXPIRY of a loaded timer clears it and raises line 7.
TICK_LO_READ gives the low half of the tick and latches the high half.
It is concluded, under conditions on the state and the operands alone, that each of these commands answers a next
state: PUB_WRITE, WDOG, FLASH_COMMAND, FLASH_OPERATION_DONE, SIGNATURE_COMMAND, BLOW_REVOKE, ONESHOT_TIMER_EXPIRY,
TICK_LO_READ. [14_management_plane Table 14.6, 01_one_thread_one_lattice R14, 15_jiman_instruction_set Table 15.7, 16_firmware_and_settings R404, 16_firmware_and_settings R407, 16_firmware_and_settings R408, 21_setup_registers R511, 21_setup_registers Table 21.10] -/
def Obligations.PortsOfTheJiman : Prop :=
  ∀ s : State,
    (∀ k : Fin 5, 0 < k.val →
      exec (.pubWrite (BitVec.ofNat 16 (k + 1))) s = .next { s with mgmt := { s.mgmt with words := s.mgmt.words.set k s.jiman.stage } }) ∧
    (∃ t, exec (.pubWrite 1) s = .next t ∧ t.mgmt.words = s.mgmt.words.set 0 s.jiman.stage ∧
      (bitsOf s.mgmt.words[0].toNat 32 16 ≠ bitsOf s.jiman.stage.toNat 32 16 →
        t.mgmt.stale = false ∧ t.limit = bitsOf s.jiman.stage.toNat 0 23) ∧
      (bitsOf s.mgmt.words[0].toNat 32 16 = bitsOf s.jiman.stage.toNat 32 16 → t.mgmt.stale = s.mgmt.stale) ∧ t.dev = s.dev) ∧
    (∀ v : W16, v.toNat = 0 ∨ 5 < v.toNat → exec (.pubWrite v) s = .next s) ∧
    exec .wdog s = .next { s with mgmt := { s.mgmt with wdogAt := s.clocks.timebase } } ∧
    (∀ op : FlashOp, s.jiman.flashBusy = none →
      exec (.flashCommand op) s = .next { s with jiman := { s.jiman with
        flashCmd := (match op with | .program => 0 | .eraseSector => 1 | .eraseBank => 2)
        flashBusy := some (s.jiman.flashAddr.getLsbD 16) } }) ∧
    (∀ (op : FlashOp) (b : Bool), s.jiman.flashBusy = some b → exec (.flashCommand op) s = .next s) ∧
    (∀ b : Bool, s.jiman.flashBusy = some b → s.jiman.flash.wf = true →
      let a := s.jiman.flashAddr.toNat % 131072
      ∃ t, exec .flashOperationDone s = .next t ∧ t.jiman.flashBusy = none ∧
        t.jiman.intPend = s.jiman.intPend ||| 0x40 ∧ t = { s with jiman := t.jiman } ∧
        (∀ k < 0x1000, flashWord t.jiman.flash k = flashWord s.jiman.flash k) ∧
        (s.jiman.flashCmd = 0 → 0x1000 ≤ a → flashWord s.jiman.flash a = 0x3FFF →
          flashWord t.jiman.flash a = s.jiman.flashData.setWidth 14 ∧
          ∀ k, k ≠ a → flashWord t.jiman.flash k = flashWord s.jiman.flash k) ∧
        (s.jiman.flashCmd = 1 → 0x1000 ≤ a →
          (∀ k, a / 4096 = k / 4096 → flashWord t.jiman.flash k = 0x3FFF) ∧
          (∀ k, a / 4096 ≠ k / 4096 → flashWord t.jiman.flash k = flashWord s.jiman.flash k))) ∧
    (let slot := decide (0x10000 ≤ s.jiman.sigAddr.toNat)
     let h := if s.firmware.session.state ≠ .none ∧ s.firmware.session.target = slot then s.firmware.session.header
       else slotHeader s.firmware slot
     ∃ v, exec .signatureCommand s = .next { s with jiman := { s.jiman with sigResult := some v } } ∧
      (fld (h.setWidth 512) 0 4 ≠ 0x57465354 → v = false) ∧
      (s.firmware.factory[slot.toNat]? = some true → headerOk h = true → v = true)) ∧
    (∀ k : Fin 2, ∃ t, exec (.blowRevoke k) s = .next t ∧ t.firmware.revoked.getLsbD k = true ∧
      (∀ j : Fin 2, j ≠ k → t.firmware.revoked.getLsbD j = s.firmware.revoked.getLsbD j) ∧
      t = { s with firmware := { s.firmware with revoked := t.firmware.revoked } }) ∧
    (s.jiman.oneshot ≠ 0 →
      exec .oneshotTimerExpiry s = .next { s with jiman := { s.jiman with oneshot := 0, intPend := s.jiman.intPend ||| 0x80 } }) ∧
    (s.jiman.oneshot = 0 → exec .oneshotTimerExpiry s = .next s) ∧
    (∀ d : BitVec 3,
      exec (.tickLoRead d) s = .next { s with jiman := { s.jiman with
        tickHi := s.mgmt.tick.extractLsb' 16 16
        regs := { s.jiman.regs with d := s.jiman.regs.d.set d.toNat (s.mgmt.tick.extractLsb' 0 16) d.isLt } } })

/-- On a powered Tailstock that is not resetting: ENTDAA takes the address on I3C; Set and Get Endpoint ID, version,
message type and vendor-defined support are answered (their codes are the standard's, log entry 26). With an
endpoint ID, outside recovery: PLDM base commands, the sensors of the pack, the limit, the throttle level and the
states, and SetEventReceiver are answered; SPDM GET_VERSION starts a connection, GET_CAPABILITIES and
NEGOTIATE_ALGORITHMS follow in order, digests, certificate, challenge and measurements are answered only after them,
and a request out of order is an error; Breadcrumb read gives the entry at its index or none, first-fault read its
64 bytes, first-fault clear empties it, and Settings Read gives every item. Only the messages sent, what the command
sets and the count of free values change. [14_management_plane R371, 14_management_plane R372, 14_management_plane R373, 14_management_plane R375, 14_management_plane R376, 14_management_plane Table 14.14, 16_firmware_and_settings R420] -/
def Obligations.TheSidebandAnswers : Prop :=
  ∀ s : State, s.power.tailstock = true → s.mgmt.resetting = false → s.firmware.recovery = false →
    let said (m : Mgmt) (n : Nat) (kind : Byte) (data : List Byte) : State :=
      { s with mgmt := { m with side := s.mgmt.side ++ [{ kind := kind, data := data }] }, freeCtr := s.freeCtr + n }
    let m := s.mgmt
    (∀ a : Byte, exec (.entdaa a) s = .next (if m.i3c then { s with mgmt := { m with dynAddr := some a } } else s)) ∧
    (∀ e : Byte, exec (.setEndpointId e) s = .next (said { m with eid := e } 0 0 [1, 0, 0, e])) ∧
    exec .getEndpointId s = .next (said m 0 0 [2, 0, m.eid]) ∧
    (∃ v : List Byte, v.length = 4 ∧ exec .getMctpVersionSupport s = .next (said m 1 0 ([4, 0, 1] ++ v))) ∧
    exec .getMessageTypeSupport s = .next (said m 0 0 [5, 0, 4, 0x00, 0x01, 0x05, 0x7E]) ∧
    exec .getVendorDefinedMessageSupport s = .next (said m 0 0 [6, 0, 0xFF, 0, 0x1F, 0x7A]) ∧
    (m.eid = 0 → exec .getVersion s = .next s ∧ exec .firstFaultRead s = .next s) ∧
    (m.eid ≠ 0 →
      (∀ c : Byte, exec (.pldmBaseCommand c) s = .next (said m 0 1 [0, c, 0])) ∧
      (∀ (x : PldmSensor) (v : Nat),
        (x, v) ∈ [(PldmSensor.packEnergy, s.gauge.energy), (.packSoc, s.gauge.sRep), (.inputPower, m.power.headD 0),
          (.dirtyLimit, bitsOf m.words[0].toNat 0 23 / 256), (.throttleLevel, m.driven.toNat), (.assurance, m.holdAssure.toNat),
          (.assuranceLockout, m.assureLock.toNat), (.trip, m.trip.toNat), (.packPresence, s.gauge.present.toNat)] →
        exec (.pldmSensorRead x) s = .next (said m 1 1 ([2, 0] ++ natToBytes v 4))) ∧
      (∀ n : Fin 24, exec (.pldmSensorRead (.temperature n)) s =
        .next (said m 1 1 ([2, 0] ++ natToBytes (BitVec.ofInt 32 m.sensors[n].value).toNat 4))) ∧
      (∀ r : Byte, exec (.setEventReceiver r) s = .next (said { m with eventReceiver := some r } 0 1 [2, 4, 0])) ∧
      exec .getVersion s = .next (said { m with spdmVersion := true, spdmCaps := false, spdmAlgs := false } 0 5 [0x10, 4, 0x12]) ∧
      exec .getCapabilities s = .next (if m.spdmVersion then said { m with spdmCaps := true } 0 5 [0x12, 0x61]
        else said m 0 5 [0x12, 0x7F]) ∧
      exec .negotiateAlgorithms s = .next (if m.spdmCaps then said { m with spdmAlgs := true } 0 5 [0x12, 0x63]
        else said m 0 5 [0x12, 0x7F]) ∧
      (∀ c code n, (c, code, n) ∈ [(Instr.getDigests, (0x01 : Byte), 48), (.getCertificate, 0x02, 64), (.challenge, 0x03, 96),
          (.getMeasurements, 0x60, 192)] →
        (m.spdmAlgs = false → exec c s = .next (said m 0 5 [0x12, 0x7F])) ∧
        (m.spdmAlgs = true → ∃ d : List Byte, d.length = n ∧ exec c s = .next (said m 1 5 ([0x12, code] ++ d)))) ∧
      (∀ (i : BitVec 12) (c : Crumb), m.crumbCount.toNat = m.crumbs.length → m.crumbs.length ≤ 4096 →
        (m.crumbs[i.toNat]? = some c → exec (.breadcrumbRead i) s = .next (said m 0 0x7E (0 :: (natToBytes c.tick.toNat 4 ++
          natToBytes c.location.toNat 2 ++ [c.severity, c.event] ++ natToBytes c.data.toNat 8)))) ∧
        (m.crumbs.length ≤ i.toNat → exec (.breadcrumbRead i) s = .next (said m 0 0x7E [1]))) ∧
      exec .firstFaultRead s = .next (said m 0 0x7E (0 :: natToBytes (m.ffr.getD 0).toNat 64)) ∧
      exec .firstFaultClear s = .next (said { m with ffr := none } 0 0x7E [0]) ∧
      (let x := s.firmware.inUse
       exec .settingsRead s = .next (said m 0 0x7E (0 :: (natToBytes x.keepEnabled.toNat 1 ++ natToBytes x.bar4Enc 1 ++
         natToBytes x.window.toNat 8 ++ natToBytes x.lanes.toNat 2 ++ natToBytes x.uuid.toNat 16 ++ natToBytes x.smbus.toNat 1)))))

/-- RequestUpdate opens an update, or is refused in PROBATION and while the admin ring's session is OPEN;
PassComponentTable and UpdateComponent follow in order and are refused otherwise. A first piece at offset 0 opens a
session on the inactive slot, erases that slot with its header record, and keeps its 512 bytes as the header; a
later piece below the image's end programs its words and marks its units. ActivateFirmware of an applied, complete
session makes the target the active slot in PROBATION with the old one as its previous, closes the session, logs the
activation and asks for a management reset. CancelUpdate discards the session. Settings Write of legal items writes
them as a new copy of the active settings slot, which holds them from then on; an illegal one changes nothing but
the answer.
It is concluded, under conditions on the state and the operands alone, that each of these commands answers a next
state: REQUEST_UPDATE, PASS_COMPONENT_TABLE, UPDATE_COMPONENT, REQUEST_FIRMWARE_DATA, ACTIVATE_FIRMWARE,
CANCEL_UPDATE, SETTINGS_WRITE. [16_firmware_and_settings R409, 16_firmware_and_settings R412, 16_firmware_and_settings R413, 16_firmware_and_settings R414, 16_firmware_and_settings R417, 16_firmware_and_settings R420, 16_firmware_and_settings Table 16.5] -/
def Obligations.FirmwareUpdateAndSettingsWrite : Prop :=
  ∀ s : State, s.power.tailstock = true → s.mgmt.resetting = false → s.firmware.recovery = false → s.mgmt.eid ≠ 0 →
    let f := s.firmware
    let w := bootWinner f
    let said (g : Firmware) (kind : Byte) (data : List Byte) : State :=
      { s with firmware := g, mgmt := { s.mgmt with side := s.mgmt.side ++ [{ kind := kind, data := data }] } }
    let owned : Session := { f.session with pldm := true }
    ((f.session.state = .open ∧ f.session.pldm = false) ∨ w.state = .probation →
      exec .requestUpdate s = .next (said f 1 [5, 0x10, 0x8A])) ∧
    (f.session.state ≠ .open ∨ f.session.pldm = true → w.state ≠ .probation →
      exec .requestUpdate s = .next (said { f with pldm := .learn, session := owned } 1 [5, 0x10, 0])) ∧
    exec .passComponentTable s = .next (if f.pldm = .learn then said { f with pldm := .ready, session := owned } 1 [5, 0x13, 0]
      else said f 1 [5, 0x13, 0x80]) ∧
    exec .updateComponent s = .next (if f.pldm = .ready then said { f with pldm := .download, session := owned } 1 [5, 0x14, 0]
      else said f 1 [5, 0x14, 0x80]) ∧
    (∀ data : List Byte, f.pldm = .download → w.state ≠ .probation → f.session.state ≠ .open → data.length = 512 →
      bytesToNat ((data.drop 12).take 4) ≠ 0 →
      ∃ t, exec (.requestFirmwareData 0 data) s = .next t ∧ t.firmware.session.state = .open ∧
        t.firmware.session.target = !w.active ∧ t.firmware.session.codeWords = bytesToNat ((data.drop 12).take 4) ∧
        hbytes t.firmware.session.header 0 512 = data ∧ (∀ u < 2048, t.firmware.session.units.getLsbD u = decide (u < 8)) ∧
        t.firmware.headers[(!w.active).toNat]? = some none ∧ t.firmware.headers[w.active.toNat]? = f.headers[w.active.toNat]? ∧
        (∀ k, slotBase (!w.active) ≤ k → k < slotBase (!w.active) + 61440 → flashWord t.jiman.flash k = 0x3FFF) ∧
        (∀ k, k < slotBase (!w.active) ∨ slotBase (!w.active) + 61440 ≤ k →
          flashWord t.jiman.flash k = flashWord s.jiman.flash k) ∧ t.firmware.boot = f.boot ∧ t.firmware.pldm = .download) ∧
    (∀ (u : Nat) (data : List Byte), f.pldm = .download → w.state ≠ .probation → f.session.state = .open →
      f.session.pldm = true → 8 ≤ u → data.length = 64 → 64 * u + 64 ≤ 512 + 2 * min f.session.codeWords 61440 →
      s.jiman.flash.wf = true →
      let base := slotBase f.session.target + 32 * (u - 8)
      (∀ k < 32, flashWord s.jiman.flash (base + k) = 0x3FFF) →
      (∃ v, v ≠ u ∧ 64 * v < 512 + 2 * min f.session.codeWords 61440 ∧ f.session.units.getLsbD v = false) →
      ∃ t, exec (.requestFirmwareData (64 * u) data) s = .next t ∧ t.firmware.session.state = .open ∧
        (∀ k < 32, flashWord t.jiman.flash (base + k) =
          BitVec.ofNat 14 ((data.getD (2 * k) 0).toNat + 256 * (data.getD (2 * k + 1) 0).toNat)) ∧
        (∀ k, k < base ∨ base + 32 ≤ k → flashWord t.jiman.flash k = flashWord s.jiman.flash k) ∧
        (∀ v < 2048, t.firmware.session.units.getLsbD v = (f.session.units.getLsbD v || decide (v = u))) ∧
        t.firmware.boot = f.boot ∧ t.firmware.headers = f.headers ∧ t.mgmt = s.mgmt) ∧
    (f.pldm = .applied → f.session.state = .complete →
      ∃ t, exec .activateFirmware s = .next t ∧
        bootWinner t.firmware = { w with
          seq := w.seq + 1, actSeq := w.seq + 1, active := f.session.target, activeSettings := !w.activeSettings
          previous := w.active, previousSettings := w.activeSettings, state := .probation, boots := 0, rolledBack := false
          recovery := false } ∧
        t.firmware.session.state = .none ∧ t.firmware.pldm = .idle ∧ t.mgmt.resetAsked = true ∧
        t.mgmt.crumbCount = s.mgmt.crumbCount + 1 ∧ t.firmware.slots = f.slots ∧ t.jiman = s.jiman ∧ t.dev = s.dev) ∧
    (¬(f.pldm = .applied ∧ f.session.state = .complete) → exec .activateFirmware s = .next (said f 1 [5, 0x1A, 0x80])) ∧
    exec .cancelUpdate s = .next (if f.pldm = .idle then said f 1 [5, 0x1D, 0x80]
      else said { f with pldm := .idle, session := { f.session with state := .none } } 1 [5, 0x1D, 0]) ∧
    (∀ (keepOn : Option Bool) (bar4 : Option Nat) (window : Option W64) (smbus : Option (BitVec 7)),
      f.unreadable = false → bitsOf (window.getD f.inUse.window).toNat 0 9 = 0 → (∀ e, bar4 = some e → 10 ≤ e ∧ e ≤ 19) →
      (∀ a, smbus = some a → 0x08 ≤ a.toNat ∧ a.toNat ≤ 0x77) →
      let items : Settings := { f.inUse with
        keepEnabled := keepOn.getD f.inUse.keepEnabled, bar4Enc := bar4.getD f.inUse.bar4Enc
        window := window.getD f.inUse.window, smbus := smbus.getD f.inUse.smbus }
      ∃ t, exec (.settingsWrite keepOn bar4 window smbus) s = .next t ∧ t.firmware.inUse = items ∧
        t.mgmt.side = s.mgmt.side ++ [{ kind := 0x7E, data := [0] }] ∧ t.firmware.boot = f.boot ∧ t.firmware.image = f.image ∧
        t.power = s.power ∧
        ∀ c, slotContent f w.activeSettings = some c →
          slotContent t.firmware w.activeSettings = some { c with copySeq := c.copySeq + 1, items := items }) ∧
    (∀ a : BitVec 7, a.toNat < 0x08 ∨ 0x77 < a.toNat →
      exec (.settingsWrite none none none (some a)) s = .next (said f 0x7E [1]))

/-- Where the host reaches BAR0: a 4-byte read of CK_TIMEBASE's low half answers it and latches the high half of that
moment, a read of the high half answers the latched value and frees the latch, or else the current one; MG_FFR_CLEAR
with the confirmation value is latched for the Jiman and any other value is dropped. REGISTER_WRITE clears exactly
the QE_EVENT bits written as 1, sets QE_EVENT_ENABLE and FORCE_WT, replaces only the half of a register that it
covers, lets HL_BAR4_BASE change in WARM alone, splits a longer write by slots, and drops a misaligned or odd one;
where the host does not reach BAR0 it does nothing. A running Turner at S has a latch of its own, writes NF_BIAS and
TC_TILE_OWNER except for reserved owners, and SP_SLOTS only while the Spindle is disabled and idle; elsewhere its
write does nothing. The write of NF_BIAS is stated with no tile instruction in flight.
It is concluded, under conditions on the state and the operands alone, that each of these commands answers a next
state: MG_FFR_CLEAR, CK_TIMEBASE_READ, REGISTER_WRITE. [21_setup_registers R498, 21_setup_registers R499, 21_setup_registers R501, 21_setup_registers R502, 21_setup_registers R509, 21_setup_registers R510, 21_setup_registers Table 21.1, 21_setup_registers Table 21.9, 03_descriptor_rings R93, 09_spindle R238] -/
def Obligations.RegisterWritesAndTheTimebaseLatch : Prop :=
  (∀ s : State, s.running = true → s.link.up = true → s.link.cfg.memEnable = true → s.link.cfg.d3hot = false →
    let now := s.clocks.timebase
    let answered (c : Clocks) (data : List Byte) : State :=
      { s with clocks := c, link := { s.link with sent := s.link.sent ++ [.completion data false] } }
    exec (.ckTimebaseRead true false) s = .next (answered { s.clocks with latchHost := some (now.extractLsb' 32 32) }
      (natToBytes (now.toNat % 2 ^ 32) 4)) ∧
    (∀ v, s.clocks.latchHost = some v →
      exec (.ckTimebaseRead true true) s = .next (answered { s.clocks with latchHost := none } (natToBytes v.toNat 4))) ∧
    (s.clocks.latchHost = none →
      exec (.ckTimebaseRead true true) s = .next (answered s.clocks (natToBytes (now.toNat / 2 ^ 32) 4))) ∧
    (∀ v : W32, exec (.mgFfrClear v) s =
      .next (if v = 0x46465243 then { s with mgmt := { s.mgmt with latchFfr := some v } } else s)) ∧
    (∀ v : W32,
      exec (.registerWrite false 0x20020 (natToBytes v.toNat 4)) s =
        .next { s with queue := { s.queue with event := s.queue.event &&& ~~~v } } ∧
      exec (.registerWrite false 0x20028 (natToBytes v.toNat 4)) s =
        .next { s with queue := { s.queue with eventEnable := v &&& 0x1FF } } ∧
      exec (.registerWrite false 0x90010 (natToBytes v.toNat 4)) s =
        .next { s with cache := { s.cache with forceWt := v.getLsbD 0 } } ∧
      exec (.registerWrite false 0x2002A (natToBytes v.toNat 4)) s = .next s ∧
      exec (.registerWrite false 0x20028 (natToBytes v.toNat 2)) s = .next s) ∧
    (∀ n : Fin 8, s.power.state = .warm → ∀ v : W32,
      let merged : BitVec 64 := (v &&& 0xFFFF) ++ (s.scale.peerBase[n].extractLsb' 0 32 &&& 0xFFFFF003)
      exec (.registerWrite false (BitVec.ofNat 26 (0x10100 + 16 * n + 4)) (natToBytes v.toNat 4)) s =
        .next { s with scale := { s.scale with peerBase := s.scale.peerBase.set n merged } }) ∧
    (∀ v : W64,
      (s.power.state = .warm → exec (.registerWrite false 0x10000 (natToBytes v.toNat 8)) s =
        .next { s with link := { s.link with bar4Base := v.extractLsb' 30 18 } }) ∧
      (s.power.state ≠ .warm → exec (.registerWrite false 0x10000 (natToBytes v.toNat 8)) s = .next s)) ∧
    (∀ v w : W64, exec (.registerWrite false 0x20020 (natToBytes v.toNat 8 ++ natToBytes w.toNat 8)) s =
      .next { s with queue := { s.queue with
        event := s.queue.event &&& ~~~(v.extractLsb' 0 32), eventEnable := w.extractLsb' 0 32 &&& 0x1FF } })) ∧
  (∀ (s : State) (off : BitVec 26) (data : List Byte) (v : W32) (h : Bool),
    s.link.up = false ∨ s.link.cfg.memEnable = false ∨ s.link.cfg.d3hot = true →
    exec (.registerWrite false off data) s = .next s ∧ exec (.ckTimebaseRead true h) s = .next s ∧
      exec (.mgFfrClear v) s = .next s) ∧
  (∀ s : State,
    (s.turner.cstat.priv = false ∨ s.turner.mode ≠ .running → ∀ (off : BitVec 26) (data : List Byte) (h : Bool),
      exec (.registerWrite true off data) s = .next s ∧ exec (.ckTimebaseRead false h) s = .next s) ∧
    (runtimeWrites s = true →
      exec (.ckTimebaseRead false false) s = .next { s with clocks := { s.clocks with
        latchTurner := some (s.clocks.timebase.extractLsb' 32 32) } } ∧
      exec (.ckTimebaseRead false true) s = .next { s with clocks := { s.clocks with latchTurner := none } } ∧
      (∀ v : W64, v.toNat % 1024 < 0x200 ∨ v.toNat % 1024 = 0x3FF →
        exec (.registerWrite true 0x40050 (natToBytes v.toNat 8)) s =
          .next { s with turner := { s.turner with tileOwner := v.extractLsb' 0 10 } }) ∧
      (∀ v : W64, 0x200 ≤ v.toNat % 1024 → v.toNat % 1024 ≠ 0x3FF →
        exec (.registerWrite true 0x40050 (natToBytes v.toNat 8)) s = .next s) ∧
      (∀ (n : Fin 2048) (v : W64), s.finish.bias.wf = true → s.lattice.flight = [] →
        ∃ t, exec (.registerWrite true (BitVec.ofNat 26 (0x60000 + 8 * n)) (natToBytes v.toNat 8)) s = .next t ∧
          t.finish.bias.readLE (8 * n) 8 = v.toNat ∧
          (∀ x, x < 8 * n.val ∨ 8 * n.val + 8 ≤ x → t.finish.bias.read x = s.finish.bias.read x) ∧
          t = { s with finish := { s.finish with bias := t.finish.bias } }) ∧
      (∀ v : W64, v.toNat % 4096 + v.toNat / 65536 % 8192 ≤ 4096 → s.spindle.enable = false → s.spindle.running = [] →
        exec (.registerWrite true 0x70020 (natToBytes v.toNat 8)) s = .next { s with spindle := { s.spindle with
          slotFirst := v.extractLsb' 0 12, slotCount := v.toNat / 65536 % 8192 } }) ∧
      (∀ v : W64, s.spindle.enable = true →
        exec (.registerWrite true 0x70020 (natToBytes v.toNat 8)) s = .next s)))

/-- For every such instruction that executes, also in a delay slot and at the end of a repeated body: its destination
takes the result of Tables 15.5 and 15.6, and nothing else changes but pc and, at a repeat's end, the repeat.
Results wrap modulo 2^16 unless the operation saturates; shifts by 16 or more give 0 or copies of the sign; an
immediate takes the 11 bits of a waiting prefix above its own. The fractional product is 2 x dx x dy; accumulator
sums clamp to 40 bits; MVAC rounds by st.RM, to nearest with ties up, convergent, or down, and clamps; DIVS is one
step of restoring division; MVR reads a system register. [15_jiman_instruction_set R381, 15_jiman_instruction_set R382, 15_jiman_instruction_set R387, 15_jiman_instruction_set R388, 15_jiman_instruction_set R389, 15_jiman_instruction_set R390, 15_jiman_instruction_set Table 15.2, 15_jiman_instruction_set Table 15.5, 15_jiman_instruction_set Table 15.6] -/
def Obligations.JimanArithmeticWritesItsRegister : Prop :=
  ∀ (s : State), JReady s →
    let r := s.jiman.regs
    let toD (d : BitVec 3) (v : W16) : State := jEnded s { r with d := r.d.set d.toNat v d.isLt }
    let toA (a : BitVec 3) (v : W16) : State := jEnded s { r with a := r.a.set a.toNat v a.isLt }
    let toAc (x : Bool) (v : BitVec 40) : State := jEnded s { r with ac := r.ac.setIfInBounds x.toNat v }
    let sat (v : Int) : W16 := BitVec.ofInt 16 (max (-32768) (min 32767 v))
    let satAc (v : Int) : BitVec 40 := BitVec.ofInt 40 (max (-(2 ^ 39)) (min (2 ^ 39 - 1) v))
    (∀ (d a : BitVec 3) (i6 : BitVec 6) (i5 : BitVec 5),
      exec (.jimanMovi d i6) s = .next (toD d (jSigned s i6)) ∧
      exec (.jimanAddi d i6) s = .next (toD d (s.jd d + jSigned s i6)) ∧
      exec (.jimanAdda a i5) s = .next (toA a (s.ja a + jSigned s i5)) ∧
      exec (.jimanMovia a i5) s = .next (toA a (jSigned s i5))) ∧
    (s.jiman.pfx = none →
      (∀ d e : BitVec 3,
        let x := s.jd d
        let y := s.jd e
        let n := y.toNat % 32
        exec (.jimanMov d e) s = .next (toD d y) ∧
        exec (.jimanAdd d e) s = .next (toD d (x + y)) ∧
        exec (.jimanAdds d e) s = .next (toD d (sat (x.toInt + y.toInt))) ∧
        exec (.jimanSub d e) s = .next (toD d (x - y)) ∧
        exec (.jimanSubs d e) s = .next (toD d (sat (x.toInt - y.toInt))) ∧
        exec (.jimanAnd d e) s = .next (toD d (x &&& y)) ∧
        exec (.jimanOr d e) s = .next (toD d (x ||| y)) ∧
        exec (.jimanXor d e) s = .next (toD d (x ^^^ y)) ∧
        exec (.jimanAndn d e) s = .next (toD d (x &&& ~~~y)) ∧
        exec (.jimanShl d e) s = .next (toD d (if n < 16 then x <<< n else 0)) ∧
        exec (.jimanShr d e) s = .next (toD d (if n < 16 then x >>> n else 0)) ∧
        exec (.jimanSar d e) s = .next (toD d (x.sshiftRight (min n 15))) ∧
        exec (.jimanShls d e) s = .next (toD d (sat (x.toInt * 2 ^ n))) ∧
        exec (.jimanMin d e) s = .next (toD d (BitVec.ofInt 16 (min x.toInt y.toInt))) ∧
        exec (.jimanMax d e) s = .next (toD d (BitVec.ofInt 16 (max x.toInt y.toInt))) ∧
        exec (.jimanNeg d e) s = .next (toD d (-y)) ∧
        exec (.jimanNegs d e) s = .next (toD d (sat (-y.toInt))) ∧
        exec (.jimanAbs d e) s = .next (toD d (if y.toInt < 0 then -y else y)) ∧
        exec (.jimanAbss d e) s = .next (toD d (sat (max y.toInt (-y.toInt)))) ∧
        exec (.jimanNot d e) s = .next (toD d (~~~y)) ∧
        (∃ c : W16, exec (.jimanCls d e) s = .next (toD d c) ∧
          c.toNat = ((List.range 15).map fun i => (y.getLsbD i == y.getLsbD 15).toNat).sum) ∧
        exec (.jimanMovda d e) s = .next (toD d (s.ja e)) ∧
        exec (.jimanMovad d e) s = .next (toA d y) ∧
        exec (.jimanMova d e) s = .next (toA d (s.ja e)) ∧
        exec (.jimanAddaD d e) s = .next (toA d (s.ja d + y)) ∧
        exec (.jimanSuba d e) s = .next (toA d (s.ja d - y))) ∧
      (∀ (d : BitVec 3) (n : BitVec 4),
        exec (.jimanShli d n) s = .next (toD d (s.jd d <<< n.toNat)) ∧
        exec (.jimanShri d n) s = .next (toD d (s.jd d >>> n.toNat)) ∧
        exec (.jimanSari d n) s = .next (toD d ((s.jd d).sshiftRight n.toNat)) ∧
        exec (.jimanShlsi d n) s = .next (toD d (sat ((s.jd d).toInt * 2 ^ n.toNat)))) ∧
      (∀ (ac : Bool) (d e : BitVec 3),
        let z := (s.jac ac).toInt
        let o := (s.jac !ac).toInt
        let p := 2 * (s.jd d).toInt * (s.jd e).toInt
        exec (.jimanMpy ac d e) s = .next (toAc ac (BitVec.ofInt 40 p)) ∧
        exec (.jimanMac ac d e) s = .next (toAc ac (satAc (z + p))) ∧
        exec (.jimanMsu ac d e) s = .next (toAc ac (satAc (z - p))) ∧
        exec (.jimanMpyu ac d e) s = .next (toAc ac (BitVec.ofNat 40 ((s.jd d).toNat * (s.jd e).toNat))) ∧
        (r.rm = 0 → exec (.jimanMvac ac d) s = .next (toD d (sat ((z + 0x8000) / 2 ^ 16)))) ∧
        (r.rm = 1 → exec (.jimanMvac ac d) s = .next (toD d (sat (if z % 2 ^ 16 = 0x8000 ∧ z / 2 ^ 16 % 2 = 0 then z / 2 ^ 16
          else (z + 0x8000) / 2 ^ 16)))) ∧
        (r.rm = 2 → exec (.jimanMvac ac d) s = .next (toD d (sat (z / 2 ^ 16)))) ∧
        exec (.jimanMvach ac d) s = .next (toD d (BitVec.ofInt 16 (z / 2 ^ 16))) ∧
        exec (.jimanMvacl ac d) s = .next (toD d (BitVec.ofInt 16 z)) ∧
        exec (.jimanLdac ac d) s = .next (toAc ac (BitVec.ofInt 40 ((s.jd d).toInt * 2 ^ 16))) ∧
        exec (.jimanLdacl ac d) s = .next (toAc ac ((s.jac ac).extractLsb' 16 24 ++ s.jd d)) ∧
        exec (.jimanClrac ac) s = .next (toAc ac 0) ∧
        exec (.jimanNegac ac) s = .next (toAc ac (satAc (-z))) ∧
        exec (.jimanAddac ac) s = .next (toAc ac (satAc (z + o))) ∧
        exec (.jimanSubac ac) s = .next (toAc ac (satAc (z - o))) ∧
        exec (.jimanAbsac ac) s = .next (toAc ac (satAc (max z (-z)))) ∧
        (let t := (s.jac ac).toNat % 2 ^ 32 * 2
         exec (.jimanDivs ac d) s = .next (toAc ac (BitVec.ofNat 40
           ((if (s.jd d).toNat * 2 ^ 16 ≤ t then t - (s.jd d).toNat * 2 ^ 16 + 1 else t) % 2 ^ 32)))) ∧
        ∀ n : BitVec 4,
          (0 ≤ n.toInt → exec (.jimanShac ac n) s = .next (toAc ac (satAc (z * 2 ^ n.toInt.toNat)))) ∧
          (n.toInt < 0 → exec (.jimanShac ac n) s = .next (toAc ac (BitVec.ofInt 40 (z / 2 ^ (-n.toInt).toNat))))) ∧
      (∀ (d : BitVec 3) (n : BitVec 4) (v : W16),
        (n.toNat, v) ∈ [(1, r.rpc), (2, r.rps), (3, r.rpe), (4, BitVec.ofNat 16 r.fpg.toNat), (5, r.vb.setWidth 16), (6, r.gsb),
          (7, r.gsl), (8, r.sgb[0]), (9, r.sgb[1]), (10, r.sgb[2]), (11, r.sgb[3]), (12, r.sgl[0]), (13, r.sgl[1]),
          (14, r.sgl[2]), (15, r.sgl[3]),
          (0, BitVec.ofNat 16 (r.ie.toNat + 2 * r.rm.toNat + 8 * r.g.toNat + 16 * r.ra.toNat))] →
        exec (.jimanMvr d n) s = .next (toD d v)))

/-- LD, LDS, ST and STS through a segment whose limit and mapping pass access the word at base + offset, the offset
being the register plus the prefix or the post-incremented register, and nothing else. LDF reads the word of fpg and
a, and advances a. IN of INT_PEND, INT_EN, TICK_LO, TICK_HI and an undecoded port, and OUT to INT_PEND, INT_EN, the
watchdog and an undecoded port do what Table 15.7 says; MVS writes each system register, st only IE and RM, with RM
3 ignored. MOVB, FILLB and MACB that run k elements before an interrupt, at most rpc, copy, fill or accumulate
exactly k words, advance a4 and a5, lower rpc, and end once rpc is 0 or else stay where they are. [15_jiman_instruction_set R379, 15_jiman_instruction_set R383, 15_jiman_instruction_set R384, 15_jiman_instruction_set R385, 15_jiman_instruction_set R386, 15_jiman_instruction_set R396, 15_jiman_instruction_set Table 15.2, 15_jiman_instruction_set Table 15.3, 15_jiman_instruction_set Table 15.7] -/
def Obligations.JimanMemoryPortsAndStrings : Prop :=
  ∀ (s : State), JReady s → s.jiman.ram.wf = true →
    let r := s.jiman.regs
    let word (m : Memory) (x : Nat) : W16 := BitVec.ofNat 16 (m.readLE (2 * x) 2)
    let ram := s.jiman.ram
    let withRam (m : Memory) : State := { s with jiman := { s.jiman with ram := m } }
    let putD (d : BitVec 3) (v : W16) (q : JRegs) : JRegs := { q with d := q.d.set d.toNat v d.isLt }
    let putA (a : BitVec 3) (v : W16) (q : JRegs) : JRegs := { q with a := q.a.set a.toNat v a.isLt }
    let stored (t : State) (x : Nat) (v : W16) : Prop :=
      word t.jiman.ram x = v ∧ ∀ y, y ≠ x → word t.jiman.ram y = word ram y
    let stackBase := if r.g then r.gsb else r.sgb[3]
    let stackLimit := if r.g then r.gsl else r.sgl[3]
    let off0 := jSigned s (0 : BitVec 0)
    (∀ (g : Fin 4) (a d : BitVec 3) (x : Nat),
      (JMapped r.sgb[g] r.sgl[g] (s.ja a + off0) x →
        (s.jiman.branch = none →
          exec (.jimanLd false (BitVec.ofNat 2 g) a d false) s = .next (jEnded s (putD d (word ram x) r))) ∧
        ∃ t, exec (.jimanSt false (BitVec.ofNat 2 g) a d) s = .next t ∧ stored t x (s.jd d) ∧
          t = jEnded (withRam t.jiman.ram) r) ∧
      (s.jiman.pfx = none → JMapped r.sgb[g] r.sgl[g] (s.ja a) x →
        (s.jiman.branch = none → exec (.jimanLd true (BitVec.ofNat 2 g) a d false) s =
          .next (jEnded s (putD d (word ram x) (putA a (s.ja a + 1) r)))) ∧
        ∃ t, exec (.jimanSt true (BitVec.ofNat 2 g) a d) s = .next t ∧ stored t x (s.jd d) ∧
          t = jEnded (withRam t.jiman.ram) (putA a (s.ja a + 1) r))) ∧
    (∀ (d : BitVec 3) (off : BitVec 5) (x : Nat), JMapped stackBase stackLimit (s.ja 7 + jUnsigned s off) x →
      (s.jiman.branch = none → exec (.jimanLds d off false) s = .next (jEnded s (putD d (word ram x) r))) ∧
      ∃ t, exec (.jimanSts d off) s = .next t ∧ stored t x (s.jd d) ∧ t = jEnded (withRam t.jiman.ram) r) ∧
    (∀ a d : BitVec 3, s.jiman.branch = none → s.jiman.pfx = none → s.jiman.flashBusy ≠ some r.fpg →
      exec (.jimanLdf a d false) s = .next (jEnded s (putD d
        ((flashWord s.jiman.flash (r.fpg.toNat * 65536 + (s.ja a).toNat)).setWidth 16) (putA a (s.ja a + 1) r)))) ∧
    (∀ (d : BitVec 3) (p : BitVec 3),
      let port := (jUnsigned s p).toNat % 1024
      let v := s.jd d
      (s.jiman.branch = none →
        (port = 0 → exec (.jimanIn d p) s = .next (jEnded s (putD d (s.jiman.intPend.setWidth 16) r))) ∧
        (port = 1 → exec (.jimanIn d p) s = .next (jEnded s (putD d (s.jiman.intEn.setWidth 16) r))) ∧
        (port = 3 → exec (.jimanIn d p) s = .next (jEnded
          { s with jiman := { s.jiman with tickHi := s.mgmt.tick.extractLsb' 16 16 } } (putD d (s.mgmt.tick.extractLsb' 0 16) r))) ∧
        (port = 4 → exec (.jimanIn d p) s = .next (jEnded s (putD d s.jiman.tickHi r))) ∧
        (0x1F0 ≤ port → exec (.jimanIn d p) s = .next (jEnded s (putD d 0 r)))) ∧
      (port = 0 → exec (.jimanOut d p) s = .next (jEnded
        { s with jiman := { s.jiman with intPend := s.jiman.intPend &&& ~~~(v.setWidth 8) } } r)) ∧
      (port = 1 → exec (.jimanOut d p) s = .next (jEnded { s with jiman := { s.jiman with intEn := v.setWidth 8 } } r)) ∧
      (port = 2 → exec (.jimanOut d p) s = .next (jEnded { s with mgmt := { s.mgmt with wdogAt := s.clocks.timebase } } r)) ∧
      (0x1F0 ≤ port → exec (.jimanOut d p) s = .next (jEnded s r))) ∧
    (∀ (n : BitVec 4) (d : BitVec 3), s.jiman.pfx = none →
      let v := s.jd d
      let puts (q : JRegs) : Prop := exec (.jimanMvs n d) s = .next (jEnded s q)
      (r.ra = false →
        (n = 0 → puts { r with ie := v.getLsbD 0, rm := if v.extractLsb' 1 2 = 3 then r.rm else v.extractLsb' 1 2 }) ∧
        (n = 1 → puts { r with rpc := v }) ∧ (n = 2 → puts { r with rps := v }) ∧ (n = 3 → puts { r with rpe := v })) ∧
      (n = 4 → puts { r with fpg := v.getLsbD 0 }) ∧ (n = 5 → puts { r with vb := v.setWidth 14 }) ∧
      (n = 6 → puts { r with gsb := v }) ∧ (n = 7 → puts { r with gsl := v }) ∧
      (∀ g : Fin 4, (n.toNat = 8 + g.val → puts { r with sgb := r.sgb.set g v }) ∧
        (n.toNat = 12 + g.val → puts { r with sgl := r.sgl.set g v }))) ∧
    (∀ (ss sd : Fin 4) (elems : W16), s.jiman.pfx = none → s.jiman.branch = none → r.ra = false →
      let k := min elems.toNat r.rpc.toNat
      let from_ := (s.ja 4).toNat
      let to_ := (s.ja 5).toNat
      let src (i : Nat) := r.sgb[ss].toNat + from_ + i
      let dst (i : Nat) := r.sgb[sd].toNat + to_ + i
      let left (q : JRegs) (m : Memory) (t : State) : Prop :=
        if k = r.rpc.toNat then t = jEnded (withRam m) { q with rpc := 0 }
        else t = { s with jiman := { s.jiman with ram := m, regs := { q with rpc := r.rpc - elems } } }
      (to_ + k ≤ r.sgl[sd].toNat + 1 → dst k ≤ 0x8000 →
        (∀ d : BitVec 3, ∃ t, exec (.jimanFillb (BitVec.ofNat 2 sd) d elems) s = .next t ∧
          (∀ x, dst 0 ≤ x → x < dst k → word t.jiman.ram x = s.jd d) ∧
          (∀ x, x < dst 0 ∨ dst k ≤ x → word t.jiman.ram x = word ram x) ∧
          left (putA 5 (s.ja 5 + BitVec.ofNat 16 k) r) t.jiman.ram t) ∧
        (from_ + k ≤ r.sgl[ss].toNat + 1 → src k ≤ 0x8000 →
          (Apart (src 0) k (dst 0) k →
            ∃ t, exec (.jimanMovb (BitVec.ofNat 2 ss) (BitVec.ofNat 2 sd) elems none) s = .next t ∧
              (∀ i < k, word t.jiman.ram (dst i) = word ram (src i)) ∧
              (∀ x, x < dst 0 ∨ dst k ≤ x → word t.jiman.ram x = word ram x) ∧
              left (putA 4 (s.ja 4 + BitVec.ofNat 16 k) (putA 5 (s.ja 5 + BitVec.ofNat 16 k) r)) t.jiman.ram t) ∧
          (∀ ac : Bool,
            let z := (List.range k).foldl (fun z i =>
              max (-(2 ^ 39)) (min (2 ^ 39 - 1) (z + 2 * (word ram (src i)).toInt * (word ram (dst i)).toInt))) (s.jac ac).toInt
            ∃ t, exec (.jimanMacb ac (BitVec.ofNat 2 ss) (BitVec.ofNat 2 sd) elems none) s = .next t ∧
              left { putA 4 (s.ja 4 + BitVec.ofNat 16 k) (putA 5 (s.ja 5 + BitVec.ofNat 16 k) r) with
                ac := r.ac.setIfInBounds ac.toNat (BitVec.ofInt 40 z) } ram t))))

/-- PFX and CALLM wait for the instruction after them as part of its unit. B, CB, CBZ, DBNZ and BR outside a delay slot
and not at the end of a repeated body give their delay slot next, with the target of a taken branch: pc plus the
field, widened by the prefix, or the bank of pc with a; the conditions of CB and CBZ are those of R391, and DBNZ
lowers its register first. RPT and RPTI of a body in one bank, with no repeat running, set rpc, rps, rpe and RA, and
with count 0 skip the body. NOP does nothing, EI and DI set IE, IDLE waits. A branch, PFX or instruction longer than
a cycle in a delay slot raises SEQUENCE, a branch at a repeat's end and RPT while RA = 1 raise REPEAT: each Guard
fault abandons its unit, writes its frame at the top of the Guard segment and continues at vb x 8 with G = 1. [15_jiman_instruction_set R381, 15_jiman_instruction_set R382, 15_jiman_instruction_set R391, 15_jiman_instruction_set R392, 15_jiman_instruction_set R395, 15_jiman_instruction_set R399, 15_jiman_instruction_set R401, 15_jiman_instruction_set Table 15.13] -/
def Obligations.JimanBranchesRepeatsAndControl : Prop :=
  ∀ (s : State), s.jiman.idle = false → s.power.tailstock = true →
    let r := s.jiman.regs
    let start := s.jiman.unit.getD r
    let opened : Jiman := { s.jiman with unit := some start, regs := { r with pc := r.pc + 1 } }
    let slotted (target : BitVec 17) (v : W16) : BitVec 17 := target + v.signExtend 17
    let word (m : Memory) (x : Nat) : W16 := BitVec.ofNat 16 (m.readLE (2 * x) 2)
    let guarded (cause : Nat) (t : State) : Prop :=
      let top := start.gsb.toNat + start.gsl.toNat
      t.jiman.regs = { start with
        a := start.a.set 7 (start.gsl - 3), g := true, ie := false, pc := BitVec.ofNat 17 (8 * start.vb.toNat) } ∧
      t.jiman.unit = none ∧ t.jiman.pfx = none ∧ t.jiman.callm = none ∧ t.jiman.branch = none ∧
      word t.jiman.ram top = start.a[7] ∧ word t.jiman.ram (top - 1) = start.pc.setWidth 16 ∧
      word t.jiman.ram (top - 2) = BitVec.ofNat 16 (start.ie.toNat + 2 * start.rm.toNat + 16 * start.ra.toNat +
        0x8000 * (start.pc.toNat / 65536)) ∧ word t.jiman.ram (top - 3) = BitVec.ofNat 16 cause ∧
      (∀ x, x + 3 < top ∨ top < x → word t.jiman.ram x = word s.jiman.ram x) ∧
      t = { s with jiman := t.jiman }
    (s.jiman.branch = none → s.jiman.pfx = none → ¬jAtRepeatEnd r →
      (∀ p : BitVec 11, exec (.jimanPfx p) s = .next { s with jiman := { opened with pfx := some p } }) ∧
      (∀ m : BitVec 8, s.jiman.callm = none → exec (.jimanCallm m) s = .next { s with jiman := { opened with callm := some m } })) ∧
    (s.jiman.callm = none → s.jiman.branch = none → ¬jAtRepeatEnd r →
      (∀ off : BitVec 10, exec (.jimanB off) s = .next (jBranched s r (some (slotted r.pc (jSigned s off))))) ∧
      (∀ (c : JCond) (d e : BitVec 3) (off : BitVec 3),
        let x := s.jd d
        let y := s.jd e
        let taken := match c with
          | .eq => decide (x = y) | .ne => decide (x ≠ y) | .lt => x.slt y | .ge => !x.slt y | .ltu => x.ult y
          | .geu => !x.ult y | .any => decide (x &&& y ≠ 0) | .none => decide (x &&& y = 0)
        exec (.jimanCb c d e off) s = .next (jBranched s r (if taken then some (slotted r.pc (jSigned s off)) else none))) ∧
      (∀ (c : JZCond) (d : BitVec 3) (off : BitVec 4),
        let x := s.jd d
        let taken := match c with
          | .eqz => decide (x = 0) | .nez => decide (x ≠ 0) | .ltz => x.msb | .gez => !x.msb
          | .gtz => !x.msb && decide (x ≠ 0) | .lez => x.msb || decide (x = 0)
        exec (.jimanCbz c d off) s = .next (jBranched s r (if taken then some (slotted r.pc (jSigned s off)) else none))) ∧
      (∀ (d : BitVec 3) (off : BitVec 4), exec (.jimanDbnz d off) s = .next (jBranched s
        { r with d := r.d.set d.toNat (s.jd d - 1) d.isLt } (if s.jd d = 1 then none else some (slotted r.pc (jSigned s off))))) ∧
      (s.jiman.pfx = none → ∀ a : BitVec 3,
        exec (.jimanBr a) s = .next (jBranched s r (some ((r.pc &&& 0x10000) ||| (s.ja a).setWidth 17))))) ∧
    (s.jiman.callm = none → s.jiman.branch = none → r.ra = false →
      (∀ (c : Instr) (count len : Nat), (∃ n l, c = .jimanRpti n l ∧ count = (jUnsigned s n).toNat ∧ len = l.toNat + 1) ∨
          (∃ d l, c = .jimanRpt d l ∧ count = (s.jd d).toNat ∧ len = (jUnsigned s l).toNat + 1) →
        r.pc.toNat % 65536 + len < 65536 →
        (count = 0 → exec c s = .next { s with jiman := { s.jiman with
          unit := none, pfx := none, regs := { r with pc := r.pc + BitVec.ofNat 17 (len + 1) } } }) ∧
        (count ≠ 0 → exec c s = .next { s with jiman := { s.jiman with unit := none, pfx := none, regs := { r with
          rpc := BitVec.ofNat 16 count, rps := BitVec.ofNat 16 (r.pc.toNat + 1)
          rpe := BitVec.ofNat 16 (r.pc.toNat + len), ra := true, pc := r.pc + 1 } } }))) ∧
    (s.jiman.callm = none → s.jiman.pfx = none →
      exec .jimanNop s = .next (jEnded s r) ∧ exec .jimanEi s = .next (jEnded s { r with ie := true }) ∧
      exec .jimanDi s = .next (jEnded s { r with ie := false }) ∧
      (s.jiman.branch = none →
        exec .jimanIdle s = .next { jEnded s r with jiman := { (jEnded s r).jiman with idle := true } })) ∧
    (start.g = false → 3 ≤ start.gsl.toNat → start.gsb.toNat + start.gsl.toNat < 0x8000 → s.jiman.ram.wf = true →
      (s.jiman.branch ≠ none → ∀ c ∈ [Instr.jimanIdle, .jimanGrst, .jimanB 0, .jimanCall 0, .jimanPfx 0, .jimanCallm 0,
          .jimanRpt 0 0, .jimanLd false 0 0 0 false, .jimanRet false, .jimanReti false],
        ∃ t, exec c s = .next t ∧ guarded 3 t) ∧
      (s.jiman.callm ≠ none → s.jiman.branch = none → s.jiman.pfx = none → ∃ t, exec .jimanNop s = .next t ∧ guarded 3 t) ∧
      (s.jiman.pfx ≠ none → s.jiman.branch = none → s.jiman.callm = none → ∃ t, exec .jimanNop s = .next t ∧ guarded 3 t) ∧
      (s.jiman.branch = none → s.jiman.pfx = none → s.jiman.callm = none → jAtRepeatEnd r →
        ∃ t, exec (.jimanB 0) s = .next t ∧ guarded 6 t) ∧
      (s.jiman.branch = none → s.jiman.callm = none → r.ra = true → ∃ t, exec (.jimanRpt 0 0) s = .next t ∧ guarded 6 t) ∧
      (∀ (g : Fin 4) (a d : BitVec 3), s.jiman.branch = none → s.jiman.pfx = none → s.jiman.callm = none →
        (r.sgl[g] < s.ja a → ∃ t, exec (.jimanLd false (BitVec.ofNat 2 g) a d false) s = .next t ∧ guarded (1 + 256 * g) t) ∧
        (s.ja a ≤ r.sgl[g] → 0x8000 ≤ (r.sgb[g] + s.ja a).toNat →
          ∃ t, exec (.jimanLd false (BitVec.ofNat 2 g) a d false) s = .next t ∧ guarded (2 + 256 * g) t) ∧
        (s.ja a ≤ r.sgl[g] → (r.sgb[g] + s.ja a).toNat < 0x8000 →
          ∃ t, exec (.jimanLd false (BitVec.ofNat 2 g) a d true) s = .next t ∧ guarded 8 t)))

/-- CALL and CALLR, after a CALLM or without one, store the registers of the mask in order, the return address and the
head word downward from a7 - 1, push the return address on the shadow stack, lower a7 by the words stored, and give
the delay slot next. RET and RETM whose frame agrees with the shadow stack return there, RETM with the registers of
its mask from the frame, and pop both stacks; RET of a frame with a mask and either with another address raise
RETURN_MISMATCH, a 33rd call SHADOW_OVERFLOW. An interrupt taken abandons its unit, pushes pc and st, clears IE and
RA and its pending bit, and continues at its vector; RETI undoes it. RETG restores a7, pc and st from the Guard
segment. GRST, and a Guard fault while G = 1, drop HOLD_ASSURE, are counted, and begin a management reset. [15_jiman_instruction_set R393, 15_jiman_instruction_set R394, 15_jiman_instruction_set R400, 15_jiman_instruction_set R401, 15_jiman_instruction_set R402, 15_jiman_instruction_set Table 15.11, 15_jiman_instruction_set Table 15.12, 15_jiman_instruction_set Table 15.13, 14_management_plane Table 14.3] -/
def Obligations.JimanFramesInterruptsAndGuard : Prop :=
  ∀ (s : State), s.power.tailstock = true → s.jiman.ram.wf = true →
    let r := s.jiman.regs
    let start := s.jiman.unit.getD r
    let word (m : Memory) (x : Nat) : W16 := BitVec.ofNat 16 (m.readLE (2 * x) 2)
    let withRam (m : Memory) : State := { s with jiman := { s.jiman with ram := m } }
    let base := if r.g then r.gsb else r.sgb[3]
    let limit := if r.g then r.gsl else r.sgl[3]
    let a7 := r.a[7]
    let named (m : BitVec 8) : List (Bool × Fin 8) :=
      ((List.finRange 8).filter fun (i : Fin 8) => m.getLsbD (i.val / 2)).map (fun (i : Fin 8) => (false, i)) ++
        ((List.finRange 8).filter fun (i : Fin 8) => decide (i.val < 7) && m.getLsbD (4 + i.val / 2)).map
          (fun (i : Fin 8) => (true, i))
    let value (x : Bool × Fin 8) : W16 := if x.1 then r.a[x.2] else r.d[x.2]
    let asked (t : State) : Prop :=
      t.mgmt.resetting = true ∧ t.mgmt.holdAssure = false ∧ t.mgmt.faultCounter = s.mgmt.faultCounter + 1 ∧
      t.mgmt.ffr ≠ none ∧ t.jiman.regs = Reset.jregs ∧ t.jiman.flash = s.jiman.flash ∧ t.power = s.power ∧ t.dev = s.dev
    (s.jiman.idle = false → s.jiman.branch = none → ¬jAtRepeatEnd r →
      (∀ (c : Instr) (target : BitVec 17), (∃ off, c = .jimanCall off ∧ target = r.pc + (jSigned s off).signExtend 17) ∨
          (∃ a, c = .jimanCallr a ∧ s.jiman.pfx = none ∧ target = (r.pc &&& 0x10000) ||| (s.ja a).setWidth 17) →
        r.shadow.length < 32 →
        let m := s.jiman.callm.getD 0
        let ret := r.pc + 2
        let frame := (named m).map value ++ [ret.setWidth 16, BitVec.ofNat 16 (256 * m.toNat + ret.toNat / 65536)]
        let place (j : Nat) : Nat := (base + (a7 - 1 - BitVec.ofNat 16 j)).toNat
        (∀ j < frame.length, a7 - 1 - BitVec.ofNat 16 j ≤ limit ∧ place j < 0x8000) →
        ∃ t, exec c s = .next t ∧ (∀ j v, frame[j]? = some v → word t.jiman.ram (place j) = v) ∧
          (∀ x, (∀ j < frame.length, x ≠ place j) → word t.jiman.ram x = word s.jiman.ram x) ∧
          t = jBranched (withRam t.jiman.ram) { r with
            a := r.a.set 7 (a7 - BitVec.ofNat 16 frame.length), shadow := ret :: r.shadow } (some target)) ∧
      (s.jiman.pfx = none → s.jiman.callm = none → ∀ x y : Nat, JMapped base limit a7 x → JMapped base limit (a7 + 1) y →
        let head := word s.jiman.ram x
        let ret : BitVec 17 := BitVec.ofNat 17 ((word s.jiman.ram y).toNat + 65536 * (head.toNat % 2))
        let m := head.extractLsb' 8 8
        let regs := named m
        let top := a7 + 1 + BitVec.ofNat 16 regs.length
        (r.shadow.head? = some ret → m = 0 →
          exec (.jimanRet false) s = .next (jBranched s { r with a := r.a.set 7 (a7 + 2), shadow := r.shadow.drop 1 } (some ret))) ∧
        (r.shadow.head? = some ret → (∀ j < regs.length, top - BitVec.ofNat 16 j ≤ limit ∧
            (base + (top - BitVec.ofNat 16 j)).toNat < 0x8000) →
          ∃ t, exec (.jimanRetm false) s = .next t ∧ t.jiman.regs.a[7] = top + 1 ∧
            (∀ j isA i, regs[j]? = some (isA, i) → (if isA then t.jiman.regs.a[i] else t.jiman.regs.d[i]) =
              word s.jiman.ram (base + (top - BitVec.ofNat 16 j)).toNat) ∧
            (∀ i : Fin 8, (false, i) ∉ regs → t.jiman.regs.d[i] = r.d[i]) ∧
            (∀ i : Fin 8, i.val < 7 → (true, i) ∉ regs → t.jiman.regs.a[i] = r.a[i]) ∧
            t = jBranched s { r with a := t.jiman.regs.a, d := t.jiman.regs.d, shadow := r.shadow.drop 1 } (some ret)) ∧
        (r.shadow.head? ≠ some ret → start.g = false → 3 ≤ start.gsl.toNat → start.gsb.toNat + start.gsl.toNat < 0x8000 →
          ∀ c ∈ [Instr.jimanRet false, .jimanRetm false],
            ∃ t, exec c s = .next t ∧ word t.jiman.ram (start.gsb.toNat + start.gsl.toNat - 3) = 5 ∧
              t.jiman.regs.pc = BitVec.ofNat 17 (8 * start.vb.toNat) ∧ t.jiman.regs.shadow = start.shadow) ∧
        (let st := head
         let back : BitVec 17 := BitVec.ofNat 17 ((word s.jiman.ram y).toNat + 65536 * (st.toNat / 32768))
         r.shadow.head? = some back →
          exec (.jimanReti false) s = .next (jBranched s { r with
            a := r.a.set 7 (a7 + 2), shadow := r.shadow.drop 1, ie := st.getLsbD 0
            rm := (if st.extractLsb' 1 2 = 3 then r.rm else st.extractLsb' 1 2), ra := st.getLsbD 4 } (some back)))) ∧
      (s.jiman.pfx = none → s.jiman.callm = none → 2 ≤ r.gsl.toNat → r.gsb.toNat + r.gsl.toNat < 0x8000 →
        let top := r.gsb.toNat + r.gsl.toNat
        let st := word s.jiman.ram (top - 2)
        exec (.jimanRetg false) s = .next (jBranched s { r with
          a := r.a.set 7 (word s.jiman.ram top), ie := st.getLsbD 0
          rm := (if st.extractLsb' 1 2 = 3 then r.rm else st.extractLsb' 1 2), g := st.getLsbD 3, ra := st.getLsbD 4 }
          (some (BitVec.ofNat 17 ((word s.jiman.ram (top - 1)).toNat + 65536 * (st.toNat / 32768))))))) ∧
    (∀ n : Fin 8, start.ie = true → start.g = false → (s.jiman.intPend &&& s.jiman.intEn).getLsbD n = true →
      (∀ i < n, (s.jiman.intPend &&& s.jiman.intEn).getLsbD i = false) → start.shadow.length < 32 →
      let sp := start.a[7]
      ∀ x y : Nat, JMapped start.sgb[3] start.sgl[3] (sp - 1) x → JMapped start.sgb[3] start.sgl[3] (sp - 2) y →
        ∃ t, exec .jimanInterruptEntry s = .next t ∧ word t.jiman.ram x = start.pc.setWidth 16 ∧
          word t.jiman.ram y = BitVec.ofNat 16 (1 + 2 * start.rm.toNat + 16 * start.ra.toNat +
            0x8000 * (start.pc.toNat / 65536)) ∧
          (∀ w, w ≠ x → w ≠ y → word t.jiman.ram w = word s.jiman.ram w) ∧
          t = { s with jiman := { s.jiman with
            ram := t.jiman.ram, unit := none, pfx := none, callm := none, branch := none, idle := false
            intPend := s.jiman.intPend &&& ~~~(BitVec.twoPow 8 n)
            regs := { start with
              a := start.a.set 7 (sp - 2), shadow := start.pc :: start.shadow, ie := false, ra := false
              pc := BitVec.ofNat 17 (8 * start.vb.toNat + 8 * (n.val + 1)) } } }) ∧
    (s.jiman.intPend &&& s.jiman.intEn = 0 ∨ start.ie = false ∨ start.g = true → exec .jimanInterruptEntry s = .next s) ∧
    (s.jiman.idle = false → s.jiman.branch = none → s.jiman.pfx = none → s.jiman.callm = none →
      (∃ t, exec .jimanGrst s = .next t ∧ asked t) ∧
      (start.g = true → ∃ t, exec (.jimanLd false 0 0 0 true) s = .next t ∧ asked t))
end

