-- ==== Sys2Proof/Laws/Memory.lean ====
section
/-! SUPPORT. The laws of sparse memory: a read after a write, and the canonical form that every operation keeps. -/

namespace Sys2Proof.Machine
open Sys2Proof

theorem Memory.wfFrom_mono {i j : Nat} (h : i ≤ j) : ∀ {m : Memory}, Memory.wfFrom j m = true → Memory.wfFrom i m = true
  | [], _ => rfl
  | (a, b) :: m, hw => by
    simp only [Memory.wfFrom, Bool.and_eq_true, decide_eq_true_eq] at hw ⊢
    exact ⟨⟨Nat.le_trans h hw.1.1, hw.1.2⟩, hw.2⟩

/-- Below the first listed address everything reads 0. -/
theorem Memory.read_below : ∀ {m : Memory} {j k : Nat}, Memory.wfFrom j m = true → k < j → Memory.read m k = 0
  | [], _, _, _, _ => rfl
  | (a, b) :: m, j, k, hw, hk => by
    simp only [Memory.wfFrom, Bool.and_eq_true, decide_eq_true_eq] at hw
    have hne : a ≠ k := by omega
    simp only [Memory.read, hne, if_false]
    exact Memory.read_below hw.2 (by omega)

/-- A write leaves every other address alone. -/
@[simp] theorem Memory.read_write_ne : ∀ (m : Memory) {k x : Nat} (v : Byte), x ≠ k →
    Memory.read (Memory.write m k v) x = Memory.read m x
  | [], k, x, v, h => by
    have h' : k ≠ x := fun e => h e.symm
    simp only [Memory.write]; split <;> simp [Memory.read, h']
  | (a, b) :: m, k, x, v, h => by
    have h' : k ≠ x := fun e => h e.symm
    simp only [Memory.write]
    split
    · split <;> simp [Memory.read, h']
    · split
      · rename_i hka; subst hka
        split <;> simp [Memory.read, h']
      · simp only [Memory.read]; split
        · rfl
        · exact Memory.read_write_ne m v h

/-- A read after a write to the same address gives the byte written. -/
theorem Memory.read_write_self : ∀ {m : Memory} {j : Nat} (k : Nat) (v : Byte), Memory.wfFrom j m = true →
    Memory.read (Memory.write m k v) k = v
  | [], _, k, v, _ => by simp only [Memory.write]; split <;> simp_all [Memory.read]
  | (a, b) :: m, j, k, v, hw => by
    simp only [Memory.wfFrom, Bool.and_eq_true, decide_eq_true_eq] at hw
    simp only [Memory.write]
    split
    · rename_i hlt
      split
      · rename_i hv
        have hne : a ≠ k := by omega
        simp only [Memory.read, hne, if_false, hv]
        exact Memory.read_below hw.2 (by omega)
      · simp [Memory.read]
    · split
      · rename_i hka; subst hka
        split
        · rename_i hv
          rw [hv]; exact Memory.read_below hw.2 (by omega)
        · simp [Memory.read]
      · rename_i hka
        have hne : a ≠ k := fun e => hka e.symm
        simp only [Memory.read, hne, if_false]
        exact Memory.read_write_self k v hw.2

theorem Memory.wfFrom_write : ∀ {m : Memory} {i : Nat} (k : Nat) (v : Byte), Memory.wfFrom i m = true → i ≤ k →
    Memory.wfFrom i (Memory.write m k v) = true
  | [], i, k, v, _, hk => by
    simp only [Memory.write]; split <;> simp_all [Memory.wfFrom]
  | (a, b) :: m, i, k, v, hw, hk => by
    have h0 := hw
    simp only [Memory.wfFrom, Bool.and_eq_true, decide_eq_true_eq] at hw
    simp only [Memory.write]
    split
    · split
      · exact h0
      · rename_i hv
        simp only [Memory.wfFrom, Bool.and_eq_true, decide_eq_true_eq]
        exact ⟨⟨hk, hv⟩, ⟨by omega, hw.1.2⟩, hw.2⟩
    · split
      · split
        · exact Memory.wfFrom_mono (by omega) hw.2
        · rename_i hka hv
          simp only [Memory.wfFrom, Bool.and_eq_true, decide_eq_true_eq]
          subst hka
          exact ⟨⟨hk, hv⟩, hw.2⟩
      · simp only [Memory.wfFrom, Bool.and_eq_true, decide_eq_true_eq]
        exact ⟨hw.1, Memory.wfFrom_write k v hw.2 (by omega)⟩

/-- Writing a byte keeps the canonical form. -/
theorem Memory.wf_write {m : Memory} (k : Nat) (v : Byte) (h : m.wf = true) : (m.write k v).wf = true :=
  Memory.wfFrom_write k v h (Nat.zero_le k)

/-- Writing bytes keeps the canonical form. -/
theorem Memory.wf_writeN : ∀ (bs : List Byte) {m : Memory} (k : Nat), m.wf = true → (m.writeN k bs).wf = true
  | [], _, _, h => h
  | b :: bs, _, k, h => Memory.wf_writeN bs (k + 1) (Memory.wf_write k b h)

/-- Writing a number keeps the canonical form. -/
theorem Memory.wf_writeLE {m : Memory} (k n x : Nat) (h : m.wf = true) : (m.writeLE k n x).wf = true :=
  Memory.wf_writeN _ k h

/-- Keeping some of the listed bytes keeps the canonical form. -/
theorem Memory.wfFrom_filter (p : Host.Cell → Bool) : ∀ {m : Memory} {i : Nat}, Memory.wfFrom i m = true →
    Memory.wfFrom i (m.filter p) = true
  | [], _, _ => rfl
  | (a, b) :: m, i, hw => by
    simp only [Memory.wfFrom, Bool.and_eq_true, decide_eq_true_eq] at hw
    simp only [List.filter]
    split
    · simp only [Memory.wfFrom, Bool.and_eq_true, decide_eq_true_eq]
      exact ⟨hw.1, Memory.wfFrom_filter p hw.2⟩
    · exact Memory.wfFrom_mono (by omega) (Memory.wfFrom_filter p hw.2)

theorem Memory.wf_filter {m : Memory} (p : Host.Cell → Bool) (h : m.wf = true) :
    Memory.wf (m.filter p) = true := Memory.wfFrom_filter p h

/-- Writing bytes leaves every address outside them alone. -/
theorem Memory.read_writeN_outside : ∀ (bs : List Byte) (m : Memory) {k x : Nat}, (x < k ∨ k + bs.length ≤ x) →
    (m.writeN k bs).read x = m.read x
  | [], _, _, _, _ => rfl
  | b :: bs, m, k, x, h => by
    simp only [List.length_cons] at h
    rw [Memory.writeN, Memory.read_writeN_outside bs (m.write k b) (by omega),
      Memory.read_write_ne m b (by omega)]

/-- A read within the bytes written gives the byte written there. -/
theorem Memory.read_writeN_inside : ∀ (bs : List Byte) {m : Memory} (k i : Nat), m.wf = true → (h : i < bs.length) →
    (m.writeN k bs).read (k + i) = bs[i]
  | b :: bs, m, k, 0, hw, _ => by
    rw [Memory.writeN, Memory.read_writeN_outside bs _ (by omega)]
    exact Memory.read_write_self k b hw
  | b :: bs, m, k, i + 1, hw, h => by
    have hk : k + (i + 1) = (k + 1) + i := by omega
    rw [Memory.writeN, hk, Memory.read_writeN_inside bs (k + 1) i (Memory.wf_write k b hw) (by simpa using h)]
    rfl

/-- The bytes read are as many as were asked for. -/
@[simp] theorem Memory.length_readN (m : Memory) : ∀ (n k : Nat), (m.readN k n).length = n
  | 0, _ => rfl
  | n + 1, k => by simp [Memory.readN, Memory.length_readN m n (k + 1)]

/-- Byte i of a run read from k is the byte at k + i. -/
theorem Memory.getElem_readN (m : Memory) : ∀ (n k i : Nat) (h : i < (m.readN k n).length),
    (m.readN k n)[i] = m.read (k + i)
  | n + 1, k, 0, _ => rfl
  | n + 1, k, i + 1, h => by
    have h' : i < (m.readN (k + 1) n).length := by simpa [Memory.readN] using h
    have hk : k + (i + 1) = (k + 1) + i := by omega
    simp only [Memory.readN, List.getElem_cons_succ, hk]
    exact Memory.getElem_readN m n (k + 1) i h'

/-- Two memories that agree on a run of addresses read the same bytes there. -/
theorem Memory.readN_congr (m m' : Memory) : ∀ (n k : Nat), (∀ i, i < n → m.read (k + i) = m'.read (k + i)) →
    m.readN k n = m'.readN k n
  | 0, _, _ => rfl
  | n + 1, k, h => by
    have h0 := h 0 (by omega)
    simp only [Nat.add_zero] at h0
    simp only [Memory.readN, h0]
    rw [Memory.readN_congr m m' n (k + 1) (fun i hi => by have := h (i + 1) (by omega); rwa [show k + (i + 1) = k + 1 + i by omega] at this)]

/-- Reading back the bytes written. -/
theorem Memory.readN_writeN (bs : List Byte) {m : Memory} (k : Nat) (hw : m.wf = true) :
    (m.writeN k bs).readN k bs.length = bs := by
  apply List.ext_getElem
  · simp
  · intro i h1 h2
    rw [Memory.getElem_readN, Memory.read_writeN_inside bs k i hw h2]

@[simp] theorem length_natToBytes (x : Nat) : ∀ n, (natToBytes x n).length = n := by
  intro n
  induction n generalizing x with
  | zero => rfl
  | succ n ih => simp [natToBytes, ih]

/-- The little-endian bytes of a number spell it modulo their range. -/
theorem bytesToNat_natToBytes : ∀ (n x : Nat), bytesToNat (natToBytes x n) = x % 2 ^ (8 * n)
  | 0, x => by simp [natToBytes, bytesToNat, Nat.mod_one]
  | n + 1, x => by
    have h8 : (2 : Nat) ^ (8 * (n + 1)) = 256 * 2 ^ (8 * n) := by rw [Nat.mul_add, Nat.pow_add]; omega
    rw [natToBytes, bytesToNat, bytesToNat_natToBytes n (x / 256), h8, Nat.mod_mul]
    simp

/-- A number read where it was just written is that number modulo its range. -/
theorem Memory.readLE_writeLE {m : Memory} (k n x : Nat) (hw : m.wf = true) :
    (m.writeLE k n x).readLE k n = x % 2 ^ (8 * n) := by
  have h := Memory.readN_writeN (natToBytes x n) k hw
  rw [length_natToBytes] at h
  rw [Memory.readLE, Memory.writeLE, h, bytesToNat_natToBytes]

/-! ### Vectors -/

@[simp] theorem vget_vset_self {α : Type} {n : Nat} (v : Vector α n) (i : Nat) (x d : α) (h : i < n) :
    vget (vset v i x) i d = x := by simp [vget, vset, h]

@[simp] theorem vget_vset_ne {α : Type} {n : Nat} (v : Vector α n) {i j : Nat} (x d : α) (h : i ≠ j) :
    vget (vset v i x) j d = vget v j d := by
  simp only [vget, vset]
  rw [Vector.getElem?_setIfInBounds_ne h]

end Sys2Proof.Machine
end

