-- ==== Sys2Proof/Laws/Keep.lean ====
section
/-! SUPPORT. The law of the media that the Keep takes over from another drive: what a range taken from another memory reads as, and
that the canonical form is kept. -/

namespace Sys2Proof.Machine
open Sys2Proof

/-- Memories that follow one another in rising order are one memory. -/
theorem Memory.wfFrom_append {j : Nat} {b : Memory} (hb : Memory.wfFrom j b = true) : ∀ {a : Memory} {i : Nat}, Memory.wfFrom i a = true →
    (∀ c ∈ a, c.1 < j) → i ≤ j → Memory.wfFrom i (a ++ b) = true
  | [], _, _, _, hi => Memory.wfFrom_mono hi hb
  | (x, v) :: a, i, ha, hj, _ => by
    simp only [Memory.wfFrom, Bool.and_eq_true, decide_eq_true_eq, List.cons_append] at ha ⊢
    have hx : x < j := hj (x, v) List.mem_cons_self
    exact ⟨ha.1, Memory.wfFrom_append hb ha.2 (fun c hc => hj c (List.mem_cons_of_mem _ hc)) (by omega)⟩

/-- A memory with nothing listed below lo begins there. -/
theorem Memory.wfFrom_raise {lo i : Nat} {m : Memory} (h : Memory.wfFrom i m = true) (hl : ∀ c ∈ m, lo ≤ c.1) :
    Memory.wfFrom lo m = true := by
  match m with
  | [] => rfl
  | (x, v) :: m =>
    simp only [Memory.wfFrom, Bool.and_eq_true, decide_eq_true_eq] at h ⊢
    exact ⟨⟨hl (x, v) List.mem_cons_self, h.1.2⟩, h.2⟩

/-- Taking a range from another memory keeps the canonical form. -/
theorem Memory.wf_take {m other : Memory} {lo hi : Nat} (hm : m.wf = true) (ho : other.wf = true) (h : lo ≤ hi) :
    (m.take other lo hi).wf = true := by
  have h1 := Memory.wfFrom_filter (fun c => decide (c.1 < lo)) hm
  have h2 := Memory.wfFrom_raise (lo := lo) (Memory.wfFrom_filter (fun c => decide (lo ≤ c.1 ∧ c.1 < hi)) ho) (by simp; omega)
  have h3 := Memory.wfFrom_raise (lo := hi) (Memory.wfFrom_filter (fun c => decide (hi ≤ c.1)) hm) (by simp)
  rw [Memory.take, List.append_assoc]
  exact Memory.wfFrom_append (Memory.wfFrom_append h3 h2 (by simp) h) h1 (by simp) (Nat.zero_le _)

/-- The bytes whose addresses satisfy P, and 0 elsewhere. -/
theorem Memory.read_filter (P : Nat → Bool) : ∀ (m : Memory) (x : Nat), Memory.read (m.filter fun c => P c.1) x = if P x then m.read x else 0
  | [], x => by simp [Memory.read]
  | (a, v) :: m, x => by
    have ih := Memory.read_filter P m x
    by_cases hx : a = x
    · subst hx
      cases hp : P a <;> simp [List.filter, hp, Memory.read, ih]
    · cases hp : P a <;> simp [List.filter, hp, Memory.read, ih, hx]

/-- Of two memories the first that lists an address is read. -/
theorem Memory.read_append : ∀ (a b : Memory) (x : Nat), Memory.read (a ++ b) x = if a.any (fun c => decide (c.1 = x)) then a.read x else b.read x
  | [], b, x => by simp
  | (y, v) :: a, b, x => by
    have ih := Memory.read_append a b x
    by_cases h : y = x <;> simp [Memory.read, h, ih]

/-- An address that a memory does not list reads 0. -/
theorem Memory.read_unlisted : ∀ (m : Memory) (x : Nat), m.any (fun c => decide (c.1 = x)) = false → m.read x = 0
  | [], _, _ => rfl
  | (y, v) :: m, x, h => by
    simp only [List.any_cons, Bool.or_eq_false_iff, decide_eq_false_iff_not] at h
    rw [Memory.read, if_neg h.1, Memory.read_unlisted m x h.2]

/-- The range taken reads as the other memory, every other address as before. -/
theorem Memory.read_take (m other : Memory) (lo hi x : Nat) (h : lo ≤ hi) :
    (m.take other lo hi).read x = if lo ≤ x ∧ x < hi then other.read x else m.read x := by
  have unlisted (m : Memory) (P : Nat → Bool) (hp : P x = false) : (m.filter fun c => P c.1).any (fun c => decide (c.1 = x)) = false := by
    simp only [List.any_eq_false, List.mem_filter, decide_eq_true_eq]
    rintro c ⟨-, hc⟩ rfl
    rw [hp] at hc
    cases hc
  have listed (m : Memory) (P : Nat → Bool) (b : Memory) (hp : P x = true) (hb : b.read x = 0) :
      Memory.read ((m.filter fun c => P c.1) ++ b) x = m.read x := by
    rw [Memory.read_append, Memory.read_filter, if_pos hp]
    split
    · rfl
    · next hn =>
      have := Memory.read_unlisted _ _ (Bool.eq_false_iff.mpr hn)
      rw [Memory.read_filter, if_pos hp] at this
      rw [hb, this]
  have none_ (m : Memory) (P : Nat → Bool) (b : Memory) (hp : P x = false) : Memory.read ((m.filter fun c => P c.1) ++ b) x = b.read x := by
    rw [Memory.read_append, unlisted m P hp]
    rfl
  have zero (m : Memory) (P : Nat → Bool) (hp : P x = false) : Memory.read (m.filter fun c => P c.1) x = 0 :=
    Memory.read_unlisted _ _ (unlisted m P hp)
  rw [Memory.take, List.append_assoc]
  rcases Nat.lt_or_ge x lo with h1 | h1
  · rw [if_neg (by omega), listed m (fun a => decide (a < lo)) _ (by simpa), ]
    rw [none_ other (fun a => decide (lo ≤ a ∧ a < hi)) _ (by simp; omega)]
    exact zero m (fun a => decide (hi ≤ a)) (by simp; omega)
  · rw [none_ m (fun a => decide (a < lo)) _ (by simpa)]
    rcases Nat.lt_or_ge x hi with h2 | h2
    · rw [if_pos ⟨h1, h2⟩, listed other (fun a => decide (lo ≤ a ∧ a < hi)) _ (by simp; omega)]
      exact zero m (fun a => decide (hi ≤ a)) (by simpa)
    · rw [if_neg (by omega), none_ other (fun a => decide (lo ≤ a ∧ a < hi)) _ (by simp; omega), Memory.read_filter (fun a => decide (hi ≤ a)),
        if_pos (by simpa)]

end Sys2Proof.Machine
end

