-- ==== Sys2Proof/Laws/State.lean ====
section
/-! SUPPORT. What each update of one block of the state does to every block: one lemma per field per update. -/

namespace Sys2Proof.Machine

variable (s : State)

/-! ### setClocks -/
@[simp] theorem State.setClocks_clocks (x) : (s.setClocks x).clocks = x := rfl
@[simp] theorem State.setClocks_power (x) : (s.setClocks x).power = s.power := rfl
@[simp] theorem State.setClocks_link (x) : (s.setClocks x).link = s.link := rfl
@[simp] theorem State.setClocks_queue (x) : (s.setClocks x).queue = s.queue := rfl
@[simp] theorem State.setClocks_turner (x) : (s.setClocks x).turner = s.turner := rfl
@[simp] theorem State.setClocks_lattice (x) : (s.setClocks x).lattice = s.lattice := rfl
@[simp] theorem State.setClocks_finish (x) : (s.setClocks x).finish = s.finish := rfl
@[simp] theorem State.setClocks_spindle (x) : (s.setClocks x).spindle = s.spindle := rfl
@[simp] theorem State.setClocks_scale (x) : (s.setClocks x).scale = s.scale := rfl
@[simp] theorem State.setClocks_keep (x) : (s.setClocks x).keep = s.keep := rfl
@[simp] theorem State.setClocks_cache (x) : (s.setClocks x).cache = s.cache := rfl
@[simp] theorem State.setClocks_gauge (x) : (s.setClocks x).gauge = s.gauge := rfl
@[simp] theorem State.setClocks_mgmt (x) : (s.setClocks x).mgmt = s.mgmt := rfl
@[simp] theorem State.setClocks_jiman (x) : (s.setClocks x).jiman = s.jiman := rfl
@[simp] theorem State.setClocks_firmware (x) : (s.setClocks x).firmware = s.firmware := rfl
@[simp] theorem State.setClocks_faults (x) : (s.setClocks x).faults = s.faults := rfl
@[simp] theorem State.setClocks_dev (x) : (s.setClocks x).dev = s.dev := rfl
@[simp] theorem State.setClocks_host (x) : (s.setClocks x).host = s.host := rfl
@[simp] theorem State.setClocks_freeCtr (x) : (s.setClocks x).freeCtr = s.freeCtr := rfl
@[simp] theorem State.setClocks_pending (x) : (s.setClocks x).pending = s.pending := rfl
@[simp] theorem State.setClocks_setClocks (x y) : (s.setClocks x).setClocks y = s.setClocks y := rfl
@[simp] theorem State.setClocks_self : s.setClocks s.clocks = s := rfl

/-! ### setPower -/
@[simp] theorem State.setPower_clocks (x) : (s.setPower x).clocks = s.clocks := rfl
@[simp] theorem State.setPower_power (x) : (s.setPower x).power = x := rfl
@[simp] theorem State.setPower_link (x) : (s.setPower x).link = s.link := rfl
@[simp] theorem State.setPower_queue (x) : (s.setPower x).queue = s.queue := rfl
@[simp] theorem State.setPower_turner (x) : (s.setPower x).turner = s.turner := rfl
@[simp] theorem State.setPower_lattice (x) : (s.setPower x).lattice = s.lattice := rfl
@[simp] theorem State.setPower_finish (x) : (s.setPower x).finish = s.finish := rfl
@[simp] theorem State.setPower_spindle (x) : (s.setPower x).spindle = s.spindle := rfl
@[simp] theorem State.setPower_scale (x) : (s.setPower x).scale = s.scale := rfl
@[simp] theorem State.setPower_keep (x) : (s.setPower x).keep = s.keep := rfl
@[simp] theorem State.setPower_cache (x) : (s.setPower x).cache = s.cache := rfl
@[simp] theorem State.setPower_gauge (x) : (s.setPower x).gauge = s.gauge := rfl
@[simp] theorem State.setPower_mgmt (x) : (s.setPower x).mgmt = s.mgmt := rfl
@[simp] theorem State.setPower_jiman (x) : (s.setPower x).jiman = s.jiman := rfl
@[simp] theorem State.setPower_firmware (x) : (s.setPower x).firmware = s.firmware := rfl
@[simp] theorem State.setPower_faults (x) : (s.setPower x).faults = s.faults := rfl
@[simp] theorem State.setPower_dev (x) : (s.setPower x).dev = s.dev := rfl
@[simp] theorem State.setPower_host (x) : (s.setPower x).host = s.host := rfl
@[simp] theorem State.setPower_freeCtr (x) : (s.setPower x).freeCtr = s.freeCtr := rfl
@[simp] theorem State.setPower_pending (x) : (s.setPower x).pending = s.pending := rfl
@[simp] theorem State.setPower_setPower (x y) : (s.setPower x).setPower y = s.setPower y := rfl
@[simp] theorem State.setPower_self : s.setPower s.power = s := rfl

/-! ### setLink -/
@[simp] theorem State.setLink_clocks (x) : (s.setLink x).clocks = s.clocks := rfl
@[simp] theorem State.setLink_power (x) : (s.setLink x).power = s.power := rfl
@[simp] theorem State.setLink_link (x) : (s.setLink x).link = x := rfl
@[simp] theorem State.setLink_queue (x) : (s.setLink x).queue = s.queue := rfl
@[simp] theorem State.setLink_turner (x) : (s.setLink x).turner = s.turner := rfl
@[simp] theorem State.setLink_lattice (x) : (s.setLink x).lattice = s.lattice := rfl
@[simp] theorem State.setLink_finish (x) : (s.setLink x).finish = s.finish := rfl
@[simp] theorem State.setLink_spindle (x) : (s.setLink x).spindle = s.spindle := rfl
@[simp] theorem State.setLink_scale (x) : (s.setLink x).scale = s.scale := rfl
@[simp] theorem State.setLink_keep (x) : (s.setLink x).keep = s.keep := rfl
@[simp] theorem State.setLink_cache (x) : (s.setLink x).cache = s.cache := rfl
@[simp] theorem State.setLink_gauge (x) : (s.setLink x).gauge = s.gauge := rfl
@[simp] theorem State.setLink_mgmt (x) : (s.setLink x).mgmt = s.mgmt := rfl
@[simp] theorem State.setLink_jiman (x) : (s.setLink x).jiman = s.jiman := rfl
@[simp] theorem State.setLink_firmware (x) : (s.setLink x).firmware = s.firmware := rfl
@[simp] theorem State.setLink_faults (x) : (s.setLink x).faults = s.faults := rfl
@[simp] theorem State.setLink_dev (x) : (s.setLink x).dev = s.dev := rfl
@[simp] theorem State.setLink_host (x) : (s.setLink x).host = s.host := rfl
@[simp] theorem State.setLink_freeCtr (x) : (s.setLink x).freeCtr = s.freeCtr := rfl
@[simp] theorem State.setLink_pending (x) : (s.setLink x).pending = s.pending := rfl
@[simp] theorem State.setLink_setLink (x y) : (s.setLink x).setLink y = s.setLink y := rfl
@[simp] theorem State.setLink_self : s.setLink s.link = s := rfl

/-! ### setQueue -/
@[simp] theorem State.setQueue_clocks (x) : (s.setQueue x).clocks = s.clocks := rfl
@[simp] theorem State.setQueue_power (x) : (s.setQueue x).power = s.power := rfl
@[simp] theorem State.setQueue_link (x) : (s.setQueue x).link = s.link := rfl
@[simp] theorem State.setQueue_queue (x) : (s.setQueue x).queue = x := rfl
@[simp] theorem State.setQueue_turner (x) : (s.setQueue x).turner = s.turner := rfl
@[simp] theorem State.setQueue_lattice (x) : (s.setQueue x).lattice = s.lattice := rfl
@[simp] theorem State.setQueue_finish (x) : (s.setQueue x).finish = s.finish := rfl
@[simp] theorem State.setQueue_spindle (x) : (s.setQueue x).spindle = s.spindle := rfl
@[simp] theorem State.setQueue_scale (x) : (s.setQueue x).scale = s.scale := rfl
@[simp] theorem State.setQueue_keep (x) : (s.setQueue x).keep = s.keep := rfl
@[simp] theorem State.setQueue_cache (x) : (s.setQueue x).cache = s.cache := rfl
@[simp] theorem State.setQueue_gauge (x) : (s.setQueue x).gauge = s.gauge := rfl
@[simp] theorem State.setQueue_mgmt (x) : (s.setQueue x).mgmt = s.mgmt := rfl
@[simp] theorem State.setQueue_jiman (x) : (s.setQueue x).jiman = s.jiman := rfl
@[simp] theorem State.setQueue_firmware (x) : (s.setQueue x).firmware = s.firmware := rfl
@[simp] theorem State.setQueue_faults (x) : (s.setQueue x).faults = s.faults := rfl
@[simp] theorem State.setQueue_dev (x) : (s.setQueue x).dev = s.dev := rfl
@[simp] theorem State.setQueue_host (x) : (s.setQueue x).host = s.host := rfl
@[simp] theorem State.setQueue_freeCtr (x) : (s.setQueue x).freeCtr = s.freeCtr := rfl
@[simp] theorem State.setQueue_pending (x) : (s.setQueue x).pending = s.pending := rfl
@[simp] theorem State.setQueue_setQueue (x y) : (s.setQueue x).setQueue y = s.setQueue y := rfl
@[simp] theorem State.setQueue_self : s.setQueue s.queue = s := rfl

/-! ### setTurner -/
@[simp] theorem State.setTurner_clocks (x) : (s.setTurner x).clocks = s.clocks := rfl
@[simp] theorem State.setTurner_power (x) : (s.setTurner x).power = s.power := rfl
@[simp] theorem State.setTurner_link (x) : (s.setTurner x).link = s.link := rfl
@[simp] theorem State.setTurner_queue (x) : (s.setTurner x).queue = s.queue := rfl
@[simp] theorem State.setTurner_turner (x) : (s.setTurner x).turner = x := rfl
@[simp] theorem State.setTurner_lattice (x) : (s.setTurner x).lattice = s.lattice := rfl
@[simp] theorem State.setTurner_finish (x) : (s.setTurner x).finish = s.finish := rfl
@[simp] theorem State.setTurner_spindle (x) : (s.setTurner x).spindle = s.spindle := rfl
@[simp] theorem State.setTurner_scale (x) : (s.setTurner x).scale = s.scale := rfl
@[simp] theorem State.setTurner_keep (x) : (s.setTurner x).keep = s.keep := rfl
@[simp] theorem State.setTurner_cache (x) : (s.setTurner x).cache = s.cache := rfl
@[simp] theorem State.setTurner_gauge (x) : (s.setTurner x).gauge = s.gauge := rfl
@[simp] theorem State.setTurner_mgmt (x) : (s.setTurner x).mgmt = s.mgmt := rfl
@[simp] theorem State.setTurner_jiman (x) : (s.setTurner x).jiman = s.jiman := rfl
@[simp] theorem State.setTurner_firmware (x) : (s.setTurner x).firmware = s.firmware := rfl
@[simp] theorem State.setTurner_faults (x) : (s.setTurner x).faults = s.faults := rfl
@[simp] theorem State.setTurner_dev (x) : (s.setTurner x).dev = s.dev := rfl
@[simp] theorem State.setTurner_host (x) : (s.setTurner x).host = s.host := rfl
@[simp] theorem State.setTurner_freeCtr (x) : (s.setTurner x).freeCtr = s.freeCtr := rfl
@[simp] theorem State.setTurner_pending (x) : (s.setTurner x).pending = s.pending := rfl
@[simp] theorem State.setTurner_setTurner (x y) : (s.setTurner x).setTurner y = s.setTurner y := rfl
@[simp] theorem State.setTurner_self : s.setTurner s.turner = s := rfl

/-! ### setLattice -/
@[simp] theorem State.setLattice_clocks (x) : (s.setLattice x).clocks = s.clocks := rfl
@[simp] theorem State.setLattice_power (x) : (s.setLattice x).power = s.power := rfl
@[simp] theorem State.setLattice_link (x) : (s.setLattice x).link = s.link := rfl
@[simp] theorem State.setLattice_queue (x) : (s.setLattice x).queue = s.queue := rfl
@[simp] theorem State.setLattice_turner (x) : (s.setLattice x).turner = s.turner := rfl
@[simp] theorem State.setLattice_lattice (x) : (s.setLattice x).lattice = x := rfl
@[simp] theorem State.setLattice_finish (x) : (s.setLattice x).finish = s.finish := rfl
@[simp] theorem State.setLattice_spindle (x) : (s.setLattice x).spindle = s.spindle := rfl
@[simp] theorem State.setLattice_scale (x) : (s.setLattice x).scale = s.scale := rfl
@[simp] theorem State.setLattice_keep (x) : (s.setLattice x).keep = s.keep := rfl
@[simp] theorem State.setLattice_cache (x) : (s.setLattice x).cache = s.cache := rfl
@[simp] theorem State.setLattice_gauge (x) : (s.setLattice x).gauge = s.gauge := rfl
@[simp] theorem State.setLattice_mgmt (x) : (s.setLattice x).mgmt = s.mgmt := rfl
@[simp] theorem State.setLattice_jiman (x) : (s.setLattice x).jiman = s.jiman := rfl
@[simp] theorem State.setLattice_firmware (x) : (s.setLattice x).firmware = s.firmware := rfl
@[simp] theorem State.setLattice_faults (x) : (s.setLattice x).faults = s.faults := rfl
@[simp] theorem State.setLattice_dev (x) : (s.setLattice x).dev = s.dev := rfl
@[simp] theorem State.setLattice_host (x) : (s.setLattice x).host = s.host := rfl
@[simp] theorem State.setLattice_freeCtr (x) : (s.setLattice x).freeCtr = s.freeCtr := rfl
@[simp] theorem State.setLattice_pending (x) : (s.setLattice x).pending = s.pending := rfl
@[simp] theorem State.setLattice_setLattice (x y) : (s.setLattice x).setLattice y = s.setLattice y := rfl
@[simp] theorem State.setLattice_self : s.setLattice s.lattice = s := rfl

/-! ### setFinish -/
@[simp] theorem State.setFinish_clocks (x) : (s.setFinish x).clocks = s.clocks := rfl
@[simp] theorem State.setFinish_power (x) : (s.setFinish x).power = s.power := rfl
@[simp] theorem State.setFinish_link (x) : (s.setFinish x).link = s.link := rfl
@[simp] theorem State.setFinish_queue (x) : (s.setFinish x).queue = s.queue := rfl
@[simp] theorem State.setFinish_turner (x) : (s.setFinish x).turner = s.turner := rfl
@[simp] theorem State.setFinish_lattice (x) : (s.setFinish x).lattice = s.lattice := rfl
@[simp] theorem State.setFinish_finish (x) : (s.setFinish x).finish = x := rfl
@[simp] theorem State.setFinish_spindle (x) : (s.setFinish x).spindle = s.spindle := rfl
@[simp] theorem State.setFinish_scale (x) : (s.setFinish x).scale = s.scale := rfl
@[simp] theorem State.setFinish_keep (x) : (s.setFinish x).keep = s.keep := rfl
@[simp] theorem State.setFinish_cache (x) : (s.setFinish x).cache = s.cache := rfl
@[simp] theorem State.setFinish_gauge (x) : (s.setFinish x).gauge = s.gauge := rfl
@[simp] theorem State.setFinish_mgmt (x) : (s.setFinish x).mgmt = s.mgmt := rfl
@[simp] theorem State.setFinish_jiman (x) : (s.setFinish x).jiman = s.jiman := rfl
@[simp] theorem State.setFinish_firmware (x) : (s.setFinish x).firmware = s.firmware := rfl
@[simp] theorem State.setFinish_faults (x) : (s.setFinish x).faults = s.faults := rfl
@[simp] theorem State.setFinish_dev (x) : (s.setFinish x).dev = s.dev := rfl
@[simp] theorem State.setFinish_host (x) : (s.setFinish x).host = s.host := rfl
@[simp] theorem State.setFinish_freeCtr (x) : (s.setFinish x).freeCtr = s.freeCtr := rfl
@[simp] theorem State.setFinish_pending (x) : (s.setFinish x).pending = s.pending := rfl
@[simp] theorem State.setFinish_setFinish (x y) : (s.setFinish x).setFinish y = s.setFinish y := rfl
@[simp] theorem State.setFinish_self : s.setFinish s.finish = s := rfl

/-! ### setSpindle -/
@[simp] theorem State.setSpindle_clocks (x) : (s.setSpindle x).clocks = s.clocks := rfl
@[simp] theorem State.setSpindle_power (x) : (s.setSpindle x).power = s.power := rfl
@[simp] theorem State.setSpindle_link (x) : (s.setSpindle x).link = s.link := rfl
@[simp] theorem State.setSpindle_queue (x) : (s.setSpindle x).queue = s.queue := rfl
@[simp] theorem State.setSpindle_turner (x) : (s.setSpindle x).turner = s.turner := rfl
@[simp] theorem State.setSpindle_lattice (x) : (s.setSpindle x).lattice = s.lattice := rfl
@[simp] theorem State.setSpindle_finish (x) : (s.setSpindle x).finish = s.finish := rfl
@[simp] theorem State.setSpindle_spindle (x) : (s.setSpindle x).spindle = x := rfl
@[simp] theorem State.setSpindle_scale (x) : (s.setSpindle x).scale = s.scale := rfl
@[simp] theorem State.setSpindle_keep (x) : (s.setSpindle x).keep = s.keep := rfl
@[simp] theorem State.setSpindle_cache (x) : (s.setSpindle x).cache = s.cache := rfl
@[simp] theorem State.setSpindle_gauge (x) : (s.setSpindle x).gauge = s.gauge := rfl
@[simp] theorem State.setSpindle_mgmt (x) : (s.setSpindle x).mgmt = s.mgmt := rfl
@[simp] theorem State.setSpindle_jiman (x) : (s.setSpindle x).jiman = s.jiman := rfl
@[simp] theorem State.setSpindle_firmware (x) : (s.setSpindle x).firmware = s.firmware := rfl
@[simp] theorem State.setSpindle_faults (x) : (s.setSpindle x).faults = s.faults := rfl
@[simp] theorem State.setSpindle_dev (x) : (s.setSpindle x).dev = s.dev := rfl
@[simp] theorem State.setSpindle_host (x) : (s.setSpindle x).host = s.host := rfl
@[simp] theorem State.setSpindle_freeCtr (x) : (s.setSpindle x).freeCtr = s.freeCtr := rfl
@[simp] theorem State.setSpindle_pending (x) : (s.setSpindle x).pending = s.pending := rfl
@[simp] theorem State.setSpindle_setSpindle (x y) : (s.setSpindle x).setSpindle y = s.setSpindle y := rfl
@[simp] theorem State.setSpindle_self : s.setSpindle s.spindle = s := rfl

/-! ### setScale -/
@[simp] theorem State.setScale_clocks (x) : (s.setScale x).clocks = s.clocks := rfl
@[simp] theorem State.setScale_power (x) : (s.setScale x).power = s.power := rfl
@[simp] theorem State.setScale_link (x) : (s.setScale x).link = s.link := rfl
@[simp] theorem State.setScale_queue (x) : (s.setScale x).queue = s.queue := rfl
@[simp] theorem State.setScale_turner (x) : (s.setScale x).turner = s.turner := rfl
@[simp] theorem State.setScale_lattice (x) : (s.setScale x).lattice = s.lattice := rfl
@[simp] theorem State.setScale_finish (x) : (s.setScale x).finish = s.finish := rfl
@[simp] theorem State.setScale_spindle (x) : (s.setScale x).spindle = s.spindle := rfl
@[simp] theorem State.setScale_scale (x) : (s.setScale x).scale = x := rfl
@[simp] theorem State.setScale_keep (x) : (s.setScale x).keep = s.keep := rfl
@[simp] theorem State.setScale_cache (x) : (s.setScale x).cache = s.cache := rfl
@[simp] theorem State.setScale_gauge (x) : (s.setScale x).gauge = s.gauge := rfl
@[simp] theorem State.setScale_mgmt (x) : (s.setScale x).mgmt = s.mgmt := rfl
@[simp] theorem State.setScale_jiman (x) : (s.setScale x).jiman = s.jiman := rfl
@[simp] theorem State.setScale_firmware (x) : (s.setScale x).firmware = s.firmware := rfl
@[simp] theorem State.setScale_faults (x) : (s.setScale x).faults = s.faults := rfl
@[simp] theorem State.setScale_dev (x) : (s.setScale x).dev = s.dev := rfl
@[simp] theorem State.setScale_host (x) : (s.setScale x).host = s.host := rfl
@[simp] theorem State.setScale_freeCtr (x) : (s.setScale x).freeCtr = s.freeCtr := rfl
@[simp] theorem State.setScale_pending (x) : (s.setScale x).pending = s.pending := rfl
@[simp] theorem State.setScale_setScale (x y) : (s.setScale x).setScale y = s.setScale y := rfl
@[simp] theorem State.setScale_self : s.setScale s.scale = s := rfl

/-! ### setKeep -/
@[simp] theorem State.setKeep_clocks (x) : (s.setKeep x).clocks = s.clocks := rfl
@[simp] theorem State.setKeep_power (x) : (s.setKeep x).power = s.power := rfl
@[simp] theorem State.setKeep_link (x) : (s.setKeep x).link = s.link := rfl
@[simp] theorem State.setKeep_queue (x) : (s.setKeep x).queue = s.queue := rfl
@[simp] theorem State.setKeep_turner (x) : (s.setKeep x).turner = s.turner := rfl
@[simp] theorem State.setKeep_lattice (x) : (s.setKeep x).lattice = s.lattice := rfl
@[simp] theorem State.setKeep_finish (x) : (s.setKeep x).finish = s.finish := rfl
@[simp] theorem State.setKeep_spindle (x) : (s.setKeep x).spindle = s.spindle := rfl
@[simp] theorem State.setKeep_scale (x) : (s.setKeep x).scale = s.scale := rfl
@[simp] theorem State.setKeep_keep (x) : (s.setKeep x).keep = x := rfl
@[simp] theorem State.setKeep_cache (x) : (s.setKeep x).cache = s.cache := rfl
@[simp] theorem State.setKeep_gauge (x) : (s.setKeep x).gauge = s.gauge := rfl
@[simp] theorem State.setKeep_mgmt (x) : (s.setKeep x).mgmt = s.mgmt := rfl
@[simp] theorem State.setKeep_jiman (x) : (s.setKeep x).jiman = s.jiman := rfl
@[simp] theorem State.setKeep_firmware (x) : (s.setKeep x).firmware = s.firmware := rfl
@[simp] theorem State.setKeep_faults (x) : (s.setKeep x).faults = s.faults := rfl
@[simp] theorem State.setKeep_dev (x) : (s.setKeep x).dev = s.dev := rfl
@[simp] theorem State.setKeep_host (x) : (s.setKeep x).host = s.host := rfl
@[simp] theorem State.setKeep_freeCtr (x) : (s.setKeep x).freeCtr = s.freeCtr := rfl
@[simp] theorem State.setKeep_pending (x) : (s.setKeep x).pending = s.pending := rfl
@[simp] theorem State.setKeep_setKeep (x y) : (s.setKeep x).setKeep y = s.setKeep y := rfl
@[simp] theorem State.setKeep_self : s.setKeep s.keep = s := rfl

/-! ### setCache -/
@[simp] theorem State.setCache_clocks (x) : (s.setCache x).clocks = s.clocks := rfl
@[simp] theorem State.setCache_power (x) : (s.setCache x).power = s.power := rfl
@[simp] theorem State.setCache_link (x) : (s.setCache x).link = s.link := rfl
@[simp] theorem State.setCache_queue (x) : (s.setCache x).queue = s.queue := rfl
@[simp] theorem State.setCache_turner (x) : (s.setCache x).turner = s.turner := rfl
@[simp] theorem State.setCache_lattice (x) : (s.setCache x).lattice = s.lattice := rfl
@[simp] theorem State.setCache_finish (x) : (s.setCache x).finish = s.finish := rfl
@[simp] theorem State.setCache_spindle (x) : (s.setCache x).spindle = s.spindle := rfl
@[simp] theorem State.setCache_scale (x) : (s.setCache x).scale = s.scale := rfl
@[simp] theorem State.setCache_keep (x) : (s.setCache x).keep = s.keep := rfl
@[simp] theorem State.setCache_cache (x) : (s.setCache x).cache = x := rfl
@[simp] theorem State.setCache_gauge (x) : (s.setCache x).gauge = s.gauge := rfl
@[simp] theorem State.setCache_mgmt (x) : (s.setCache x).mgmt = s.mgmt := rfl
@[simp] theorem State.setCache_jiman (x) : (s.setCache x).jiman = s.jiman := rfl
@[simp] theorem State.setCache_firmware (x) : (s.setCache x).firmware = s.firmware := rfl
@[simp] theorem State.setCache_faults (x) : (s.setCache x).faults = s.faults := rfl
@[simp] theorem State.setCache_dev (x) : (s.setCache x).dev = s.dev := rfl
@[simp] theorem State.setCache_host (x) : (s.setCache x).host = s.host := rfl
@[simp] theorem State.setCache_freeCtr (x) : (s.setCache x).freeCtr = s.freeCtr := rfl
@[simp] theorem State.setCache_pending (x) : (s.setCache x).pending = s.pending := rfl
@[simp] theorem State.setCache_setCache (x y) : (s.setCache x).setCache y = s.setCache y := rfl
@[simp] theorem State.setCache_self : s.setCache s.cache = s := rfl

/-! ### setGauge -/
@[simp] theorem State.setGauge_clocks (x) : (s.setGauge x).clocks = s.clocks := rfl
@[simp] theorem State.setGauge_power (x) : (s.setGauge x).power = s.power := rfl
@[simp] theorem State.setGauge_link (x) : (s.setGauge x).link = s.link := rfl
@[simp] theorem State.setGauge_queue (x) : (s.setGauge x).queue = s.queue := rfl
@[simp] theorem State.setGauge_turner (x) : (s.setGauge x).turner = s.turner := rfl
@[simp] theorem State.setGauge_lattice (x) : (s.setGauge x).lattice = s.lattice := rfl
@[simp] theorem State.setGauge_finish (x) : (s.setGauge x).finish = s.finish := rfl
@[simp] theorem State.setGauge_spindle (x) : (s.setGauge x).spindle = s.spindle := rfl
@[simp] theorem State.setGauge_scale (x) : (s.setGauge x).scale = s.scale := rfl
@[simp] theorem State.setGauge_keep (x) : (s.setGauge x).keep = s.keep := rfl
@[simp] theorem State.setGauge_cache (x) : (s.setGauge x).cache = s.cache := rfl
@[simp] theorem State.setGauge_gauge (x) : (s.setGauge x).gauge = x := rfl
@[simp] theorem State.setGauge_mgmt (x) : (s.setGauge x).mgmt = s.mgmt := rfl
@[simp] theorem State.setGauge_jiman (x) : (s.setGauge x).jiman = s.jiman := rfl
@[simp] theorem State.setGauge_firmware (x) : (s.setGauge x).firmware = s.firmware := rfl
@[simp] theorem State.setGauge_faults (x) : (s.setGauge x).faults = s.faults := rfl
@[simp] theorem State.setGauge_dev (x) : (s.setGauge x).dev = s.dev := rfl
@[simp] theorem State.setGauge_host (x) : (s.setGauge x).host = s.host := rfl
@[simp] theorem State.setGauge_freeCtr (x) : (s.setGauge x).freeCtr = s.freeCtr := rfl
@[simp] theorem State.setGauge_pending (x) : (s.setGauge x).pending = s.pending := rfl
@[simp] theorem State.setGauge_setGauge (x y) : (s.setGauge x).setGauge y = s.setGauge y := rfl
@[simp] theorem State.setGauge_self : s.setGauge s.gauge = s := rfl

/-! ### setMgmt -/
@[simp] theorem State.setMgmt_clocks (x) : (s.setMgmt x).clocks = s.clocks := rfl
@[simp] theorem State.setMgmt_power (x) : (s.setMgmt x).power = s.power := rfl
@[simp] theorem State.setMgmt_link (x) : (s.setMgmt x).link = s.link := rfl
@[simp] theorem State.setMgmt_queue (x) : (s.setMgmt x).queue = s.queue := rfl
@[simp] theorem State.setMgmt_turner (x) : (s.setMgmt x).turner = s.turner := rfl
@[simp] theorem State.setMgmt_lattice (x) : (s.setMgmt x).lattice = s.lattice := rfl
@[simp] theorem State.setMgmt_finish (x) : (s.setMgmt x).finish = s.finish := rfl
@[simp] theorem State.setMgmt_spindle (x) : (s.setMgmt x).spindle = s.spindle := rfl
@[simp] theorem State.setMgmt_scale (x) : (s.setMgmt x).scale = s.scale := rfl
@[simp] theorem State.setMgmt_keep (x) : (s.setMgmt x).keep = s.keep := rfl
@[simp] theorem State.setMgmt_cache (x) : (s.setMgmt x).cache = s.cache := rfl
@[simp] theorem State.setMgmt_gauge (x) : (s.setMgmt x).gauge = s.gauge := rfl
@[simp] theorem State.setMgmt_mgmt (x) : (s.setMgmt x).mgmt = x := rfl
@[simp] theorem State.setMgmt_jiman (x) : (s.setMgmt x).jiman = s.jiman := rfl
@[simp] theorem State.setMgmt_firmware (x) : (s.setMgmt x).firmware = s.firmware := rfl
@[simp] theorem State.setMgmt_faults (x) : (s.setMgmt x).faults = s.faults := rfl
@[simp] theorem State.setMgmt_dev (x) : (s.setMgmt x).dev = s.dev := rfl
@[simp] theorem State.setMgmt_host (x) : (s.setMgmt x).host = s.host := rfl
@[simp] theorem State.setMgmt_freeCtr (x) : (s.setMgmt x).freeCtr = s.freeCtr := rfl
@[simp] theorem State.setMgmt_pending (x) : (s.setMgmt x).pending = s.pending := rfl
@[simp] theorem State.setMgmt_setMgmt (x y) : (s.setMgmt x).setMgmt y = s.setMgmt y := rfl
@[simp] theorem State.setMgmt_self : s.setMgmt s.mgmt = s := rfl

/-! ### setJiman -/
@[simp] theorem State.setJiman_clocks (x) : (s.setJiman x).clocks = s.clocks := rfl
@[simp] theorem State.setJiman_power (x) : (s.setJiman x).power = s.power := rfl
@[simp] theorem State.setJiman_link (x) : (s.setJiman x).link = s.link := rfl
@[simp] theorem State.setJiman_queue (x) : (s.setJiman x).queue = s.queue := rfl
@[simp] theorem State.setJiman_turner (x) : (s.setJiman x).turner = s.turner := rfl
@[simp] theorem State.setJiman_lattice (x) : (s.setJiman x).lattice = s.lattice := rfl
@[simp] theorem State.setJiman_finish (x) : (s.setJiman x).finish = s.finish := rfl
@[simp] theorem State.setJiman_spindle (x) : (s.setJiman x).spindle = s.spindle := rfl
@[simp] theorem State.setJiman_scale (x) : (s.setJiman x).scale = s.scale := rfl
@[simp] theorem State.setJiman_keep (x) : (s.setJiman x).keep = s.keep := rfl
@[simp] theorem State.setJiman_cache (x) : (s.setJiman x).cache = s.cache := rfl
@[simp] theorem State.setJiman_gauge (x) : (s.setJiman x).gauge = s.gauge := rfl
@[simp] theorem State.setJiman_mgmt (x) : (s.setJiman x).mgmt = s.mgmt := rfl
@[simp] theorem State.setJiman_jiman (x) : (s.setJiman x).jiman = x := rfl
@[simp] theorem State.setJiman_firmware (x) : (s.setJiman x).firmware = s.firmware := rfl
@[simp] theorem State.setJiman_faults (x) : (s.setJiman x).faults = s.faults := rfl
@[simp] theorem State.setJiman_dev (x) : (s.setJiman x).dev = s.dev := rfl
@[simp] theorem State.setJiman_host (x) : (s.setJiman x).host = s.host := rfl
@[simp] theorem State.setJiman_freeCtr (x) : (s.setJiman x).freeCtr = s.freeCtr := rfl
@[simp] theorem State.setJiman_pending (x) : (s.setJiman x).pending = s.pending := rfl
@[simp] theorem State.setJiman_setJiman (x y) : (s.setJiman x).setJiman y = s.setJiman y := rfl
@[simp] theorem State.setJiman_self : s.setJiman s.jiman = s := rfl

/-! ### setFirmware -/
@[simp] theorem State.setFirmware_clocks (x) : (s.setFirmware x).clocks = s.clocks := rfl
@[simp] theorem State.setFirmware_power (x) : (s.setFirmware x).power = s.power := rfl
@[simp] theorem State.setFirmware_link (x) : (s.setFirmware x).link = s.link := rfl
@[simp] theorem State.setFirmware_queue (x) : (s.setFirmware x).queue = s.queue := rfl
@[simp] theorem State.setFirmware_turner (x) : (s.setFirmware x).turner = s.turner := rfl
@[simp] theorem State.setFirmware_lattice (x) : (s.setFirmware x).lattice = s.lattice := rfl
@[simp] theorem State.setFirmware_finish (x) : (s.setFirmware x).finish = s.finish := rfl
@[simp] theorem State.setFirmware_spindle (x) : (s.setFirmware x).spindle = s.spindle := rfl
@[simp] theorem State.setFirmware_scale (x) : (s.setFirmware x).scale = s.scale := rfl
@[simp] theorem State.setFirmware_keep (x) : (s.setFirmware x).keep = s.keep := rfl
@[simp] theorem State.setFirmware_cache (x) : (s.setFirmware x).cache = s.cache := rfl
@[simp] theorem State.setFirmware_gauge (x) : (s.setFirmware x).gauge = s.gauge := rfl
@[simp] theorem State.setFirmware_mgmt (x) : (s.setFirmware x).mgmt = s.mgmt := rfl
@[simp] theorem State.setFirmware_jiman (x) : (s.setFirmware x).jiman = s.jiman := rfl
@[simp] theorem State.setFirmware_firmware (x) : (s.setFirmware x).firmware = x := rfl
@[simp] theorem State.setFirmware_faults (x) : (s.setFirmware x).faults = s.faults := rfl
@[simp] theorem State.setFirmware_dev (x) : (s.setFirmware x).dev = s.dev := rfl
@[simp] theorem State.setFirmware_host (x) : (s.setFirmware x).host = s.host := rfl
@[simp] theorem State.setFirmware_freeCtr (x) : (s.setFirmware x).freeCtr = s.freeCtr := rfl
@[simp] theorem State.setFirmware_pending (x) : (s.setFirmware x).pending = s.pending := rfl
@[simp] theorem State.setFirmware_setFirmware (x y) : (s.setFirmware x).setFirmware y = s.setFirmware y := rfl
@[simp] theorem State.setFirmware_self : s.setFirmware s.firmware = s := rfl

/-! ### setFaults -/
@[simp] theorem State.setFaults_clocks (x) : (s.setFaults x).clocks = s.clocks := rfl
@[simp] theorem State.setFaults_power (x) : (s.setFaults x).power = s.power := rfl
@[simp] theorem State.setFaults_link (x) : (s.setFaults x).link = s.link := rfl
@[simp] theorem State.setFaults_queue (x) : (s.setFaults x).queue = s.queue := rfl
@[simp] theorem State.setFaults_turner (x) : (s.setFaults x).turner = s.turner := rfl
@[simp] theorem State.setFaults_lattice (x) : (s.setFaults x).lattice = s.lattice := rfl
@[simp] theorem State.setFaults_finish (x) : (s.setFaults x).finish = s.finish := rfl
@[simp] theorem State.setFaults_spindle (x) : (s.setFaults x).spindle = s.spindle := rfl
@[simp] theorem State.setFaults_scale (x) : (s.setFaults x).scale = s.scale := rfl
@[simp] theorem State.setFaults_keep (x) : (s.setFaults x).keep = s.keep := rfl
@[simp] theorem State.setFaults_cache (x) : (s.setFaults x).cache = s.cache := rfl
@[simp] theorem State.setFaults_gauge (x) : (s.setFaults x).gauge = s.gauge := rfl
@[simp] theorem State.setFaults_mgmt (x) : (s.setFaults x).mgmt = s.mgmt := rfl
@[simp] theorem State.setFaults_jiman (x) : (s.setFaults x).jiman = s.jiman := rfl
@[simp] theorem State.setFaults_firmware (x) : (s.setFaults x).firmware = s.firmware := rfl
@[simp] theorem State.setFaults_faults (x) : (s.setFaults x).faults = x := rfl
@[simp] theorem State.setFaults_dev (x) : (s.setFaults x).dev = s.dev := rfl
@[simp] theorem State.setFaults_host (x) : (s.setFaults x).host = s.host := rfl
@[simp] theorem State.setFaults_freeCtr (x) : (s.setFaults x).freeCtr = s.freeCtr := rfl
@[simp] theorem State.setFaults_pending (x) : (s.setFaults x).pending = s.pending := rfl
@[simp] theorem State.setFaults_setFaults (x y) : (s.setFaults x).setFaults y = s.setFaults y := rfl
@[simp] theorem State.setFaults_self : s.setFaults s.faults = s := rfl

/-! ### setDev -/
@[simp] theorem State.setDev_clocks (x) : (s.setDev x).clocks = s.clocks := rfl
@[simp] theorem State.setDev_power (x) : (s.setDev x).power = s.power := rfl
@[simp] theorem State.setDev_link (x) : (s.setDev x).link = s.link := rfl
@[simp] theorem State.setDev_queue (x) : (s.setDev x).queue = s.queue := rfl
@[simp] theorem State.setDev_turner (x) : (s.setDev x).turner = s.turner := rfl
@[simp] theorem State.setDev_lattice (x) : (s.setDev x).lattice = s.lattice := rfl
@[simp] theorem State.setDev_finish (x) : (s.setDev x).finish = s.finish := rfl
@[simp] theorem State.setDev_spindle (x) : (s.setDev x).spindle = s.spindle := rfl
@[simp] theorem State.setDev_scale (x) : (s.setDev x).scale = s.scale := rfl
@[simp] theorem State.setDev_keep (x) : (s.setDev x).keep = s.keep := rfl
@[simp] theorem State.setDev_cache (x) : (s.setDev x).cache = s.cache := rfl
@[simp] theorem State.setDev_gauge (x) : (s.setDev x).gauge = s.gauge := rfl
@[simp] theorem State.setDev_mgmt (x) : (s.setDev x).mgmt = s.mgmt := rfl
@[simp] theorem State.setDev_jiman (x) : (s.setDev x).jiman = s.jiman := rfl
@[simp] theorem State.setDev_firmware (x) : (s.setDev x).firmware = s.firmware := rfl
@[simp] theorem State.setDev_faults (x) : (s.setDev x).faults = s.faults := rfl
@[simp] theorem State.setDev_dev (x) : (s.setDev x).dev = x := rfl
@[simp] theorem State.setDev_host (x) : (s.setDev x).host = s.host := rfl
@[simp] theorem State.setDev_freeCtr (x) : (s.setDev x).freeCtr = s.freeCtr := rfl
@[simp] theorem State.setDev_pending (x) : (s.setDev x).pending = s.pending := rfl
@[simp] theorem State.setDev_setDev (x y) : (s.setDev x).setDev y = s.setDev y := rfl
@[simp] theorem State.setDev_self : s.setDev s.dev = s := rfl

/-! ### setHost -/
@[simp] theorem State.setHost_clocks (x) : (s.setHost x).clocks = s.clocks := rfl
@[simp] theorem State.setHost_power (x) : (s.setHost x).power = s.power := rfl
@[simp] theorem State.setHost_link (x) : (s.setHost x).link = s.link := rfl
@[simp] theorem State.setHost_queue (x) : (s.setHost x).queue = s.queue := rfl
@[simp] theorem State.setHost_turner (x) : (s.setHost x).turner = s.turner := rfl
@[simp] theorem State.setHost_lattice (x) : (s.setHost x).lattice = s.lattice := rfl
@[simp] theorem State.setHost_finish (x) : (s.setHost x).finish = s.finish := rfl
@[simp] theorem State.setHost_spindle (x) : (s.setHost x).spindle = s.spindle := rfl
@[simp] theorem State.setHost_scale (x) : (s.setHost x).scale = s.scale := rfl
@[simp] theorem State.setHost_keep (x) : (s.setHost x).keep = s.keep := rfl
@[simp] theorem State.setHost_cache (x) : (s.setHost x).cache = s.cache := rfl
@[simp] theorem State.setHost_gauge (x) : (s.setHost x).gauge = s.gauge := rfl
@[simp] theorem State.setHost_mgmt (x) : (s.setHost x).mgmt = s.mgmt := rfl
@[simp] theorem State.setHost_jiman (x) : (s.setHost x).jiman = s.jiman := rfl
@[simp] theorem State.setHost_firmware (x) : (s.setHost x).firmware = s.firmware := rfl
@[simp] theorem State.setHost_faults (x) : (s.setHost x).faults = s.faults := rfl
@[simp] theorem State.setHost_dev (x) : (s.setHost x).dev = s.dev := rfl
@[simp] theorem State.setHost_host (x) : (s.setHost x).host = x := rfl
@[simp] theorem State.setHost_freeCtr (x) : (s.setHost x).freeCtr = s.freeCtr := rfl
@[simp] theorem State.setHost_pending (x) : (s.setHost x).pending = s.pending := rfl
@[simp] theorem State.setHost_setHost (x y) : (s.setHost x).setHost y = s.setHost y := rfl
@[simp] theorem State.setHost_self : s.setHost s.host = s := rfl

/-! ### setFreeCtr -/
@[simp] theorem State.setFreeCtr_clocks (x) : (s.setFreeCtr x).clocks = s.clocks := rfl
@[simp] theorem State.setFreeCtr_power (x) : (s.setFreeCtr x).power = s.power := rfl
@[simp] theorem State.setFreeCtr_link (x) : (s.setFreeCtr x).link = s.link := rfl
@[simp] theorem State.setFreeCtr_queue (x) : (s.setFreeCtr x).queue = s.queue := rfl
@[simp] theorem State.setFreeCtr_turner (x) : (s.setFreeCtr x).turner = s.turner := rfl
@[simp] theorem State.setFreeCtr_lattice (x) : (s.setFreeCtr x).lattice = s.lattice := rfl
@[simp] theorem State.setFreeCtr_finish (x) : (s.setFreeCtr x).finish = s.finish := rfl
@[simp] theorem State.setFreeCtr_spindle (x) : (s.setFreeCtr x).spindle = s.spindle := rfl
@[simp] theorem State.setFreeCtr_scale (x) : (s.setFreeCtr x).scale = s.scale := rfl
@[simp] theorem State.setFreeCtr_keep (x) : (s.setFreeCtr x).keep = s.keep := rfl
@[simp] theorem State.setFreeCtr_cache (x) : (s.setFreeCtr x).cache = s.cache := rfl
@[simp] theorem State.setFreeCtr_gauge (x) : (s.setFreeCtr x).gauge = s.gauge := rfl
@[simp] theorem State.setFreeCtr_mgmt (x) : (s.setFreeCtr x).mgmt = s.mgmt := rfl
@[simp] theorem State.setFreeCtr_jiman (x) : (s.setFreeCtr x).jiman = s.jiman := rfl
@[simp] theorem State.setFreeCtr_firmware (x) : (s.setFreeCtr x).firmware = s.firmware := rfl
@[simp] theorem State.setFreeCtr_faults (x) : (s.setFreeCtr x).faults = s.faults := rfl
@[simp] theorem State.setFreeCtr_dev (x) : (s.setFreeCtr x).dev = s.dev := rfl
@[simp] theorem State.setFreeCtr_host (x) : (s.setFreeCtr x).host = s.host := rfl
@[simp] theorem State.setFreeCtr_freeCtr (x) : (s.setFreeCtr x).freeCtr = x := rfl
@[simp] theorem State.setFreeCtr_pending (x) : (s.setFreeCtr x).pending = s.pending := rfl
@[simp] theorem State.setFreeCtr_setFreeCtr (x y) : (s.setFreeCtr x).setFreeCtr y = s.setFreeCtr y := rfl
@[simp] theorem State.setFreeCtr_self : s.setFreeCtr s.freeCtr = s := rfl

end Sys2Proof.Machine
end

