-- ==== Sys2Proof/Laws/Queue.lean ====
section
/-! SUPPORT. What the shared operations of the queue engine do: an operation that performs, one that ends, and what
follows from an end. -/

namespace Sys2Proof.Machine
open Sys2Proof

variable {s s1 t : State} {k opcode : Nat} {o : Op} {r : Result}

/-! ### Rings and entries -/

@[simp] theorem op_setOp_self (h : k < 512) (x : Option Op) : (s.setOp k x).op k = x := by
  simp [State.setOp, State.op, h]

@[simp] theorem op_setOp_ne {j : Nat} (h : j ≠ k) (x : Option Op) : (s.setOp j x).op k = s.op k := by
  simp [State.setOp, State.op, h]

@[simp] theorem op_setCr (i : Nat) (x : CplRing) : (s.setCr i x).op k = s.op k := rfl
@[simp] theorem op_setSr (i : Nat) (x : SubRing) : (s.setSr i x).op k = s.op k := rfl
@[simp] theorem cr_setOp (i : Nat) (x : Option Op) : (s.setOp k x).cr i = s.cr i := rfl
@[simp] theorem cr_setSr (i j : Nat) (x : SubRing) : (s.setSr j x).cr i = s.cr i := rfl
@[simp] theorem sr_setOp (i : Nat) (x : Option Op) : (s.setOp k x).sr i = s.sr i := rfl
@[simp] theorem sr_setCr (i j : Nat) (x : CplRing) : (s.setCr j x).sr i = s.sr i := rfl

@[simp] theorem cr_setCr_self {i : Nat} (h : i < 32) (x : CplRing) : (s.setCr i x).cr i = x := by
  simp [State.setCr, State.cr, h]

@[simp] theorem cr_setCr_ne {i j : Nat} (h : j ≠ i) (x : CplRing) : (s.setCr j x).cr i = s.cr i := by
  simp [State.setCr, State.cr, h]

@[simp] theorem sr_setSr_self {i : Nat} (h : i < 32) (x : SubRing) : (s.setSr i x).sr i = x := by
  simp [State.setSr, State.sr, h]

@[simp] theorem sr_setSr_ne {i j : Nat} (h : j ≠ i) (x : SubRing) : (s.setSr j x).sr i = s.sr i := by
  simp [State.setSr, State.sr, h]

theorem setCr_out {i : Nat} (h : 32 ≤ i) (x : CplRing) : s.setCr i x = s := by
  simp [State.setCr, vset, Vector.setIfInBounds_eq_of_size_le h, State.setQueue]

theorem op_some_lt (h : s.op k = some o) : k < 512 := by
  by_contra hk
  have : ¬ k < 512 := hk
  simp [State.op, vget, this] at h

theorem crIndex_lt (o : Op) : o.crIndex < 32 := Nat.mod_lt _ (by decide)

/-- A completion ring that is written with more completions keeps those it has. -/
theorem mem_waiting_setCr {i j : Nat} {x : CplRing} {c : Cpl} (hc : c ∈ (s.cr i).waiting)
    (hx : ∀ c ∈ (s.cr j).waiting, c ∈ x.waiting) : c ∈ ((s.setCr j x).cr i).waiting := by
  by_cases h : j = i
  · subst h
    by_cases hj : j < 32
    · simpa [hj] using hx c hc
    · rw [setCr_out (by omega)]; exact hc
  · simpa [h] using hc

/-! ### Performing -/

/-- A command of an operation that performs works on it. -/
theorem runOp_performs (body : State → Op → State) (h : Performs s k opcode s1 o) :
    runOp s k opcode body = body s1 o := by
  obtain ⟨hr, o0, ho, hop, ⟨hp, hc, rfl, rfl⟩ | ⟨hp, hm, he⟩⟩ := h
  · simp [runOp, ho, hop, hr, hp, hc]
  · have h1 : s1 = (startOp s k o0).1 := congrArg Prod.fst he
    have h2 : o = (startOp s k o0).2 := congrArg Prod.snd he
    subst h1; subst h2
    simp [runOp, ho, hop, hr, hp, hm]

theorem Performs.running (h : Performs s k opcode s1 o) : s.running = true := h.1

theorem Performs.op (h : Performs s k opcode s1 o) : s1.op k = some o := by
  obtain ⟨-, o0, ho, -, ⟨-, -, rfl, rfl⟩ | ⟨-, -, he⟩⟩ := h
  · exact ho
  · have h1 : s1 = (startOp s k o0).1 := congrArg Prod.fst he
    have h2 : o = (startOp s k o0).2 := congrArg Prod.snd he
    subst h1; subst h2
    simp [startOp, op_some_lt ho]

/-- Starting an operation changes the queue engine alone. -/
theorem Performs.state (h : Performs s k opcode s1 o) : ∃ q, s1 = s.setQueue q := by
  obtain ⟨-, o0, ho, -, ⟨-, -, rfl, rfl⟩ | ⟨-, -, he⟩⟩ := h
  · exact ⟨s1.queue, rfl⟩
  · have h1 : s1 = (startOp s k o0).1 := congrArg Prod.fst he
    subst h1
    simp only [startOp]
    split
    · exact ⟨_, rfl⟩
    · exact ⟨_, rfl⟩

/-! ### Ending -/

theorem decideOp_ended (h : s.op k = some o) : Ended (decideOp s k r) k o r := by
  have hk := op_some_lt h
  by_cases hs : (o.silent && decide (r.status = 0)) = true
  · rw [Ended, if_pos hs]
    simp only [decideOp, h]
    rw [if_pos hs, freeEntryOf]
    exact op_setOp_self hk none
  · rw [Ended, if_neg hs]
    simp only [decideOp, h]
    rw [if_neg hs]
    refine ⟨cplOf s k o r, ?_, rfl, rfl, rfl, rfl, rfl⟩
    simp [crIndex_lt o]

/-- What a state keeps when it changes only by later ends: the free entry, or the completion that waits. -/
theorem Ended.mono (h : Ended s k o r) (hn : s.op k = none → t.op k = none)
    (hc : ∀ c ∈ (s.cr o.crIndex).waiting, c ∈ (t.cr o.crIndex).waiting) : Ended t k o r := by
  by_cases hs : (o.silent && decide (r.status = 0)) = true
  · rw [Ended, if_pos hs] at h ⊢
    exact hn h
  · rw [Ended, if_neg hs] at h ⊢
    obtain ⟨c, hm, hrest⟩ := h
    exact ⟨c, hc c hm, hrest⟩

/-- The relation that every part of `settle` is in: entries that are free stay free, completions that wait stay. -/
structure Grows (s t : State) : Prop where
  free : ∀ k, s.op k = none → t.op k = none
  waits : ∀ i, ∀ c ∈ (s.cr i).waiting, c ∈ (t.cr i).waiting

theorem Grows.refl (s : State) : Grows s s := ⟨fun _ h => h, fun _ _ h => h⟩
theorem Grows.trans {u : State} (a : Grows s t) (b : Grows t u) : Grows s u :=
  ⟨fun k h => b.free k (a.free k h), fun i c h => b.waits i c (a.waits i c h)⟩
theorem Ended.grows (h : Ended s k o r) (g : Grows s t) : Ended t k o r := h.mono (g.free k) (g.waits _)

theorem Grows.ofQueue (h : t.queue = s.queue) : Grows s t := by
  constructor <;> simp [State.op, State.cr, h]

theorem grows_foldl {α : Type} (f : State → α → State) (hf : ∀ s a, Grows s (f s a)) :
    ∀ (l : List α) (s : State), Grows s (l.foldl f s)
  | [], s => Grows.refl s
  | a :: l, s => (hf s a).trans (grows_foldl f hf l (f s a))

theorem setSr_grows (s : State) (i : Nat) (x : SubRing) : Grows s (s.setSr i x) := ⟨fun _ h => h, fun _ _ h => h⟩

theorem setCr_grows (s : State) (i : Nat) (x : CplRing) (h : ∀ c ∈ (s.cr i).waiting, c ∈ x.waiting) :
    Grows s (s.setCr i x) := ⟨fun _ h => h, fun _ _ hc => mem_waiting_setCr hc h⟩

theorem releaseStop_grows (s : State) (i : Nat) : Grows s (releaseStop s i) := by
  simp only [releaseStop]
  split
  · exact Grows.refl s
  · refine (setSr_grows s i _).trans (setCr_grows _ _ _ ?_)
    intro c hc
    simp only [cr_setSr] at hc
    simp [hc]

theorem releaseStops_grows (s : State) : Grows s (releaseStops s) := by
  simp only [releaseStops]
  have h1 := grows_foldl (fun s i => if stopDue s (i + 1) then releaseStop s (i + 1) else s)
    (fun s i => by split; exact releaseStop_grows s (i + 1); exact Grows.refl s) (List.range 31) s
  split
  · exact h1.trans (releaseStop_grows _ 0)
  · exact h1

/-- The end of an operation that resets no ring. -/
theorem decideOp_grows (s : State) (j : Nat) (r : Result) (hr : (s.op j).bind Op.resets = none) : Grows s (decideOp s j r) := by
  cases hj : s.op j with
  | none => simp only [decideOp, hj]; exact Grows.refl s
  | some o =>
    have hset : ∀ x, Grows s (s.setOp j x) := fun x =>
      ⟨fun k h => by
        have hne : j ≠ k := fun e => by rw [e, h] at hj; exact absurd hj (by simp)
        simpa [hne] using h, fun _ _ h => h⟩
    simp only [decideOp, hj]
    split
    · rw [freeEntryOf, hr]
      exact hset _
    · refine (hset _).trans (setCr_grows _ _ _ ?_)
      intro c hc
      simp only [cr_setOp] at hc
      simp [hc]

end Sys2Proof.Machine
end

