-- ==== Sys2Proof/Laws/Turner.lean ====
section
/-! SUPPORT. What the frame of a Turner instruction does: where it commits, where it raises its own exception, and what it
does while the core does not run. -/

namespace Sys2Proof.Machine
open Sys2Proof

variable {s s1 : State} {reads : List Nat} {writes : Option Nat} {decode : State → Option Exc} {body : State → TRes}

/-- With the core stopped no instruction does anything. -/
theorem turnerRun_stopped (h : coreRuns s = false) : turnerRun s reads writes decode body = s := by
  simp [turnerRun, h]

/-- An instruction that commits has its effect, in its cycles. -/
theorem turnerRun_commits {s2 : State} {n : Nat} (h : Commits s s1 reads writes) (hd : decode s1 = none)
    (hb : body s1 = .next s2 n) : turnerRun s reads writes decode body = elapse s1 n s2 := by
  obtain ⟨h1, h2, h3, h4, h5, h6⟩ := h
  simp only [turnerRun, h1, h2, h3, h4, h5, h6, hd, hb, elapse, Bool.not_true, Bool.false_eq_true, if_false, Option.isSome_none]

/-- An instruction whose effect raises an exception takes it. -/
theorem turnerRun_raises {s2 : State} {x : Exc} {epc : W64} (h : Commits s s1 reads writes) (hd : decode s1 = none)
    (hb : body s1 = .exc s2 x epc) : turnerRun s reads writes decode body = takeException s2 x epc := by
  obtain ⟨h1, h2, h3, h4, h5, h6⟩ := h
  simp only [turnerRun, h1, h2, h3, h4, h5, hd, hb, Bool.not_true, Bool.false_eq_true, if_false]

/-- An instruction whose effect waits leaves what it has tried. -/
theorem turnerRun_stalls {s2 : State} (h : Commits s s1 reads writes) (hd : decode s1 = none) (hb : body s1 = .stall s2) :
    turnerRun s reads writes decode body = s2 := by
  obtain ⟨h1, h2, h3, h4, h5, h6⟩ := h
  simp only [turnerRun, h1, h2, h3, h4, h5, hd, hb, Bool.not_true, Bool.false_eq_true, if_false]

/-- An instruction that its decode checks refuse takes the exception of that check, with epc its own offset. -/
theorem turnerRun_refuses {x : Exc} (h : Issues s s1) (hd : decode s1 = some x) :
    turnerRun s reads writes decode body = takeException s1 x s1.turner.pc := by
  obtain ⟨h1, h2, h3⟩ := h
  simp only [turnerRun, h1, h2, h3, hd, Bool.not_true, Bool.false_eq_true, if_false]

theorem Commits.issues (h : Commits s s1 reads writes) : Issues s s1 := ⟨h.runs, h.boundary, h.fetched⟩

/-- An exception while no load is out, outside deterministic mode, with ENTRY = 0 and RESCUE = 0: the entry of R146. -/
theorem takeException_entry {x : Exc} {epc : W64} (hl : s.turner.loadsOut = false) (hd : s.turner.cstat.det = false)
    (he : s.turner.cstat.entry = false) (hr : s.turner.cstat.rescue = false) (hx : ¬(x.cause = 3 ∧ x.sub = 1)) :
    takeException s x epc = enteredHandler s x.ecause x.addr (x.estat s.turner.cstat) epc x := by
  simp [takeException, enterHandler, hl, hd, he, hr, hx, enteredHandler, State.setTurner]

end Sys2Proof.Machine
end

