-- ==== Sys2Proof/WellFormed.lean ====
section
/-! DEFINITION. Which commands can come from outside: operands within what the specification says of the link, the
sideband, the lanes, the drives and the rails. The effect of a command is defined on every operand; this check says
which operands an event can bring. -/

namespace Sys2Proof
open Sys2Proof.Machine

/-- A training: a rate of Table 21.3, a width of R35, CXL mode in FLIT mode only (R54). -/
def trainWf (x : LinkTrain) : Bool :=
  decide (x.rate.toNat ≤ 6) && (!x.cxl || x.flit) &&
    (decide (x.width = 0) || decide (x.width = 1) || decide (x.width = 4) || decide (x.width = 8) || decide (x.width = 16))

/-- A drive: its media in the canonical form, one lane or two (18 R448). -/
def driveWf (d : Drive) : Bool := d.media.wf && (decide (d.width = 1) || decide (d.width = 2))

/-- A link error: one of the 16 lanes, a posted write of at most Max_Payload_Size 512 bytes (02 R36, Table 2.4). -/
def linkErrWf : LinkErr → Bool
  | .symbol lane => decide (lane < 16)
  | .poisonedBar4 _ data _ => decide (1 ≤ data.length) && decide (data.length ≤ 512)
  | _ => true

/-- What a start-up meets: a training, if any, that is well formed. -/
def startUpWf (e : StartUp) : Bool :=
  match e.train with
  | some x => trainWf x
  | none => true

/-- The well-formed commands. -/
def Instr.wf : Instr → Bool
  | .doorbell _ => true
  | .push _ _ _ => true
  | .crHead _ _ => true
  | .fetchGrant => true
  | .forwardScan _ => true
  | .ringReadReturn _ _ => true
  | .completionWrite _ _ => true
  | .msixCoalesceTimer _ => true
  | .enableSet => true
  | .enableClear => true
  | .drainComplete => true
  | .nop _ => true
  | .copy _ _ => true
  | .convert _ _ => true
  | .fill _ _ => true
  | .kernel _ => true
  | .wait _ _ => true
  | .signal _ _ => true
  | .relay _ => true
  | .fence _ => true
  | .streamPark _ _ => true
  | .streamUnpark _ _ => true
  | .histogramRead _ => true
  | .keepWrite _ _ => true
  | .keepRead _ _ => true
  | .keepCommit _ => true
  | .keepScrub _ _ => true
  | .ringCreate _ => true
  | .ringDelete _ => true
  | .ringReset _ => true
  | .segmentSet _ => true
  | .relayTableSet _ => true
  | .counterSet _ => true
  | .runtimeLoad _ _ => true
  | .arrayCreate _ => true
  | .arrayImport _ => true
  | .memberReplace _ => true
  | .slotDefine _ => true
  | .spareAdd _ => true
  | .fwStage _ _ => true
  | .fwActivate _ => true
  | .fwConfirm _ => true
  | .telemetrySnapshot _ => true
  | .vaultDiscard _ => true
  | .bar4Read _ len _ => decide (len ≤ 4096)
  | .bar4Write _ data _ _ => decide (1 ≤ data.length) && decide (data.length ≤ 512)
  | .atomicop _ _ _ _ _ => true
  | .cxlMemRead _ _ => true
  | .cxlMemWrite _ _ _ => true
  | .backInvalidateResponse _ => true
  | .backInvalidateTimeout _ => true
  | .hostSnoop _ _ => true
  | .atsInvalidateRequest _ _ _ _ => true
  | .translationCompletion _ page _ => decide (page < 2 ^ 34)
  | .completionTimeout _ => true
  | .linkError e => linkErrWf e
  | .laneRetire _ => true
  | .hdmDecoderCommit => true
  | .resizableBarWrite _ => true
  | .configurationRequest _ => true
  | .powerStateWrite _ => true
  | .linkLoss => true
  | .functionLevelReset => true
  | .perstN => true
  | .counterValueTaken => true
  | .add _ _ _ _ => true
  | .sub _ _ _ _ => true
  | .and _ _ _ => true
  | .or _ _ _ => true
  | .xor _ _ _ => true
  | .andn _ _ _ => true
  | .sll _ _ _ _ => true
  | .srl _ _ _ _ => true
  | .sra _ _ _ _ => true
  | .ror _ _ _ _ => true
  | .slt _ _ _ => true
  | .sltu _ _ _ => true
  | .min _ _ _ => true
  | .max _ _ _ => true
  | .minu _ _ _ => true
  | .maxu _ _ _ => true
  | .clz _ _ => true
  | .ctz _ _ => true
  | .popc _ _ => true
  | .mul _ _ _ _ => true
  | .mulh _ _ _ => true
  | .mulhu _ _ _ => true
  | .div _ _ _ _ => true
  | .divu _ _ _ _ => true
  | .rem _ _ _ _ => true
  | .remu _ _ _ _ => true
  | .addi _ _ _ => true
  | .andi _ _ _ => true
  | .ori _ _ _ => true
  | .xori _ _ _ => true
  | .slti _ _ _ => true
  | .sltiu _ _ _ => true
  | .movi _ _ => true
  | .sloi _ _ _ => true
  | .addpc _ _ => true
  | .slli _ _ _ _ => true
  | .srli _ _ _ _ => true
  | .srai _ _ _ _ => true
  | .rori _ _ _ _ => true
  | .ldB _ _ _ _ _ _ _ => true
  | .ldBu _ _ _ _ _ _ _ => true
  | .ldH _ _ _ _ _ _ _ => true
  | .ldHu _ _ _ _ _ _ _ => true
  | .ldW _ _ _ _ _ _ _ => true
  | .ldWu _ _ _ _ _ _ _ => true
  | .ldD _ _ _ _ _ _ _ => true
  | .stB _ _ _ _ _ => true
  | .stH _ _ _ _ _ => true
  | .stW _ _ _ _ _ => true
  | .stD _ _ _ _ _ => true
  | .cbEq _ _ _ => true
  | .cbNe _ _ _ => true
  | .cbLt _ _ _ => true
  | .cbGe _ _ _ => true
  | .cbLtu _ _ _ => true
  | .cbGeu _ _ _ => true
  | .cbiEq _ _ _ => true
  | .cbiNe _ _ _ => true
  | .cbiLt _ _ _ => true
  | .cbiGe _ _ _ => true
  | .j _ => true
  | .call _ => true
  | .jr _ => true
  | .callr _ => true
  | .ret => true
  | .rdlk _ => true
  | .wrlk _ => true
  | .turnerNop => true
  | .trap _ => true
  | .tBreak => true
  | .eret => true
  | .eretX => true
  | .eretL => true
  | .sync => true
  | .isync => true
  | .mfs _ _ => true
  | .mts _ _ => true
  | .interruptEntry => true
  | .loadCompletion _ _ => true
  | .asyncStoreFailure => true
  | .haltWritebackComplete => true
  | .runtimeReload _ _ => true
  | .budgetExceeded => true
  | .budgetGraceTimeout => true
  | .timercmpReached => true
  | .tcKernelDone _ => true
  | .tcResume _ => true
  | .tload _ _ _ _ _ _ => true
  | .tstore _ _ _ _ _ => true
  | .tmma _ _ _ _ _ _ _ _ _ => true
  | .tloadc _ _ _ _ _ _ => true
  | .tdrain _ _ _ _ _ _ => true
  | .tsave _ _ _ _ => true
  | .trest _ _ _ _ _ => true
  | .tbar _ => true
  | .tzero _ _ => true
  | .tfold _ => true
  | .tdly _ => true
  | .tileIssue _ _ => true
  | .tileInstructionComplete _ => true
  | .tileAsyncFault _ => true
  | .resume => true
  | .tileDiscard => true
  | .nfPwlCommit _ => true
  | .spindleEnable _ => true
  | .spContinue => true
  | .spClear => true
  | .spStep => true
  | .spScan => true
  | .spindleCommandComplete _ _ => true
  | .destageStripeStart _ => true
  | .stripeLockGrant _ => true
  | .stripeReadsComplete _ => true
  | .stripeWritesComplete _ => true
  | .driveCommandCompletion _ _ _ => true
  | .driveCommandTimeout _ _ => true
  | .driveLinkDown _ => true
  | .driveLinkDownTimeout _ => true
  | .driveLinkReturn _ found => match found with | some d => driveWf d | none => true
  | .driveControllerFatal _ => true
  | .unrecoveredReadError _ _ _ len _ => decide (0 < len)
  | .driveInsertion _ drive => driveWf drive
  | .rebuildAutoStart => true
  | .rebuildStep _ => true
  | .resyncStep _ => true
  | .patrolScrubStep _ => true
  | .bitmapClearBatch => true
  | .drivePortTestDaily _ => true
  | .kpPortTestStart _ => true
  | .portTestEnd _ _ _ _ => true
  | .holdAssureFall => true
  | .holdAssureRise => true
  | .statusWordStale => true
  | .throttleReqChange => true
  | .pwrLoss => true
  | .vaultDumpStart => true
  | .vaultSeal _ => true
  | .inputReturn => true
  | .packCutoff => true
  | .packProtectionTrip => true
  | .vaultReplay => true
  | .emergencyOff => true
  | .pwrPrsntNBreak => true
  | .inputOvervoltage => true
  | .railOutOfLimits => true
  | .holdupRailLow => true
  | .startUp e => startUpWf e
  | .retainedPowerOn e => startUpWf e
  | .pllLockLoss => true
  | .pllRelock => true
  | .pllRelockTimeout e => startUpWf e
  | .gaugeSample _ _ => true
  | .restCorrection _ => true
  | .chargeStart => true
  | .chargeEnd _ => true
  | .chargeTimeout => true
  | .impedanceTestStart _ => true
  | .impedanceV10Sample _ => true
  | .impedanceV200Sample _ => true
  | .impedanceRetry _ => true
  | .packInsertion _ => true
  | .packRemoval => true
  | .hpEventRearm _ => true
  | .hpControlTest _ => true
  | .chargeInhibit _ => true
  | .controlLoopTick _ _ _ rails _ _ => decide (rails.length ≤ 20)
  | .comparatorSelftest _ => true
  | .lockstepMismatch _ => true
  | .watchdogTimeout _ => true
  | .thermalTrip _ _ => true
  | .tripClear _ => true
  | .nvmeMiPoll _ _ => true
  | .opRequest => true
  | .mbxData _ => true
  | .regWrite => true
  | .alert => true
  | .doeSpdm fragment _ => match fragment with | some f => decide (f.length ≤ 56) | none => true
  | .opReply => true
  | .assureNotice => true
  | .resetNotice => true
  | .mbxTake => true
  | .mbxSend => true
  | .pubWrite _ => true
  | .wdog => true
  | .flashCommand _ => true
  | .flashOperationDone => true
  | .signatureCommand => true
  | .blowRevoke _ => true
  | .oneshotTimerExpiry => true
  | .tickLoRead _ => true
  | .entdaa _ => true
  | .setEndpointId _ => true
  | .getEndpointId => true
  | .getMctpVersionSupport => true
  | .getMessageTypeSupport => true
  | .getVendorDefinedMessageSupport => true
  | .pldmBaseCommand _ => true
  | .pldmSensorRead _ => true
  | .setEventReceiver _ => true
  | .requestUpdate => true
  | .passComponentTable => true
  | .updateComponent => true
  | .requestFirmwareData _ _ => true
  | .activateFirmware => true
  | .cancelUpdate => true
  | .getVersion => true
  | .getCapabilities => true
  | .negotiateAlgorithms => true
  | .getDigests => true
  | .getCertificate => true
  | .challenge => true
  | .getMeasurements => true
  | .breadcrumbRead _ => true
  | .firstFaultRead => true
  | .firstFaultClear => true
  | .settingsRead => true
  | .settingsWrite _ _ _ _ => true
  | .mgFfrClear _ => true
  | .hbmRowRetirement _ _ _ => true
  | .hlLaneTestStart _ => true
  | .laneTestEnd _ _ => true
  | .loopbackTimeout => true
  | .ckTimebaseRead _ _ => true
  | .registerWrite _ _ data => decide (1 ≤ data.length) && decide (data.length ≤ 512)
  | .jimanInterruptEntry => true
  | .jimanPfx _ => true
  | .jimanB _ => true
  | .jimanCall _ => true
  | .jimanCb _ _ _ _ => true
  | .jimanCbz _ _ _ => true
  | .jimanDbnz _ _ => true
  | .jimanIn _ _ => true
  | .jimanOut _ _ => true
  | .jimanLd _ _ _ _ _ => true
  | .jimanSt _ _ _ _ => true
  | .jimanLds _ _ _ => true
  | .jimanSts _ _ => true
  | .jimanMpy _ _ _ => true
  | .jimanMac _ _ _ => true
  | .jimanMsu _ _ _ => true
  | .jimanMpyu _ _ _ => true
  | .jimanCallm _ => true
  | .jimanNop => true
  | .jimanEi => true
  | .jimanDi => true
  | .jimanIdle => true
  | .jimanGrst => true
  | .jimanRet _ => true
  | .jimanRetm _ => true
  | .jimanReti _ => true
  | .jimanRetg _ => true
  | .jimanBr _ => true
  | .jimanCallr _ => true
  | .jimanMovb _ _ _ _ => true
  | .jimanFillb _ _ _ => true
  | .jimanMacb _ _ _ _ _ => true
  | .jimanMvac _ _ => true
  | .jimanMvach _ _ => true
  | .jimanMvacl _ _ => true
  | .jimanLdac _ _ => true
  | .jimanLdacl _ _ => true
  | .jimanShac _ _ => true
  | .jimanClrac _ => true
  | .jimanNegac _ => true
  | .jimanAddac _ => true
  | .jimanSubac _ => true
  | .jimanAbsac _ => true
  | .jimanDivs _ _ => true
  | .jimanMvr _ _ => true
  | .jimanMvs _ _ => true
  | .jimanMov _ _ => true
  | .jimanAdd _ _ => true
  | .jimanAdds _ _ => true
  | .jimanSub _ _ => true
  | .jimanSubs _ _ => true
  | .jimanAnd _ _ => true
  | .jimanOr _ _ => true
  | .jimanXor _ _ => true
  | .jimanAndn _ _ => true
  | .jimanShl _ _ => true
  | .jimanShr _ _ => true
  | .jimanSar _ _ => true
  | .jimanShls _ _ => true
  | .jimanMin _ _ => true
  | .jimanMax _ _ => true
  | .jimanNeg _ _ => true
  | .jimanNegs _ _ => true
  | .jimanAbs _ _ => true
  | .jimanAbss _ _ => true
  | .jimanNot _ _ => true
  | .jimanCls _ _ => true
  | .jimanMovda _ _ => true
  | .jimanMovad _ _ => true
  | .jimanMovi _ _ => true
  | .jimanAddi _ _ => true
  | .jimanShli _ _ => true
  | .jimanShri _ _ => true
  | .jimanSari _ _ => true
  | .jimanShlsi _ _ => true
  | .jimanAdda _ _ => true
  | .jimanMovia _ _ => true
  | .jimanMova _ _ => true
  | .jimanAddaD _ _ => true
  | .jimanSuba _ _ => true
  | .jimanLdf _ _ _ => true
  | .jimanRpti _ _ => true
  | .jimanRpt _ _ => true
  | .illegalOpcode _ => true
  | .linkTrained x => trainWf x
  | .perstNDeassertion => true
  | .epoLatchClear => true
  | .msixVectorUnmask _ => true
  | .driveRemoval _ => true

end Sys2Proof
end

