-- ==== Sys2Proof/Tests/Slice0.lean ====
section
/-! SUPPORT. Small states for the tests, the terms that WellFormed refuses, and single steps whose expected results come from
the worked examples and tables of the specification (the source stands in each docstring). -/

namespace Sys2Proof.Tests
open Sys2Proof Sys2Proof.Machine

set_option Elab.async false

/-! ### Small states -/

/-- A 64-byte entry with the given values at the given byte offsets. -/
def bytesAt (fields : List (Nat × Nat)) : BitVec 512 := BitVec.ofNat 512 ((fields.map fun f => f.2 * 256 ^ f.1).sum)

/-- The first byte of HBM for kernels with the Keep enabled. -/
def hbm : Nat := 0x400000000

/-- A ring of 64 entries in HBM whose completions go to CR1. -/
def ring1 : SubRing := { Reset.subRing with exists_ := true, base := 0x400010000, log2 := 6, homeCr := 1 }

/-- A completion ring of 64 entries in HBM. -/
def cpl1 : CplRing := { Reset.cplRing with exists_ := true, base := 0x400020000, log2 := 6, count := 1 }

/-- An ACTIVE module: the host reaches it, CCLK runs, SR0, SR1, CR0 and CR1 exist. -/
def active : State :=
  let s := State.reset
  { s with
    power := { s.power with state := .active, selfRefresh := false }
    clocks := { s.clocks with cclkStopped := false }
    link := { s.link with cfg := { s.link.cfg with memEnable := true, busMaster := true } }
    queue := { s.queue with
      enable := true, sr := vset (vset s.queue.sr 0 { ring1 with homeCr := 0 }) 1 ring1
      cr := vset (vset s.queue.cr 0 cpl1) 1 cpl1 } }

/-- An operation of SR1 with the given descriptor fields, its completion ring CR1. -/
def opOf (phase : Phase) (fields : List (Nat × Nat)) : Op :=
  { sr := 1, seq := 0, desc := bytesAt ((2, 1) :: fields), fetch := 0, order := 0, phase := phase, wait := 0, progress := 0, aux := 0
    engine := 0, flush := [], flushOut := [], closing := none, target := none, degraded := 0 }

/-- `active` with an operation in tracker entry 0. -/
def withOp (s : State) (o : Op) : State := s.setOp 0 (some o)

/-- The Turner runs the runtime at S, its code and data at the start of HBM for kernels, 64 KiB through s0 and s1. -/
def core : State :=
  let slot := mkSegment hbm 0x10000 1 7
  let bank := vset (vset active.turner.sbank 0 slot) 1 slot
  { active with turner := { active.turner with mode := .running, sbank := bank, sbankNext := bank } }

/-- `core` at K, with the same slots in the K bank. -/
def coreK : State :=
  { core with turner := { core.turner with cstat := { core.turner.cstat with priv := false }, kbank := core.turner.sbank } }

/-- A pack record of the given FCC and AGE_RATIO with no impedance measured. -/
def packRecord (fcc age : Nat) : PackRecord :=
  { magicOk := true, version := 1, chem := 1, designCap := 400, serial := [1], writeSeq := 1, fcc := fcc, ageRatio := age, cycles := 0
    residue := 0, imp := Vector.replicate 30 (0xFFFF, 0xFFFF), crcOk := true }

/-- A sample of two equal cells. -/
def sampleAt (cell : Nat) (current temp : Int) : Sample :=
  { cell0 := cell, cell1 := cell, current := current, temp := temp, inRange := true }

/-- A drive of 64 MiB that meets R267. -/
def drive (serial : Nat) : Drive :=
  { ident := { serial := serial, nvme2 := true, nvmSet := true, namespaces := [1], mdts := 0, zoned := false, lbaBytes := 4096, metadata := false
               protection := false, locking := false, capacity := 2 ^ 40 }
    media := [], unflushed := [], width := 2 }

/-- An array of the members at ports 0 to n - 1, with p parity chunks. -/
def arrayOf (n p stripes : Nat) (chunk256 : Bool) : KArray :=
  { uuid := 1, generation := 1, n := n, p := p, chunk256 := chunk256, stripes := stripes, failed := 0
    failGen := Vector.replicate 8 0, ports := Vector.ofFn fun i => if i.val < n then some i.val else none
    failedAt := Vector.replicate 8 0, resyncAll := false, rebuild := none, recordSeq := 0, slots := [], records := [], bitmap := []
    regionWritten := [], resync := [], resyncNext := 0, createResync := false, readds := [] }

/-! ### Terms that WellFormed refuses -/

theorem test_wf_link_rate : (Instr.linkTrained { rate := 7, flit := true, width := 16, noLock := 0, cxl := false, commonClock := true, reversal := true }).wf = false := by decide
theorem test_wf_link_width : (Instr.linkTrained { rate := 6, flit := true, width := 3, noLock := 0, cxl := false, commonClock := true, reversal := true }).wf = false := by decide
theorem test_wf_cxl_without_flit :
    (Instr.linkTrained { rate := 4, flit := false, width := 16, noLock := 0, cxl := true, commonClock := true, reversal := true }).wf = false := by
  decide
theorem test_wf_drive : (Instr.driveInsertion 0 { drive 1 with width := 4 }).wf = false := by decide
theorem test_wf_drive_media : (Instr.driveLinkReturn 0 (some { drive 1 with media := [(0, 0)] })).wf = false := by decide
theorem test_wf_error_lane : (Instr.linkError (.symbol 16)).wf = false := by decide
theorem test_wf_error_length : (Instr.linkError (.poisonedBar4 0 [] [])).wf = false := by decide
theorem test_wf_read_length : (Instr.bar4Read 0 4097 []).wf = false := by decide
theorem test_wf_write_length : (Instr.bar4Write 0 [] false []).wf = false := by decide
theorem test_wf_page : (Instr.translationCompletion none (2 ^ 34) none).wf = false := by decide
theorem test_wf_read_error : (Instr.unrecoveredReadError 0 0 0 0 []).wf = false := by decide
theorem test_wf_register_length : (Instr.registerWrite false 0 []).wf = false := by decide
theorem test_wf_fragment : (Instr.doeSpdm (some (List.replicate 57 0)) true).wf = false := by decide
theorem test_wf_rails : (Instr.controlLoopTick true (Vector.replicate 24 none) 0 (List.replicate 21 0) true true).wf = false := by
  decide
theorem test_wf_start_up :
    (Instr.startUp { slot := 0, tray := 0, late := 0, stackFails := false, badRows := [], retainedOk := true, eepromOk := true, notice := true,
                     train := some { rate := 7, flit := true, width := 16, noLock := 0, cxl := false, commonClock := true, reversal := true } }).wf = false := by decide

/-! ### Instruction words, written out by the formats of 06, 07 and 15 -/

/-- What a load that hits and reads no bad line brings. -/
def hit : Outside := { late := false, ecc := [] }

/-- 06, Tables 6.1 to 6.4: ADD with W, CLZ, MOVI, RORI by 5 and DIVU. -/
theorem test_words_integer :
    turnerDecode hit (0b000001_00001_00010_00011_0000_1_000000#32) = some (.add 1 2 3 true) ∧
    turnerDecode hit (0b000001_00001_00010_00000_0000_0_010000#32) = some (.clz 1 2) ∧
    turnerDecode hit (0b000001_00001_00010_00001_0000_0_010000#32) = none ∧
    turnerDecode hit (0b001000_00111_00000_1111111111111110#32) = some (.movi 7 0xFFFE) ∧
    turnerDecode hit (0b001010_00001_00010_0000000_0_11_000101#32) = some (.rori 1 2 5 false) ∧
    turnerDecode hit (0b001100_00001_00010_00011_000000_0_0100#32) = some (.divu 1 2 3 false) := by decide +kernel

/-- 06, R165 to R168: LD.WU with K = 1 at s2 + g4 + 8, ST.D, CBI.LT, CALL and RDLK. -/
theorem test_words_memory_and_branches :
    turnerDecode hit (0b010101_00011_00100_010_1_000000001000#32) = some (.ldWu 3 4 2 true 8 false []) ∧
    turnerDecode hit (0b011011_00011_00100_111_0_111111111000#32) = some (.stD 3 4 7 false 0xFF8) ∧
    turnerDecode hit (0b101000_00011_11111_1111111111111111#32) = some (.cbiLt 3 31 0xFFFF) ∧
    turnerDecode hit (0b101101_00000000000000000000000010#32) = some (.call 2) ∧
    turnerDecode hit (0b101110_00110_00000_00000_00000000011#32) = some (.rdlk 6) := by decide +kernel

/-- 06, Table 6.6: ERET.X, TRAP 9 and MTS of special register 4. -/
theorem test_words_system :
    turnerDecode hit (0b101111_00000_00000_0011_000000000001#32) = some .eretX ∧
    turnerDecode hit (0b101111_00000_00000_0001_000000001001#32) = some (.trap 9) ∧
    turnerDecode hit (0b101111_00000_00101_0111_000000000100#32) = some (.mts 4 5) ∧
    turnerDecode hit (0b101111_00000_00000_0011_000000000011#32) = none := by decide +kernel

/-- 07, worked example: 0xC951_0400 is TMMA at1, ot2, cp2 with ACC = 1, rb = g8. -/
theorem test_words_tile : turnerDecode hit 0xC9510400#32 = some (.tmma 1 2 2 0 true false 0 8 0) := by decide +kernel

/-- 15, Tables 15.4 to 15.8: NOP is word 0x1200, PFX 8, ADDS d1, d2 and CB.LTU. -/
theorem test_words_jiman :
    jimanWord .jimanNop = some 0b010010_00000000#14 ∧ jimanWord (.jimanPfx 8) = some 0b111_00000001000#14 ∧
    jimanWord (.jimanAdds 1 2) = some 0b0011_0010_001_010#14 ∧
    jimanWord (.jimanCb .ltu 1 2 0b101) = some 0b10_100_001_010_101#14 := by decide

/-! ### Worked examples of the specification -/

/-- The rows of the table give no bits, so no word spells a command. -/
theorem test_no_word (nbits w : Nat) : decodeTableWord nbits w = none := rfl

/-- 03, worked example: SEQ 2,300 on 1,024 entries is index 252 with phase 1, and position 255 + 1 of the lap before has phase 0. -/
theorem test_ring_phase : phaseOf 2300 10 = true ∧ 2300 % 1024 = 252 ∧ phaseOf (2304 - 1024) 10 = false := by decide

/-- 05, worked example: 8 bytes at 0x00F1_FFF8 of a slot of SIZE 0x00F2_0000 are served, 8 at SIZE raise SEGMENT_LIMIT, and a
misaligned halfword is refused before the limit. -/
theorem test_segment_limits :
    let g := mkSegment 0x420000000 0xF20000 1 7
    segAccess core g .read true false 0xF1FFF8 8 8 = .ok 0x420F1FFF8 ∧
    segAccess core g .read true false 0xF20000 8 8 = .bad { cause := 4, sub := 0, addr := none } ∧
    segAccess core g .read true false 0xF1FFFF 2 2 = .bad { cause := 2, sub := 0, addr := none } := by decide +kernel

/-- 06, R164: MOVI then SLOI twice builds a 48-bit device address. -/
theorem test_movi_sloi : (((0x0004 : W64) <<< 16 ||| 0x2000) <<< 16 ||| 0x1000) = 0x000420001000 := by decide

/-- 07, worked example: TMMA at1, ot2, cp2 with ACC = 1 and rb = g8 is 0xC951_0400. -/
theorem test_tmma_word :
    BitVec.ofNat 32 (0x32 * 2 ^ 26 + 1 * 2 ^ 24 + 2 * 2 ^ 21 + 2 * 2 ^ 19 + 1 * 2 ^ 16 + 8 * 2 ^ 7) = 0xC9510400 := by decide

/-- 08, worked example: 302 rounds to 288 = 0x79 in E4M3, and with the stochastic mode to 0x7A exactly when u is 36,864 or more. -/
theorem test_e4m3_rounding :
    encodeElem 3 .nearest true (val32 0x43970000) = 0x79 ∧ encodeElem 3 (.stochastic 36863) true (val32 0x43970000) = 0x79 ∧
    encodeElem 3 (.stochastic 36864) true (val32 0x43970000) = 0x7A := by decide +kernel

/-- 08, worked example: a block whose largest magnitude is 302 has the scale 0x7F and one of 2,416 the scale 130; both elements are
written as 0x79. -/
theorem test_mx_scales :
    mxBlock 5 (fun _ => .nearest) [val32 0x43970000] = ([0x79], 0x7F) ∧
    mxBlock 5 (fun _ => .nearest) [val32 0x45170000] = ([0x79], 130) := by decide +kernel

/-- 11, worked example: stripe 284,206 of the 8-member, p = 2 array has P on member 1, Q on 2 and chunk 2 on member 5, in region
1,110; stripe 303,107 has P on 4, Q on 5, D0 to D3 on 6, 7, 0, 1. -/
theorem test_array_placement :
    let a := arrayOf 8 2 400000 true
    a.memberAt 284206 6 = 1 ∧ a.memberAt 284206 7 = 2 ∧ a.memberAt 284206 2 = 5 ∧ a.chunkAddr 284206 = 0x001159B80000 ∧
    284206 / a.perRegion = 1110 ∧ (List.range 8).map (a.memberAt 303107) = [6, 7, 0, 1, 2, 3, 4, 5] := by decide +kernel

/-- 11, R276: g = 0x02 and the polynomial 0x11D. -/
theorem test_gf : gfMul 0x02 0x80 = 0x1D ∧ gfMul 0x02 0x01 = 0x02 := by decide

/-- The check value of CRC-32C (log entry 19). -/
theorem test_crc32c : crc32c [0x31, 0x32, 0x33, 0x34, 0x35, 0x36, 0x37, 0x38, 0x39] = 0xE3069283 := by decide +kernel

/-- 12, worked example and 01, Table 1.7: LIMIT at 500 J, at 235 J, at 168 J and at the cap. -/
theorem test_dirty_limit :
    dirtyLimit 500 = 2300347 ∧ dirtyLimit 235 = 460069 ∧ dirtyLimit 168 = 0 ∧ dirtyLimit 773 = 4194304 := by decide

/-- The pack of 13's worked example: S_INT = S_REP = 904 at 12 degrees. -/
def coldPack : Gauge :=
  { Reset.gauge with
    present := true, record := some (packRecord 400 1024), last := some (sampleAt 4070 0 12), estimated := true, sRep := 904
    rc := 904 * 92160 + 1 }

/-- 13, worked example: ENERGY is 722 J and LIMIT 3,842,013; unrested it is 505 J and 2,335,069. -/
theorem test_cold_pack :
    deliverable coldPack = 722 ∧ dirtyLimit 722 = 3842013 ∧ deliverable { coldPack with unrested := true } = 505 ∧
    dirtyLimit 505 = 2335069 := by decide +kernel

/-- 15, worked example: MVAC of a sum exactly halfway, and of its negation, in each rounding mode. -/
theorem test_mvac :
    let s (rm : BitVec 2) (v : BitVec 40) : State :=
      { State.reset with jiman := { Reset.jiman with regs := { Reset.jregs with rm := rm, ac := Vector.replicate 2 v } } }
    let d1 (rm : BitVec 2) (v : BitVec 40) : W16 :=
      match exec (.jimanMvac false 1) (s rm v) with | .next t => t.jiman.regs.d[1] | _ => 0
    (d1 0 0x003A5C8000, d1 1 0x003A5C8000, d1 2 0x003A5C8000) = (0x3A5D, 0x3A5C, 0x3A5C) ∧
    (d1 0 0xFFC5A38000, d1 1 0xFFC5A38000, d1 2 0xFFC5A38000) = (0xC5A4, 0xC5A4, 0xC5A3) := by decide +kernel

/-- 15, worked example: PFX 8 then MOVIA a4, 0 gives 0x0100. -/
theorem test_prefix :
    (match exec (.jimanPfx 8) State.reset with
      | .next s => (match exec (.jimanMovia 4 0) s with | .next t => t.jiman.regs.a[4] | _ => 0)
      | _ => 0) = 0x0100 := by decide +kernel

/-- 17, Table 17.7: each level delivers its count of the four periods of a pattern. -/
theorem test_throttle : [0, 1, 2, 3].map (fun l => cclkEdges l 0 12) = [4, 3, 2, 1] := by decide

/-- 19, worked example: the kept stamps of a row at 0, 5, 30, 31, 33 and 40 hours. -/
theorem test_row_stamps :
    let h := 3600
    threshold 4 (24 * h) [0, 5 * h] (30 * h) = (false, [0, 5 * h, 30 * h]) ∧
    threshold 4 (24 * h) [0, 5 * h, 30 * h] (31 * h) = (false, [5 * h, 30 * h, 31 * h]) ∧
    threshold 4 (24 * h) [30 * h, 31 * h, 33 * h] (40 * h) = (true, []) := by decide

/-- 21, Table 21.11, steps 1 and 10: HL_BAR4_BASE is written in WARM and the write of an ACTIVE module is dropped. -/
theorem test_bar4_base :
    let s : State := { active with power := { active.power with state := .warm } }
    (match exec (.registerWrite false 0x10000 (natToBytes 0x800000000 8)) s with | .next t => t.link.bar4Base | _ => 0) = 0x20 ∧
    (match exec (.registerWrite false 0x10000 (natToBytes 0x400000000 8)) active with | .next t => t.link.bar4Base | _ => 0) =
      0x10 := by decide +kernel

/-- 21, Table 21.11, steps 2 and 3: two 4-byte writes make QE_SR0_CONFIG 0x0000_C012_3400_000A. -/
theorem test_sr0_config :
    let s : State := { active with power := { active.power with state := .warm }, queue := { active.queue with enable := false } }
    (match exec (.registerWrite false 0x20008 (natToBytes 0x3400000A 4)) s with
      | .next t => (match exec (.registerWrite false 0x2000C (natToBytes 0xC012 4)) t with | .next u => u.queue.sr0Config | _ => 0)
      | _ => 0) = 0x0000C0123400000A := by decide +kernel

end Sys2Proof.Tests
end

