-- ==== Sys2Proof/Tests/WitnessQueue.lean ====
section
/-! SUPPORT. States that meet the hypotheses of the statements about the module as a whole, the rings and the operations of the
queue, data, scale-out and admin families. Each theorem names its statement. -/

namespace Sys2Proof.Tests
open Sys2Proof Sys2Proof.Machine

set_option Elab.async false

/-! ### The tracker of a small state -/

theorem op_idle {s : State} (h : s.queue.ops = Reset.queue.ops) (k : Nat) : s.op k = none := by
  simp only [State.op, h, Reset.queue, vget]
  rw [Vector.getElem?_replicate]
  split <;> rfl

theorem op_withOp {s : State} (h : s.queue.ops = Reset.queue.ops) (o : Op) {k : Nat} {p : Op}
    (hp : (withOp s o).op k = some p) : k = 0 ∧ p = o := by
  by_cases hk : k = 0
  · subst hk
    rw [withOp, op_setOp_self (by decide)] at hp
    exact ⟨rfl, (Option.some.inj hp).symm⟩
  · rw [withOp, op_setOp_ne (Ne.symm hk), op_idle h] at hp
    cases hp

theorem opList_idle {s : State} (h : s.queue.ops = Reset.queue.ops) : s.opList = [] := by
  simp [State.opList, op_idle h]

theorem opList_withOp {s : State} (h : s.queue.ops = Reset.queue.ops) (o : Op) : (withOp s o).opList = [(0, o)] := by
  have h0 : (withOp s o).op 0 = some o := op_setOp_self (by decide) _
  have hn : ∀ i ∈ List.range 511, ((withOp s o).op (i + 1)).map (fun p => (i + 1, p)) = none := by
    intro i _
    rw [withOp, op_setOp_ne (by omega), op_idle h]
    rfl
  rw [State.opList, List.range_succ_eq_map, List.filterMap_cons, h0, List.filterMap_map]
  simp only [Option.map_some, List.cons.injEq, true_and]
  exact List.filterMap_eq_nil_iff.mpr hn

/-- A started operation of entry 0 performs in the state that holds it. -/
theorem performs_started (s : State) (o : Op) (hr : s.running = true) (hp : o.phase = .started) (hc : o.closing = none) :
    Performs (withOp s o) 0 o.opcode (withOp s o) o :=
  ⟨hr, o, op_setOp_self (by decide) _, rfl, .inl ⟨hp, hc, rfl, rfl⟩⟩

theorem region_kernels {s : State} (hk : s.power.sku = .om1_384) {x : Nat} (h1 : hbm ≤ x) (h2 : x < 0x6000000000) :
    s.region x = .kernels := by
  have e : hbmEnd s.power.sku = 0x6000000000 := by rw [hk]; rfl
  have h3 : ¬ x < 0x000400000000 := by unfold hbm at h1; omega
  rw [State.region, regionOf, if_neg h3, if_pos (by omega)]

theorem region_spindle {s : State} (hk : s.power.sku = .om1_384) {x : Nat} (h1 : 0x800040000000 ≤ x) (h2 : x < 0x800041000000) :
    s.region x = .spindle := by
  have e : hbmEnd s.power.sku = 0x6000000000 := by rw [hk]; rfl
  rw [State.region, regionOf, if_neg (by omega), if_neg (by omega), if_neg (by omega), if_neg (by omega), if_neg (by omega), if_pos (by omega)]

/-- A line is free at its home agent where the host holds none and no request waits. -/
theorem line_free {s : State} (hd : s.link.dir = []) (hq : s.link.homeQueue = []) (line : Nat) : LineFree s line :=
  ⟨by rw [hd]; rfl, by simp [hq], by simp [hq, agentFull]⟩

/-- A range of HBM of a small state is plain. -/
theorem plain_kernels {s : State} {a n : Nat} (hk : s.power.sku = .om1_384) (hd : s.link.dir = [])
    (hq : s.link.homeQueue = []) (hp : s.faults.poison = []) (hc : s.scale.counters = [])
    (h1 : hbm ≤ a) (h2 : a + n ≤ 0x6000000000) : Plain s .kernels a n := by
  intro x hx hy
  exact ⟨region_kernels hk (by omega) (by omega), line_free hd hq _, by rw [State.poisoned, hp]; rfl, by rw [watchers, hc]; rfl⟩

/-- A range of the Spindle state store of a small state is plain. -/
theorem plain_spindle {s : State} {a n : Nat} (hk : s.power.sku = .om1_384) (hd : s.link.dir = [])
    (hq : s.link.homeQueue = []) (hp : s.faults.poison = []) (hc : s.scale.counters = [])
    (h1 : 0x800040000000 ≤ a) (h2 : a + n ≤ 0x800041000000) : Plain s .spindle a n := by
  intro x hx hy
  exact ⟨region_spindle hk (by omega) (by omega), line_free hd hq _, by rw [State.poisoned, hp]; rfl, by rw [watchers, hc]; rfl⟩

/-- Where no ring is being reset and no invalidation waits, an end of a tracked operation that is no reset of its own brings nothing
else to its end. -/
theorem quiet_withOp {s : State} (h : s.queue.ops = Reset.queue.ops) (hr : ∀ i < 32, (s.sr i).resetting = none)
    (hi : s.link.invalidations = []) (o : Op) (ha : o.aux ≠ 1) : EndsAlone (withOp s o) :=
  ⟨hr, fun _ _ hp h1 => absurd ((op_withOp h o hp).2 ▸ h1) ha, hi⟩

/-- The same with an empty tracker. -/
theorem quiet_idle {s : State} (h : s.queue.ops = Reset.queue.ops) (hr : ∀ i < 32, (s.sr i).resetting = none)
    (hi : s.link.invalidations = []) : EndsAlone s :=
  ⟨hr, fun j p hp _ => absurd (hp.symm.trans (op_idle h j)) (by simp), hi⟩

theorem quiet_active : EndsAlone active := quiet_idle rfl (by decide +kernel) rfl

/-! ### The module as a whole -/

/-- WARM with memory space enabled. -/
def warm : State := { State.reset with link := { State.reset.link with cfg := { State.reset.link.cfg with memEnable := true } } }

theorem witness_AStepRunsTheFrontCommand : ({ State.reset with pending := [.wdog] } : State).pending = .wdog :: [] := rfl

theorem witness_AnIdleStepIsOneFclkCycle :
    (let s := State.reset
     s.pending = [] ∧ s.clocks.pllLocked = true ∧ s.power.holdup = true ∧ s.clocks.phase = 0 ∧ s.lattice.flight = [] ∧
       s.spindle.running = []) ∧
    ({ State.reset with clocks := { State.reset.clocks with pllLocked := false } } : State).clocks.pllLocked = false := by decide

/-- Assurance is held and shown. -/
def assured : State :=
  { active with
    gauge := { coldPack with validLatch := true }, mgmt := { active.mgmt with holdAssure := true, assure := true, selftestOk := true } }

theorem witness_AssuranceStaysSound :
    AssuranceSound assured ∧ assured.mgmt.assure = true ∧
      AssuranceSound { assured with mgmt := { State.reset.mgmt with assureLock := true, mismatch := true } } ∧
      step assured = .next (settleTime (tickFclk assured)) :=
  ⟨⟨by decide, by decide, by decide⟩, rfl, ⟨by decide, by decide, by decide⟩, rfl⟩

theorem witness_IdentityAndFusesStay : step State.reset = .next (settleTime (tickFclk State.reset)) := rfl

theorem witness_CommandsLeaveTheQueue : exec .wdog State.reset = .next { State.reset with mgmt := State.reset.mgmt } := rfl

/-! ### Rings -/

/-- A free push slot of an existing ring, a stopped ring, a ring that does not exist, credit within the ring and beyond it. -/
theorem witness_DoorbellsPushesAndCredit :
    barReachable active = true ∧ (active.cr 1).exists_ = true ∧ (active.sr 2).exists_ = false ∧
    (let r := active.sr 1
     r.exists_ = true ∧ r.stopped = false ∧ r.resetting = none ∧ r.push[(3 : Fin 4)] = none) ∧
    ((active.setSr 1 { ring1 with stopped := true }).sr 1).stopped = true ∧
    ((active.cr 1).tail - 0).toNat ≤ 2 ^ (active.cr 1).log2 ∧ ¬((active.cr 1).tail - 1).toNat ≤ 2 ^ (active.cr 1).log2 := by
  decide +kernel

/-- SR1 has its doorbell and its first entry in push slot 0: a NOP of phase 1. -/
def pushed : State :=
  active.setSr 1 { ring1 with doorbell := true, push := vset ring1.push 0 (some { position := 0, copy := bytesAt [(1, 1), (2, 1)] }) }

/-- SR1 is being scanned. -/
def granted (reading : Bool) (dev : Memory) (slot : Option PushSlot) : State :=
  { active.setSr 1 { ring1 with
      grant := some { first := 0, count := 1, served := 0, shared := 1, high := 0, reading := reading }, push := vset ring1.push 0 slot }
    with dev := dev }

theorem witness_FetchingServesTheRings_grant :
    fetching pushed = true ∧ grantable pushed 1 = true ∧ (pushed.sr 1).prio ≤ 7 ∧ grantable pushed 0 = false ∧
    ∀ j : Fin 32, j ≠ 0 → j ≠ 1 → grantable pushed j = false := by
  have hs : sharedFree pushed = 448 := by
    rw [sharedFree, opList_idle rfl, show grantsOf pushed = [] by decide +kernel]
    rfl
  have hr : 1 ≤ room pushed 1 := by rw [room, hs]; omega
  have h : grantable pushed 1 = true := by
    simp only [grantable, Bool.and_eq_true, decide_eq_true_eq]
    exact ⟨by decide +kernel, hr⟩
  have ho (j : Nat) (hj : (pushed.sr j).doorbell = false) : grantable pushed j = false := by simp [grantable, hj]
  exact ⟨by decide, h, by decide +kernel, ho 0 (by decide +kernel), fun j h0 h1 => ho j (by revert j; decide +kernel)⟩

/-- What FORWARD_SCAN and RING_READ_RETURN ask of a grant's last position and of its entry. -/
def lastPosition (s : State) (d : BitVec 512) (reading : Bool) : Bool :=
  fetching s && decide (readsOut s < 16) && s.inRegion (s.sr 1).base.toNat 1 .kernels && decide (d.getLsbD 8 = phaseOf (s.sr 1).head (s.sr 1).log2) &&
    (entryCheck s 1 d).isNone && (s.op 0).isNone &&
    match (s.sr 1).grant with
    | some g => decide (g.count = g.served + 1 ∧ 0 < g.shared) && g.reading == reading
    | none => false

theorem witness_FetchingServesTheRings_slot :
    let d := bytesAt [(1, 1), (2, 1)]
    let s := granted false [] (some { position := 0, copy := d })
    lastPosition s d false = true ∧ (s.sr 1).push[(s.sr 1).head.toNat % 4]? = some (some { position := (s.sr 1).head, copy := d }) := by
  decide +kernel

theorem witness_FetchingServesTheRings_read :
    let s := granted false [] none
    ∀ p, (s.sr 1).push[(s.sr 1).head.toNat % 4]? = some (some p) → p.position ≠ (s.sr 1).head := by
  intro s p hp
  exact absurd hp (by simp [s, granted, State.sr, State.setSr, State.setQueue, vget, vset, active, ring1, Reset.subRing])

/-- The entry in memory is valid, or is not the ring's yet; and the read of it fails. -/
theorem witness_FetchingServesTheRings_return :
    let s := granted true [(0x400010001, 1), (0x400010002, 1)] none
    lastPosition s (BitVec.ofNat 512 (s.dev.readLE 0x400010000 64)) true = true ∧ s.inRegion 0x400010000 64 .kernels = true ∧
    s.poisoned 0x400010000 = false ∧ LineFree s (0x400010000 / 64) ∧ EndsAlone s ∧
    (BitVec.ofNat 512 ((granted true [] none).dev.readLE 0x400010000 64)).getLsbD 8 ≠ phaseOf 0 6 :=
  ⟨by decide +kernel, by decide +kernel, rfl, line_free rfl rfl _, quiet_idle rfl (by decide +kernel) rfl, by decide +kernel⟩

/-- CR1 has a completion without a DETAIL record waiting. -/
def completing (notify : Bool) : State :=
  active.setCr 1 { cpl1 with
    waiting := [{ tag := 7, seq := 0, time := 0, wait := 0, result := Result.ok, sr := 1, notify := notify, pasid := none, entry := none }]
    time := 1, pendingMsgs := 1 }

/-- COUNT reached, and not reached; a full ring; a completion before its status line. -/
theorem witness_CompletionsReachTheHost_write :
    (let s := completing false
     let r := s.cr 1
     s.running = true ∧ (∀ k < 32, (s.sr k).linePending = false) ∧ r.exists_ = true ∧ (r.tail - r.head).toNat ≠ 2 ^ r.log2 ∧
       (∀ c ∈ r.waiting, c.result.kind = 0 ∧ lineWritten s c.sr c = true ∧ c.notify = false ∧ c.result.status ≠ 0x3F) ∧
       s.inRegion 0x400020000 16 .kernels = true ∧ watchRoom s (0x400020000 / 64) = true ∧ s.dev.wf = true ∧
       r.count ≤ r.pendingMsgs + 1 ∧ r.time ≠ 0) ∧
    (let r := (completing false).cr 1
     { r with count := 3, time := 0 }.pendingMsgs + 1 < { r with count := 3, time := 0 }.count) ∧
    ((active.setCr 1 { cpl1 with tail := 64 }).cr 1).tail.toNat = 2 ^ ((active.setCr 1 { cpl1 with tail := 64 }).cr 1).log2 ∧
    lineWritten (active.setSr 1 { ring1 with linePending := true }) 1
      { tag := 7, seq := 0, time := 0, wait := 0, result := Result.ok, sr := 1, notify := false, pasid := none, entry := none } = false := by
  decide +kernel

theorem witness_CompletionsReachTheHost_alone :
    EndsAlone (completing false) ∧ LineFree (completing false) (0x400020000 / 64) :=
  ⟨quiet_idle rfl (by decide +kernel) rfl, line_free rfl rfl _⟩

/-- CR1's vector is due, with and without CR2 that shares it; CR1 of `active` is not. -/
theorem witness_CompletionsReachTheHost_timer :
    (let s := completing false
     (s.cr 1).count ≠ 0 ∧ (s.cr 1).count ≤ (s.cr 1).pendingMsgs ∧ ∀ j : Fin 32, j ≠ 1 → (s.cr j).exists_ = true → vectorDue s (s.cr j) = false) ∧
    (let s := (completing false).setCr 2 { cpl1 with pendingMsgs := 1 }
     (s.cr 2).exists_ = true ∧ (s.cr 2).vector = (s.cr 1).vector ∧ vectorDue s (s.cr 2) = true) ∧
    (active.cr 1).time = 0 ∧ ¬(active.cr 1).count ≤ (active.cr 1).pendingMsgs := by decide +kernel

theorem witness_CompletionsReachTheHost_unmask :
    let s : State := { active with link := { active.link with
      cfg := { active.link.cfg with msixEnable := true }, pba := BitVec.twoPow 64 63, msix := active.link.msix.set 63 { addr := 0, data := 0, mask := true } } }
    s.running = true ∧ s.link.up = true ∧ s.link.cfg.memEnable = true ∧ s.link.cfg.d3hot = false ∧ s.link.cfg.msixMask = false ∧
    (s.link.msix.set 63 { s.link.msix[63] with mask := false })[63].mask = false ∧ s.link.pba = BitVec.twoPow 64 63 := by decide +kernel

/-- WARM with SR0 and CR0 configured as in Table 21.11, but for their place in HBM. -/
def configured : State :=
  { warm with queue := { warm.queue with sr0Config := 0x40000000A, cr0Config := 0x000100040002000A, cr0Detail := 0x400030000 } }

theorem witness_TheQueueEngineIsEnabledAndDrained :
    (∀ s ∈ [configured, warm], barReachable s = true ∧ s.power.state = .warm ∧ s.power.draining = false ∧ (s.sr 0).exists_ = false ∧
      (s.cr 0).exists_ = false) ∧
    (sr0Ok configured && cr0Ok configured) = true ∧ (sr0Ok warm && cr0Ok warm) = false ∧
    barReachable active = true ∧ active.power.state = .active ∧ active.power.draining = false ∧
    (∃ k < 512, (withOp active (opOf .started [])).op k ≠ none) ∧ ∀ k < 512, active.op k = none := by
  refine ⟨by decide +kernel, by decide +kernel, by decide +kernel, by decide, by decide, by decide, ⟨0, by decide, ?_⟩, fun k _ => op_idle rfl k⟩
  rw [withOp, op_setOp_self (by decide)]
  simp

/-- An operation of SR1 that is started in entry 0 performs there, and ends alone. -/
theorem performs_active (fields : List (Nat × Nat)) :
    let o := opOf .started fields
    Performs (withOp active o) 0 o.opcode (withOp active o) o ∧ o.flush = [] ∧ o.progress = 0 ∧ o.aux = 0 ∧ o.target = none ∧
      EndsAlone (withOp active o) :=
  ⟨performs_started active _ rfl rfl rfl, rfl, rfl, rfl, rfl, quiet_withOp rfl (by decide +kernel) rfl _ (by simp [opOf])⟩

/-- An operation of SR0, started. -/
def adminOp (fields : List (Nat × Nat)) : Op := { opOf .started fields with sr := 0 }

/-- The tracker holds the operation o in entry 0 and p in entry 1. -/
def withTwo (o p : Op) : State := (withOp active o).setOp 1 (some p)

theorem op_two (o p : Op) {k : Nat} {q : Op} (h : (withTwo o p).op k = some q) : k = 0 ∧ q = o ∨ k = 1 ∧ q = p := by
  by_cases hk : k = 1
  · subst hk
    rw [withTwo, op_setOp_self (by decide)] at h
    exact .inr ⟨rfl, (Option.some.inj h).symm⟩
  · rw [withTwo, op_setOp_ne (Ne.symm hk)] at h
    exact .inl (op_withOp rfl o h)

/-- RING_CREATE of SR2, which does not exist, and of SR1, which does; of CR31 and of CR1. -/
theorem witness_OperationsOnRings_create :
    (let o := adminOp [(0, 0x40), (9, 2), (10, 6), (11, 3), (16, 0x400040000), (24, 1)]
     o.opcode = 0x40 ∧ fld o.desc 9 1 = 2 ∧ fld o.desc 8 1 = 0 ∧ (active.sr 2).exists_ = false ∧ (active.cr (fld o.desc 24 2)).exists_ = true) ∧
    (active.sr (fld (adminOp [(9, 1)]).desc 9 1)).exists_ = true ∧
    (let o := adminOp [(0, 0x40), (8, 1), (9, 31)]
     o.opcode = 0x40 ∧ fld o.desc 8 1 = 1 ∧ fld o.desc 9 1 = 31 ∧ (active.cr 31).exists_ = false) ∧
    (active.cr (fld (adminOp [(8, 1), (9, 1)]).desc 9 1)).exists_ = true := by decide +kernel

/-- RING_DELETE of CR1, the home of SR1, and of CR2, where it exists and no operation's completion goes there. -/
theorem witness_OperationsOnRings_delete :
    (let o := adminOp [(0, 0x41), (8, 1), (9, 1)]
     o.opcode = 0x41 ∧ fld o.desc 8 1 = 1 ∧ fld o.desc 9 1 = 1 ∧ (active.sr 1).homeCr = 1 ∧ (active.sr 1).exists_ = true ∧ (active.cr 1).exists_ = true) ∧
    (let o := adminOp [(0, 0x41), (8, 1), (9, 2)]
     let s := active.setCr 2 cpl1
     o.opcode = 0x41 ∧ (s.cr 2).exists_ = true ∧ (∀ j < 32, (s.sr j).homeCr ≠ 2 ∨ (s.sr j).exists_ = false) ∧
       ∀ j p, (withOp s o).op j = some p → p.crIndex ≠ 2) := by
  refine ⟨by decide +kernel, by decide +kernel, by decide +kernel, by decide +kernel, fun j p hp => ?_⟩
  obtain ⟨-, rfl⟩ := op_withOp rfl _ hp
  decide +kernel

/-- RING_RESET and RING_DELETE of SR1 with no operation of the ring, and with one started. -/
theorem witness_OperationsOnRings_reset (delete : Bool) :
    let o := adminOp [(0, if delete then 0x41 else 0x42), (9, 1), (10, 1)]
    let p := opOf .started []
    o.opcode = (if delete then 0x41 else 0x42) ∧ o.sr = 0 ∧ fld o.desc 9 1 = 1 ∧ fld o.desc 8 1 = 0 ∧ (active.sr 1).exists_ = true ∧
    (∀ j < 32, (active.sr j).stopRecord = none) ∧ (∀ c < 32, (active.cr c).waiting = []) ∧
    (∀ j p, (withOp active o).op j = some p → p.sr ≠ 1) ∧
    (∃ j q, (withTwo o p).op j = some q ∧ q.sr = 1 ∧ q.phase = .started) ∧
    ∀ j q, j ≠ 0 → (withTwo o p).op j = some q → q.sr ≠ 0 := by
  intro o p
  have ho : o.sr = 0 := rfl
  have hp : p.sr = 1 ∧ p.phase = .started := ⟨rfl, rfl⟩
  refine ⟨by cases delete <;> decide +kernel, ho, by cases delete <;> decide +kernel, by cases delete <;> decide +kernel, by decide +kernel,
    by decide +kernel, by decide +kernel, fun j q hq => ?_, ⟨1, p, op_setOp_self (by decide) _, hp⟩, fun j q hj hq => ?_⟩
  · rw [(op_withOp rfl _ hq).2, ho]
    decide
  · obtain ⟨h, -⟩ | ⟨-, h⟩ := op_two _ _ hq
    · exact absurd h hj
    · rw [h, hp.1]
      decide

theorem witness_OperationsOnRings : (opOf .started []).opcode = 0x00 ∧ (opOf .started [(0, 0x13)]).opcode = 0x13 := by decide +kernel

/-- A range of HBM of `active` with one operation is plain. -/
theorem plain_active {o : Op} (a n : Nat) (h1 : hbm ≤ a) (h2 : a + n ≤ 0x6000000000) : Plain (withOp active o) .kernels a n :=
  plain_kernels rfl rfl rfl rfl rfl h1 h2

/-- Two rows of eight bytes in HBM, sixteen apart, and their copies. -/
theorem witness_DataMoversWriteTheirDestination_copy :
    let o := opOf .started [(0, 0x01), (8, hbm), (16, hbm + 128), (24, 8), (28, 2), (32, 16), (40, 16)]
    let src (i : Nat) := hbm + 16 * i
    let dst (i : Nat) := hbm + 128 + 16 * i
    o.opcode = 0x01 ∧ (∀ i < 2, Plain (withOp active o) .kernels (src i) 8 ∧ Plain (withOp active o) .kernels (dst i) 8 ∧
      ∀ j < 2, Apart (dst i) 8 (src j) 8 ∧ (i ≠ j → Apart (dst i) 8 (dst j) 8)) ∧
    active.dev.wf = true ∧ active.scale.delivered.length ≤ 1024 := by
  refine ⟨by decide +kernel, fun i hi => ⟨plain_active _ _ ?_ ?_, plain_active _ _ ?_ ?_, fun j hj => ?_⟩, by decide, by decide⟩
  all_goals simp only [hbm, Apart]
  all_goals omega

theorem witness_DataMoversWriteTheirDestination :
    (let o := opOf .started [(0, 0x03), (8, hbm), (16, 8), (24, 0x0102030405060708)]
     o.opcode = 0x03 ∧ fld o.desc 8 8 = hbm ∧ fld o.desc 16 8 = 8 ∧ Plain (withOp active o) .kernels hbm 8) ∧
    (let o := opOf .started [(0, 0x02), (8, hbm), (16, hbm + 256), (24, 0), (32, hbm + 512), (40, 32), (44, 0), (45, 5), (48, 0x3F800000)]
     (o.opcode = 0x02 ∧ isMxFmt (fld o.desc 44 1) = false ∧ isMxFmt (fld o.desc 45 1) = true ∧ fld o.desc 40 4 % 32 = 0 ∧ fld o.desc 46 1 ≤ 2) ∧
       Plain (withOp active o) .kernels hbm 128 ∧ Plain (withOp active o) .kernels (hbm + 256) 32 ∧
       Plain (withOp active o) .kernels (hbm + 512) 1) ∧
    (let o := opOf .started [(0, 0x1C), (8, 15), (9, 1), (16, hbm)]
     (o.opcode = 0x1C ∧ fld o.desc 8 1 < 16 ∧ fld o.desc 16 8 % 64 = 0) ∧ Plain (withOp active o) .kernels hbm 320) := by
  and_intros
  all_goals first
    | exact plain_active _ _ (by decide) (by decide)
    | decide +kernel

/-- A Spindle command in progress that names slot 4095. -/
theorem witness_StreamsAreParkedAndRestored :
    (let o := opOf .started [(0, 0x18), (8, 4095), (10, 1), (16, hbm)]
     (o.opcode = 0x18 ∧ fld o.desc 8 2 + fld o.desc 10 2 ≤ 4096 ∧ fld o.desc 16 8 % 4096 = 0 ∧ active.spindle.running = []) ∧
       Plain (withOp active o) .kernels hbm 4096 ∧ Plain (withOp active o) .spindle (streamBase 4095) 4096) ∧
    (let o := opOf .started [(0, 0x19), (8, 0), (10, 1), (16, 0)]
     o.opcode = 0x19 ∧ (withOp active o).inRegion 0 4096 .kernels = false) ∧
    namesSlot (bytesAt [(0, 1), (6, 1)]) 0 = true := by
  and_intros
  all_goals first
    | exact plain_active _ _ (by decide) (by decide)
    | exact plain_spindle rfl rfl rfl rfl rfl (by decide) (by decide)
    | decide +kernel

/-- Counter 40 is registered at an address outside the shared window (10, worked example). -/
def counting : State :=
  { active with scale := { active.scale with counters := [{ index := 40, addr := 0x600001000 }] } }

theorem witness_CountersAndRelays :
    (let o := adminOp [(0, 0x46), (8, 40), (10, 3), (16, 0x600001000), (24, 5)]
     (o.opcode = 0x46 ∧ fld o.desc 10 1 % 2 = 1 ∧ fld o.desc 16 8 % 8 = 0 ∧ inShared (withOp active o) 0x600001000 = false) ∧
       Plain (withOp active o) .kernels 0x600001000 8 ∧ active.scale.delivered = []) ∧
    (let o := adminOp [(0, 0x46), (8, 40), (10, 0)]
     fld o.desc 10 1 % 2 = 0 ∧ counting.scale.counters.any (fun c => c.index = fld o.desc 8 2) = true) ∧
    (let o := opOf .started [(0, 0x11), (8, 40), (16, 1)]
     let s := withOp counting o
     (o.opcode = 0x11 ∧ counterAt s (fld o.desc 8 2) = some { index := 40, addr := 0x600001000 } ∧ counterAt active (fld o.desc 8 2) = none ∧
       s.inRegion 0x600001000 8 .kernels = true ∧ s.poisoned 0x600001000 = false ∧ watchRoom s (0x600001000 / 64) = true) ∧
       LineFree s (0x600001000 / 64)) ∧
    (let o := adminOp [(0, 0x45), (8, 7), (9, 1), (16, 0xC0003E800800)]
     o.opcode = 0x45 ∧ (withOp active o).inRegion (fld o.desc 16 8) 8 .host = true ∧ active.inRegion 0 8 .host = false) := by
  and_intros
  all_goals first
    | exact plain_kernels rfl rfl rfl rfl rfl (by decide) (by decide)
    | exact line_free rfl rfl _
    | decide +kernel

/-- A WAIT whose comparison does not hold and one whose comparison does; a delivered value that meets an evaluated WAIT. -/
theorem witness_CountersAndRelays_wait :
    (let o := opOf .admitted [(0, 0x10), (8, 40), (16, 1)]
     o.opcode = 0x10 ∧ mayStart (withOp counting o) 0 = true ∧ ¬(fld o.desc 16 8 ≤ (withOp counting o).dev.readLE 0x600001000 8)) ∧
    (let o := opOf .admitted [(0, 0x10), (8, 40)]
     mayStart (withOp counting o) 0 = true ∧ fld o.desc 16 8 ≤ (withOp counting o).dev.readLE 0x600001000 8) ∧
    (let o := { opOf .admitted [(0, 0x10), (8, 40), (16, 1)] with aux := 1 }
     let s : State := { counting with scale := { counting.scale with delivered := [(40, 1)] } }
     s.running = true ∧ s.scale.delivered = [(fld o.desc 8 2, 1)] ∧ fld o.desc 10 1 = 0 ∧ fld o.desc 16 8 ≤ (1 : W64).toNat ∧
       ∀ j p, (withOp s o).op j = some p → j ≠ 0 → p.opcode ≠ 0x10) := by
  refine ⟨⟨by decide +kernel, ?_, by decide +kernel⟩, ⟨?_, by decide +kernel⟩, by decide +kernel, by decide +kernel, by decide +kernel,
    by decide +kernel, fun j p hp hj => absurd (op_withOp rfl _ hp).1 hj⟩
  all_goals
    simp only [mayStart, aheadOf, opReady, orderAllows, State.earlierLive, opList_withOp (s := counting) rfl]
    decide +kernel

/-- A RELAY through an invalid entry, and one of four bytes through entry 7. -/
theorem witness_CountersAndRelays_relay :
    let o := opOf .started [(0, 0x12), (8, 7), (9, 4), (16, 3)]
    let e : RelayEntry := { valid := true, usePasid := false, pasid := 0, addr := 0xC0003E800800 }
    let s : State := { active with scale := { active.scale with relays := vset active.scale.relays 7 e } }
    o.opcode = 0x12 ∧ (relayAt active 7).valid = false ∧ relayAt s 7 = e ∧ fld o.desc 8 1 = 7 ∧ fld o.desc 9 1 = 4 ∧
    s.inRegion e.addr.toNat 4 .host = true ∧ hostReachable s = true ∧ s.link.cfg.atsEnable = false ∧ s.link.l2Host = [] ∧
    flushRangeOf s e.addr.toNat = none := by decide +kernel

end Sys2Proof.Tests
end

