-- ==== Sys2Proof/Tests/WitnessKeep.lean ====
section
/-! SUPPORT. States that meet the hypotheses of the statements about the operations on the Keep, the Keep's own commands and
the vault. Each theorem names its statement. -/

namespace Sys2Proof.Tests
open Sys2Proof Sys2Proof.Machine

set_option Elab.async false

/-! ### The Keep of a small state -/

/-- A port that holds a drive. -/
def portOf (d : Drive) : DrivePort := { Reset.drivePort with drive := some d, perst := false }

/-- `active` with drives at ports 0 to 4, and no array. -/
def drives : State :=
  { active with keep := { active.keep with ports := Vector.ofFn fun q => if q.val < 5 then portOf (drive q.val) else Reset.drivePort } }

/-- An array of three members with one slot, of one stripe in each half. -/
def array1 : KArray :=
  { arrayOf 3 1 64 false with
    slots := [{ slot := 7, defined := true, seq := 1, halfBytes := 131072, firstA := 0, firstB := 1, halfStripes := 1 }] }

/-- `drives` with the array `a` assembled and hold-up assured. -/
def withArray (a : KArray) : State :=
  { drives with
    keep := { drives.keep with array := some a }
    gauge := { coldPack with validLatch := true }, mgmt := { active.mgmt with
      words := vset active.mgmt.words 0 0x3AA01D, holdAssure := true, assure := true, selftestOk := true } }

/-- Two members have failed. -/
def down : KArray := { array1 with failed := 3 }

/-- A commit record of slot 7. -/
def record7 (half state epoch : Nat) : CommitRec :=
  { slot := 7, half := half, state := state, epoch := BitVec.ofNat 32 epoch, seq := 2, bytes := 4096, time := 0 }

theorem readMedia_empty {s : State} {q : Nat} {d : Drive} (h : (s.port q).drive = some d) (hm : d.media = []) (off n : Nat) :
    readMedia s q off n = List.replicate n 0 := by
  have e : ∀ (n off : Nat), Memory.readN [] off n = List.replicate n 0 := by
    intro n
    induction n with
    | zero => intro _; rfl
    | succ n ih => intro off; exact congrArg (List.cons 0) (ih (off + 1))
  rw [readMedia, h, ← e n off, ← hm]
  rfl

theorem parityP_zero (n k : Nat) : parityP n (List.replicate k (List.replicate n 0)) = List.replicate n 0 := by
  induction k with
  | zero => rfl
  | succ k ih => rw [parityP, List.replicate_succ, List.foldl_cons, xorBytes, List.zipWith_replicate, Nat.min_self]; exact ih

theorem quiet_array (a : KArray) (o : Op) (h : o.aux ≠ 1) : EndsAlone (withOp (withArray a) o) :=
  quiet_withOp (s := withArray a) rfl (fun i hi => quiet_active.rings i hi) rfl o h

/-- The tracker of a small Keep with one operation. -/
theorem opList_array (a : KArray) (o : Op) : (withOp (withArray a) o).opList = [(0, o)] := opList_withOp (s := withArray a) rfl o

/-- A KEEP_WRITE that finds its half not open yet. -/
def write1 : Op := opOf .admitted [(0, 0x20), (8, 7), (12, 1), (16, hbm), (24, 0), (32, 4096)]

theorem witness_KeepOperationsOnAnArray_write :
    let s := withOp (withArray array1) write1
    ((mayStart s 0 && headOfWrites s 0 write1) = true ∧ halfRead s 7 0 = false) ∧
    (s.power.keepEnabled = true ∧ s.cache.image = .none ∧ writeThrough s = false ∧ roomTest s 4096 = true ∧ array1.isDown = false ∧
      (slotEntry array1 7).map (·.halfBytes) = some 131072 ∧ allReachable s array1 = true ∧ s.cache.tail % 4096 = 0 ∧ s.cache.extents = []) ∧
    down.isDown = true ∧ active.keep.array = none := by
  refine ⟨?_, by decide +kernel, by decide, by decide⟩
  simp only [mayStart, aheadOf, headOfWrites, keepInProgress, halfRead, opReady, orderAllows, State.earlierLive, opList_array]
  decide +kernel

theorem witness_KeepOperationsOnAnArray_write_alone :
    let s := withOp (withArray array1) write1
    EndsAlone s ∧ Plain s .kernels hbm 4096 ∧ ∀ j p, s.op j = some p → j ≠ 0 → waitsForRoom s j p = false :=
  ⟨quiet_array _ _ (by decide), plain_kernels rfl rfl rfl rfl rfl (by decide) (by decide),
    fun _ _ hp hj => absurd (op_withOp (s := withArray array1) rfl _ hp).1 hj⟩

/-- One whose half is open, and one beyond the half. -/
theorem witness_KeepOperationsOnAnArray_write_open :
    (let o := opOf .admitted [(0, 0x20), (8, 7), (12, 2), (16, hbm), (24, 131072 - 4096), (32, 4096)]
     let a := { array1 with records := [record7 1 1 2] }
     let s := withOp (withArray a) o
     (mayStart s 0 && headOfWrites s 0 o) = true ∧ roomTest s 4096 = true ∧ openFor a 7 (halfOf 2) 2 = true) ∧
    (let o := opOf .admitted [(0, 0x20), (8, 7), (12, 1), (16, hbm), (24, 131072), (32, 4096)]
     let s := withOp (withArray array1) o
     (mayStart s 0 && headOfWrites s 0 o) = true ∧ 131072 < fld o.desc 24 8 + fld o.desc 32 4) := by
  refine ⟨⟨?_, by decide +kernel⟩, ?_, by decide +kernel⟩ <;>
  · simp only [mayStart, aheadOf, headOfWrites, keepInProgress, opReady, orderAllows, State.earlierLive, opList_array]
    decide +kernel

theorem witness_KeepOperationsOnAnArray_read_commit :
    (let o := opOf .admitted [(0, 0x21), (8, 7), (12, 1), (16, hbm), (24, 0), (32, 4096)]
     let a := { array1 with records := [record7 0 2 1] }
     let s := withOp (withArray a) o
     (mayStart s 0 && keepTakes s 0) = true ∧ Plain s .kernels hbm 4096 ∧ (slotEntry a 7).isSome = true ∧ readHalf a 7 1 = some 0 ∧
       readHalf array1 7 1 = none ∧ (∀ i < 3, a.present i = true) ∧ allReachable s a = true ∧ a.isDown = false ∧ readWaits s = false) ∧
    (let o := opOf .admitted [(0, 0x22), (8, 7), (12, 2), (24, 4096)]
     let s := withOp (withArray array1) o
     (mayStart s 0 && keepTakes s 0) = true ∧ s.cache.extents = [] ∧ (7, 1) ∉ s.cache.poisonedHalves ∧ halfOf 2 = 1 ∧
       (∀ e ∈ array1.slots, halfWriting s e 1 = false) ∧ allReachable s array1 = true ∧
       (7, 1) ∈ ({ s.cache with poisonedHalves := [(7, 1)] } : Cache).poisonedHalves) := by
  refine ⟨⟨?_, plain_kernels rfl rfl rfl rfl rfl (by decide) (by decide), by decide +kernel⟩, ?_, by decide +kernel⟩ <;>
  · simp only [mayStart, aheadOf, keepTakes, keepInProgress, opReady, orderAllows, State.earlierLive, opList_array]
    decide +kernel

/-- The members of `array1` hold zeros. -/
theorem zero_member {o : Op} (st x n : Nat) :
    readPosition (withOp (withArray array1) o) array1 [] st x 0 n = some (List.replicate n 0) := by
  have hm : array1.memberAt st x < 3 := by unfold KArray.memberAt; split <;> exact Nat.mod_lt _ (by decide)
  have hq : ∀ m < 3, array1.readPort m st = some m ∧
      ∃ d, ((withOp (withArray array1) o).port m).drive = some d ∧ d.media = [] := by
    intro m h
    interval_cases m <;> exact ⟨rfl, _, rfl, rfl⟩
  obtain ⟨h1, d, h2, h3⟩ := hq _ hm
  simp only [readPosition, List.contains_nil, Bool.false_eq_true, if_false, h1, Option.map_some, readMedia_empty h2 h3]

theorem witness_KeepOperationsOnAnArray_scrub :
    let o := opOf .admitted [(0, 0x23), (8, 0), (16, 63), (24, 1)]
    let s := withOp (withArray array1) o
    (mayStart s 0 && keepTakes s 0) = true ∧
      (fld o.desc 16 8 < array1.stripes ∧ scrubEnd array1 o = 64 ∧ array1.missing = 0 ∧ array1.rebuild = none ∧ array1.resync = [] ∧
        stepWaitsForDestage s array1 = false) ∧
      (∀ ds, readStripe s array1 [] 63 0 array1.chunk = some ds →
        readPosition s array1 [] 63 array1.k 0 array1.chunk = some (parityP array1.chunk ds)) := by
  refine ⟨?_, by decide +kernel, ?_⟩
  · simp only [mayStart, aheadOf, keepTakes, keepInProgress, opReady, orderAllows, State.earlierLive, opList_array]
    decide +kernel
  · intro ds h
    rw [readStripe] at h
    simp only [zero_member] at h ⊢
    generalize array1.chunk = n at h ⊢
    obtain rfl : [List.replicate n 0, List.replicate n 0] = ds := Option.some.inj h
    exact congrArg some (parityP_zero n 2).symm

/-- An operation of SR0 that is started performs on the small Keep. -/
theorem performs_admin (s : State) (h : s.running = true) (fields : List (Nat × Nat)) :
    Performs (withOp s (adminOp fields)) 0 (adminOp fields).opcode (withOp s (adminOp fields)) (adminOp fields) :=
  performs_started s _ h rfl rfl

theorem witness_OperationsOnTheArray :
    (let o := adminOp [(0, 0x50), (8, 0x0D), (9, 1), (10, 1)]
     o.opcode = 0x50 ∧ portsOf (fld o.desc 8 1) = [0, 2, 3] ∧ drives.running = true ∧ drives.keep.array = none ∧ drives.cache.image = .none ∧
       (∀ q ∈ [0, 2, 3], usableDrive (withOp drives o) q ≠ none)) ∧
    (let o := adminOp [(0, 0x51)]
     o.opcode = 0x51 ∧ portsOf (fld o.desc 8 1) = [] ∧ (withArray array1).cache.extents = [] ∧
       (∀ j p, (withOp (withArray array1) o).op j = some p → p.opcode < 0x20 ∨ 0x23 < p.opcode)) ∧
    (let o := adminOp [(0, 0x53), (8, 9), (16, 131073)]
     o.opcode = 0x53 ∧ slotEntry array1 9 = none ∧ (131073 + array1.width - 1) / array1.width = 2 ∧
       freeRun array1.stripes 2 (takenRuns array1) = some 2 ∧ freeRun array1.stripes 2 ((2, 2) :: takenRuns array1) = some 4 ∧
       allReachable (withOp (withArray array1) o) array1 = true ∧ fld o.desc 10 1 % 2 = 0 ∧ fld o.desc 8 2 = 9) ∧
    (let o := adminOp [(0, 0x53), (8, 7), (10, 1)]
     o.opcode = 0x53 ∧ fld o.desc 10 1 % 2 = 1 ∧ (slotEntry array1 (fld o.desc 8 2)).isSome = true ∧
       keepBusy (withOp (withArray array1) o) 7 [0x20, 0x21, 0x22] = false ∧ down.isDown = true) ∧
    (let o := adminOp [(0, 0x52), (8, 2), (9, 4)]
     o.opcode = 0x52 ∧ fld o.desc 8 1 = 2 ∧ (usableDrive (withOp (withArray array1) o) 4).isSome = true ∧
       (usableDrive (withOp (withArray array1) o) 4).all (fun d => !tooSmall array1 d) = true ∧
       memberOrTarget (withOp (withArray array1) o) 4 = false ∧ underTest (withOp (withArray array1) o) 4 = false ∧ array1.rebuild = none ∧
       array1.missing + (if array1.present 2 then 1 else 0) ≤ array1.p) ∧
    (let o := adminOp [(0, 0x54), (8, 3), (9, 1)]
     o.opcode = 0x54 ∧ fld o.desc 9 1 % 2 = 1 ∧ memberOrTarget (withOp (withArray array1) o) 3 = false ∧
       fld (adminOp [(0, 0x54), (8, 3)]).desc 9 1 % 2 = 0 ∧ (usableDrive (withOp (withArray array1) o) 3).isSome = true) := by
  refine ⟨by decide +kernel, ⟨by decide +kernel, by decide +kernel, by decide +kernel, ?_⟩, by decide +kernel,
    ⟨by decide +kernel, by decide +kernel, by decide +kernel, ?_, by decide⟩, by decide +kernel, by decide +kernel⟩
  · intro j p hp
    obtain ⟨-, rfl⟩ := op_withOp rfl _ hp
    decide +kernel
  · simp only [keepBusy, opList_withOp (s := withArray array1) rfl]
    decide +kernel

theorem crc_holds {x : List Byte} (hx : (x.drop 12).take 4 = [0, 0, 0, 0]) : crcHolds 12 (crcOver 12 x) = true := by
  have hl : 16 ≤ x.length := by
    have := congrArg List.length hx
    simp at this
    omega
  have h12 : (x.take 12).length = 12 := by simp; omega
  have e : (crcOver 12 x).take 12 ++ [0, 0, 0, 0] ++ (crcOver 12 x).drop (12 + 4) = x := by
    rw [crcOver, List.drop_left' (by simp; omega), List.append_assoc (x.take 12), List.take_left' h12, List.append_assoc, ← hx,
      ← List.drop_drop, List.take_append_drop, List.take_append_drop]
  rw [crcHolds, e]
  simp

set_option maxRecDepth 20000 in
/-- The bytes of a superblock of `array1`, whatever its CRC. -/
theorem parse_superblock (i : Fin 3) : parseSuperblock (array1.superblock i).bytes = some (array1.superblock i) := by
  have hc : crcHolds 12 (array1.superblock i).bytes = true := crc_holds (by fin_cases i <;> rfl)
  revert hc
  unfold Superblock.bytes crcOver
  generalize crc32c _ = c
  intro hc
  unfold parseSuperblock
  rw [if_pos]
  · refine congrArg some ?_
    unfold KArray.superblock
    simp only [Superblock.mk.injEq]
    refine ⟨?_, ?_, ?_, ?_, ?_, ?_, ?_, ?_, ?_, ?_, ?_, ?_, Vector.ext fun j hj => ?_⟩
    iterate 7 (focus fin_cases i <;> rfl)
    · exact congrArg (fun n => Nat.testBit n 0) (show _ = 0 by fin_cases i <;> rfl)
    · exact congrArg (fun n => Nat.testBit n 1) (show _ = 0 by fin_cases i <;> rfl)
    iterate 3 (focus fin_cases i <;> rfl)
    · rw [Vector.getElem_ofFn]
      interval_cases j <;> fin_cases i <;> rfl
  · refine ⟨by fin_cases i <;> rfl, by fin_cases i <;> rfl, hc, ?_⟩
    have h : ∀ x < 3, (3 ≤ 3 ∧ 3 ≤ 8 ∧ 1 ≤ 1 ∧ 1 ≤ 2 ∧ 1 + 1 < 3 ∧ 0 ≤ 1 ∧ (x < 3 ∨ x = 0xFF)) := by omega
    fin_cases i
    · exact h 0 (by decide)
    · exact h 1 (by decide)
    · exact h 2 (by decide)

theorem superblock_length (i : Fin 3) : (array1.superblock i).bytes.length = 4096 := by
  have e : ∀ x : List Byte, x.length ≤ 4096 → (crcOver 12 (padTo 4096 x)).length = 4096 := by
    intro x hx
    simp only [crcOver, padTo, List.length_append, length_natToBytes, List.length_take, List.length_drop, List.length_replicate]
    omega
  exact e _ (by fin_cases i <;> decide +kernel)

/-- A drive whose first superblock copy is the only one. -/
theorem drive_superblock {bs : List Byte} {x : Superblock} (id : DriveIdent) (hl : bs.length = 4096) (hp : parseSuperblock bs = some x) :
    driveSuperblock { ident := id, media := Memory.writeN [] 0 bs, unflushed := [], width := 2 } = some x := by
  have h0 : (Memory.writeN [] 0 bs).readN 0 4096 = bs := by
    rw [← hl]; exact Memory.readN_writeN _ 0 rfl
  have h1 : (Memory.writeN [] 0 bs).readN 4096 4096 = Memory.readN [] 4096 4096 :=
    Memory.readN_congr _ _ _ _ fun j _ => Memory.read_writeN_outside _ _ (Or.inr (by omega))
  have h2 : parseSuperblock (Memory.readN [] 4096 4096) = none := by decide +kernel
  simp only [driveSuperblock, h0, h1, h2, hp]

/-- `drives` with drives of some contents on ports 0, 1 and 2. -/
def importable (m : Nat → Memory) : State :=
  { drives with
    keep := { drives.keep with
      ports := Vector.ofFn fun q =>
        if q.val < 3 then portOf { ident := (drive q.val).ident, media := m q.val, unflushed := [], width := 2 } else Reset.drivePort } }

theorem import_superblocks (m : Nat → Memory) (o : Op) (x : Nat → Superblock)
    (h : ∀ i < 3, driveSuperblock { ident := (drive i).ident, media := m i, unflushed := [], width := 2 } = some (x i)) :
    superblocksOn (withOp (importable m) o) [0, 1, 2] = [(0, x 0), (1, x 1), (2, x 2)] := by
  have hu : ∀ i < 3, usableDrive (withOp (importable m) o) i = some { ident := (drive i).ident, media := m i, unflushed := [], width := 2 } := by
    intro i hi
    have hp : ((withOp (importable m) o).port i).drive = some { ident := (drive i).ident, media := m i, unflushed := [], width := 2 } := by
      interval_cases i <;> rfl
    rw [usableDrive, hp]
    rfl
  simp [superblocksOn, hu, h]

theorem witness_OperationsOnTheArray_import :
    let o := adminOp [(0, 0x51), (8, 7)]
    let s := withOp (importable fun i => Memory.writeN [] 0 (array1.superblock i).bytes) o
    let qs := portsOf (fld o.desc 8 1)
    s.keep.array = none ∧ qs ≠ [] ∧
      ∃ x, bestBy (fun y : Nat × Superblock => y.2.generation) ((superblocksOn s qs).filter fun y => y.2.index ≠ 0xFF) = some x ∧
        ∃ a spares, assembleFrom s qs x.2.uuid = some (a, spares) ∧ a.missing = 0 := by
  intro o s qs
  have hq : qs = [0, 1, 2] := by decide +kernel
  have hs := import_superblocks (fun i => Memory.writeN [] 0 (array1.superblock i).bytes) o (fun i => array1.superblock i)
    (fun i hi => drive_superblock _ (superblock_length ⟨i, hi⟩) (parse_superblock ⟨i, hi⟩))
  refine ⟨rfl, by decide +kernel, ?_⟩
  rw [hq]
  refine ⟨(0, array1.superblock 0), ?_, ?_⟩
  · rw [hs]
    decide +kernel
  · unfold assembleFrom
    rw [hs]
    exact ⟨_, _, rfl, by decide +kernel⟩

end Sys2Proof.Tests
end

