-- ==== Sys2Proof/Tests/WitnessArray.lean ====
section
/-! SUPPORT. States that meet the hypotheses of the statements about the Keep's own commands, the drives and the vault. Each theorem
names its statement. -/

namespace Sys2Proof.Tests
open Sys2Proof Sys2Proof.Machine

set_option Elab.async false

/-- An extent of slot 7 at the first 4 KiB of stripe 0. -/
def dirty7 : Extent :=
  { admitSeq := 1, slot := 7, half := 0, epoch := 1, arrayByte := 0, offset := 0, length := 4096, ready := true, released := false
    void := false, retries := 0, covered := [], waiter := none }

/-- `withArray array1` with that extent, and some stripe writes. -/
def destaging (ws : List StripeWrite) : State :=
  { withArray array1 with
    cache := { active.cache with extents := [dirty7], admitSeq := 1, tail := 4096 }, keep := { (withArray array1).keep with writes := ws } }

/-- A stripe write of stripe 0 that holds lock 0, with commands to some members for their first byte. -/
def write0 (writing : Bool) (outs : List Nat) : StripeWrite :=
  { stripe := 0, lock := some 0, snap := 1, pieces := [{ chunk := 0, off := 0, data := [1] }], method := .rmw, writing := writing
    outs := outs.map fun m => { member := m, off := 0, len := 1 }, p := [2], q := [], bad := [] }

theorem witness_StripeWritesOfTheKeep_locks :
    (let s := destaging []
     s.running = true ∧ s.power.keepEnabled = true ∧ s.cache.image = .none ∧ s.keep.array = some array1 ∧ array1.isDown = false ∧
       allReachable s array1 = true ∧ s.faults.poison = [] ∧ nextDestage s array1 = some 0 ∧ freeLock s = some 0 ∧
       stripeUnits s array1 0 (snapSeq s.cache) ≠ []) ∧
    (let s := destaging [{ write0 false [] with snap := 0 }]
     nextDestage s array1 = some 0 ∧ freeLock s = some 1 ∧ ∃ w ∈ s.keep.writes, w.stripe = 0) ∧
    (let s := destaging [waitingWrite 0]
     s.keep.writes = waitingWrite 0 :: [] ∧ (waitingWrite 0).lock = none ∧ stripeUnits s array1 (waitingWrite 0).stripe (snapSeq s.cache) ≠ []) := by
  decide +kernel

/-- A read of member 2, a write of member 0, and no command left. -/
theorem witness_StripeWritesOfTheKeep :
    (let s := destaging [write0 false [2]]
     writeOf s 0 = some (write0 false [2]) ∧ commandOf s array1 0 2 = some { member := 2, off := 0, len := 1 } ∧ array1.present 2 = true ∧
       vget array1.ports 2 none = some 2 ∧ (s.port 2).drive = some (drive 2) ∧ (s.port 2).lost = none ∧
       (∀ i < 3, i ≠ 2 → vget array1.ports i none ≠ some 2)) ∧
    (let s := destaging [write0 true [0]]
     writeOf s 0 = some (write0 true [0]) ∧ commandOf s array1 0 0 = some { member := 0, off := 0, len := 1 } ∧
       array1.memberAt 0 (array1.positionOf 0 0) = 0 ∧ (drive 0).media.wf = true) ∧
    (let s := destaging [write0 true []]
     writeOf s 0 = some (write0 true []) ∧ (write0 true []).outs = [] ∧ s.cache.extents = [dirty7] ∧ dirty7.live = true ∧
       dirty7.admitSeq ≤ (write0 true []).snap ∧ dirty7.waiter = none ∧ array1.stripesOf dirty7 = [0]) := by
  decide +kernel

/-- A chunk that an empty drive holds reads as zeros. -/
theorem zero_position {s : State} {a : KArray} {bad : List Nat} {st x q : Nat} {d : Drive} (n : Nat) (hb : bad.contains (a.memberAt st x) = false)
    (hp : a.readPort (a.memberAt st x) st = some q) (hd : (s.port q).drive = some d) (hm : d.media = []) :
    readPosition s a bad st x 0 n = some (List.replicate n 0) := by
  simp only [readPosition, hb, hp, Option.map_some, readMedia_empty hd hm, Bool.false_eq_true, if_false]

theorem witness_StripeWritesOfTheKeep_parity :
    ∃ pq, writeOf (destaging [write0 false []]) 0 = some (write0 false []) ∧ newParity (destaging [write0 false []]) array1 (write0 false []) [] = some pq := by
  have h : readPosition (destaging [write0 false []]) array1 [] (write0 false []).stripe array1.k 0 array1.chunk = some (List.replicate array1.chunk 0) :=
    zero_position (q := 2) (d := drive 2) _ (by decide +kernel) (by decide +kernel) (by decide +kernel) rfl
  have hs : (newParity (destaging [write0 false []]) array1 (write0 false []) []).isSome = true := by
    rw [newParity, show (write0 false []).method = .rmw from rfl]
    dsimp only
    rw [h]
    rfl
  obtain ⟨pq, hpq⟩ := Option.isSome_iff_exists.mp hs
  exact ⟨pq, by decide +kernel, hpq⟩

/-- `withArray array1` with the drive of port 1 lost. -/
def lost1 : State :=
  { withArray array1 with keep := { (withArray array1).keep with
      ports := vset (withArray array1).keep.ports 1 { portOf (drive 1) with drive := none, lost := some (drive 1) } } }

/-- Member 2 has failed, as the superblock on its drive's successor says. -/
def failed2 : KArray := { array1 with failed := 4, failGen := vset array1.failGen 2 5, generation := 5 }

theorem witness_DrivesAndTheirPorts :
    (let s := withArray array1
     s.running = true ∧ array1.present 1 = true ∧ vget array1.ports 1 none = some 1 ∧ (s.port 1).drive = some (drive 1) ∧
       (∀ j < 3, j ≠ 1 → array1.present j = true → vget array1.ports j none ≠ some 1) ∧
       (lost1.port 1).lost = some (drive 1) ∧ (drive 1).ident.usable = true) ∧
    (let s := withArray array1
     allReachable s array1 = true ∧ canLock s 1 = true ∧ 1 < array1.stripes ∧ 0 + 4 ≤ array1.chunk ∧ (s.port 1).readErrors.length < 15 ∧ array1.positionOf 1 2 < array1.k ∧
       (readStripe s array1 [2] 1 0 4).map (fun ds => (ds.getD (array1.positionOf 1 2) []).length) = some 4) ∧
    ((drives.port 5).drive = none ∧ (drives.port 5).lost = none ∧ drives.cache.image = .none ∧ drives.keep.array = none) ∧
    ((drives.port 4).drive = some (drive 4) ∧ memberOrTarget (withArray array1) 4 = false ∧ testable (withArray array1) 4 = true ∧
      underTest (withArray array1) 4 = false ∧ portTestBusy (withArray array1) = false ∧ barReachable (withArray array1) = true) ∧
    (let s : State := { withArray array1 with clocks := { active.clocks with timebase := BitVec.ofNat 64 (86400 * 1200000000) } }
     86400 * 1200000000 ≤ s.now - (s.port 4).lastTest.toNat) ∧
    (let s : State := { withArray array1 with keep := { (withArray array1).keep with portTest := { queue := [], running := some 4 } } }
     s.keep.portTest = { queue := [], running := some 4 } ∧ 30 ≤ 300 / 10 ∧ ¬31 ≤ 300 / 10) := by
  decide +kernel

/-- `array1` with member 2 failed at the generation after that of its last superblock. -/
def leaving2 : KArray := { array1 with failed := 4, failGen := vset array1.failGen 2 2, generation := 2 }

/-- The drive that was member 2, with its superblock. -/
def member2 : Drive :=
  { ident := (drive 2).ident, media := Memory.writeN [] 0 (array1.superblock 2).bytes, unflushed := [], width := 2 }

/-- It is inserted at port 5, which is empty. -/
theorem witness_DrivesAndTheirPorts_readd :
    let s : State := { withArray leaving2 with
      keep := { (withArray leaving2).keep with ports := vset (withArray leaving2).keep.ports 5 { Reset.drivePort with drive := some member2 } } }
    readdAs s leaving2 5 = some 2 ∧ ((withArray leaving2).port 5).drive = none ∧ ((withArray leaving2).port 5).lost = none ∧
      leaving2.readds = [] ∧ leaving2.rebuild = none ∧ leaving2.k ≤ leaving2.n - leaving2.missing ∧ allReachable s leaving2 = true := by
  refine ⟨?_, rfl, rfl, rfl, rfl, by decide, rfl⟩
  have hu : usableDrive { withArray leaving2 with
      keep := { (withArray leaving2).keep with ports := vset (withArray leaving2).keep.ports 5 { Reset.drivePort with drive := some member2 } } } 5 =
      some member2 := rfl
  have hb : driveSuperblock member2 = some (array1.superblock 2) := drive_superblock _ (superblock_length 2) (parse_superblock 2)
  rw [readdAs, hu, Option.bind_some, hb, Option.bind_some]
  rfl

/-- `array1` rebuilding member 1 onto port 4. -/
def rebuilding : KArray :=
  { array1 with failed := 2, rebuild := some { member := 1, port := 4, progress := 63, regions := none } }

theorem witness_BackgroundWorkOfTheKeep_rebuild :
    (let s : State := { withArray failed2 with
        keep := { (withArray failed2).keep with spares := 0x18 }, clocks := { active.clocks with timebase := BitVec.ofNat 64 (30 * 1200000000) } }
     s.running = true ∧ s.power.keepEnabled = true ∧ s.cache.image = .none ∧ failed2.isDown = false ∧ allReachable s failed2 = true ∧ s.keep.writes = [] ∧
       (∀ j : Fin 8, j < 3 → s.keep.spares.getLsbD j = true → (s.port j).locked = true ∨ usableDrive s j = none) ∧
       s.keep.spares.getLsbD 3 = true ∧ (s.port 3).locked = false ∧ usableDrive s 3 ≠ none ∧ underTest s 3 = false ∧ failed2.isFailed 2 = true ∧
       30 * 1200000000 ≤ s.now - (failed2.failedAt[2]).toNat ∧ (∀ j : Fin 8, j < 2 → failed2.isFailed j = false) ∧ failed2.rebuild = none ∧
       failed2.readds = []) ∧
    (let s := withArray rebuilding
     rebuilding.isDown = false ∧ allReachable s rebuilding = true ∧ rebuilding.rebuild = some { member := 1, port := 4, progress := 63, regions := none } ∧
       63 + 1 = rebuilding.stripes ∧ rebuilding.present 1 = false ∧ rebuilding.isFailed 1 = true ∧ (s.port 4).drive = some (drive 4) ∧
       (∀ i < 3, rebuilding.present i = true → vget rebuilding.ports i none ≠ some 4) ∧ rebuilding.positionOf 63 1 < rebuilding.k ∧
       rebuilding.memberAt 63 (rebuilding.positionOf 63 1) = 1 ∧ rebuildWaits s = false) ∧
    (let s : State := { destaging [] with
       keep := { (withArray rebuilding).keep with array := some rebuilding }, mgmt := { (destaging []).mgmt with holdAssure := false } }
     rebuilding.readds = [] ∧ rebuildWaits s = true) := by
  decide +kernel

theorem witness_BackgroundWorkOfTheKeep_reads :
    ∃ ds, readStripe (withArray rebuilding) rebuilding [1] 63 0 rebuilding.chunk = some ds ∧
      (ds.getD (rebuilding.positionOf 63 1) []).length = rebuilding.chunk := by
  have z : ∀ n, readPosition (withArray rebuilding) rebuilding [1] 63 0 0 n = some (List.replicate n 0) ∧
      readPosition (withArray rebuilding) rebuilding [1] 63 1 0 n = none ∧
      readPosition (withArray rebuilding) rebuilding [1] 63 2 0 n = some (List.replicate n 0) := fun n =>
    ⟨zero_position (q := 0) (d := drive 0) n (by decide +kernel) (by decide +kernel) (by decide +kernel) rfl, rfl,
      zero_position (q := 2) (d := drive 2) n (by decide +kernel) (by decide +kernel) (by decide +kernel) rfl⟩
  have h : readStripe (withArray rebuilding) rebuilding [1] 63 0 rebuilding.chunk = recover rebuilding.chunk
      [some (List.replicate rebuilding.chunk 0), none] (some (List.replicate rebuilding.chunk 0)) none := by
    rw [readStripe, show List.range rebuilding.k = [0, 1] by decide, show rebuilding.k = 2 by decide]
    simp only [List.map_cons, List.map_nil, (z _).1, (z _).2.1, (z _).2.2]
    rfl
  rw [h, show rebuilding.positionOf 63 1 = 1 by decide +kernel]
  generalize rebuilding.chunk = n
  refine ⟨[List.replicate n 0, xorBytes (List.replicate n 0) (parityP n (List.replicate 2 (List.replicate n 0)))], rfl, ?_⟩
  rw [parityP_zero]
  simp [xorBytes]

/-- `array1` with region 0 to be resynced, or with its bit still set. -/
def resyncing (todo : List Nat) (next : Nat) : KArray := { array1 with bitmap := [0], resync := todo, resyncNext := next }

theorem witness_BackgroundWorkOfTheKeep :
    (let a := resyncing [0] 63
     let s := withArray a
     a.isDown = false ∧ allReachable s a = true ∧ a.resync = 0 :: [] ∧ 63 = max a.resyncNext (0 * a.perRegion) ∧ 0 ∈ a.bitmap ∧ a.resyncAll = false ∧
       a.writePort (a.memberAt 63 a.k) = some 2 ∧ (s.port 2).drive = some (drive 2) ∧ a.p = 1 ∧ a.rebuild = none ∧
       stepWaitsForDestage s a = false ∧ patrolWaits s a = true) ∧
    (let a := resyncing [] 0
     a.resync = [] ∧ a.missing = 0 ∧ (withArray a).keep.patrolNext < a.stripes ∧ a.rebuild = none ∧ (∃ r ∈ a.bitmap, r ∉ a.resync ∧ ∀ x ∈ a.regionWritten, x.1 ≠ r) ∧
       (withArray a).now - (withArray a).keep.lastClear.toNat < 1200000000) ∧
    (let s : State := { withArray (resyncing [] 0) with clocks := { active.clocks with timebase := 1200000000 } }
     1200000000 ≤ s.now - s.keep.lastClear.toNat) := by
  decide +kernel

/-- The patrol scrub of a whole array with nothing else to do. -/
theorem witness_BackgroundWorkOfTheKeep_patrol : patrolWaits (withArray array1) array1 = false := by
  rw [patrolWaits, opList_idle (s := withArray array1) rfl]
  decide +kernel

end Sys2Proof.Tests
end

