-- ==== Sys2Proof/Tests/WitnessHost.lean ====
section
/-! SUPPORT. States that meet the hypotheses of the statements about the operations of the Tailstock, the host link and the
resets. Each theorem names its statement. -/

namespace Sys2Proof.Tests
open Sys2Proof Sys2Proof.Machine

set_option Elab.async false

/-- `active` with the array recorded nowhere and a vault image waiting. -/
def imaged : State := { active with cache := { active.cache with image := .awaiting, imageArea := true } }

/-- A dirty extent of slot 7. -/
def extent7 : Extent :=
  { admitSeq := 1, slot := 7, half := 0, epoch := 1, arrayByte := 0, offset := 0, length := 4096, ready := true, released := false
    void := false, retries := 0, covered := [], waiter := none }

/-- `down` with a dirty extent. -/
def downDirty : State := { withArray down with cache := { active.cache with extents := [extent7], tail := 4096 } }

theorem witness_OperationsOfTheTailstock :
    (∀ i : Fin 4,
      let o := adminOp [(0, [0x58, 0x59, 0x5A, 0x60].getD i 0), (8, 1), (16, hbm), (24, 0), (28, 64)]
      o.opcode = [0x58, 0x59, 0x5A, 0x60].getD i 0) ∧
    (active.mgmt.ops = [] ∧ ({ active.mgmt with awaitNotice := false } : Mgmt).toMg = none ∧ active.faults.alerts = [] ∧ active.mgmt.latchHp = none ∧
      active.mgmt.latchFfr = none ∧ active.mgmt.doeOut = []) ∧
    ((adminOp [(0, 0x61)]).opcode = 0x61 ∧ imaged.running = true ∧ imaged.cache.image = .awaiting ∧ imaged.keep.array = none ∧
      imaged.firmware.inUse.uuid = 0) ∧
    (downDirty.running = true ∧ downDirty.cache.image = .none ∧ down.isDown = true ∧ (∀ e ∈ downDirty.cache.extents, e.live = true ∧ e.waiter = none)) ∧
    active.cache.image = .none ∧ active.keep.array = none := by
  decide +kernel

theorem witness_OperationsOfTheTailstock_alone :
    Plain (withOp active (adminOp [])) .kernels hbm 64 ∧ EndsAlone imaged ∧ EndsAlone downDirty :=
  ⟨plain_active _ _ (by decide) (by decide), quiet_idle rfl quiet_active.rings rfl, quiet_idle rfl quiet_active.rings rfl⟩

/-- BAR4 of 64 GiB, which begins with HBM for kernels. -/
def linked : State := { active with link := { active.link with cfg := { active.link.cfg with bar4Enc := 16 } } }

theorem plain_linked {a n : Nat} (h1 : hbm ≤ a) (h2 : a + n ≤ 0x6000000000) : Plain linked .kernels a n :=
  plain_kernels rfl rfl rfl rfl rfl h1 h2

theorem witness_Bar4RequestsAreServed :
    (linked.link.up = true ∧ linked.running = true ∧ linked.link.cfg.memEnable = true ∧ linked.link.homeQueue = [] ∧ linked.dev.wf = true ∧
      linked.scale.delivered.length ≤ 1024) ∧
    (let a := linked.link.bar4Base.toNat * 2 ^ 30 + 0
     hbm = a ∧ Plain linked .kernels a 4096 ∧ 0 + 4096 ≤ 2 ^ (linked.link.cfg.bar4Enc + 20)) ∧
    (let last := 2 ^ 36 - 8
     Plain linked .kernels (linked.link.bar4Base.toNat * 2 ^ 30 + last) 8 ∧ last + 8 ≤ 2 ^ (linked.link.cfg.bar4Enc + 20) ∧ last % 8 = 0 ∧
       ¬(0 < 9 ∧ last + 9 ≤ 2 ^ (linked.link.cfg.bar4Enc + 20))) ∧
    (let s : State := { linked with link := { linked.link with dir := [hbm / 64] } }
     s.inRegion hbm 64 .kernels = true ∧ hbm % 64 = 0 ∧ s.link.dir.contains (hbm / 64) = true ∧ s.link.biPending = [] ∧
       s.link.cfg.d3hot = false ∧ s.link.recovery = false) := by
  refine ⟨by decide, ⟨by decide, plain_linked (by decide) (by decide), by decide⟩,
    ⟨plain_linked (by decide) (by decide), by decide, by decide, by decide⟩, by decide +kernel⟩

/-- A committed shared window of 256 MiB at the start of HBM for kernels, the host in CXL mode. -/
def shared : State :=
  { active with link := { active.link with
      cxlMode := true, hdmCommitted := true, winSize := 1, winBase := 64, cfg := { active.link.cfg with biEnable := true, atsEnable := true } } }

theorem witness_CoherenceAndTranslation :
    (let line := hbm / 64
     shared.link.up = true ∧ shared.running = true ∧ shared.link.homeQueue = [] ∧ shared.dev.wf = true ∧ shared.link.winSize ≠ 0 ∧
       shared.link.winBase.toNat * 2 ^ 28 ≤ 64 * line ∧ 64 * line < shared.link.winBase.toNat * 2 ^ 28 + shared.link.winSize.toNat * 2 ^ 28 ∧
       line ∉ shared.link.biPending ∧ shared.poisoned (64 * line) = false ∧ watchers shared line = [] ∧ shared.link.dir = []) ∧
    (let line := hbm / 64 + 2 ^ 22 - 1
     64 * line < shared.link.winBase.toNat * 2 ^ 28 + shared.link.winSize.toNat * 2 ^ 28 ∧
       ¬64 * (line + 1) < shared.link.winBase.toNat * 2 ^ 28 + shared.link.winSize.toNat * 2 ^ 28) ∧
    (let full : List Nat := (List.range 16).map fun i => hbm / 64 + (i + 1) * 2 ^ 18
     hbm / 64 ∉ full ∧ ¬(full.filter fun l => l % 2 ^ 18 = hbm / 64 % 2 ^ 18).length < 16) ∧
    (let s : State := { shared with link := { shared.link with biPending := [5], dir := [5] } }
     5 ∈ s.link.biPending ∧ 5 ∈ s.link.dir ∧ s.link.up = true) ∧
    (let s : State := { shared with link := { shared.link with l2Host := [(9, [1])], xlatAsked := [{ pasid := none, page := 0, who := [] }] } }
     s.link.l2Host = (9, [1]) :: [] ∧ 9 ∉ s.link.l2Poison ∧ (s.link.xlatAsked.find? fun x => x.isFor none 0).isSome = true ∧
       s.link.cfg.atsEnable = true ∧ s.link.invalidations = []) := by
  decide +kernel

theorem witness_ConfigurationErrorsAndLanes :
    (let s : State := { active with link := { active.link with testBusy := true, testLanes := 0x8001 } }
     s.running = true ∧ s.link.testBusy = true ∧
       ∀ i : Fin 16, s.link.testLanes.getLsbD i = true → (0x8001 : BitVec 16).getLsbD i = true ∧ 0 ≤ rateErrors s.link.best) ∧
    active.link.up = true ∧ active.power.starting = false ∧ active.link.pba = 0 ∧
    (let x : Lane := { active.link.lanes[3] with errors := List.replicate 4096 0 }
     x.errors.length = 4096 ∧ active.now - x.errors.headD 0 ≤ 1200000000) ∧
    active.link.lanes[0].errors.length < 4096 ∧ active.link.lanes[0].retired = false ∧ active.link.lanes[0].due = false ∧
    active.link.lanes[0].lockFails < 2 ∧ ({ active.link.lanes[15] with lockFails := 2 } : Lane).retired = false ∧
    (let s : State := { core with turner := { core.turner with
        accesses := [.load 3 0xC00000000000 { width := 8, signed := false } none false none] } }
     s.link.up = true ∧ s.running = true ∧
       s.turner.accesses = [.load 3 0xC00000000000 { width := 8, signed := false } none false none] ∧ 0xC00000000000 ≤ (0xC00000000000 : DevAddr).toNat) ∧
    (let l := active.link.margins[15]
     l.limit < 63 ∧ active.power.starting = false) ∧
    (barReachable warm = true ∧ warm.power.state = .warm ∧ warm.power.draining = false ∧ warm.link.testBusy = false ∧ warm.link.up = true) := by
  decide +kernel

theorem witness_ResetsLeaveTheModuleInWarm :
    (active.link.up = true ∧ active.running = true ∧ active.power.starting = false ∧ active.turner.mode ≠ .halted ∧ active.cache.image ≠ .replaying ∧
      active.link.cfg.d3hot = false ∧ ({ active.link.cfg with d3hot := true } : Config).d3hot = true) ∧
    active.power.hbmFailed = false ∧
    (let s : State := { active with clocks := { active.clocks with pllLocked := false } }
     s.running = false ∧ s.power.hbmFailed = false ∧ s.power.compute = true ∧ s.power.pwrLoss = false) ∧
    (let s : State := { active with link := { active.link with up := false, perst := false }, power := { active.power with starting := true },
                                    firmware := { active.firmware with imageTaken := true } }
     s.running = true ∧ s.power.hbmFailed = false ∧ s.link.perst = false ∧ s.link.testBusy = false ∧ s.firmware.imageTaken = true ∧ s.link.pba = 0 ∧
       s.link.homeQueue = [] ∧ (offeredWidth { s.link with reversalOk := false }).1 = 16 ∧ (offeredWidth s.link).1 = 16 ∧ 0 < min 16 (offeredWidth s.link).1 ∧ min 0 (offeredWidth s.link).1 = 0) := by
  decide +kernel

end Sys2Proof.Tests
end

