-- ==== Sys2Proof/Tests/WitnessJiman.lean ====
section
/-! SUPPORT. States that meet the hypotheses of the statements about the Jiman. Each theorem names its statement. -/

namespace Sys2Proof.Tests
open Sys2Proof Sys2Proof.Machine

set_option Elab.async false

/-- A powered Tailstock whose Jiman executes, with some state of its own. -/
def jiman (f : Jiman → Jiman) : State :=
  { State.reset with
    power := { State.reset.power with tailstock := true }
    jiman := f { State.reset.jiman with idle := false } }

/-- The same with some registers of its own. -/
def jimanRegs (f : JRegs → JRegs) : State := jiman fun j => { j with regs := f j.regs }

/-- Data RAM with the given words at the given word addresses. -/
def ramOf (words : List (Nat × Nat)) : Memory := words.foldl (fun m w => m.writeLE (2 * w.1) 2 w.2) []

/-- In a delay slot. -/
def slot (target : Option (BitVec 17)) (j : Jiman) : Jiman := { j with branch := some { target := target } }

theorem witness_JimanArithmeticWritesItsRegister :
    (let s := jiman id
     JReady s ∧ s.jiman.pfx = none ∧ s.jiman.regs.rm = 0 ∧ (0 : Int) ≤ (0 : BitVec 4).toInt ∧ (15 : BitVec 4).toInt < 0 ∧
       ((0 : BitVec 4).toNat, (0 : W16)) ∈ [(1, s.jiman.regs.rpc), (0, BitVec.ofNat 16 (s.jiman.regs.ie.toNat + 2 * s.jiman.regs.rm.toNat))]) ∧
    (let s := jiman fun j => { j with pfx := some 0x7FF }
     JReady s ∧ s.jiman.pfx ≠ none) ∧
    (let s := jiman (slot (some 5))
     JReady s ∧ s.jiman.pfx = none) ∧
    (let s := jimanRegs fun r => { r with ra := true, rpe := r.pc.setWidth 16, rpc := 1, rm := 1 }
     JReady s ∧ jAtRepeatEnd s.jiman.regs ∧ s.jiman.regs.rm = 1) ∧
    (let s := jimanRegs fun r => { r with rm := 2 }
     JReady s ∧ s.jiman.regs.rm = 2) := by
  unfold JReady jAtRepeatEnd
  decide +kernel

theorem witness_JimanMemoryPortsAndStrings :
    (let s := jiman id
     let r := s.jiman.regs
     let off0 := jSigned s (0 : BitVec 0)
     JReady s ∧ s.jiman.ram.wf = true ∧ s.jiman.branch = none ∧ s.jiman.pfx = none ∧ JMapped r.sgb[0] r.sgl[0] (s.ja 0 + off0) 0 ∧
       JMapped r.sgb[3] r.sgl[3] (s.ja 7 + jUnsigned s (31 : BitVec 5)) 31 ∧ s.jiman.flashBusy ≠ some r.fpg ∧ r.ra = false ∧
       (∀ n : Fin 5, (jUnsigned s (BitVec.ofNat 3 n)).toNat % 1024 = n.val)) ∧
    (let s := jimanRegs fun r => { r with a := Vector.replicate 8 0x7FFF }
     let r := s.jiman.regs
     JReady s ∧ s.jiman.pfx = none ∧ s.jiman.branch = none ∧ JMapped r.sgb[3] r.sgl[3] (s.ja 7) 0x7FFF) ∧
    (let s := jiman fun j => { j with pfx := some 0x3F, regs := { j.regs with a := vset j.regs.a 0 1 } }
     let r := s.jiman.regs
     JReady s ∧ s.jiman.branch = none ∧ JMapped r.sgb[0] r.sgl[0] (s.ja 0 + jSigned s (0 : BitVec 0)) 64) ∧
    (let s := jiman fun j => { j with pfx := some 0x3E }
     JReady s ∧ s.jiman.branch = none ∧ (jUnsigned s (0 : BitVec 3)).toNat % 1024 = 0x1F0) ∧
    (let s := jiman fun j => { slot none j with regs := { j.regs with g := true } }
     let r := s.jiman.regs
     JReady s ∧ s.jiman.ram.wf = true ∧ s.jiman.pfx = none ∧ r.g = true ∧ JMapped r.gsb r.gsl (s.ja 7 + jUnsigned s (0 : BitVec 5)) 0x7F00) ∧
    (let s := jimanRegs fun r => { r with rpc := 3, a := vset r.a 5 0x7FFD }
     let r := s.jiman.regs
     JReady s ∧ s.jiman.pfx = none ∧ s.jiman.branch = none ∧ r.ra = false ∧
       (let k := min (3 : W16).toNat r.rpc.toNat
        k = r.rpc.toNat ∧ (s.ja 5).toNat + k ≤ r.sgl[1].toNat + 1 ∧ r.sgb[1].toNat + (s.ja 5).toNat + k ≤ 0x8000 ∧
          (s.ja 4).toNat + k ≤ r.sgl[0].toNat + 1 ∧ r.sgb[0].toNat + (s.ja 4).toNat + k ≤ 0x8000 ∧
          (0 + k ≤ 0x7FFD ∨ 0x7FFD + k ≤ 0)) ∧
       min (2 : W16).toNat r.rpc.toNat ≠ r.rpc.toNat) := by
  unfold JReady JMapped
  decide +kernel

theorem witness_JimanBranchesRepeatsAndControl :
    (let s := jiman id
     let r := s.jiman.regs
     let start := s.jiman.unit.getD r
     s.jiman.idle = false ∧ s.power.tailstock = true ∧ s.jiman.branch = none ∧ s.jiman.pfx = none ∧ s.jiman.callm = none ∧
       ¬jAtRepeatEnd r ∧ r.ra = false ∧ r.pc.toNat % 65536 + ((31 : BitVec 5).toNat + 1) < 65536 ∧
       (jUnsigned s (0 : BitVec 5)).toNat = 0 ∧ (jUnsigned s (1 : BitVec 5)).toNat ≠ 0 ∧
       start.g = false ∧ 3 ≤ start.gsl.toNat ∧ start.gsb.toNat + start.gsl.toNat < 0x8000 ∧ s.jiman.ram.wf = true) ∧
    (let s := jiman (slot none)
     s.jiman.idle = false ∧ s.jiman.callm = none ∧ s.jiman.pfx = none ∧ s.jiman.branch ≠ none) ∧
    (let s := jiman fun j => { j with callm := some 0 }
     s.jiman.callm ≠ none ∧ s.jiman.branch = none ∧ s.jiman.pfx = none) ∧
    (let s := jiman fun j => { j with pfx := some 0 }
     s.jiman.pfx ≠ none ∧ s.jiman.branch = none ∧ s.jiman.callm = none ∧ ¬jAtRepeatEnd s.jiman.regs) ∧
    (let s := jimanRegs fun r => { r with ra := true, rpe := r.pc.setWidth 16 }
     s.jiman.branch = none ∧ s.jiman.pfx = none ∧ s.jiman.callm = none ∧ jAtRepeatEnd s.jiman.regs ∧ s.jiman.regs.ra = true) ∧
    (let s := jimanRegs fun r => { r with gsl := 3, sgl := vset r.sgl 1 0x7FFE, a := vset r.a 0 0x7FFF }
     let r := s.jiman.regs
     3 ≤ r.gsl.toNat ∧ r.sgl[1] < s.ja 0 ∧ s.ja 0 ≤ r.sgl[0] ∧ (r.sgb[0] + s.ja 0).toNat < 0x8000) ∧
    (let s := jimanRegs fun r => { r with sgb := vset r.sgb 0 1, a := vset r.a 0 0x7FFF }
     let r := s.jiman.regs
     s.ja 0 ≤ r.sgl[0] ∧ 0x8000 ≤ (r.sgb[0] + s.ja 0).toNat) := by
  unfold jAtRepeatEnd
  decide +kernel

theorem witness_JimanFramesInterruptsAndGuard :
    (let s := jimanRegs fun r => { r with a := vset r.a 7 0x8000 }
     let r := s.jiman.regs
     s.power.tailstock = true ∧ s.jiman.ram.wf = true ∧ s.jiman.idle = false ∧ s.jiman.branch = none ∧ ¬jAtRepeatEnd r ∧ s.jiman.pfx = none ∧
       r.shadow.length < 32 ∧ (∀ j < 2, r.a[7] - 1 - BitVec.ofNat 16 j ≤ r.sgl[3] ∧ (r.sgb[3] + (r.a[7] - 1 - BitVec.ofNat 16 j)).toNat < 0x8000)) ∧
    (let s := jiman fun j => { j with callm := some 0xFF, regs := { j.regs with a := vset j.regs.a 7 17 } }
     let r := s.jiman.regs
     s.jiman.callm = some 0xFF ∧ (∀ j < 17, r.a[7] - 1 - BitVec.ofNat 16 j ≤ r.sgl[3] ∧ (r.sgb[3] + (r.a[7] - 1 - BitVec.ofNat 16 j)).toNat < 0x8000)) ∧
    (let s := jiman fun j => { j with ram := ramOf [(1, 9)], regs := { j.regs with shadow := [9] } }
     let r := s.jiman.regs
     let word (x : Nat) : W16 := BitVec.ofNat 16 (s.jiman.ram.readLE (2 * x) 2)
     s.jiman.ram.wf = true ∧ s.jiman.pfx = none ∧ s.jiman.callm = none ∧ r.sgb[3] + r.a[7] = 0 ∧ r.a[7] + 1 ≤ r.sgl[3] ∧
       r.shadow.head? = some (BitVec.ofNat 17 ((word 1).toNat + 65536 * ((word 0).toNat % 2))) ∧ (word 0).extractLsb' 8 8 = 0 ∧
       r.shadow.head? = some (BitVec.ofNat 17 ((word 1).toNat + 65536 * ((word 0).toNat / 32768))) ∧
       r.shadow.head? ≠ some 8 ∧ r.g = false) ∧
    (let s := jiman fun j => { j with ram := ramOf [(0, 0x100), (1, 9)], regs := { j.regs with shadow := [9] } }
     let r := s.jiman.regs
     let word (x : Nat) : W16 := BitVec.ofNat 16 (s.jiman.ram.readLE (2 * x) 2)
     s.jiman.ram.wf = true ∧ r.shadow.head? = some (BitVec.ofNat 17 ((word 1).toNat + 65536 * ((word 0).toNat % 2))) ∧
       (word 0).extractLsb' 8 8 = 1 ∧ (∀ j < 2, r.a[7] + 1 + 2 - BitVec.ofNat 16 j ≤ r.sgl[3] ∧
         (r.sgb[3] + (r.a[7] + 1 + 2 - BitVec.ofNat 16 j)).toNat < 0x8000)) ∧
    (let s := jiman fun j => { j with ram := ramOf [(0, 0x100), (1, 9)], regs := { j.regs with shadow := [8] } }
     let r := s.jiman.regs
     let start := s.jiman.unit.getD r
     let word (x : Nat) : W16 := BitVec.ofNat 16 (s.jiman.ram.readLE (2 * x) 2)
     r.shadow.head? ≠ some (BitVec.ofNat 17 ((word 1).toNat + 65536 * ((word 0).toNat % 2))) ∧ start.g = false ∧
       3 ≤ start.gsl.toNat ∧ start.gsb.toNat + start.gsl.toNat < 0x8000) ∧
    (let s := jimanRegs fun r => { r with gsl := 2, g := true }
     s.jiman.pfx = none ∧ s.jiman.callm = none ∧ 2 ≤ s.jiman.regs.gsl.toNat ∧ s.jiman.regs.gsb.toNat + s.jiman.regs.gsl.toNat < 0x8000) ∧
    (let s := jiman fun j => { j with
       idle := true, intPend := 0x84, intEn := 0x84, regs := { j.regs with ie := true, a := vset j.regs.a 7 2 } }
     let start := s.jiman.unit.getD s.jiman.regs
     start.ie = true ∧ start.g = false ∧ (s.jiman.intPend &&& s.jiman.intEn).getLsbD 2 = true ∧
       (∀ i < 2, (s.jiman.intPend &&& s.jiman.intEn).getLsbD i = false) ∧ start.shadow.length < 32 ∧
       start.a[7] - 1 ≤ start.sgl[3] ∧ start.sgb[3] + (start.a[7] - 1) = 1 ∧ start.a[7] - 2 ≤ start.sgl[3] ∧ start.sgb[3] + (start.a[7] - 2) = 0) ∧
    ((jiman id).jiman.intPend &&& (jiman id).jiman.intEn = 0) ∧
    (let s := jimanRegs fun r => { r with g := true }
     s.power.tailstock = true ∧ s.jiman.idle = false ∧ s.jiman.branch = none ∧ s.jiman.pfx = none ∧ s.jiman.callm = none ∧
       (s.jiman.unit.getD s.jiman.regs).g = true) := by
  unfold jAtRepeatEnd
  decide +kernel

end Sys2Proof.Tests
end

