-- ==== Sys2Proof/Tests/WitnessTurner.lean ====
section
/-! SUPPORT. States that meet the hypotheses of the statements about the Turner: its instructions at S and at K, its traps, kernels,
halts and runtime images. Each theorem names its statement. -/

namespace Sys2Proof.Tests
open Sys2Proof Sys2Proof.Machine

set_option Elab.async false

/-- An instruction commits in a state with nothing outstanding and nothing pending. -/
theorem commits_plain {s : State} {reads : List Nat} {writes : Option Nat} (hr : coreRuns s = true) (ha : s.turner.accesses = [])
    (hl : s.lattice.faultPending = false) (hf : fetchCheck s = .ok s) (hp : s.turner.gpoison = 0)
    (hi : pendingInterrupt s.turner = none) : Commits s s reads writes := by
  have hd : drainStores s = s := by
    rw [drainStores, ha]
    show { s with turner := { s.turner with accesses := [] } } = s
    rw [← ha]
  refine ⟨hr, ?_, by rw [hd]; exact hf, ?_, ?_, hi⟩
  · rw [hd, takeAsync, ha]
    simp [failedStore, hl]
  · rw [List.any_eq_false]
    intro x _
    rw [Turner.reserved, ha]
    simp
  · rw [poisonExc, hp]
    simp

theorem commits_core (reads : List Nat) (writes : Option Nat) : Commits core core reads writes :=
  commits_plain rfl rfl rfl rfl rfl rfl
theorem commits_coreK (reads : List Nat) (writes : Option Nat) : Commits coreK coreK reads writes :=
  commits_plain rfl rfl rfl rfl rfl rfl

/-- `core` or `coreK` with another Turner that fetches as it does. -/
def turned (f : Turner → Turner) : State := { core with turner := f core.turner }

/-- In deterministic mode. -/
def coreDet : State := turned fun t => { t with cstat := { t.cstat with det := true } }

/-- Eight loads of g8 to g15 are out, so that no further reservation may be made (R128). -/
def reserved : State :=
  turned fun t => { t with
    accesses := (List.range 8).map fun i => .load (BitVec.ofNat 5 (8 + i)) hbm { width := 8, signed := false } none true none }

theorem commits_reserved : Commits reserved reserved [1, 2] (some 3) :=
  ⟨rfl, rfl, rfl, by decide +kernel, rfl, rfl⟩

theorem witness_TurnerIntegerGroupsWriteTheirResult :
    Commits core core [1, 2] (some 3) ∧ Commits coreK coreK [31, 31] (some 31) ∧ Commits core core [0] (some 0) ∧
      core.turner.reservations < 8 ∧ Commits reserved reserved [1, 2] (some 3) ∧ 8 ≤ reserved.turner.reservations :=
  ⟨commits_core _ _, commits_coreK _ _, commits_core _ _, by decide, commits_reserved, by decide⟩

theorem witness_TurnerImmediatesWriteTheirResult :
    Commits core core [1] (some 3) ∧ Commits core core [] (some 0) ∧ Commits coreK coreK [31] (some 31) ∧ (31 : BitVec 6).toNat < 32 ∧
      Issues core core ∧ 32 ≤ (32 : BitVec 6).toNat ∧ 32 ≤ (63 : BitVec 6).toNat :=
  ⟨commits_core _ _, commits_core _ _, commits_coreK _ _, by decide, (commits_core [] none).issues, by decide, by decide⟩

/-- In the Rescue handler. -/
def rescued : State := turned fun t => { t with cstat := { t.cstat with rescue := true } }

theorem commits_rescued (reads : List Nat) (writes : Option Nat) : Commits rescued rescued reads writes :=
  commits_plain rfl rfl rfl rfl rfl rfl

/-- A load of 8 bytes that has read its data, alone in its place. -/
def loading (poison : Bool) : State :=
  turned fun t => { t with
    accesses := [.load 3 0x400000000 { width := 8, signed := false } none true (some { bytes := List.replicate 8 0, poison := poison })] }

theorem witness_TurnerLoadsWriteTheBytesOfMemory :
    Commits core core [1] (some 3) ∧ core.turner.cstat.priv = true ∧ core.turner.accesses = [] ∧
    (dataPlace core false 1 .read 0 8 1 = .ok (.dev hbm) ∧ dataPlace core false 1 .read 0xFFFE 2 1 = .ok (.dev (hbm + 0xFFFE)) ∧
      dataPlace core false 1 .read 0xFFFF 1 1 = .ok (.dev (hbm + 0xFFFF)) ∧ dataPlace core false 1 .read 0xFFFC 4 1 = .ok (.dev (hbm + 0xFFFC)) ∧
      LineFree core (hbm / 64) ∧ core.inRegion hbm 8 .kernels = true ∧ core.inRegion (hbm + 0xFFFF) 1 .kernels = true ∧
      core.poisoned hbm = false ∧ isCached core hbm = true) ∧
    (cclkRuns (loading true) = true ∧ (loading true).turner.done = [] ∧ (loading true).link.invalidations = [] ∧
      (loading true).turner.accesses.all (fun x => !x.isStore) = true ∧ (loading true).turner.accesses[0]?.isSome = true) ∧
    (Commits rescued rescued [1] (some 3) ∧ dataPlace rescued false 7 .read 4088 8 1 = .ok (.rescue 4088)) := by
  refine ⟨commits_core _ _, rfl, rfl, ⟨rfl, rfl, rfl, rfl, line_free rfl rfl _, by decide +kernel⟩, by decide +kernel, commits_rescued _ _, rfl⟩

/-- Slot s1 of the S bank is 4 KiB of host memory. -/
def hosted : State := turned fun t => { t with sbank := vset t.sbank 1 (mkSegment 0xC00000000000 4096 2 3) }

theorem witness_TurnerStoresWriteTheirBytesOnly :
    Commits core core [1, 2] none ∧ core.turner.accesses = [] ∧ core.dev.wf = true ∧ core.host.wf = true ∧
    (dataPlace core false 1 .write 0xFFF8 8 2 = .ok (.dev (hbm + 0xFFF8)) ∧ core.inRegion (hbm + 0xFFF8) 8 .kernels = true ∧
      LineFree core ((hbm + 0xFFF8) / 64) ∧ watchRoom core ((hbm + 0xFFF8) / 64) = true) ∧
    (Commits rescued rescued [1, 2] none ∧ dataPlace rescued false 7 .write 0 1 2 = .ok (.rescue 0)) ∧
    (Commits hosted hosted [1, 2] none ∧ dataPlace hosted false 1 .write 0 4 2 = .ok (.dev 0xC00000000000) ∧
      hosted.inRegion 0xC00000000000 4 .host = true ∧ hostReachable hosted = true ∧ hosted.link.cfg.atsEnable = false ∧
      (hosted.link.l2Host.any fun p => p.1 = 0) = false) := by
  refine ⟨commits_core _ _, rfl, rfl, rfl, ⟨rfl, by decide +kernel, line_free rfl rfl _, by decide +kernel⟩, ⟨commits_rescued _ _, rfl⟩,
    commits_plain rfl rfl rfl rfl rfl rfl, rfl, by decide +kernel⟩

theorem witness_TurnerBranchesCompareAndWriteNothing : Commits core core [1, 2] none ∧ Commits coreK coreK [31] none :=
  ⟨commits_core _ _, commits_coreK _ _⟩

theorem witness_TurnerCallsAndReturnsKeepTheShadowStack :
    (Commits core core [] none ∧ core.turner.sssDepth = 0 ∧ Commits core core [1] none ∧ Commits core core [] (some 31)) ∧
    (∃ s, s = turned (fun t => { t with sssDepth := 256, lk := 4, sss := vset t.sss 255 4 }) ∧ Commits s s [] none ∧
      vget s.turner.sss (256 - 1) 0 = s.turner.lk) ∧
    (∃ s : State, s = { coreK with turner := { coreK.turner with kssDepth := 1024 } } ∧ Commits s s [1] none ∧
      vget s.turner.kss (1024 - 1) 0 = s.turner.lk) ∧
    (∃ s : State, s = { coreK with turner := { coreK.turner with kssDepth := 1, lk := 4 } } ∧ Commits s s [] none ∧
      vget s.turner.kss (1 - 1) 0 ≠ s.turner.lk) := by
  refine ⟨⟨commits_core _ _, rfl, commits_core _ _, commits_core _ _⟩, ⟨_, rfl, commits_plain rfl rfl rfl rfl rfl rfl, by decide +kernel⟩,
    ⟨_, rfl, commits_plain rfl rfl rfl rfl rfl rfl, by decide +kernel⟩, ⟨_, rfl, commits_plain rfl rfl rfl rfl rfl rfl, by decide +kernel⟩⟩

theorem witness_TurnerTrapsAndInterruptsEnterTheHandler :
    Issues core core ∧ core.turner.loadsOut = false ∧ bitsOf (0xFC000000 : W32).toNat 26 6 = 0x3F ∧
    (∃ s, s = turned (fun t => { t with cstat := { t.cstat with ie := true }, ipend := 0xC }) ∧ coreRuns s = true ∧ drainStores s = s ∧
      takeAsync s = none ∧ pendingInterrupt s.turner = some 2) ∧
    (∃ s : State, s = { coreK with turner := { coreK.turner with ipend := 1 } } ∧ pendingInterrupt s.turner = some 0 ∧ coreRuns s = true) ∧
    Issues rescued rescued :=
  ⟨(commits_core [] none).issues, rfl, by decide, ⟨_, rfl, rfl, rfl, rfl, rfl⟩, ⟨_, rfl, rfl, rfl⟩, (commits_rescued [] none).issues⟩

theorem witness_TurnerReturnsRestoreTheStatus :
    Commits core core [] none ∧ core.turner.accesses = [] ∧ core.turner.cstatNext = none ∧
    (∃ s, s = turned (fun t => { t with cstatNext := some (false, true) }) ∧ Commits s s [] none) ∧
    core.opList.all (fun q => !kernelReady core q.2) = true ∧ Issues coreK coreK ∧ coreK.turner.cstat.priv = false := by
  refine ⟨commits_core _ _, rfl, rfl, ⟨_, rfl, commits_plain rfl rfl rfl rfl rfl rfl⟩, ?_, (commits_coreK [] none).issues, rfl⟩
  rw [opList_idle rfl]
  rfl

/-- A KERNEL of SR1 that is ready for the core: ENTRY 0x300, segment table 5, BUDGET 7. -/
def ready : Op := opOf .admitted [(0, 0x08), (8, 0x300), (16, 5), (20, 7), (24, 1)]

theorem witness_LaunchingAKernelSetsTheCore :
    Commits (withOp core ready) (withOp core ready) [] none ∧ core.turner.cstat.priv = true ∧ core.turner.loadsOut = false ∧
      nextLaunch (withOp core ready) = some (0, ready) ∧ (withOp core ready).op 0 = some ready := by
  refine ⟨commits_plain rfl rfl rfl rfl rfl rfl, rfl, rfl, ?_, op_setOp_self (by decide) _⟩
  have hr : kernelReady (withOp core ready) ready = true := by
    simp only [kernelReady, opReady, orderAllows, State.earlierLive, opList_withOp (s := core) rfl]
    decide +kernel
  rw [nextLaunch, opList_withOp rfl, List.foldl_cons, List.foldl_nil, if_pos (by rw [hr])]

theorem witness_TurnerSystemRegistersReadAndWrite :
    Commits core core [] (some 1) ∧ Commits coreK coreK [] (some 1) ∧ Commits core core [1] none ∧ Issues coreK coreK ∧ Issues core core ∧
      core.turner.cstat.priv = true ∧ coreK.turner.cstat.priv = false ∧
      (0x009 : BitVec 12).toNat < 0x100 ∧ ¬((0x009 : BitVec 12).toNat ≤ 0x08 ∨ (0x10 ≤ (0x009 : BitVec 12).toNat ∧ (0x009 : BitVec 12).toNat ≤ 0x14)) ∧
      ¬((0x010 : BitVec 12).toNat ≤ 0x04 ∨ (0x12 ≤ (0x010 : BitVec 12).toNat ∧ (0x010 : BitVec 12).toNat ≤ 0x14)) :=
  ⟨commits_core _ _, commits_coreK _ _, commits_core _ _, (commits_coreK [] none).issues, (commits_core [] none).issues, rfl, rfl, by decide,
    by decide, by decide⟩

/-- A running kernel of entry 0 with BUDGET 1. -/
def running0 (used : Nat) (late : Bool) : Running :=
  { kid := 0, segTable := 5, prio := 0, pasid := none, budget := 1, used := used, overBudget := late, lastCause := 0, lastEstat := 0, lastEpc := 0 }

/-- The runtime at S while a kernel is current, its operation in entry 0. -/
def withKernel (used : Nat) (late : Bool) (current : Option Nat) : State :=
  withOp (turned fun t => { t with runningK := [running0 used late], current := current, timercmp := 0, cstat := { t.cstat with priv := true } })
    { ready with phase := .started }

theorem witness_KernelEventsOfTheTurner :
    (let s := withKernel 2048 false (some 0)
     coreRuns s = true ∧ s.turner.currentK = some (running0 2048 false) ∧ (running0 2048 false).budget ≠ 0 ∧
       (running0 2048 false).budget.toNat < (running0 2048 false).used / 1024 ∧ (running0 2048 false).overBudget = false) ∧
    (∃ s : State, s = { core with turner := { core.turner with timercmp := 9 }, clocks := { core.clocks with timebase := 9 } } ∧ coreRuns s = true ∧
      s.turner.timercmp ≠ 0 ∧ s.turner.timercmp.toNat ≤ s.clocks.timebase.toNat) ∧
    (let s := withKernel 0 false none
     cclkRuns s = true ∧ s.turner.mode = .running ∧ s.turner.runningK.find? (fun q => q.kid = (0 : W64).toNat % 1024) = some (running0 0 false) ∧
       s.turner.current ≠ some 0) ∧
    (let s := withKernel 0 false (some 0)
     s.turner.currentK = some (running0 0 false) ∧ s.op 0 = some { ready with phase := .started } ∧ s.turner.done = [] ∧ s.turner.accesses = [] ∧
       s.lattice.queue = [] ∧ s.lattice.restart = [] ∧ s.lattice.flight = [] ∧ s.lattice.fault = none) :=
  ⟨⟨rfl, rfl, by decide, by decide, rfl⟩, ⟨_, rfl, rfl, by decide, by decide⟩, ⟨rfl, rfl, by decide, by decide⟩,
    ⟨rfl, op_setOp_self (by decide) _, rfl, rfl, rfl, rfl, rfl, rfl⟩⟩

theorem witness_HaltsOfTheTurner :
    (∃ s, s = turned (fun t => { t with accesses := [.store 0xC00000000000 [0] false none false 2 true false] }) ∧ coreRuns s = true ∧
      s.turner.loadsOut = false) ∧
    (coreRuns (withKernel 0 true (some 0)) = true ∧ ((withKernel 0 true (some 0)).turner.runningK.any fun r => r.overBudget) = true) ∧
    (∃ s, s = withOp (turned fun t => { t with
        runningK := [running0 0 true], current := some 0, mode := .halted, halts := [0, 0] }) { ready with phase := .started } ∧
      cclkRuns s = true ∧ s.turner.mode = .halted ∧ s.turner.accesses = [] ∧ s.turner.done = [] ∧ s.turner.current = some (running0 0 true).kid ∧
      s.turner.runningK = [running0 0 true] ∧ s.now - (0 : W64).toNat ≤ 600 * 1200000000 ∧ s.op 0 = some { ready with phase := .started }) :=
  ⟨⟨_, rfl, rfl, rfl⟩, ⟨rfl, rfl⟩, ⟨_, rfl, rfl, rfl, rfl, rfl, rfl, rfl, by decide, op_setOp_self (by decide) _⟩⟩

theorem witness_KernelsAndSegmentsReachTheCore :
    (let o := opOf .admitted [(0, 0x08)]
     let s := withOp (turned fun t => { t with retained := some { addr := 0, length := 512, digest := 0, loadBase := 0 } }) o
     (o.opcode = 0x08 ∧ core.running = true ∧ core.turner.locked = false ∧ core.turner.retained = none ∧ s.turner.retained.isSome = true ∧
       s.turner.mode = .running ∧ core.turner.runningK = [] ∧ core.turner.icond.getLsbD 2 = false) ∧
     orderAllows (withOp core o) o = true ∧ orderAllows s o = true ∧ EndsAlone (withOp core o)) ∧
    (let o := adminOp [(0, 0x44), (8, 4095), (10, 7), (11, 1), (12, 3), (16, hbm), (24, 4096)]
     o.opcode = 0x44 ∧ Performs (withOp core o) 0 o.opcode (withOp core o) o ∧
       ((withOp core o).opList.any fun q => decide (q.2.opcode = 0x08) && decide (q.2.phase = .started) &&
         decide (fld q.2.desc 16 2 = fld o.desc 8 2)) = false) := by
  refine ⟨⟨by decide +kernel, ?_, ?_, quiet_withOp rfl (by decide +kernel) rfl _ (by decide)⟩, by decide +kernel,
    performs_started _ _ rfl rfl rfl, ?_⟩
  · simp only [orderAllows, State.earlierLive, opList_withOp (s := core) rfl]
    decide +kernel
  · simp only [orderAllows, State.earlierLive, opList_withOp (s := turned _) rfl]
    decide +kernel
  · rw [opList_withOp rfl]
    decide +kernel

/-- The bytes of a runtime image of 512 bytes at 4 KiB into HBM for kernels, its slot s0 the first 64 KiB; its key and signature are 0. -/
def imageMem : Memory :=
  let slot := mkSegment hbm 0x10000 1 7
  let bytes : List (Nat × Byte) := [(0, 0x54), (1, 0x52), (2, 0x55), (3, 0x4E), (4, 1), (20, 4)] ++
    (List.range 16).map fun i => (256 + i, slot.extractLsb' (8 * i) 8)
  bytes.foldl (fun m b => Memory.write m (hbm + 0x1000 + b.1) b.2) []

/-- Its header. -/
def imageHeader : BitVec 4096 := headerOf (imageMem.readN (hbm + 0x1000) 512)

/-- `active` with that image in HBM, and the hash of its key in the fuses. -/
def bootable : State :=
  { active with
    dev := imageMem
    firmware := { active.firmware with keyHash := vset active.firmware.keyHash 0 (Cfg.sha384 (hbytes imageHeader 32 96)) } }

/-- A RUNTIME_LOAD of it, to the start of HBM for kernels. -/
def loadImage : Op := adminOp [(0, 0x48), (16, hbm + 0x1000), (24, 512)]

theorem bankSlot_power {s t : State} (h : s.power = t.power) (g : Segment) : bankSlotOk s g = bankSlotOk t g := by
  cases s
  cases t
  cases h
  rfl

theorem header_ok : runtimeHeaderOk (withOp bootable loadImage) imageHeader 512 = true := by
  have hk : hfld imageHeader 5 1 = 0 := by decide +kernel
  have hh : Cfg.sha384 (hbytes imageHeader 32 96) = vget (withOp bootable loadImage).firmware.keyHash 0 0 :=
    (vget_vset_self _ _ _ _ (by decide)).symm
  have rest : ∀ f : Firmware, f.revoked = 0 → f.ohmimRevoked = 0 →
      (Cfg.sha384 (hbytes imageHeader 32 96) = vget f.keyHash 0 0) →
      runtimeHeaderOk { withOp active loadImage with firmware := f } imageHeader 512 = true := by
    intro f h1 h2 h3
    have hr : keyRevoked f 0 = false := by rw [keyRevoked, h1, h2]; rfl
    rw [runtimeHeaderOk]
    simp only [hk, Bool.and_eq_true, decide_eq_true_eq]
    refine ⟨⟨⟨⟨⟨⟨⟨⟨⟨⟨⟨?_, ?_⟩, by decide⟩, h3⟩, by rw [hr]; rfl⟩, ?_⟩, ?_⟩, ?_⟩, ?_⟩, ?_⟩, ?_⟩, ?_⟩
    · decide +kernel
    · decide +kernel
    · exact ⟨by decide, by decide +kernel⟩
    · decide +kernel
    · simp
    · simp only [bankSlot_power (s := { withOp active loadImage with firmware := f }) (t := active) rfl]
      decide +kernel
    · decide +kernel
    · decide +kernel
    · decide +kernel
  exact rest _ rfl rfl hh

/-- The digest and the signature check are free values, so that the signature of an image is a premise here (log entry 4). -/
theorem witness_RuntimeImagesStartTheCore :
    let s := withOp bootable loadImage
    let image := s.dev.readN (hbm + 0x1000) 512
    (s.inRegion (hbm + 0x1000) 512 .kernels = true ∧ Plain s .kernels (hbm + 0x1000) 512 ∧ hfld (headerOf image) 16 8 = hbm ∧
      hbm + (512 - 512) ≤ hbm + 0x1000 ∧ s.dev.wf = true ∧ s.spindle.running = [] ∧ EndsAlone s) ∧
    (Performs s 0 loadImage.opcode s loadImage ∧ loadImage.opcode = 0x48 ∧ runtimeLoadReady s = true ∧ fld loadImage.desc 16 8 = hbm + 0x1000 ∧
      fld loadImage.desc 24 4 = 512 ∧ runtimeHeaderOk s (headerOf image) 512 = true ∧
      (Cfg.ecdsaP384 (hbytes imageHeader 32 96) (Cfg.sha384 (signedHeader imageHeader ++ image.drop 512)) (hbytes imageHeader 128 96) = true →
        signatureOk s.firmware (headerOf image) (image.drop 512) = true)) ∧
    (∃ t : State, t = { s with turner := { s.turner with mode := .reloading, retained := some {
        addr := BitVec.ofNat 48 (hbm + 0x1000), length := 512, digest := Cfg.sha384 image, loadBase := BitVec.ofNat 48 hbm } } } ∧
      cclkRuns t = true ∧ t.turner.mode = .reloading ∧ t.dev = s.dev ∧ t.spindle.running = [] ∧
      t.turner.cstat = { priv := true, ie := false, det := false, entry := false, rescue := false }) := by
  intro s image
  refine ⟨⟨by decide +kernel, plain_kernels rfl rfl rfl rfl rfl (by decide) (by decide), by decide +kernel, by decide, by decide +kernel, rfl,
      quiet_withOp rfl (by decide +kernel) rfl _ (by decide)⟩,
    ⟨performs_started _ _ rfl rfl rfl, by decide +kernel, ?_, by decide +kernel, by decide +kernel, header_ok, ?_⟩,
    ⟨_, rfl, rfl, rfl, rfl, rfl, rfl⟩⟩
  · rw [runtimeLoadReady, kernelLaunched, opList_withOp rfl]
    decide +kernel
  · intro h
    have hk : hfld imageHeader 5 1 = 0 := by decide +kernel
    have hh : Cfg.sha384 (hbytes imageHeader 32 96) = vget bootable.firmware.keyHash 0 0 := (vget_vset_self _ _ _ _ (by decide)).symm
    show signatureOk bootable.firmware imageHeader (image.drop 512) = true
    rw [signatureOk]
    simp only [hk, h, Bool.and_eq_true, decide_eq_true_eq]
    exact ⟨⟨⟨by decide, hh⟩, rfl⟩, trivial⟩

end Sys2Proof.Tests
end

