-- ==== Sys2Proof/Tests/WitnessManage.lean ====
section
/-! SUPPORT. States that meet the hypotheses of the statements about the pack and its gauge, the management plane, the sideband, the
firmware and the registers. Each theorem names its statement. -/

namespace Sys2Proof.Tests
open Sys2Proof Sys2Proof.Machine

set_option Elab.async false

/-- The pack's record in `gauged`. -/
def pack1 : PackRecord := packRecord 400 1024

/-- `active` with a pack that has an estimate, at an SoC of 904. -/
def gauged (f : Gauge → Gauge) : State := { active with gauge := f { coldPack with imp := .idle, charge := .off } }

theorem witness_TheChargeCountAndTheCharger :
    (let s := gauged id
     s.gauge.present = true ∧ s.gauge.record = some pack1 ∧ s.gauge.estimated = true ∧ s.gauge.inserting = none ∧ s.gauge.imp = .idle ∧
       s.power.tailstock = true ∧ s.power.pwrLoss = false ∧ s.gauge.inhibit = false ∧ s.gauge.chargeLock = none ∧ s.gauge.charge = .off ∧
       s.gauge.last = some (sampleAt 4070 0 12) ∧ sInt s.gauge < 970 ∧ s.gauge.restTime < 30 * 60 * 64) ∧
    (let x := sampleAt 4100 (-51) 44
     5 ≤ x.temp ∧ x.temp ≤ 44 ∧ 50 ≤ x.current.natAbs ∧ 8200 ≤ x.cell0 + x.cell1 ∧ (if (gauged id).gauge.fast then x.current else 64 * x.current) < 0) ∧
    (let s := gauged fun g => { g with restTime := 30 * 60 * 64, anchor := none }
     30 * 60 * 64 ≤ s.gauge.restTime ∧ s.gauge.anchor = none) ∧
    (let s := gauged fun g => { g with restTime := 30 * 60 * 64, anchor := some (500, 36864000) }
     s.gauge.anchor = some (500, 36864000) ∧ 400 ≤ ((socOfVoltage 4070 : Int) - 500).natAbs) ∧
    (gauged fun g => { g with charge := .paused }).gauge.charge = .paused ∧
    (let s := gauged fun g => { g with charge := .constantVoltage, anchor := none, timeouts := [(0, [1])] }
     s.gauge.charge = .constantVoltage ∧ (sampleAt 4100 19 12).current < 20 ∧ s.gauge.charge ≠ .off ∧
       (s.gauge.timeouts.filter fun t => t.2 = pack1.serial) = [(0, pack1.serial)] ∧ s.mgmt.tick.toNat - 0 ≤ 604800000) ∧
    970 ≤ sInt (gauged fun g => { g with rc := 400 * 230400 }).gauge := by
  decide +kernel

theorem witness_ImpedanceInsertionAndControl :
    (let s := gauged fun g => { g with idleTime := 60 * 64, testAsked := true, retryAt := none, lastTest := some 0 }
     s.gauge.imp = .idle ∧ s.power.pwrLoss = false ∧ s.gauge.last = some (sampleAt 4070 0 12) ∧ 500 < sInt s.gauge ∧ 60 * 64 ≤ s.gauge.idleTime ∧
       s.gauge.retryAt = none ∧ s.gauge.testAsked = true ∧ s.mgmt.tick.toNat - 0 < 86400000) ∧
    (gauged fun g => { g with retryAt := some 5 }).gauge.retryAt ≠ none ∧
    (gauged fun g => { g with imp := .loaded 8000 }).gauge.imp = .loaded 8000 ∧
    (gauged fun g => { g with imp := .sampled10 8000 7900 }).gauge.imp = .sampled10 8000 7900 ∧
    (pack1.magicOk = true ∧ pack1.version = 1 ∧ pack1.crcOk = true ∧ pack1.chem = 1 ∧ pack1.serial ∉ active.gauge.eepromRo ∧
      ∀ q ∈ active.gauge.mirror, q.serial ≠ pack1.serial) ∧
    (let s := gauged fun g => { g with estimated := false, inserting := some [4000, 4000, 4000] }
     s.gauge.estimated = false ∧ s.gauge.inserting = some [4000, 4000, 4000] ∧ [4000, 4000, 4000].length = 3 ∧ [4000].length < 3) ∧
    (let s : State := { active with mgmt := { active.mgmt with words := vset active.mgmt.words 0 327680 } }
     327680 ≤ s.limit ∧ 20480 ≤ s.limit ∧ active.limit < 20480) ∧
    (active.running = true ∧ active.link.up = true ∧ active.link.cfg.memEnable = true ∧ active.link.cfg.d3hot = false) := by
  decide +kernel

/-- The Tailstock with some state of its own. -/
def managed (f : Mgmt → Mgmt) : State := { active with mgmt := f { active.mgmt with resetting := false, awaitNotice := false } }

theorem witness_TicksFaultsAndTrips :
    (let s := managed id
     s.power.tailstock = true ∧ s.firmware.recovery = false ∧ s.mgmt.tickHeld = false ∧ s.mgmt.tickRunning = false ∧ s.mgmt.resetAsked = false ∧
       s.mgmt.selftestFailed = false ∧ bitsOf s.mgmt.words[0].toNat 32 16 ≠ (s.mgmt.tick + 1).toNat % 65536 ∧ s.gauge.present = false ∧
       s.mgmt.level = 0 ∧ (∀ n : Fin 24, s.mgmt.sensors[n].retired = false) ∧ s.mgmt.power.sum + 0 < 14000000 ∧ s.mgmt.assureLock = false ∧
       s.mgmt.faultTicks.length < 2 ∧ s.mgmt.trip = false) ∧
    (managed fun m => { m with tickRunning := true }).mgmt.tickRunning = true ∧
    (let s := managed fun m => { m with resetting := true, selftestOk := true }
     s.mgmt.resetting = true ∧ s.mgmt.selftestOk = true) ∧
    (managed fun m => { m with resetAsked := true }).mgmt.resetAsked = true ∧
    (let s := managed fun m => { m with faultTicks := [0, 1, 2], tick := 86400001 }
     s.mgmt.faultTicks = [0, 1, 2] ∧ (s.mgmt.tick - 1).toNat ≤ 86400000) ∧
    (managed fun m => { m with assureLock := true }).mgmt.assureLock = true ∧
    (let s := managed fun m => { m with trip := true }
     s.mgmt.trip = true ∧ ∀ n : Fin 20, (Vector.replicate 20 (815 : Int))[n] < 816) := by
  decide +kernel

/-- A message with given fields. -/
def message (fields : List (Nat × Nat)) : MboxMsg := bytesAt fields

/-- A request of the queue engine that has been sent. -/
def asked : MgmtOp := { entry := 0, seq := 9, sent := true, offset := 0 }

theorem witness_MessagesOfTheMailbox :
    (let m := message [(0, 1), (1, 0x60), (2, 9)]
     let s := managed fun x => { x with toMg := some m }
     s.mgmt.toMg = some m ∧ s.power.tailstock = true ∧ s.mgmt.resetting = false ∧ fld m 0 1 = 1 ∧ s.mgmt.retainedReply = none ∧
       fld m 1 1 ≠ 0x59 ∧ fld (message [(0, 1), (1, 0x59)]) 1 1 = 0x59 ∧ s.firmware.session.state ≠ .complete) ∧
    (let m := message [(0, 2), (2, 9)]
     let o : JOp := { opcode := 0x58, seq := 9, body := List.replicate 20 0 ++ [53] ++ List.replicate 35 0, data := [] }
     fld m 0 1 = 2 ∧ BitVec.ofNat 16 (fld m 2 2) = o.seq ∧ fld m 8 4 = o.data.length ∧
       o.data.length + 52 < bytesToNat ((o.body.drop 20).take 4)) ∧
    (fld (message [(0, 3), (8, 5), (12, 1)]) 0 1 = 3 ∧ fld (message [(0, 3), (12, 1)]) 12 1 = 1 ∧ fld (message [(0, 4), (8, 0x2001), (10, 2)]) 0 1 = 4) ∧
    (let s := managed id
     s.running = true ∧ s.mgmt.toMg = none ∧ s.mgmt.awaitNotice = false ∧ s.faults.alerts = [] ∧ s.mgmt.latchHp = none ∧ s.mgmt.latchFfr = none ∧
       s.mgmt.doeOut = [] ∧ s.mgmt.doe = [] ∧ (0x10 :: 0x84 :: List.replicate 54 (0 : Byte)).length = 56 ∧
       (0x10 :: 0x84 :: List.replicate 54 (0 : Byte)).getD 1 0 = 0x84) ∧
    (let m := message [(0, 0x81), (1, 0x60), (2, 9)]
     let s := withOp (managed fun x => { x with toDp := some m, ops := [asked] }) (adminOp [(0, 0x60), (16, hbm)])
     s.mgmt.toDp = some m ∧ s.mgmt.ops = [asked] ∧ asked.seq = BitVec.ofNat 16 (fld m 2 2) ∧ s.op asked.entry = some (adminOp [(0, 0x60), (16, hbm)]) ∧
       fld m 0 1 = 0x81 ∧ s.mgmt.replyReset = false ∧ s.dev.wf = true ∧ fld (adminOp [(0, 0x60), (16, hbm)]).desc 16 6 = hbm ∧
       fld (message [(0, 2), (8, 4096 - 52)]) 8 4 + 52 ≤ 4096) ∧
    (fld (message [(0, 5)]) 0 1 = 5 ∧ fld (message [(0, 0x83)]) 0 1 = 0x83 ∧ fld (message [(0, 0x84)]) 0 1 = 0x84) := by
  decide +kernel

/-- The lines to which a reply's data goes are free. -/
theorem witness_MessagesOfTheMailbox_plain (o : Op) : Plain (withOp (managed id) o) .kernels (hbm + 4044) 52 :=
  plain_kernels rfl rfl rfl rfl rfl (by decide) (by decide)

theorem witness_PortsOfTheJiman :
    active.jiman.flashBusy = none ∧ active.jiman.oneshot = 0 ∧ active.jiman.flash.wf = true ∧ (0 : W16).toNat = 0 ∧ 5 < (6 : W16).toNat ∧
    (let s : State := { active with jiman := { active.jiman with flashBusy := some false, flashAddr := 0x1000, flashCmd := 0, oneshot := 1 } }
     s.jiman.flashBusy = some false ∧ 0x1000 ≤ s.jiman.flashAddr.toNat % 131072 ∧ flashWord s.jiman.flash 0x1000 = 0x3FFF ∧ s.jiman.oneshot ≠ 0) := by
  decide +kernel

/-- `managed` with an endpoint ID, past the three SPDM requests. -/
def addressed : State := managed fun m => { m with eid := 9, spdmVersion := true, spdmCaps := true, spdmAlgs := true, crumbs := [], crumbCount := 0 }

theorem witness_TheSidebandAnswers :
    addressed.power.tailstock = true ∧ addressed.mgmt.resetting = false ∧ addressed.firmware.recovery = false ∧ addressed.mgmt.eid ≠ 0 ∧
    active.mgmt.eid = 0 ∧ addressed.mgmt.crumbCount.toNat = addressed.mgmt.crumbs.length ∧ addressed.mgmt.crumbs.length ≤ 4096 ∧
    addressed.mgmt.spdmAlgs = true ∧ active.mgmt.spdmAlgs = false := by
  decide +kernel

/-- A boot record that is confirmed. -/
def confirmed : BootRec :=
  { seq := 1, active := false, state := .confirmed, boots := 0, activeSettings := false, previous := true, previousSettings := false
    rolledBack := false, recovery := false, actSeq := 1 }

/-- `addressed` with a PLDM update in some phase. -/
def updating (f : Firmware → Firmware) : State :=
  { addressed with firmware := f { addressed.firmware with boot := vset addressed.firmware.boot 0 (some confirmed) } }

/-- An open session of the PLDM update that has its header. -/
def opened (state : SessionState) : Session :=
  { state := state, pldm := true, target := true, codeWords := 61440, header := 0, units := 0xFF }

theorem witness_FirmwareUpdateAndSettingsWrite :
    (let s := updating id
     s.power.tailstock = true ∧ s.mgmt.eid ≠ 0 ∧ s.firmware.session.state ≠ .open ∧ (bootWinner s.firmware).state ≠ .probation ∧
       s.firmware.unreadable = false ∧ bitsOf s.firmware.inUse.window.toNat 0 9 = 0) ∧
    (let s := updating fun f => { f with session := { opened .open with pldm := false } }
     s.firmware.session.state = .open ∧ s.firmware.session.pldm = false) ∧
    (let s := updating fun f => { f with pldm := .download }
     let data : List Byte := List.replicate 12 0 ++ [0, 0xF0] ++ List.replicate 498 0
     s.firmware.pldm = .download ∧ s.firmware.session.state ≠ .open ∧ data.length = 512 ∧ bytesToNat ((data.drop 12).take 4) ≠ 0) ∧
    (let s := updating fun f => { f with pldm := .download, session := opened .open }
     s.firmware.session.state = .open ∧ 8 ≤ 1927 ∧ 64 * 1927 + 64 ≤ 512 + 2 * min s.firmware.session.codeWords 61440 ∧ s.jiman.flash.wf = true ∧
       (∀ k < 32, flashWord s.jiman.flash (slotBase s.firmware.session.target + 32 * (1927 - 8) + k) = 0x3FFF) ∧
       64 * 8 < 512 + 2 * min s.firmware.session.codeWords 61440 ∧ s.firmware.session.units.getLsbD 8 = false) ∧
    (let s := updating fun f => { f with pldm := .applied, session := opened .complete }
     s.firmware.pldm = .applied ∧ s.firmware.session.state = .complete) ∧
    (0x77 < (0x78 : BitVec 7).toNat ∧ 0x08 ≤ (0x08 : BitVec 7).toNat) := by
  decide +kernel

theorem witness_RegisterWritesAndTheTimebaseLatch :
    (active.running = true ∧ active.link.up = true ∧ active.link.cfg.memEnable = true ∧ active.link.cfg.d3hot = false ∧ active.clocks.latchHost = none ∧
      ({ active.clocks with latchHost := some 1 } : Clocks).latchHost = some 1 ∧ warm.power.state = .warm ∧ active.power.state ≠ .warm) ∧
    (coreK.turner.cstat.priv = false ∧ runtimeWrites core = true ∧ core.finish.bias.wf = true ∧ core.lattice.flight = [] ∧ core.spindle.enable = false ∧ core.spindle.running = []) ∧
    ((0x1FF : W64).toNat % 1024 < 0x200 ∧ 0x200 ≤ (0x200 : W64).toNat % 1024 ∧ (0x3FE : W64).toNat % 1024 ≠ 0x3FF) ∧
    (0x00010FFF : W64).toNat % 4096 + (0x00010FFF : W64).toNat / 65536 % 8192 ≤ 4096 := by
  decide +kernel

end Sys2Proof.Tests
end

