-- ==== Sys2Proof/Tests/WitnessPower.lean ====
section
/-! SUPPORT. States that meet the hypotheses of the statements about the vault, power, clocks, hold-up assurance and row repair. Each
theorem names its statement. -/

namespace Sys2Proof.Tests
open Sys2Proof Sys2Proof.Machine

set_option Elab.async false

/-- The records of an area armed for `array1`, with others behind. -/
def records (bs : List VaultBody) : List VaultRec := (VaultBody.arm 1 1 3 1 0 :: bs).map (mkRecord 5)

/-- HOLDUP with compute shed and an area armed. -/
def holdup : State :=
  { withArray array1 with
    power := { active.power with state := .holdup, compute := false, pwrLoss := true, input := false, inputSwitch := false }
    link := { active.link with up := false }
    cache := { active.cache with area1 := records [], armed := some true } }

/-- A module with an image of given records to replay. -/
def replaying (bs : List VaultBody) : State :=
  { withArray array1 with cache := { active.cache with area0 := records bs, image := .replaying } }

theorem witness_TheVaultIsDumpedSealedAndReplayed :
    (holdup.power.state = .holdup ∧ holdup.cache.armed = some true ∧ holdup.clocks.pllLocked = true ∧ holdup.power.pwrLoss = true ∧
      holdup.power.compute = false ∧ holdup.power.holdup = true ∧ areaClass (holdup.cache.area true) = .unsealed ∧ holdup.cache.dumping = false) ∧
    (let s : State := { holdup with cache := { holdup.cache with area1 := records [.journal 0 0 [1] []], dumping := true } }
     s.cache.area true ≠ [] ∧ validRecords (s.cache.area true) = s.cache.area true ∧ s.power.input = false ∧ active.power.input = true) ∧
    (let s := replaying [.extent 0 1 7 0 1 [9]]
     let rs := validRecords (s.cache.area s.cache.imageArea)
     s.running = true ∧ s.cache.restored = false ∧ array1.isDown = false ∧ allReachable s array1 = true ∧
       (rs.filterMap fun r => match r.body with | .journal st sn p q => some (st, sn, p, q) | _ => none) = [] ∧
       (rs.filterMap fun r => match r.body with | .extent ab sq sl h ep d => some (ab, sq, sl, h, ep, d) | _ => none) ≠ []) ∧
    (let s := replaying [.journal 0 0 [1] []]
     let rs := validRecords (s.cache.area s.cache.imageArea)
     (rs.filterMap fun r => match r.body with | .journal st sn p q => some (st, sn, p, q) | _ => none) = [(0, 0, [1], [])] ∧
       array1.memberAt 0 array1.k = 2 ∧ array1.present 2 = true ∧ vget array1.ports 2 none = some 2 ∧ (s.port 2).drive = some (drive 2)) := by
  decide +kernel

/-- `assured` with a pack. -/
def packed : State := { assured with gauge := { assured.gauge with fetClosed := true } }

theorem witness_LosingAndRegainingPower :
    (packed.power.compute = true ∧ packed.gauge.present = true ∧ packed.gauge.fetClosed = true ∧ packed.power.starting = false ∧
      packed.keep.writes = [] ∧ (∀ j < 8, (packed.port j).drive.or (packed.port j).lost = none)) ∧
    (let s : State := { packed with power := { packed.power with starting := true } }
     s.cache.armed = none ∧ s.power.compute = true) ∧
    (active.gauge.present = false ∧ active.power.compute = true) ∧ holdup.power.compute = false ∧ holdup.power.state = .holdup ∧
    (let s : State := { holdup with gauge := packed.gauge }
     s.gauge.present = true ∧ s.gauge.fetClosed = true ∧ s.power.tailstock = true) ∧
    (let s : State := { holdup with gauge := packed.gauge, power := { holdup.power with state := .off, retention := true, holdup := false } }
     s.power.compute = false ∧ s.power.state = .off ∧ s.power.retention = true) ∧
    (let s : State := { active with power := { active.power with epoLatch := true } }
     s.power.epoLatch = true) := by
  decide +kernel

/-- A start in which nothing fails. -/
def healthy (notice : Bool) : StartUp :=
  { slot := 0, tray := 0, late := 0, stackFails := false, badRows := [], retainedOk := true, eepromOk := true, notice := notice
    train := some { rate := 6, flit := true, width := 16, noLock := 0, cxl := false, commonClock := true, reversal := true } }

/-- A row of stack 0 that waits for its repair. -/
def row0 : HbmRow := { stack := 0, pc := 31, bank := 0, row := 0 }

theorem witness_StartingClocksAndAssurance :
    (healthy true).stackFails = false ∧ (healthy false).badRows = [] ∧
    (let s : State := { active with power := { active.power with state := .off, tailstock := false, compute := false, holdup := false } }
     s.power.state = .off ∧ s.power.tailstock = false ∧ s.power.epoLatch = false ∧ s.power.starting = false) ∧
    (let s : State := { active with power := { active.power with state := .off, compute := false, holdup := false, retention := true } }
     s.power.state = .off ∧ s.power.tailstock = true ∧ s.power.compute = false ∧ s.power.retention = true) ∧
    (let s : State := { active with clocks := { active.clocks with pllLocked := false } }
     s.clocks.pllLocked = false ∧ s.power.holdup = true ∧ s.power.input = true ∧ s.link.perstDue = false ∧ holdup.power.input = false) ∧
    (active.clocks.pllLocked = true ∧ active.running = true ∧ ({ active.mgmt with driven := 3 } : Mgmt).driven ≠ active.clocks.level) ∧
    assured.mgmt.holdAssure = true ∧ active.mgmt.holdAssure = false ∧
    (let s : State := { assured with mgmt := { assured.mgmt with holdAssure := false, assure := false, riseDue := true, resetting := false } }
     s.power.tailstock = true ∧ s.mgmt.riseDue = true ∧ s.mgmt.resetting = false ∧ s.gauge.present = true ∧ s.gauge.validLatch = true ∧
       s.mgmt.selftestOk = true ∧ s.mgmt.mismatch = false ∧ s.mgmt.assureLock = false) ∧
    (let s := withArray array1
     262144 ≤ s.limit ∧ s.gauge.warnArmed = true ∧ s.gauge.critArmed = true ∧ s.running = true ∧ active.limit < 16384) ∧
    (let s : State := { active with faults := { active.faults with retireQueue := [row0] } }
     s.running = true ∧ s.faults.retireQueue.find? (fun r => r.stack = 0) = some row0 ∧ s.faults.rows = [] ∧ pcExhausted s.faults 0 31 = false) := by
  have h : ∀ f : FaultUnit, repairsUsed f 0 31 = 0 → pcExhausted f 0 31 = false := by
    intro f h
    rw [pcExhausted, h]
    simp
  and_intros
  all_goals first
    | exact h _ (by decide +kernel)
    | decide +kernel

end Sys2Proof.Tests
end

