-- ==== Sys2Proof/Tests/WitnessTiles.lean ====
section
/-! SUPPORT. States that meet the hypotheses of the statements about the Lattice, the finishing pipeline and the Spindle. Each theorem
names its statement. -/

namespace Sys2Proof.Tests
open Sys2Proof Sys2Proof.Machine

set_option Elab.async false

/-- A tile instruction of the runtime whose slot is s1 of `core`. -/
def tileOf (word : Nat) (ra rb rc : W64) : TileInstr :=
  { word := BitVec.ofNat 32 word, ra := ra, rb := rb, rc := rc, owner := 0x3FF, seg := core.turner.slot false 1, priv := true, progress := 0
    storesBefore := 0 }

theorem witness_TileInstructionsEnterTheQueue :
    Commits core core [1, 2, 3] none ∧ core.lattice.queue.length < 16 ∧
    (let word := 0x30 * 2 ^ 26 + 7 * 2 ^ 23 + 1 * 2 ^ 20 + 0xA * 2 ^ 16 + 1 * 2 ^ 11 + 2 * 2 ^ 6 + 3 * 2
     tileIllegal (BitVec.ofNat 32 word) = false ∧
       tileExc core { tileOf word 0 1024 (1 * 1024) with owner := core.turner.tileOwner, seg := core.turner.slot (!core.turner.cstat.priv) 1 } = none) ∧
    (∃ s : State, s = { core with lattice := { core.lattice with queue := List.replicate 16 (tileOf 0 0 0 0) } } ∧ Commits s s [1, 2, 3] none ∧
      16 ≤ s.lattice.queue.length) ∧
    (Commits coreK coreK [1] none ∧ coreK.turner.cstat.priv = false ∧
      ∃ s : State, s = { coreK with turner := { coreK.turner with tileOwner := 5 } } ∧ Commits s s [1] none ∧
        s.turner.current.getD 0x3FF ≠ s.turner.tileOwner.toNat) ∧
    Issues core core ∧ 0xB ≤ (0xB : BitVec 4).toNat ∧
    (core.turner.cstat.priv = true ∧ core.lattice.queue = [] ∧ core.lattice.restart = [] ∧ core.lattice.flight.all (·.complete) = true ∧
      core.lattice.fault = none ∧ core.lattice.held = [] ∧ core.spindle.running = [] ∧ core.spindle.enable = false) :=
  ⟨commits_core _ _, by decide, by decide +kernel, ⟨_, rfl, commits_plain rfl rfl rfl rfl rfl rfl, by decide⟩,
    ⟨commits_coreK _ _, rfl, ⟨_, rfl, commits_plain rfl rfl rfl rfl rfl rfl, by decide⟩⟩, (commits_core [] none).issues, by decide, by decide⟩

/-- `core` with one instruction queued. -/
def queued (i : TileInstr) : State := { core with lattice := { core.lattice with queue := [i] } }

/-- What TILE_ISSUE asks of a state with the instruction i alone in its queue. -/
def issues (s : State) (i : TileInstr) : Bool :=
  cclkRuns s && s.lattice.fault.isNone && s.lattice.restart.isEmpty && decide (s.lattice.queue = [i]) &&
    decide (s.lattice.delayUntil ≤ s.clocks.cclk) && s.lattice.flight.isEmpty && s.spindle.running.isEmpty

theorem witness_TilesIssueFromTheQueue :
    (let i := tileOf (0x37 * 2 ^ 26 + 2 * 2 ^ 22 + 5) 0 0 0
     i.kind = .delay ∧ issues (queued i) i = true ∧ storesPending (queued i) i = false) ∧
    (let i := tileOf (0x37 * 2 ^ 26 + 2 ^ 22 + 2 ^ 21) 0 0 0
     i.kind = .fold ∧ issues (queued i) i = true ∧ storesPending (queued i) i = false) ∧
    (let i := { tileOf (0x37 * 2 ^ 26 + 2 * 2 ^ 22 + 5) 0 0 0 with storesBefore := 1 }
     let s : State := { queued i with turner := { core.turner with
       accesses := [.store 0x800000000000 [0] false none false 1 true false] } }
     issues s i = true ∧ storesPending s i = true) ∧
    (let i := tileOf (0x37 * 2 ^ 26 + 3 * 2 ^ 20 + 2 * 2 ^ 11) 0 (1023 + 1 * 1024) 0
     i.kind = .zero ∧ issues (queued i) i = true ∧ storesPending (queued i) i = false ∧ portFree (queued i) i = true ∧ i.progress = 0 ∧
       core.lattice.tiles.wf = true) := by
  decide +kernel

/-- A TLOAD of two rows of 1 KiB from HBM. -/
theorem witness_TilesIssueFromTheQueue_load :
    let i := tileOf (0x30 * 2 ^ 26 + 0 * 2 ^ 23 + 1 * 2 ^ 20 + 3 * 2 ^ 16) 0 1024 (1022 + 2 * 1024)
    (i.kind = .load ∧ issues (queued i) i = true ∧ storesPending (queued i) i = false ∧ i.rowBytes = 1024 ∧ i.count = 2 ∧ i.first = 1022) ∧
    (∀ r < i.count, (queued i).inRegion (i.rowAddr r) 1024 .kernels = true) ∧
    ∀ r < i.count, ∀ x < 1024, LineFree (queued i) ((i.rowAddr r + x) / 64) ∧ (queued i).poisoned (i.rowAddr r + x) = false :=
  ⟨by decide +kernel, by decide +kernel, fun _ _ _ _ => ⟨line_free rfl rfl _, rfl⟩⟩

/-- A TMMA in flight. -/
def flying (stop : Option TileStop) (mem : List (List (Nat × List Byte))) : InFlight :=
  { port := .a 0, instr := tileOf (0x32 * 2 ^ 26) 0 0 0, issued := 0, fold := false, fmts := Vector.replicate 12 0, far := false, view := []
    rows := [], tags := [], scales := [], tables := [], out := [], done := 0, mem := mem, taps := [], stop := stop, complete := false, free := 0 }

/-- `s` with it in flight. -/
def inFlight (s : State) (f : InFlight) : State := { s with lattice := { s.lattice with flight := [f] } }

/-- Where it stops. -/
def stop4 : TileStop := { progress := 3, subcode := 5, address := 0 }

theorem witness_TileInstructionsEndOrFault :
    (let f := flying none [[(hbm, [1, 2])], [(hbm + 64, [3])]]
     let s := inFlight core f
     cclkRuns s = true ∧ s.lattice.flight = [f] ∧ f.complete = false ∧ f.stop = none ∧ s.dev.wf = true ∧ s.scale.counters = [] ∧ s.faults.poison = [] ∧
       (∀ p ∈ f.mem.flatten, p.2 ≠ [] ∧ s.inRegion p.1 p.2.length .kernels = true) ∧
       f.mem.flatten.Pairwise (fun p q => p.1 + p.2.length ≤ q.1 ∨ q.1 + q.2.length ≤ p.1)) ∧
    (let f := flying (some stop4) []
     f.instr.kind = .mma ∧ (inFlight active f).lattice.flight[0]? = some f ∧ active.turner.mode ≠ .running ∧ core.turner.mode = .running ∧
       core.turner.accesses = [] ∧ core.turner.cstat.det = false ∧ core.turner.cstat.entry = false ∧ core.turner.cstat.rescue = false) ∧
    (let record : TileFault := { instr := tileOf (0x32 * 2 ^ 26) 0 0 0, subcode := 5, port := .a 0, address := 0, progress := 3 }
     let s : State := { core with lattice := { core.lattice with fault := some record } }
     cclkRuns s = true ∧ s.turner.mode = .running ∧ s.turner.cstat.priv = true ∧ s.lattice.fault = some record ∧ s.lattice.flight = []) := by
  decide +kernel

/-- Its lines are free. -/
theorem witness_TileInstructionsEndOrFault_lines (f : InFlight) (line : Nat) : LineFree (inFlight core f) line := line_free rfl rfl _

/-- A Spindle with its window and its ring of 16 entries at the start of the operand store, enabled. -/
def spun : State :=
  { core with
    clocks := { core.clocks with cclk := 8 }
    spindle := { core.spindle with
      log2 := 4, base := 0x800000000000, head := 15, phase := false, window := mkSegment 0x800000000000 0x10000 1 3, slotFirst := 0
      slotCount := 4095, enable := true } }

theorem witness_SpindleControlWrites :
    (cclkRuns core && decide (core.turner.mode = .running) && core.turner.cstat.priv) = true ∧ ringInWindow core = false ∧
    ringInWindow spun = true ∧ (cclkRuns coreK && decide (coreK.turner.mode = .running) && coreK.turner.cstat.priv) = false := by
  decide +kernel

/-- A STEP of one stream, 4094, whose addresses lie in the window: the offsets and values of its bytes other than 0. -/
def step1 : List (Nat × Nat) := [(0, 1), (4, 0xFE), (5, 0xF), (6, 1), (9, 4), (17, 8), (25, 0xC), (33, 0x10), (52, 3), (53, 3)]

/-- `spun` with its entry at index 15 of the ring. -/
def spunAt15 (entry : List (Nat × Nat)) : State :=
  { spun with dev := entry.map fun x => (0x800000000000 + 64 * 15 + x.1, BitVec.ofNat 8 x.2) }

/-- What the issue of the entry at HEAD asks of `s`. -/
def entryIssues (s : State) (scan : Bool) : Bool :=
  let e := ringEntry s s.spindle.head.toNat
  let at_ := s.spindle.base.toNat + 64 * s.spindle.head.toNat
  cclkRuns s && eligible s && (decide (fld e 0 1 = 2) == scan) && mayIssue s e scan && !s.poisoned at_ && s.dev.wf &&
    decide (at_ % 64 = 0) && s.inRegion at_ 64 .operand

/-- A SCAN whose addresses lie in the window. -/
def scan1 : List (Nat × Nat) := [(0, 2), (6, 1), (8, 16), (10, 100), (17, 4), (25, 8), (33, 0xC), (41, 0x10)]

theorem entry_step : ringEntry (spunAt15 step1) 15 = 0x30300000000000000000000000000000000000010000000000000000c000000000000000800000000000000040000010ffe00000001#512 := by decide +kernel
theorem entry_scan : ringEntry (spunAt15 scan1) 15 = 0x10000000000000000c000000000000000800000000000000040000000000006400100001000000000002#512 := by decide +kernel

theorem witness_SpindleCommandsIssueAndEnd_issue :
    (let s := spunAt15 step1
     let e := ringEntry s 15
     entryIssues s false = true ∧ stepMalformed e = false ∧ outOfBounds s.spindle e = false) ∧
    (let s := spunAt15 scan1
     entryIssues s true = true ∧ scanMalformed (ringEntry s 15) = false) ∧
    stepMalformed (ringEntry (spunAt15 [(0, 1)]) 15) = true := by
  have h15 (l : List (Nat × Nat)) : (spunAt15 l).spindle.head.toNat = 15 := rfl
  have ho (l : List (Nat × Nat)) : (spunAt15 l).opList = [] := opList_idle rfl
  simp only [entryIssues, h15, entry_step, entry_scan, mayIssue, mayIssueBut, copyMoves, ho, List.any_nil]
  decide +kernel

theorem witness_SpindleCommandsIssueAndEnd_line (entry : List (Nat × Nat)) (line : Nat) : LineFree (spunAt15 entry) line :=
  line_free rfl rfl _

/-- A Spindle command in progress, whose one stream has read what it reads. -/
def spCommand (entry : List (Nat × Nat)) : SpCommand :=
  { index := 3, entry := bytesAt entry, issued := 0, tables := Vector.replicate 8 none, view := [], fmts := Vector.replicate 12 0
    inputs := [{ x := List.replicate 4096 0, h := List.replicate 1024 0, reset := false }], slots := [List.replicate 4096 0], done := 0
    loads := [], laterLoads := [], free := 0 }

/-- `spun` with it in progress. -/
def spinning (c : SpCommand) : State := { spun with spindle := { spun.spindle with running := [c] } }

theorem witness_SpindleCommandsIssueAndEnd_end :
    (let c := spCommand step1
     let s := spinning c
     cclkRuns s = true ∧ s.dev.wf = true ∧ fld c.entry 0 1 = 1 ∧ fld c.entry 6 2 = 1 ∧ fld c.entry 4 2 + fld c.entry 6 2 ≤ 4096 ∧
       c.inputs.length = 1 ∧ c.slots.length = 1 ∧ s.link.homeQueue = [] ∧ (readsClean s (spindleAgent []) c 0).1 = true ∧
       (let out := windowAddr s (fld c.entry 24 8)
        0x800000000000 ≤ out ∧ out + 1024 ≤ 0x80000A000000 ∧ out % 64 = 0 ∧ s.spindle.base.toNat + 64 * c.index + 2 < out)) ∧
    (let c := spCommand scan1
     let s := spinning c
     fld c.entry 0 1 = 2 ∧ (readsClean s (spindleAgent []) c 0).1 = true ∧ s.dev.wf = true ∧ s.link.homeQueue = []) := by
  decide +kernel

end Sys2Proof.Tests
end

section
/-! PROOF. Every command keeps the queue behind it, takes no free value twice, and keeps hold-up assurance sound (O1, O5,
O6, O8). Almost every operation is quiet: it touches neither the queue nor what hold-up assurance reads, and `Quiet` has one
rule for each of them, in the order of the model's files. The few that move hold-up assurance have a rule of `Moves`. -/

set_option Elab.async false

namespace Sys2Proof.Machine
open Sys2Proof

/-! ### What the queue of commands and hold-up assurance read -/

/-- What `AssuranceSound` reads of a state. -/
def State.assurance (s : State) : (Bool × Bool × Bool × Bool × Bool) × (Bool × Bool) × Bool × Option W64 :=
  ((s.mgmt.holdAssure, s.mgmt.assure, s.mgmt.assureLock, s.mgmt.mismatch, s.mgmt.selftestOk),
    (s.gauge.present, s.gauge.validLatch), s.power.tailstock, s.cache.assureFell)

/-- The state t has the waiting commands of s, and has taken no fewer free values. -/
structure Behind (s t : State) : Prop where
  pending : t.pending = s.pending
  free : s.freeCtr ≤ t.freeCtr

/-- As `Behind`, and hold-up assurance reads the same of t as of s. -/
structure Quiet (s t : State) : Prop extends Behind s t where
  assurance : t.assurance = s.assurance

/-! ### The state that an outcome carries -/

@[simp] theorem Access.state_ok {α : Type} (v : α) (s : State) : (Access.ok v s).state = s := rfl
@[simp] theorem Access.state_wait {α : Type} (s : State) : (Access.wait s : Access α).state = s := rfl
@[simp] theorem Access.state_fail {α : Type} (a b : Byte) (s : State) : (Access.fail a b s : Access α).state = s := rfl

def LoadOutcome.state : LoadOutcome → State
  | .data _ s => s
  | .refused s => s
  | .wait s => s

@[simp] theorem LoadOutcome.state_data (d : LoadData) (s : State) : (LoadOutcome.data d s).state = s := rfl

def StoreOutcome.state : StoreOutcome → State
  | .done s => s
  | .failed s => s
  | .wait s => s

def FetchOutcome.state : FetchOutcome → State
  | .ok s => s
  | .stall s => s
  | .exc s _ => s

def TRes.state : TRes → State
  | .next s _ => s
  | .stall s => s
  | .exc s _ _ => s

def JRes.state : JRes → State
  | .done s => s
  | .jump s _ => s
  | .branch s _ => s
  | .stay s => s
  | .guard _ _ s => s
  | .late _ _ s => s
  | .idle s => s
  | .request s => s

/-! ### What the blocks' own operations leave -/

section
variable (g : Gauge) (r : PackRecord) (c : Cache)

@[simp] theorem writeRecord_present (ok) : (writeRecord g r ok).present = g.present := rfl
@[simp] theorem writeRecord_validLatch (ok) : (writeRecord g r ok).validLatch = g.validLatch := rfl

@[simp] theorem pauseCharge_present : (pauseCharge g).present = g.present := by
  simp only [pauseCharge, apply_ite Gauge.present, ite_self]

@[simp] theorem pauseCharge_validLatch : (pauseCharge g).validLatch = g.validLatch := by
  simp only [pauseCharge, apply_ite Gauge.validLatch, ite_self]

@[simp] theorem abandonTest_present (n) : (abandonTest g n).present = g.present := by
  simp only [abandonTest, apply_ite Gauge.present, ite_self]

@[simp] theorem abandonTest_validLatch (n) : (abandonTest g n).validLatch = g.validLatch := by
  simp only [abandonTest, apply_ite Gauge.validLatch, ite_self]

@[simp] theorem takeAnchor_present (n ok) : (takeAnchor g n ok).present = g.present := by
  simp only [takeAnchor]
  split
  · rfl
  · simp only [apply_ite Gauge.present, writeRecord_present, ite_self]

@[simp] theorem takeAnchor_validLatch (n ok) : (takeAnchor g n ok).validLatch = g.validLatch := by
  simp only [takeAnchor]
  split
  · rfl
  · simp only [apply_ite Gauge.validLatch, writeRecord_validLatch, ite_self]

@[simp] theorem setArea_assureFell (a rs) : (setArea c a rs).assureFell = c.assureFell := by
  simp only [setArea, apply_ite Cache.assureFell, ite_self]

@[simp] theorem appendRecord_assureFell (a b) : (appendRecord c a b).assureFell = c.assureFell := setArea_assureFell ..

@[simp] theorem foldl_appendRecord_assureFell (a) (bs : List VaultBody) :
    (bs.foldl (fun c b => appendRecord c a b) c).assureFell = c.assureFell := by
  induction bs generalizing c with
  | nil => rfl
  | cons b bs ih => exact (ih _).trans (appendRecord_assureFell ..)

theorem insertionSample_latch (x : Sample) :
    ((insertionSample g x).1.present, (insertionSample g x).1.validLatch) = (g.present, g.validLatch) := by
  unfold insertionSample
  split
  · simp only [apply_ite Prod.fst, apply_ite Gauge.present, apply_ite Gauge.validLatch, ite_self]
  · rfl

theorem countCharge_latch (x : Sample) (ok : Bool) :
    ((countCharge g x ok).present, (countCharge g x ok).validLatch) = (g.present, g.validLatch) := by
  unfold countCharge
  split
  · rfl
  · split
    · rfl
    · generalize (if g.fast then x.current else 64 * x.current : Int) = dq
      dsimp only
      split
      · split <;> rfl
      · rfl

theorem restTimers_latch (x : Sample) :
    ((restTimers g x).present, (restTimers g x).validLatch) = (g.present, g.validLatch) := by
  dsimp only [restTimers]
  split <;> rfl

theorem nextRate_latch (x : Sample) (l : Bool) :
    ((nextRate g x l).present, (nextRate g x l).validLatch) = (g.present, g.validLatch) := by
  unfold nextRate
  split
  · rfl
  · split <;> rfl

theorem testGuard_latch (x : Sample) (l : Bool) (n : Nat) :
    ((testGuard g x l n).present, (testGuard g x l n).validLatch) = (g.present, g.validLatch) := by
  unfold testGuard
  split
  · rfl
  · rfl
  · split
    · simp
    · rfl

theorem chargePhase_latch (x : Sample) (l : Bool) :
    ((chargePhase g x l).present, (chargePhase g x l).validLatch) = (g.present, g.validLatch) := by
  unfold chargePhase
  split
  · simp
  · split <;> rfl

/-- A sample leaves whether a pack is present and whether its estimate counts as valid. -/
theorem sampleStep_latch (x : Sample) (l ok : Bool) (n : Nat) :
    ((sampleStep g x l ok n).1.present, (sampleStep g x l ok n).1.validLatch) = (g.present, g.validLatch) := by
  have h2 := (chargePhase_latch _ x l).trans <| (testGuard_latch _ x l n).trans <| (nextRate_latch _ x l).trans <|
    (insertionSample_latch { restTimers (countCharge g x ok) x with last := some x } x).trans <|
    (restTimers_latch _ x).trans (countCharge_latch g x ok)
  dsimp only [sampleStep]
  split <;> exact h2

theorem moveRep_latch (n : Nat) : ((moveRep g n).present, (moveRep g n).validLatch) = (g.present, g.validLatch) := by
  unfold moveRep
  split <;> rfl

theorem writeResidue_latch (n : Nat) (ok : Bool) :
    ((writeResidue g n ok).present, (writeResidue g n ok).validLatch) = (g.present, g.validLatch) := by
  unfold writeResidue
  split
  · split <;> rfl
  · rfl

@[simp] theorem abandonCopies_assureFell : (abandonCopies c).assureFell = c.assureFell := rfl
@[simp] theorem advanceLog_assureFell : (advanceLog c).assureFell = c.assureFell := rfl

end

/-- What a command's effect leads to has the property P. -/
def Leads (P : State → Prop) : Host.Outcome State Fault Refusal → Prop
  | .next t => P t
  | _ => True

theorem Leads.mono {P Q : State → Prop} (hPQ : ∀ t, P t → Q t) {o : Host.Outcome State Fault Refusal} (h : Leads P o) :
    Leads Q o := by
  cases o with
  | next t => exact hPQ t h
  | fault => trivial
  | refused => trivial

theorem Behind.trans {s x t : State} (h : Behind s x) (h' : Behind x t) : Behind s t :=
  ⟨h'.pending.trans h.pending, h.free.trans h'.free⟩

namespace Quiet
variable {s x t : State}

theorem refl (s : State) : Quiet s s := ⟨⟨rfl, le_rfl⟩, rfl⟩

theorem trans (h : Quiet s x) (h' : Quiet x t) : Quiet s t :=
  ⟨h.toBehind.trans h'.toBehind, h'.assurance.trans h.assurance⟩

/-- An update of a state that leaves what `Quiet` speaks of. -/
theorem update (h : Quiet s x) (hp : t.pending = x.pending := by rfl) (hf : t.freeCtr = x.freeCtr := by rfl)
    (ha : t.assurance = x.assurance := by rfl) : Quiet s t :=
  h.trans ⟨⟨hp, hf.ge⟩, ha⟩

theorem via {α : Type} {r r' : Access α} (h : Quiet s r.state) (e : r = r') : Quiet s r'.state := e ▸ h

theorem ite {c : Prop} [Decidable c] {a b : State} (ha : Quiet s a) (hb : Quiet s b) : Quiet s (if c then a else b) := by
  split
  · exact ha
  · exact hb

/-- A further operation made on a condition. -/
theorem onlyIf {c : Prop} [Decidable c] (h : Quiet s x) (q : Quiet s x → Quiet s t) : Quiet s (if c then t else x) :=
  .ite (q h) h

theorem snd_ite {α : Type} {c : Prop} [Decidable c] {a b : α × State} (ha : Quiet s a.2) (hb : Quiet s b.2) :
    Quiet s (if c then a else b).2 := by
  split
  · exact ha
  · exact hb

theorem fst_ite {α : Type} {c : Prop} [Decidable c] {a b : State × α} (ha : Quiet s a.1) (hb : Quiet s b.1) :
    Quiet s (if c then a else b).1 := by
  split
  · exact ha
  · exact hb

theorem state_ite {c : Prop} [Decidable c] {a b : JRes} (ha : Quiet s a.state) (hb : Quiet s b.state) :
    Quiet s (if c then a else b).state := by
  split
  · exact ha
  · exact hb

theorem foldl {α : Type} {f : State → α → State} (hf : ∀ y a, Quiet s y → Quiet s (f y a)) (l : List α) (h : Quiet s x) :
    Quiet s (l.foldl f x) := by
  induction l generalizing x with
  | nil => exact h
  | cons a l ih => exact ih (hf x a h)

theorem foldl_snd {α β : Type} {f : β × State → α → β × State} (hf : ∀ p a, Quiet s p.2 → Quiet s (f p a).2) (l : List α)
    {p : β × State} (h : Quiet s p.2) : Quiet s (l.foldl f p).2 := by
  induction l generalizing p with
  | nil => exact h
  | cons a l ih => exact ih (hf p a h)

section blocks
variable (h : Quiet s x)
include h
theorem setClocks {v} : Quiet s (x.setClocks v) := h.update
theorem setLink {v} : Quiet s (x.setLink v) := h.update
theorem setQueue {v} : Quiet s (x.setQueue v) := h.update
theorem setTurner {v} : Quiet s (x.setTurner v) := h.update
theorem setLattice {v} : Quiet s (x.setLattice v) := h.update
theorem setFinish {v} : Quiet s (x.setFinish v) := h.update
theorem setSpindle {v} : Quiet s (x.setSpindle v) := h.update
theorem setScale {v} : Quiet s (x.setScale v) := h.update
theorem setKeep {v} : Quiet s (x.setKeep v) := h.update
theorem setJiman {v} : Quiet s (x.setJiman v) := h.update
theorem setFirmware {v} : Quiet s (x.setFirmware v) := h.update
theorem setFaults {v} : Quiet s (x.setFaults v) := h.update
theorem setDev {v} : Quiet s (x.setDev v) := h.update
theorem setHost {v} : Quiet s (x.setHost v) := h.update
theorem tookFree : Quiet s x.tookFree := h.trans ⟨⟨rfl, Nat.le_succ _⟩, rfl⟩
theorem setPower {v : Power} (hv : v.tailstock = x.power.tailstock := by simp) : Quiet s (x.setPower v) :=
  h.update (ha := by simp [State.assurance, hv])
theorem setCache {v : Cache} (hv : v.assureFell = x.cache.assureFell := by simp) : Quiet s (x.setCache v) :=
  h.update (ha := by simp [State.assurance, hv])
theorem setGauge {v : Gauge} (hv : (v.present, v.validLatch) = (x.gauge.present, x.gauge.validLatch) := by simp) :
    Quiet s (x.setGauge v) := h.update (ha := by simpa [State.assurance] using hv)
theorem setMgmt {v : Mgmt}
    (hv : (v.holdAssure, v.assure, v.assureLock, v.mismatch, v.selftestOk) =
      (x.mgmt.holdAssure, x.mgmt.assure, x.mgmt.assureLock, x.mgmt.mismatch, x.mgmt.selftestOk) := by simp) :
    Quiet s (x.setMgmt v) := h.update (ha := by simpa [State.assurance] using hv)
theorem setSr {k r} : Quiet s (x.setSr k r) := h.setQueue
theorem setCr {k r} : Quiet s (x.setCr k r) := h.setQueue
theorem setOp {k r} : Quiet s (x.setOp k r) := h.setQueue
end blocks

end Quiet

namespace Quiet
variable {s x t : State}

/-! ### Operations of the file FaultOps -/

theorem faultEvent {loc sev addr} (h : Quiet s x) : Quiet s (faultEvent x loc sev addr) := h.setFaults

theorem faultAction {loc sev addr} (h : Quiet s x) : Quiet s (faultAction x loc sev addr) := h.setFaults

theorem hbmError {a uncorrected} (h : Quiet s x) : Quiet s (hbmError x a uncorrected) :=
  .ite (.ite h.faultEvent h.faultAction.setFaults) h.faultEvent.setFaults

theorem markPoison {a} (h : Quiet s x) : Quiet s (markPoison x a) := h.setFaults

theorem clearPoison {a} (h : Quiet s x) : Quiet s (clearPoison x a) := h.setFaults

theorem eccEvent {e} (h : Quiet s x) : Quiet s (eccEvent x e) := by
  dsimp only [Machine.eccEvent]
  split
  · exact .ite h (.ite h.markPoison.hbmError h.hbmError)
  · exact .ite h (.ite h.markPoison.hbmError h.hbmError)
  · exact .ite h (.ite h.markPoison.faultEvent h.faultEvent)
  · exact h.faultEvent
  · exact h

/-! ### Operations of the file Home -/

theorem sendHost {m} (h : Quiet s x) : Quiet s (sendHost x m) := h.setLink

theorem hostRequestError {a} (h : Quiet s x) : Quiet s (hostRequestError x a) := h.faultEvent

theorem recallLine {line} (h : Quiet s x) : Quiet s (recallLine x line) := .ite h h.setLink.sendHost

theorem deliver {line} (h : Quiet s x) : Quiet s (deliver x line) := h.setScale

theorem homeWrite {a data} (h : Quiet s x) : Quiet s (homeWrite x a data) := .deliver (.ite h.setDev.clearPoison h.setDev)

theorem joinHome {w line} (h : Quiet s x) : Quiet s (joinHome x w line) := .ite h h.setLink

theorem awaitLine {w line r} (h : Quiet s x) (e : awaitLine x w line = r := by rfl) : Quiet s (r.getD x) := by
  subst e
  dsimp only [Machine.awaitLine]
  split
  · exact h.joinHome.recallLine
  · split
    · exact h
    · exact h.joinHome

theorem recallAll {ls} (h : Quiet s x) : Quiet s (recallAll x ls) := .foldl (fun _ _ h => .ite h.recallLine h) _ h

theorem homeRead {ecc line} (h : Quiet s x) : Quiet s (homeRead x ecc line) :=
  .ite h.hostRequestError (by split; exacts [h.eccEvent, h])

theorem homeReads {ecc ls} (h : Quiet s x) : Quiet s (homeReads x ecc ls) := .foldl (fun _ _ h => h.homeRead) _ h

theorem homeWrites {fuel ecc a d} (h : Quiet s x) : Quiet s (homeWrites fuel x ecc a d) := by
  induction fuel generalizing x a d with
  | zero => exact h
  | succ fuel ih => exact .ite h (ih (.homeWrite (.ite (by split; exacts [h.eccEvent, h]) h)))

theorem allocate {line} (h : Quiet s x) : Quiet s (allocate x line).2 := by
  dsimp only [Machine.allocate]
  exact .snd_ite h (.snd_ite h.setLink (.snd_ite h h.recallAll.setLink))

theorem serve {r} (h : Quiet s x) : Quiet s (serve x r).2 := by
  dsimp only [Machine.serve]
  split
  · exact .snd_ite h (.snd_ite (.sendHost (.homeRead (.snd_ite h.allocate h))) (.snd_ite h.allocate h))
  · exact .snd_ite h (.snd_ite (.sendHost (.homeWrite (.snd_ite h.allocate h.setLink))) (.snd_ite h.allocate h.setLink))
  · exact .snd_ite h.recallAll h.homeReads.sendHost
  · exact .snd_ite h.recallAll (.snd_ite h (.ite (.foldl (fun _ _ h => h.markPoison) _ h.homeWrites) h.homeWrites))
  · exact .snd_ite h.recallAll (.snd_ite h h.homeRead.homeWrite.sendHost)
  · exact h

theorem serveAll {rs kept} (h : Quiet s x) : Quiet s (serveAll rs kept x) := by
  induction rs generalizing x kept with
  | nil => exact h.setLink
  | cons r rs ih => exact .ite (ih h) (.ite (ih h) (ih h.serve))

theorem retryHome (h : Quiet s x) : Quiet s (retryHome x) := h.serveAll

theorem submit {r} (h : Quiet s x) : Quiet s (submit x r) := h.serveAll

theorem leaveHome {w line} (h : Quiet s x) : Quiet s (leaveHome x w line) := .ite h.setLink.retryHome h

/-! ### Operations of the file Bus -/

theorem refuse {α : Type} {ag status code a} {r : Access α} (h : Quiet s x) (e : refuse x ag status code a = r := by rfl) :
    Quiet s r.state := by
  subst e
  exact h.faultEvent

theorem askXlat {w p page} (h : Quiet s x) : Quiet s (askXlat x w p page) := .ite h.setLink (.ite h.setLink.sendHost h)

theorem translate {ag a isWrite r} (h : Quiet s x) (e : translate x ag a isWrite = r := by rfl) : Quiet s r.state := by
  subst e
  dsimp only [Machine.translate]
  split
  · exact h
  · split
    · exact h
    · split
      · exact h.setLink.refuse
      · split
        · generalize (if isWrite then _ else _ : Bool) = b
          split
          · exact h.setLink
          · exact h.refuse
        · exact h.askXlat

theorem translateRead {ag a r} (h : Quiet s x) (e : translateRead x ag a = r := by rfl) : Quiet s r.state := by
  subst e
  dsimp only [Machine.translateRead]
  split
  · next s1 e =>
    have h1 : Quiet s s1 := h.translate e
    split <;> exact h1
  · exact h.translate

theorem eccSeen {ag line} (h : Quiet s x) : Quiet s (eccSeen x ag line) := by
  dsimp only [Machine.eccSeen]
  split
  · exact h.eccEvent
  · exact h

theorem busRead {ag a len r} (h : Quiet s x) (e : busRead x ag a len = r := by rfl) : Quiet s (r.state) := by
  subst e
  dsimp only [Machine.busRead]
  split
  · exact h.refuse
  · split
    · split
      · next e =>
        split
        · exact (h.translateRead e)
        · split
          · split
            · exact (h.translateRead e).refuse
            · exact (h.translateRead e)
          · exact (h.translateRead e)
      · next e => exact (h.translateRead e)
      · next e => exact (h.translateRead e)
    · split
      · next e => exact (h.awaitLine e)
      · split
        · exact h.eccSeen.leaveHome
        · split
          · exact h.leaveHome.refuse
          · exact h.eccSeen.leaveHome

theorem busWrite {ag a data r} (h : Quiet s x) (e : busWrite x ag a data = r := by rfl) : Quiet s (r.state) := by
  subst e
  dsimp only [Machine.busWrite]
  split
  · exact h.refuse
  · split
    · split
      · next e =>
        split
        · exact (h.translate e)
        · exact ((h.translate e).setHost).sendHost
      · next e => exact (h.translate e)
      · next e => exact (h.translate e)
    · split
      · next e => exact (h.awaitLine e)
      · split
        · exact h.joinHome
        · exact .leaveHome (.homeWrite (.ite h.eccSeen h))

theorem busReadN {fuel ag a n r} (h : Quiet s x) (e : busReadN fuel x ag a n = r := by rfl) : Quiet s r.state := by
  subst e
  induction fuel generalizing x a n with
  | zero => exact h
  | succ fuel ih =>
    dsimp only [Machine.busReadN]
    split
    · exact h
    · split
      · next s1 e =>
        have h1 : Quiet s s1 := h.busRead e
        split
        · next s2 e1 => exact ((ih h1).via e1 : Quiet s s2)
        · next s2 e1 => exact (ih h1).via e1
        · next s2 e1 => exact (ih h1).via e1
      · next e => exact h.busRead e
      · next e => exact h.busRead e

theorem busReadAll {ag a n r} (h : Quiet s x) (e : busReadAll x ag a n = r := by rfl) : Quiet s (r.state) := by
  subst e
  dsimp only [Machine.busReadAll]
  exact h.busReadN

theorem busWriteN {fuel ag a data n r} (h : Quiet s x) (e : busWriteN fuel x ag a data n = r :=
  by rfl) : Quiet s r.2.state := by
  subst e
  induction fuel generalizing x a data n with
  | zero => exact h
  | succ fuel ih =>
    dsimp only [Machine.busWriteN]
    split
    · exact h
    · split
      · next e => exact ih (h.busWrite e)
      · next e => exact h.busWrite e
      · next e => exact h.busWrite e

theorem busWriteAll {ag a data r} (h : Quiet s x) (e : busWriteAll x ag a data = r := by rfl) : Quiet s (r.2.state) := by
  subst e
  dsimp only [Machine.busWriteAll]
  exact h.busWriteN

theorem flushTargets {qs ag r} (h : Quiet s x) (e : flushTargets qs x ag = r := by rfl) : Quiet s r.state := by
  subst e
  induction qs generalizing x with
  | nil => exact h
  | cons q qs ih =>
    dsimp only [Machine.flushTargets]
    split
    · next e => exact h.translate e
    · next s1 e =>
      have h1 : Quiet s s1 := h.translate e
      split
      · next s2 e1 => exact ((ih h1).via e1 : Quiet s s2)
      · exact ih h1
    · next s1 e =>
      have h1 : Quiet s s1 := h.translate e
      split
      · next s2 e1 => exact ((ih h1).via e1 : Quiet s s2)
      · exact ih h1

theorem sendFlushes {p ts} (h : Quiet s x) : Quiet s (sendFlushes x p ts) := .foldl (fun _ _ h => h.sendHost) _ h

theorem settleInvalidations (h : Quiet s x) : Quiet s (settleInvalidations x) := h.setLink

theorem sendVector {v} (h : Quiet s x) : Quiet s (sendVector x v) := .ite h.sendHost h.setLink

theorem deviceEvent {bit} (h : Quiet s x) : Quiet s (deviceEvent x bit) := .ite h (.ite h.setQueue.sendVector h.setQueue)

/-! ### Operations of the file QueueOps -/

theorem raiseKernelBits (h : Quiet s x) : Quiet s (raiseKernelBits x) := .ite h h.setTurner

theorem startOp {k o} (h : Quiet s x) : Quiet s (startOp x k o).1 := by
  dsimp only [Machine.startOp]
  exact .setOp (.ite h.setQueue h)

theorem writeStatusLine {k} (h : Quiet s x) : Quiet s (writeStatusLine x k) := by
  dsimp only [Machine.writeStatusLine]
  split
  · next e => exact (h.busWrite e).setSr
  · next e => exact (h.busWrite e).setSr
  · next e => exact (h.busWrite e).setSr

theorem writePendingLines (h : Quiet s x) : Quiet s (writePendingLines x) := .foldl (fun _ _ h => .ite h.writeStatusLine h) _ h

theorem applyReset {i} (h : Quiet s x) : Quiet s (applyReset x i) := by
  dsimp only [Machine.applyReset]
  split
  · exact h
  · exact .ite h.setSr.setQueue.writeStatusLine.setSr h.setSr.setQueue.writeStatusLine

theorem freeEntryOf {k ok} (h : Quiet s x) : Quiet s (freeEntryOf x k ok) := .setOp (by split; exacts [.ite h.applyReset h, h])

theorem decideOp {k r} (h : Quiet s x) : Quiet s (decideOp x k r) := by
  dsimp only [Machine.decideOp]
  split
  · exact h
  · exact .ite h.freeEntryOf h.setOp.setCr

theorem releaseStop {i} (h : Quiet s x) : Quiet s (releaseStop x i) := by
  dsimp only [Machine.releaseStop]
  split
  · exact h
  · exact h.setSr.setCr

theorem releaseStops (h : Quiet s x) : Quiet s (releaseStops x) := by
  dsimp only [Machine.releaseStops]
  have h1 := h.foldl (f := fun s i => if stopDue s (i + 1) then Machine.releaseStop s (i + 1) else s)
    (fun _ _ h => .ite h.releaseStop h) (List.range 31)
  exact .ite h1.releaseStop h1

theorem settle (h : Quiet s x) : Quiet s (settle x) := by
  dsimp only [Machine.settle]
  have h1 := h.settleInvalidations.releaseStops
  split
  · exact h1.raiseKernelBits
  · exact h1.decideOp.releaseStops.raiseKernelBits

theorem completeOp {k r} (h : Quiet s x) : Quiet s (completeOp x k r) := h.decideOp.settle

theorem flushOp {k o r} (h : Quiet s x) : Quiet s (flushOp x k o r) := by
  dsimp only [Machine.flushOp]
  split
  · next e => exact (h.flushTargets e).completeOp
  · next e => exact (h.flushTargets e).setOp
  · next e => exact .ite (((h.flushTargets e).sendFlushes).setOp) ((h.flushTargets e).setOp)

theorem finishOp {k r} (h : Quiet s x) : Quiet s (finishOp x k r) := by
  dsimp only [Machine.finishOp]
  split
  · exact h
  · exact .ite h.completeOp h.flushOp

theorem closeOp {k o r} (h : Quiet s x) : Quiet s (closeOp x k o r) := .ite h.completeOp h.flushOp

theorem runOp {k opcode body} (h : Quiet s x) (hb : ∀ y o, Quiet s y → Quiet s (body y o)) :
    Quiet s (runOp x k opcode body) := by
  dsimp only [Machine.runOp]
  split
  · exact h
  · exact .ite h (.ite h (.ite (by split; exacts [h.closeOp, hb _ _ h]) (.ite (hb _ _ h.startOp) h)))

theorem saveOp {k o} (h : Quiet s x) : Quiet s (saveOp x k o) := h.setOp

/-! ### Operations of the file Rings -/

theorem ringDoorbell {k} (h : Quiet s x) : Quiet s (ringDoorbell x k) := h.setSr

theorem grantRing {k} (h : Quiet s x) : Quiet s (grantRing x k) := .ite h.setSr h.setSr.setQueue

theorem consume {k g d} (h : Quiet s x) : Quiet s (consume x k g d) := by
  dsimp only [Machine.consume]
  split
  · exact h
  · exact h.setOp.setQueue.setSr

theorem dpAlert (h : Quiet s x) : Quiet s (dpAlert x) := h.setMgmt.setJiman

theorem endScans (h : Quiet s x) : Quiet s (endScans x) :=
  .foldl (fun _ _ h => (by split; exacts [h, h.setSr.writeStatusLine])) _ h

theorem deviceHalt (h : Quiet s x) : Quiet s (deviceHalt x) :=
  .dpAlert (.faultEvent (.deviceEvent (.foldl (fun _ _ h => .ite h.setSr.writeStatusLine h) _ h.endScans.setPower)))

theorem stopRing {k reason tag} (h : Quiet s x) : Quiet s (stopRing x k reason tag) :=
  .ite h.setSr.deviceHalt.settle h.setSr.setQueue.writeStatusLine.deviceEvent.settle

theorem endScan {k g full} (h : Quiet s x) : Quiet s (endScan x k g full) := .ite h.setSr.writeStatusLine h.setSr

theorem startRead {k g} (h : Quiet s x) : Quiet s (startRead x k g) := .ite h.setSr h

theorem scanSlots {fuel k} (h : Quiet s x) : Quiet s (scanSlots fuel x k) := by
  induction fuel generalizing x with
  | zero => exact h
  | succ fuel ih =>
    dsimp only [Machine.scanSlots]
    split
    · exact h
    · refine .ite h.endScan ?_
      split
      · exact .ite (.ite (by split; exacts [ih h.consume, h.stopRing]) h.setSr.startRead) h.startRead
      · exact h.startRead

theorem scanData {ds k} (h : Quiet s x) : Quiet s (scanData ds x k) := by
  induction ds generalizing x with
  | nil => dsimp only [Machine.scanData]; split; exacts [h, h.endScan]
  | cons d ds ih =>
    dsimp only [Machine.scanData]
    split
    · exact h
    · exact .ite (by split; exacts [ih h.consume, h.stopRing]) h.endScan

theorem sendRingVector {cr} (h : Quiet s x) : Quiet s (sendRingVector x cr) :=
  .sendVector (.foldl (fun _ _ h => .ite h.setCr h) _ h)

theorem entryWritten {cr c} (h : Quiet s x) : Quiet s (entryWritten x cr c) := by
  dsimp only [Machine.entryWritten]
  split
  · exact .settle (.ite h.setCr.freeEntryOf.sendRingVector h.setCr.freeEntryOf)
  · exact .settle (.ite h.setCr.sendRingVector h.setCr)

theorem ringWrite {w p a data refused} (h : Quiet s x) : Quiet s (ringWrite x w p a data refused).2 := by
  dsimp only [Machine.ringWrite]
  split
  · exact h.faultEvent
  · split
    · next e => exact (h.busWrite e)
    · next e => exact (h.busWrite e)
    · next e => exact (h.busWrite e)

theorem writeOldest {cr refused} (h : Quiet s x) : Quiet s (writeOldest x cr refused) := by
  dsimp only [Machine.writeOldest]
  split
  · exact h
  · exact .ite h <| .ite (.snd_ite h h.ringWrite) <| .ite (.entryWritten (.ringWrite (.snd_ite h h.ringWrite))) <|
        .ringWrite (.snd_ite h h.ringWrite)

theorem sendPendingVectors (h : Quiet s x) : Quiet s (sendPendingVectors x) :=
  .foldl (fun _ _ h => .ite h.setLink.sendVector h) _ h

theorem enableSet (h : Quiet s x) : Quiet s (enableSet x) := .ite h (.ite h.setQueue h.setQueue.setPower.setClocks)

theorem enableClear (h : Quiet s x) : Quiet s (enableClear x) := .ite h.endScans.setQueue.setPower h

theorem writeBackHostLines (h : Quiet s x) : Quiet s (writeBackHostLines x) := h.setHost.setLink

theorem beginReset {k o i mode} (h : Quiet s x) : Quiet s (beginReset x k o i mode) :=
  .foldl (fun _ _ h => .ite h.setSr.decideOp h) _ (.ite h.saveOp.setSr.writeStatusLine h.saveOp.setSr)

theorem resetRing {k o i mode} (h : Quiet s x) : Quiet s (resetRing x k o i mode) :=
  .ite h.settle <| .ite h.finishOp h.beginReset.settle

/-! ### Operations of the file Data -/

theorem endRun {k} {r : Run} (h : Quiet s r.out.state) : Quiet s (endRun k r) := by
  dsimp only [Machine.endRun]
  split
  · next e => exact (h.via e).saveOp.finishOp
  · next e => exact (h.via e).saveOp
  · next e => exact (h.via e).saveOp.finishOp

theorem moverWrite {ag o a data n} (h : Quiet s x) : Quiet s (moverWrite x ag o a data n).out.state := by
  dsimp only [Machine.moverWrite]
  split
  · next e => exact h.busWrite e
  · next e => exact h.busWrite e
  · next e => exact h.busWrite e

theorem copyLoop {fuel ag o} (h : Quiet s x) : Quiet s (copyLoop fuel x ag o).out.state := by
  induction fuel generalizing x o with
  | zero => exact h
  | succ fuel ih =>
    dsimp only [Machine.copyLoop]
    split
    · exact h
    · split
      · next e => exact h.busRead e
      · next e => exact h.busRead e
      · next bs s1 e =>
        have h1 : Quiet s s1 := h.busRead e
        split
        · next s2 e1 => exact ih (h1.moverWrite.via e1 : Quiet s s2)
        · exact h1.moverWrite

theorem copyRun {o ag} (h : Quiet s x) : Quiet s (copyRun x o ag).out.state := h.copyLoop

theorem fillLoop {fuel ag o} (h : Quiet s x) : Quiet s (fillLoop fuel x ag o).out.state := by
  induction fuel generalizing x o with
  | zero => exact h
  | succ fuel ih =>
    dsimp only [Machine.fillLoop]
    split
    · exact h
    · split
      · next s2 e1 => exact ih (h.moverWrite.via e1 : Quiet s s2)
      · exact h.moverWrite

theorem readRun {fuel ag a n r} (h : Quiet s x) (e : readRun fuel x ag a n = r := by rfl) : Quiet s r.2.state := by
  subst e
  induction fuel generalizing x a n with
  | zero => exact h
  | succ fuel ih =>
    dsimp only [Machine.readRun]
    split
    · exact h
    · split
      · next s1 e =>
        have h1 : Quiet s s1 := h.busRead e
        split
        · next s2 e1 => exact ((ih h1).via (congrArg Prod.snd e1) : Quiet s s2)
        · exact ih h1
      · exact h.busRead

theorem readElems {ag base fmt i n r} (h : Quiet s x) (e : readElems x ag base fmt i n = r :=
  by rfl) : Quiet s (r.2.state) := by
  subst e
  dsimp only [Machine.readElems]
  split
  · next e => exact (h.readRun e)
  · next e => exact (h.readRun e)
  · next e => exact (h.readRun e)

theorem sourceVals {ag j i n r} (h : Quiet s x) (e : sourceVals x ag j i n = r := by rfl) : Quiet s (r.2.state) := by
  subst e
  dsimp only [Machine.sourceVals]
  split
  · next e => exact (h.readElems e)
  · next e => exact (h.readElems e)
  · next e =>
    split
    · split
      · next e1 => exact ((h.readElems e).busRead e1)
      · next e1 => exact ((h.readElems e).busRead e1)
      · next e1 => exact ((h.readElems e).busRead e1)
    · exact (h.readElems e)

theorem offerTap {n tap} (h : Quiet s x) : Quiet s (offerTap x n tap) := h.setFinish

theorem busProbe {ag a n r} (h : Quiet s x) (e : busProbe x ag a n = r := by rfl) : Quiet s (r.state) := by
  subst e
  dsimp only [Machine.busProbe]
  split
  · exact h.refuse
  · split
    · split
      · next e =>
        split
        · exact (h.translate e)
        · exact (h.translate e)
      · next e => exact (h.translate e)
      · next e => exact (h.translate e)
    · split
      · next e => exact (h.awaitLine e)
      · split
        · exact h
        · exact h.joinHome

theorem probeRun {fuel ag a n r} (h : Quiet s x) (e : probeRun fuel x ag a n = r := by rfl) : Quiet s r.2.state := by
  subst e
  induction fuel generalizing x a n with
  | zero => exact h
  | succ fuel ih =>
    dsimp only [Machine.probeRun]
    split
    · exact h
    · split
      · next e => exact ih (h.busProbe e)
      · exact h.busProbe

theorem writeBlock {ag o a sa bs b} (h : Quiet s x) : Quiet s (writeBlock x ag o a sa bs b).out.state := by
  dsimp only [Machine.writeBlock]
  split
  · next e => exact h.probeRun e
  · next e => exact h.probeRun e
  · next s1 e =>
    have h1 : Quiet s s1 := h.probeRun e
    split
    · next e => exact h1.busProbe e
    · next e => exact h1.busProbe e
    · next s2 e =>
      have h2 : Quiet s s2 := h1.busProbe e
      split
      · next s3 e =>
        have h3 : Quiet s s3 := h2.busWriteAll e
        split
        · next e => exact h3.busWrite e
        · exact h2
      · exact h2

theorem writePiece {ag o j i p} (h : Quiet s x) : Quiet s (writePiece x ag o j i p).out.state := by
  dsimp only [Machine.writePiece]
  split
  · exact h.writeBlock
  · exact h.busWriteAll

theorem convertLoop {fuel ag j o} (h : Quiet s x) : Quiet s (convertLoop fuel x ag j o).out.state := by
  induction fuel generalizing x o with
  | zero => exact h
  | succ fuel ih =>
    dsimp only [Machine.convertLoop]
    split
    · exact h
    · split
      · next e => exact h.sourceVals e
      · next e => exact h.sourceVals e
      · next s1 e =>
        have h1 : Quiet s s1 := h.sourceVals e
        split
        · next s2 e1 =>
          have h2 : Quiet s s2 := h1.writePiece.via e1
          exact ih (.ite h2.offerTap h2)
        · exact h1.writePiece

theorem convertRun {o ag} (h : Quiet s x) : Quiet s (convertRun x o ag).out.state := h.convertLoop

theorem clearHist {n} (h : Quiet s x) : Quiet s (clearHist x n) := h.setFinish

/-! ### Operations of the file MgmtOps -/

theorem logCrumb {loc sev ev} (h : Quiet s x) : Quiet s (logCrumb x loc sev ev) := h.setMgmt.tookFree

theorem mgmtFaultEvent {loc sev} (h : Quiet s x) : Quiet s (mgmtFaultEvent x loc sev) := h.logCrumb

theorem writeFfr {loc sev ev} (h : Quiet s x) : Quiet s (writeFfr x loc sev ev) := by
  dsimp only [Machine.writeFfr]
  split
  · exact h
  · exact h.setMgmt.tookFree

theorem pldmEvent {n} (h : Quiet s x) : Quiet s (pldmEvent x n) := by
  dsimp only [Machine.pldmEvent]
  split
  · exact h
  · exact h.setMgmt

theorem pumpToMg (h : Quiet s x) : Quiet s (pumpToMg x) := by
  dsimp only [Machine.pumpToMg]
  split
  · exact h
  · split
    · exact h.setFaults.setMgmt.setJiman
    · split
      · exact h.setMgmt.setJiman
      · exact h.setMgmt.setJiman
      · exact h.setMgmt.setMgmt.setJiman
      · split
        · exact h.setMgmt.setMgmt.setJiman
        · exact h

theorem pumpToDp (h : Quiet s x) : Quiet s (pumpToDp x) := .ite h (by split; exacts [h, h.setMgmt])

theorem sendDp {x'} (h : Quiet s x) : Quiet s (sendDp x x') := h.setMgmt

theorem limitFell {old} (h : Quiet s x) : Quiet s (limitFell x old) :=
  h.setGauge.onlyIf (·.deviceEvent) |>.onlyIf (·.deviceEvent) |>.onlyIf (·.pldmEvent) |>.onlyIf (·.pldmEvent)

theorem publishWord {k v} (h : Quiet s x) : Quiet s (publishWord x k v) := .ite h.setMgmt.limitFell h.setMgmt

/-! ### Operations of the file Admin -/

theorem requestOp {k} (h : Quiet s x) : Quiet s (requestOp x k) := h.setMgmt.pumpToMg

theorem passOp {k} (h : Quiet s x) : Quiet s (passOp x k) := .ite h.pumpToMg h.requestOp

theorem stageRead {k o ag r} (h : Quiet s x) (e : stageRead x k o ag = r := by rfl) : Quiet s (r.2.state) := by
  subst e
  dsimp only [Machine.stageRead]
  exact h.readRun

theorem stageFault {k st c a} (h : Quiet s x) : Quiet s (stageFault x k st c a) := h.setMgmt.finishOp

/-! ### Operations of the file Gauge -/

theorem raiseLine {n} (h : Quiet s x) : Quiet s (raiseLine x n) := h.setJiman

theorem driveCharger (h : Quiet s x) : Quiet s (driveCharger x) := h.setJiman

theorem gaugeSample {p ok} (h : Quiet s x) : Quiet s (gaugeSample x p ok) :=
  .ite h (.driveCharger (.raiseLine (.setJiman (.setMgmt (h.setGauge (sampleStep_latch ..))))))

theorem restCorrection {eepromOk} (h : Quiet s x) : Quiet s (restCorrection x eepromOk) := by
  dsimp only [Machine.restCorrection]
  split
  · exact h
  · exact .ite h h.setGauge

theorem chargeStart (h : Quiet s x) : Quiet s (chargeStart x) :=
  .ite h <| .ite h.setGauge.driveCharger <| .ite h.setGauge.driveCharger h

theorem chargeEnd {eepromOk} (h : Quiet s x) : Quiet s (chargeEnd x eepromOk) := by
  dsimp only [Machine.chargeEnd]
  split
  · exact h
  · exact .ite h.setGauge.driveCharger h

theorem chargeTimeout (h : Quiet s x) : Quiet s (chargeTimeout x) := by
  dsimp only [Machine.chargeTimeout]
  split
  · exact h
  · exact .ite h h.setGauge.driveCharger.mgmtFaultEvent

theorem startTest {v0} (h : Quiet s x) : Quiet s (startTest x v0) := h.setGauge.driveCharger.setJiman

theorem impedanceTestStart {v0} (h : Quiet s x) : Quiet s (impedanceTestStart x v0) := .ite h.startTest h

theorem impedanceV10Sample {v10} (h : Quiet s x) : Quiet s (impedanceV10Sample x v10) := by
  dsimp only [Machine.impedanceV10Sample]
  split
  · exact h.setGauge
  · exact h

theorem impedanceV200Sample {v200} (h : Quiet s x) : Quiet s (impedanceV200Sample x v200) := by
  dsimp only [Machine.impedanceV200Sample]
  split
  · exact h.setGauge.setJiman
  · exact h

theorem impedanceRetry {v0} (h : Quiet s x) : Quiet s (impedanceRetry x v0) := by
  dsimp only [Machine.impedanceRetry]
  split
  · exact h
  · exact .ite h.startTest h

theorem hpEventRearm {crit} (h : Quiet s x) : Quiet s (hpEventRearm x crit) := .ite (.ite h.setGauge h) (.ite h.setGauge h)

theorem hpControlWrite {v} (h : Quiet s x) : Quiet s (hpControlWrite x v) := .ite h h.setMgmt

/-! ### Operations of the file TileOps -/

theorem noteTables (h : Quiet s x) : Quiet s (noteTables x) := h.setLattice

theorem resetLattice (h : Quiet s x) : Quiet s (resetLattice x) := h.setLattice

/-! ### Operations of the file SpindleRing -/

theorem noteRingStore {a n} (h : Quiet s x) : Quiet s (noteRingStore x a n) := .ite h.setSpindle h

/-! ### Operations of the file Lattice -/

theorem awaitLines {w ls r} (h : Quiet s x) (e : awaitLines x w ls = r := by rfl) : Quiet s (r.getD x) := by
  subst e
  induction ls with
  | nil => exact h
  | cons l ls ih =>
    dsimp only [Machine.awaitLines]
    split
    · next e => exact h.awaitLine e
    · exact ih

theorem leaveLines {w ls} (h : Quiet s x) : Quiet s (leaveLines x w ls) := .foldl (fun _ _ h => h.leaveHome) _ h

theorem readRows {ag rows} (h : Quiet s x) : Quiet s (readRows x ag rows).2.2 := by
  induction rows generalizing x with
  | nil => exact h
  | cons row rows ih =>
    obtain ⟨r, a, n⟩ := row
    dsimp only [Machine.readRows]
    split
    · next e => exact ih (h.busReadAll e)
    · next e => exact h.busReadAll e
    · next e => exact h.busReadAll e

theorem countTileEcc {tecc last} (h : Quiet s x) : Quiet s (countTileEcc x tecc last) :=
  .foldl (fun _ _ h => .ite h.faultEvent h) _ h

theorem prepare {i ecc tecc} (h : Quiet s x) : Quiet s (prepare x i ecc tecc).1 := by
  dsimp only [Machine.prepare]
  split
  · exact .ite h.tookFree.faultEvent h.tookFree
  · refine .fst_ite h.tookFree.readRows.readRows.readRows (.countTileEcc ?_)
    split
    · exact h.tookFree.readRows.readRows.readRows.readRows
    · exact h.tookFree.readRows.readRows.readRows

theorem issueTile {i ecc tecc} (h : Quiet s x) : Quiet s (issueTile x i ecc tecc) := by
  dsimp only [Machine.issueTile]
  split
  · next e => exact (h.awaitLines e)
  · exact .ite h.leaveLines.prepare.setLattice.setSpindle h.leaveLines.prepare.setLattice

theorem writeTileMem {ag rows r} (h : Quiet s x) (e : writeTileMem x ag rows = r := by rfl) : Quiet s r.2 := by
  subst e
  induction rows generalizing x with
  | nil => exact h
  | cons row rows ih =>
    obtain ⟨a, bs⟩ := row
    dsimp only [Machine.writeTileMem]
    split
    · next e => exact ih (h.busWriteAll e)
    · next e => exact h.busWriteAll e
    · next e => exact ih (h.busWriteAll e)

theorem writeRows {n f} (h : Quiet s x) : Quiet s (writeRows n x f).2 := by
  induction n generalizing x f with
  | zero => exact h
  | succ n ih =>
    dsimp only [Machine.writeRows]
    split
    · exact h
    · split
      · next e => exact ih (h.writeTileMem e).setFinish
      · next e => exact h.writeTileMem e

theorem endTile {f} (h : Quiet s x) : Quiet s (endTile x f) := h.setLattice

theorem setFlight {j f} (h : Quiet s x) : Quiet s (setFlight x j f) := h.setLattice

theorem writeDueAt {j} (h : Quiet s x) : Quiet s (writeDueAt x j) := by
  dsimp only [Machine.writeDueAt]
  split
  · exact h
  · exact .ite h h.writeRows.setLattice

theorem writeDue (h : Quiet s x) : Quiet s (writeDue x) := .foldl (fun _ _ h => h.writeDueAt) _ h

theorem raiseTile {j f p} (h : Quiet s x) : Quiet s (raiseTile x j f p) := by
  have partWritten {c : Prop} [Decidable c] {y : State} (hy : Quiet s y) : Quiet s (if c then
      Machine.writeTileMem y (tileAgent f.port []) (partMem f) else ([], y)).2 := .snd_ite hy.writeTileMem hy
  dsimp only [Machine.raiseTile]
  refine .ite (partWritten h.writeRows).setFlight ?_
  split
  · exact (partWritten h.writeRows).endTile.setFlight.setLattice
  · exact (partWritten h.writeRows).endTile.setFlight.setLattice

theorem tqControl {resume discard} (h : Quiet s x) : Quiet s (tqControl x resume discard) := by
  dsimp only [Machine.tqControl]
  split
  · exact h
  · exact .ite (.ite (.ite h.setLattice h) h.setLattice) (.ite h.setLattice h)

theorem pwlCommit {slot} (h : Quiet s x) : Quiet s (pwlCommit x slot) := .ite h.setFinish.noteTables h.setFinish

/-! ### Operations of the file Tick -/

theorem moveTime {q} (h : Quiet s x) : Quiet s (moveTime x q) := h.update

theorem tickFclk (h : Quiet s x) : Quiet s (tickFclk x) := .ite h.moveTime h

theorem passCclk {n} (h : Quiet s x) : Quiet s (passCclk n x) := by
  induction n generalizing x with
  | zero => exact h
  | succ n ih => exact ih h.moveTime

/-! ### Operations of the file Spindle -/

theorem writeStatus {index code} (h : Quiet s x) : Quiet s (writeStatus x index code) := h.homeWrite

theorem spindleFault {index code progress} (h : Quiet s x) : Quiet s (spindleFault x index code progress) :=
  h.setSpindle.writeStatus

theorem leaveHead (h : Quiet s x) : Quiet s (leaveHead x) := h.setSpindle

theorem readHead {ecc next} (h : Quiet s x) (hn : ∀ y, Quiet s y → Quiet s (next y)) : Quiet s (readHead x ecc next) := by
  dsimp only [Machine.readHead]
  split
  · next e => exact h.busRead e
  · next e => exact (h.busRead e).leaveHead.spindleFault
  · next e => exact hn _ (h.busRead e)

theorem issueCommand {scan} (h : Quiet s x) : Quiet s (issueCommand x scan) :=
  h.readHead (fun _ h => .ite h.leaveHead.faultEvent.spindleFault h.leaveHead.tookFree.setSpindle)

theorem stepStream {c b whole} (h : Quiet s x) : Quiet s (stepStream x c b whole) :=
  .ite (.foldl (fun _ _ h => h.homeWrite) _ h.setDev) <| .setFinish (.foldl (fun _ _ h => h.homeWrite) _ h.setDev)

theorem stepEffect {c p} (h : Quiet s x) : Quiet s (stepEffect x c p) := .foldl (fun _ _ h => h.stepStream) _ h

theorem writeLines {a bs} (h : Quiet s x) : Quiet s (writeLines x a bs) := .foldl (fun _ _ h => h.homeWrite) _ h

theorem scanEffect {c whole} (h : Quiet s x) : Quiet s (scanEffect x c whole) :=
  .ite (.setDev (.foldl (fun _ _ h => h.writeLines) _ (.foldl (fun _ _ h => h.setDev) _ h))) <|
    .writeLines (.foldl (fun _ _ h => h.setDev) _ h)

theorem readsClean {ag c b r} (h : Quiet s x) (e : readsClean x ag c b = r := by rfl) : Quiet s r.2 := by
  subst e
  refine Quiet.foldl_snd (fun p q h => ?_) _ h
  obtain ⟨ok, y⟩ := p
  refine .snd_ite h ?_
  split
  · next e => exact h.busReadAll e
  · next e => exact h.busReadAll e
  · next e => exact h.busReadAll e

theorem cleanStreams {ag c tecc n b} (h : Quiet s x) : Quiet s (cleanStreams ag c tecc n b x).2 := by
  induction n generalizing x b with
  | zero => exact h
  | succ n ih =>
    dsimp only [Machine.cleanStreams]
    split
    · next e => exact h.countTileEcc.readsClean e
    · next s2 e =>
      have h2 : Quiet s s2 := h.countTileEcc.readsClean e
      exact .snd_ite h2 (ih h2)

theorem dropCommand (h : Quiet s x) : Quiet s (dropCommand x) := h.setSpindle

theorem endCommand {c ecc tecc} (h : Quiet s x) : Quiet s (endCommand x c ecc tecc) :=
  .ite (.ite h.cleanStreams.stepEffect.dropCommand.writeStatus h.cleanStreams.stepEffect.dropCommand.spindleFault) <|
    .ite h.readsClean.scanEffect.dropCommand.writeStatus h.readsClean.scanEffect.dropCommand.spindleFault

theorem setCommand {j c} (h : Quiet s x) : Quiet s (setCommand x j c) := h.setSpindle

theorem streamEvent {j} (h : Quiet s x) : Quiet s (streamEvent x j) := by
  dsimp only [Machine.streamEvent]
  split
  · exact h
  · exact .ite h (.ite h.stepStream.setCommand (.ite h.setCommand (.ite h.setCommand h)))

theorem spindleDue (h : Quiet s x) : Quiet s (spindleDue x) := .foldl (fun _ _ h => .foldl (fun _ _ h => h.streamEvent) _ h) _ h

theorem settleTime (h : Quiet s x) : Quiet s (settleTime x) := .ite h h.writeDue.spindleDue

theorem passTime {n} (h : Quiet s x) : Quiet s (passTime n x) := by
  induction n generalizing x with
  | zero => exact h
  | succ n ih => exact ih h.passCclk.settleTime

theorem abandonSpindle (h : Quiet s x) : Quiet s (abandonSpindle x) := by
  refine .setSpindle (.foldl (fun y c hy => ?_) _ h)
  have hc : Quiet s (Machine.dropCommand (if fld c.entry 0 1 = 1 then
      Machine.stepEffect y c (if fld c.entry 0 1 = 1 then c.done else 0) else Machine.scanEffect y c false)) :=
    .dropCommand (.ite hy.stepEffect hy.scanEffect)
  exact .ite hc.faultEvent.writeStatus hc.faultEvent.spindleFault

theorem spEnable {on} (h : Quiet s x) : Quiet s (spEnable x on) := .ite h h.setSpindle

theorem spResume (h : Quiet s x) : Quiet s (spResume x) := h.setSpindle

theorem spReset (h : Quiet s x) : Quiet s (spReset x) := .ite h.setSpindle h

theorem copySlot {ag a bs r} (h : Quiet s x) (e : copySlot x ag a bs = r := by rfl) : Quiet s (r.state) := by
  subst e
  dsimp only [Machine.copySlot]
  split
  · next e => exact (h.awaitLines e)
  · split
    · exact h.busWriteAll
    · exact h

theorem streamLoop {park fuel ag o} (h : Quiet s x) : Quiet s (streamLoop park fuel x ag o).out.state := by
  induction fuel generalizing x o with
  | zero => exact h
  | succ fuel ih =>
    dsimp only [Machine.streamLoop]
    split
    · exact h
    · split
      · exact h
      · split
        · next e => exact h.readRun e
        · next e => exact h.readRun e
        · next e =>
          split
          · next e1 => exact (h.readRun e).copySlot e1
          · next e1 => exact (h.readRun e).copySlot e1
          · next e1 => exact ih ((h.readRun e).copySlot e1)

theorem streamRun {park ecc k o} (h : Quiet s x) : Quiet s (streamRun park ecc x k o) :=
  .ite h.faultEvent.finishOp h.streamLoop.endRun

/-! ### Operations of the file TurnerOps -/

theorem postDone (h : Quiet s x) : Quiet s (postDone x) := .ite h (.foldl (fun _ _ h => h.finishOp) _ h.setTurner)

theorem tcKernelDone {v} (h : Quiet s x) : Quiet s (tcKernelDone x v) := by
  dsimp only [Machine.tcKernelDone]
  split
  · exact h
  · exact .ite h h.setTurner.postDone.raiseKernelBits

theorem tcResume {kid} (h : Quiet s x) : Quiet s (tcResume x kid) := by
  dsimp only [Machine.tcResume]
  split
  · exact h
  · exact .ite h h.setTurner.raiseKernelBits

theorem coreReset (h : Quiet s x) : Quiet s (coreReset x) := h.abandonSpindle.setTurner.resetLattice

theorem haltCore (h : Quiet s x) : Quiet s (haltCore x) := h.setTurner.abandonSpindle.resetLattice.deviceEvent.dpAlert

theorem lockOut (h : Quiet s x) : Quiet s (lockOut x) :=
  .dpAlert (.deviceEvent (.ite h.coreReset.setTurner.setPower h.coreReset.setTurner))

theorem countHalt (h : Quiet s x) : Quiet s (countHalt x).2 := by
  dsimp only [Machine.countHalt]
  exact .snd_ite h.faultAction.lockOut h.faultEvent.setTurner

theorem failKernels (h : Quiet s x) : Quiet s (failKernels x) := .setTurner (.foldl (fun _ _ h => h.finishOp) _ h)

theorem startRuntime {bank} (h : Quiet s x) : Quiet s (startRuntime x bank) := h.setTurner.raiseKernelBits

theorem enterHandler {x' epc} (h : Quiet s x) : Quiet s (enterHandler x x' epc) :=
  .ite h.haltCore <| .ite h.tookFree.setTurner h.setTurner

theorem takeException {x' epc} (h : Quiet s x) : Quiet s (takeException x x' epc) :=
  .ite h <| .ite (.passTime (.enterHandler (.ite h.faultEvent h))) <| .enterHandler (.ite h.faultEvent h)

theorem launchKernel {kid o} (h : Quiet s x) : Quiet s (launchKernel x kid o) := h.startOp.setTurner.raiseKernelBits

/-! ### Operations of the file Runtime -/

theorem copyImage {fuel ag a base n acc r} (h : Quiet s x) (e : copyImage fuel x ag a base n acc = r := by rfl) :
    Quiet s r.2.2.state := by
  subst e
  induction fuel generalizing x a n acc with
  | zero => exact h
  | succ fuel ih =>
    dsimp only [Machine.copyImage]
    split
    · exact h
    · split
      · next e => exact h.busRead e
      · next e => exact h.busRead e
      · next e => exact ih (.ite (h.busRead e) (h.busRead e).setDev)

theorem readImage_go {fuel ag a n acc r} (h : Quiet s x) (e : readImage.go ag fuel x a n acc = r := by rfl) :
    Quiet s r.2.2.state := by
  subst e
  induction fuel generalizing x a n acc with
  | zero => exact h
  | succ fuel ih =>
    dsimp only [Machine.readImage.go]
    split
    · exact h
    · split
      · next e => exact h.busRead e
      · next e => exact h.busRead e
      · next e => exact ih (h.busRead e)

theorem readImage {ag a n r} (h : Quiet s x) (e : readImage x ag a n = r := by rfl) : Quiet s r.2.2.state := h.readImage_go e

theorem settleBody {w base n} (h : Quiet s x) : Quiet s (settleBody x w base n) :=
  .leaveLines (.foldl (fun _ _ h => .deliver (.ite h.clearPoison h)) _ h)

theorem bodyWaits {w base n r} (h : Quiet s x) (e : bodyWaits x w base n = r := by rfl) : Quiet s (r.getD x) := by
  subst e
  dsimp only [Machine.bodyWaits]
  split
  · next e => exact (h.awaitLines e)
  · split
    · exact h
    · exact h

theorem holdCore (h : Quiet s x) : Quiet s (holdCore x) := h.writeBackHostLines.coreReset.setTurner

theorem runtimeLoaded {k src length image} (h : Quiet s x) : Quiet s (runtimeLoaded x k src length image) :=
  .finishOp (.startRuntime (.ite h.setTurner.setPower h.setTurner))

theorem runtimeLoadRun {k o ag} (h : Quiet s x) : Quiet s (runtimeLoadRun x k o ag) := by
  dsimp only [Machine.runtimeLoadRun]
  split
  · exact h.holdCore.finishOp
  · split
    · next e => exact (h.holdCore.readImage e)
    · next e => exact (h.holdCore.readImage e).finishOp
    · next e =>
      split
      · exact (h.holdCore.readImage e).finishOp
      · split
        · next e1 => exact (h.holdCore.readImage e1)
        · split
          · next e2 => exact (h.holdCore.bodyWaits e2)
          · split
            · next e3 => exact (h.holdCore.copyImage e3)
            · next e3 => exact ((h.holdCore.copyImage e3).settleBody).finishOp
            · next e3 =>
              split
              · exact ((h.holdCore.copyImage e3).settleBody).runtimeLoaded
              · exact ((h.holdCore.copyImage e3).settleBody).finishOp

theorem reloadRuntime {ecc failed} (h : Quiet s x) : Quiet s (reloadRuntime x ecc failed) := by
  dsimp only [Machine.reloadRuntime]
  split
  · exact h
  · split
    · next e1 => exact (h.readImage e1)
    · split
      · next e2 => exact (h.bodyWaits e2)
      · split
        · next e3 => exact (h.copyImage e3)
        · next e3 => exact ((h.copyImage e3).settleBody).countHalt
        · next e3 => exact .ite (((h.copyImage e3).settleBody).startRuntime) (((h.copyImage e3).settleBody).countHalt)

/-! ### Operations of the file ScaleOut -/

theorem refuseAccess {k a} (h : Quiet s x) : Quiet s (refuseAccess x k a) := h.faultEvent.finishOp

theorem satisfyWait {k o} (h : Quiet s x) : Quiet s (satisfyWait x k o) := h.startOp.finishOp

theorem signalAdd {k o a ecc} (h : Quiet s x) : Quiet s (signalAdd x k o a ecc) := by
  dsimp only [Machine.signalAdd]
  split
  · next e => exact (h.busRead e)
  · next e => exact (h.busRead e).finishOp
  · next e =>
    split
    · next e1 => exact ((h.busRead e).busWrite e1).finishOp
    · next e1 => exact ((h.busRead e).busWrite e1)
    · next e1 => exact ((h.busRead e).busWrite e1).finishOp

theorem compareValue {v} (h : Quiet s x) : Quiet s (compareValue x v) := .foldl (fun _ _ h => .ite h.satisfyWait h) _ h

theorem takeValues {n} (h : Quiet s x) : Quiet s (takeValues n x) := by
  induction n generalizing x with
  | zero => exact h
  | succ n ih =>
    dsimp only [Machine.takeValues]
    split
    · exact h
    · exact ih h.setScale.compareValue

theorem registerCounter {i a} (h : Quiet s x) : Quiet s (registerCounter x i a) := h.setScale

theorem deregisterCounter {i} (h : Quiet s x) : Quiet s (deregisterCounter x i) := h.setScale.setQueue

theorem relayWrite {k o a} (h : Quiet s x) : Quiet s (relayWrite x k o a) := by
  dsimp only [Machine.relayWrite]
  split
  · next e => exact ((h.busWrite e).saveOp).finishOp
  · next e => exact (h.busWrite e)
  · next e => exact (h.busWrite e).finishOp

/-! ### Operations of the file HostLink -/

theorem aerUncorrectable {bit advisory fatal} (h : Quiet s x) : Quiet s (aerUncorrectable x bit advisory fatal) :=
  h.setLink.sendHost.tookFree

theorem aerCorrectable {bit} (h : Quiet s x) : Quiet s (aerCorrectable x bit) := h.setLink.sendHost

theorem dropPosted {a} (h : Quiet s x) : Quiet s (dropPosted x a) := h.hostRequestError.aerUncorrectable.setLink

theorem refuseNonPosted {a} (h : Quiet s x) : Quiet s (refuseNonPosted x a) := h.hostRequestError.aerUncorrectable.sendHost

theorem onLink {f} (h : Quiet s x) (hf : ∀ y, Quiet s y → Quiet s (f y)) : Quiet s (onLink x f) := .ite (hf _ h) h

theorem bar4Write {offset data poison ecc} (h : Quiet s x) : Quiet s (bar4Write x offset data poison ecc) := by
  dsimp only [Machine.bar4Write]
  split
  · exact .submit (.ite h.hostRequestError.aerUncorrectable h)
  · exact h.dropPosted

theorem biEnds {line} (h : Quiet s x) : Quiet s (biEnds x line) := h.setLink.retryHome

theorem readFails {k line st code} (h : Quiet s x) : Quiet s (readFails x k line st code) := by
  dsimp only [Machine.readFails]
  split
  · exact h
  · refine h.runOp fun y o hy => ?_
    have hm (r : Run) (hr : Quiet s r.out.state) : Quiet s (match r.out with
        | .fail st' c' _ => if st' = st ∧ c' = code ∧ r.addr / 64 = line then Machine.endRun k r else x
        | _ => x) := by
      split
      · exact .ite hr.endRun h
      · exact h
    refine .ite (hm _ hy.copyRun) (.ite (hm _ hy.convertRun) (.ite ?_ (.ite (.ite hy.runtimeLoadRun h) h)))
    split
    · next e => exact .ite (hy.stageRead e).stageFault h
    · exact h

theorem flushFails {k} (h : Quiet s x) : Quiet s (flushFails x k) := by
  dsimp only [Machine.flushFails]
  split
  · exact h
  · split
    · exact h
    · exact .ite h h.faultEvent.completeOp

theorem devReadFails {r st code} (h : Quiet s x) : Quiet s (devReadFails x r st code) := by
  dsimp only [Machine.devReadFails]
  split
  · exact h.readFails
  · exact h.flushFails
  · exact .ite h h.setTurner.faultEvent

theorem laneError {lane} (h : Quiet s x) : Quiet s (laneError x lane) := h.setLink

theorem symbolError {lane} (h : Quiet s x) : Quiet s (symbolError x lane) := h.laneError.faultEvent.aerCorrectable

theorem linkRetry {lanes bit} (h : Quiet s x) : Quiet s (linkRetry x lanes bit) :=
  .aerCorrectable (.faultEvent (.foldl (fun _ _ h => .ite h.laneError h) _ h))

theorem retireLane {lane} (h : Quiet s x) : Quiet s (retireLane x lane) := h.setLink.faultAction.setFirmware

theorem configRead {r} (h : Quiet s x) : Quiet s (configRead x r) := by
  dsimp only [Machine.configRead]
  split
  · exact h.sendHost
  · exact h.sendHost.tookFree

theorem marginLane {lane x'} (h : Quiet s x) : Quiet s (marginLane x lane x').2 := by
  dsimp only [Machine.marginLane]
  exact h.setLink

theorem configRequest {r} (h : Quiet s x) : Quiet s (configRequest x r) := by
  dsimp only [Machine.configRequest]
  split
  · exact h.configRead
  · exact h.setLink
  · exact h.setLink
  · exact h.marginLane.sendHost
  · exact h.sendHost
  · exact h.sendHost
  · exact h.setLink.sendPendingVectors

/-! ### Operations of the file Ports -/

theorem mbxTake (h : Quiet s x) : Quiet s (mbxTake x) := h.setMgmt

theorem mbxSend (h : Quiet s x) : Quiet s (mbxSend x) := by
  dsimp only [Machine.mbxSend]
  split
  · exact h
  · exact h.setMgmt

theorem pubWrite {v} (h : Quiet s x) : Quiet s (pubWrite x v) := .ite h.publishWord h

theorem wdogRefresh (h : Quiet s x) : Quiet s (wdogRefresh x) := h.setMgmt

theorem setLevel {l} (h : Quiet s x) : Quiet s (setLevel x l) := h.setMgmt

theorem flashStart {op} (h : Quiet s x) : Quiet s (flashStart x op) := by
  dsimp only [Machine.flashStart]
  split
  · exact h
  · exact h.setJiman

theorem signatureStart (h : Quiet s x) : Quiet s (signatureStart x) := h.setJiman

theorem blowRevoke {k} (h : Quiet s x) : Quiet s (blowRevoke x k) := h.setFirmware

theorem latchTick (h : Quiet s x) : Quiet s (latchTick x) := h.setJiman

theorem portRead {p} (h : Quiet s x) : Quiet s (portRead x p).2 := by
  dsimp only [Machine.portRead]
  exact .ite h.latchTick (.ite h.setJiman (.ite h.tookFree h))

/-! ### Operations of the file JimanOps -/

theorem setJr {r} (h : Quiet s x) : Quiet s (State.setJr x r) := h.setJiman

theorem setJd {i v} (h : Quiet s x) : Quiet s (State.setJd x i v) := h.setJr

theorem setJa {i v} (h : Quiet s x) : Quiet s (State.setJa x i v) := h.setJr

theorem setJac {i v} (h : Quiet s x) : Quiet s (State.setJac x i v) := h.setJr

theorem setRamWord {a v} (h : Quiet s x) : Quiet s (setRamWord x a v) := h.setJiman

theorem jload {seg n o bad} {k : W16 → JRes} (h : Quiet s x) (hk : ∀ v, Quiet s (k v).state) :
    Quiet s (jload x seg n o bad k).state := by
  dsimp only [Machine.jload]
  split
  · exact h
  · split
    · exact h
    · exact hk _

theorem jstore {seg n o v} {k : State → JRes} (h : Quiet s x) (hk : ∀ y, Quiet s y → Quiet s (k y).state) :
    Quiet s (jstore x seg n o v k).state := by
  dsimp only [Machine.jstore]
  split
  · exact h
  · exact hk _ h.setRamWord

theorem guardFrame {seg o vs r} (h : Quiet s x) (e : guardFrame x seg o vs = r := by rfl) : Quiet s (r.getD x) := by
  subst e
  have key (y : State) (hy : Quiet s y) : Quiet s ((Machine.guardFrame y seg o vs).getD x) := by
    induction vs generalizing y o with
    | nil => exact hy
    | cons v vs ih =>
      dsimp only [Machine.guardFrame]
      split
      · exact h
      · exact ih _ hy.setRamWord
  exact key x h

theorem endInstr (h : Quiet s x) : Quiet s (endInstr x) := h.setJiman

theorem stepUnit {start} (h : Quiet s x) : Quiet s (stepUnit x start) := h.setJiman

theorem storeDown {seg o vs} {k : State → W16 → JRes} (h : Quiet s x) (hk : ∀ y o, Quiet s y → Quiet s (k y o).state) :
    Quiet s (storeDown x seg o vs k).state := by
  induction vs generalizing x o with
  | nil => exact hk _ _ h
  | cons v vs ih => exact h.jstore fun _ h => ih h

theorem jcall {target} (h : Quiet s x) : Quiet s (jcall x target).state := by
  dsimp only [Machine.jcall]
  split
  · exact h
  · exact h.storeDown fun _ _ h => h.setJr

theorem restoreRegs {seg bad o rs} {k : State → JRes} (h : Quiet s x) (hk : ∀ y, Quiet s y → Quiet s (k y).state) :
    Quiet s (restoreRegs x seg bad o rs k).state := by
  induction rs generalizing x o with
  | nil => exact hk _ h
  | cons r rs ih => exact h.jload fun _ => ih (.ite h.setJa h.setJd)

theorem jret {isRet bad} (h : Quiet s x) : Quiet s (jret x isRet bad).state := by
  dsimp only [Machine.jret]
  exact h.jload fun _ => h.jload fun _ => .state_ite h (h.restoreRegs fun _ h => by exact h.setJr)

theorem jreti {bad} (h : Quiet s x) : Quiet s (jreti x bad).state := by
  dsimp only [Machine.jreti]
  exact h.jload fun _ => h.jload fun _ => .state_ite h h.setJr

theorem jretg {bad} (h : Quiet s x) : Quiet s (jretg x bad).state := by
  dsimp only [Machine.jretg]
  exact h.jload fun _ => h.jload fun _ => h.jload fun _ => by exact h.setJr

theorem relBranch {taken v r} (h : Quiet s x) (e : relBranch x taken v = r := by rfl) : Quiet s (r.state) := by
  subst e
  dsimp only [Machine.relBranch]
  exact h

theorem repeatBody {count len r} (h : Quiet s x) (e : repeatBody x count len = r := by rfl) : Quiet s (r.state) := by
  subst e
  dsimp only [Machine.repeatBody]
  split
  · exact h
  · split
    · exact h
    · exact h.setJr

/-- A string instruction whose elements are each quiet before they go on. -/
theorem stringRun {elem : JElement} {bad fuel i} (h : Quiet s x)
    (he : ∀ y b (k : State → JRes), Quiet s y → (∀ z, Quiet s z → Quiet s (k z).state) → Quiet s (elem y b k).state) :
    Quiet s (stringRun elem bad fuel i x).state := by
  induction fuel generalizing x i with
  | zero => dsimp only [Machine.stringRun]; split <;> exact h
  | succ fuel ih =>
    dsimp only [Machine.stringRun]
    split
    · exact h
    · exact he _ _ _ h fun _ h => ih h

theorem stringBody {elem : JElement} {elems bad} (h : Quiet s x)
    (he : ∀ y b (k : State → JRes), Quiet s y → (∀ z, Quiet s z → Quiet s (k z).state) → Quiet s (elem y b k).state) :
    Quiet s (stringBody x elem elems bad).state := by
  have h1 := h.stringRun (bad := bad) (fuel := elems.toNat) (i := 0) he
  dsimp only [Machine.stringBody]
  split
  · exact h
  · split
    · next e => rw [e] at h1; exact h1
    · exact h1

theorem movbElem {ss sd b k} (h : Quiet s x) (hk : ∀ y, Quiet s y → Quiet s (k y).state) :
    Quiet s (movbElem ss sd x b k).state :=
  h.jload fun _ => h.jstore fun _ h => hk _ h.setJr

theorem fillbElem {sd d b k} (h : Quiet s x) (hk : ∀ y, Quiet s y → Quiet s (k y).state) :
    Quiet s (fillbElem sd d x b k).state :=
  h.jstore fun _ h => hk _ h.setJr

theorem macbElem {ac ss sd b k} (h : Quiet s x) (hk : ∀ y, Quiet s y → Quiet s (k y).state) :
    Quiet s (macbElem ac ss sd x b k).state :=
  h.jload fun _ => h.jload fun _ => hk _ h.setJr

theorem jld {inc seg a d bad} (h : Quiet s x) : Quiet s (jld x inc seg a d bad).state := by
  dsimp only [Machine.jld]
  refine h.jload fun _ => ?_
  exact .setJd (.ite h.setJa h)

theorem jst {inc seg a d} (h : Quiet s x) : Quiet s (jst x inc seg a d).state :=
  h.jstore fun _ h => show Quiet s (JRes.state (.done _)) from .ite h.setJa h

theorem jldf {a d bad r} (h : Quiet s x) (e : jldf x a d bad = r := by rfl) : Quiet s (r.state) := by
  subst e
  dsimp only [Machine.jldf]
  split
  · exact h
  · exact h.setJd.setJa

/-! ### Operations of the file KeepOps -/

theorem setPort {q p} (h : Quiet s x) : Quiet s (State.setPort x q p) := h.setKeep

theorem onDrive {q f} (h : Quiet s x) : Quiet s (onDrive x q f) := h.setPort

theorem writeMedia {q off data} (h : Quiet s x) : Quiet s (writeMedia x q off data) := h.onDrive

theorem writeCached {q off data} (h : Quiet s x) : Quiet s (writeCached x q off data) := h.onDrive

theorem flushDrive {q} (h : Quiet s x) : Quiet s (flushDrive x q) := h.onDrive

theorem setArray {a} (h : Quiet s x) : Quiet s (State.setArray x a) := h.setKeep

theorem patchPosition {a stripe x' off data} (h : Quiet s x) : Quiet s (patchPosition x a stripe x' off data) := by
  dsimp only [Machine.patchPosition]
  split
  · exact h.writeCached
  · exact h

theorem writePosition {a stripe x' off data} (h : Quiet s x) : Quiet s (writePosition x a stripe x' off data) := by
  dsimp only [Machine.writePosition]
  split
  · exact h.writeMedia
  · exact h

theorem writeSuperblocks (h : Quiet s x) : Quiet s (writeSuperblocks x) := by
  dsimp only [Machine.writeSuperblocks]
  split
  · exact h
  · exact .foldl (fun _ _ h => h.writeMedia) _ h.setArray

theorem writeItem {off data} (h : Quiet s x) : Quiet s (writeItem x off data) := by
  dsimp only [Machine.writeItem]
  split
  · exact h
  · exact .foldl (fun _ _ h => h.writeMedia) _ h

theorem copyItems {q} (h : Quiet s x) : Quiet s (copyItems x q) := by
  dsimp only [Machine.copyItems]
  split
  · exact h
  · split
    · exact h
    · exact h.onDrive.flushDrive

theorem writeCommit {slot half st epoch bytes} (h : Quiet s x) : Quiet s (writeCommit x slot half st epoch bytes) := by
  dsimp only [Machine.writeCommit]
  split
  · exact h
  · exact h.setArray.writeItem

theorem writeSlot {e} (h : Quiet s x) : Quiet s (writeSlot x e) := by
  dsimp only [Machine.writeSlot]
  split
  · exact h
  · exact h.setArray.writeItem

theorem writeBitmapBlock {b} (h : Quiet s x) : Quiet s (writeBitmapBlock x b) := by
  dsimp only [Machine.writeBitmapBlock]
  split
  · exact h
  · exact h.writeItem

theorem setRegion {r} (h : Quiet s x) : Quiet s (setRegion x r) := by
  dsimp only [Machine.setRegion]
  split
  · exact h
  · exact .ite h h.setArray.writeBitmapBlock

/-! ### Operations of the file StripeOps -/

theorem readUnits {ecc us} (h : Quiet s x) : Quiet s (readUnits x ecc us) := by
  refine .foldl (fun y u hy => ?_) _ h
  refine .onlyIf (.foldl (fun z i hz => ?_) _ hy) (·.faultEvent)
  split
  · exact hz.eccEvent
  · exact hz

theorem gatherPieces {a ecc stripe snap} (h : Quiet s x) : Quiet s (gatherPieces x a ecc stripe snap).1 := h.readUnits

theorem completeWaiters (h : Quiet s x) : Quiet s (completeWaiters x) := .foldl (fun _ _ h => h.finishOp) _ h.setCache

theorem setImage {v} (h : Quiet s x) : Quiet s (setImage x v) := .ite h.setCache.deviceEvent h.setCache

theorem endReplay (h : Quiet s x) : Quiet s (endReplay x) := .ite (h.setCache (by simp)).setImage h

theorem settleLog (h : Quiet s x) : Quiet s (settleLog x) := h.completeWaiters.setCache.endReplay

theorem coverExtents {a stripe snap bad} (h : Quiet s x) : Quiet s (coverExtents x a stripe snap bad) :=
  .settleLog (.foldl (fun _ _ h => (by split; exacts [h.finishOp, h])) _ h.setCache)

theorem countDropout {q} (h : Quiet s x) : Quiet s (countDropout x q) := .ite h.setPort.setFaults h.setPort

theorem arrayDown {loc} (h : Quiet s x) : Quiet s (arrayDown x loc) :=
  .settleLog (.foldl (fun _ _ h => h.finishOp) _ h.setKeep.setCache)

theorem markFailed {i loc} (h : Quiet s x) : Quiet s (markFailed x i loc) := by
  dsimp only [Machine.markFailed]
  split
  · exact h
  · exact .ite (.ite h.setKeep.writeSuperblocks.arrayDown h.setKeep.writeSuperblocks) h

theorem failPort {q sev} (h : Quiet s x) : Quiet s (failPort x q sev) := by
  dsimp only [Machine.failPort]
  split
  · exact h.faultAction.countDropout.markFailed
  · split
    · exact .ite h.faultAction.countDropout.setKeep.writeSuperblocks h
    · exact h
  · exact h

theorem countReadError {q} (h : Quiet s x) : Quiet s (countReadError x q) := .ite h.setPort.failPort h.setPort.faultEvent

theorem readErrors {a bad stripe off n} (h : Quiet s x) : Quiet s (readErrors x a bad stripe off n) :=
  .foldl (fun _ _ h => (by split; exacts [h, .countReadError (by split; exacts [h, h.writeCached])])) _ h

theorem flushPorts {errors ports} (h : Quiet s x) : Quiet s (flushPorts x errors ports) :=
  .foldl (fun _ _ h => .ite h.failPort h.flushDrive) _ h

/-! ### Operations of the file Keep -/

theorem noteDegraded {a stripe} (h : Quiet s x) : Quiet s (noteDegraded x a stripe) :=
  .ite h <| .foldl (fun _ _ h => .ite h.setOp h) _ h

theorem endStripe {a w lock} (h : Quiet s x) : Quiet s (endStripe x a w lock) := h.noteDegraded.setKeep.setCache.coverExtents

theorem lockStripe {a ecc stripe lock put} (h : Quiet s x) : Quiet s (lockStripe x a ecc stripe lock put) := by
  dsimp only [Machine.lockStripe]
  exact .ite h.gatherPieces.setKeep.endStripe h.gatherPieces.setKeep.setRegion

theorem setWrite {lock w} (h : Quiet s x) : Quiet s (setWrite x lock w) := h.setKeep

theorem issueWrites {a lock w pq} (h : Quiet s x) : Quiet s (issueWrites x a lock w pq) := h.setWrite.setDev.setCache

theorem failStripe {a lock w} (h : Quiet s x) : Quiet s (failStripe x a lock w) :=
  .foldl (fun _ _ h => h.finishOp) _ h.setKeep.setCache

theorem failMember {a member} (h : Quiet s x) : Quiet s (failMember x a member) := by
  dsimp only [Machine.failMember]
  split
  · exact h.failPort
  · exact h

theorem beginReadd {a i q} (h : Quiet s x) : Quiet s (beginReadd x a i q) :=
  .ite h.setArray.copyItems.writeSuperblocks <| .ite h.setArray h.setArray.writeSuperblocks

theorem startReadd (h : Quiet s x) : Quiet s (startReadd x) := by
  dsimp only [Machine.startReadd]
  split
  · exact h
  · split
    · exact h
    · exact .ite h.beginReadd h

theorem queueReadds {ports} (h : Quiet s x) : Quiet s (queueReadds x ports) :=
  .foldl (fun _ _ h => (by split; exacts [h, (by split; exacts [h.setArray, h])])) _ h

theorem startRebuild {a i q} (h : Quiet s x) : Quiet s (startRebuild x a i q) := by
  dsimp only [Machine.startRebuild]
  exact h.setKeep.writeSuperblocks

theorem endRebuild {a r} (h : Quiet s x) : Quiet s (endRebuild x a r) := h.setArray.copyItems.writeSuperblocks

theorem recordRebuild {r fails record} (h : Quiet s x) (hr : ∀ y a, Quiet s y → Quiet s (record y a)) :
    Quiet s (recordRebuild x r fails record) := by
  dsimp only [Machine.recordRebuild]
  split
  · exact .ite (hr _ _ h.flushPorts) h.flushPorts
  · exact h.flushPorts

theorem rebuildStripe {a r bad st} (h : Quiet s x) : Quiet s (rebuildStripe x a r bad st) := by
  dsimp only [Machine.rebuildStripe]
  split
  · exact h.setRegion.readErrors.faultEvent
  · exact h.setRegion.readErrors.patchPosition

theorem rebuildStep {a r bad flushFails} (h : Quiet s x) : Quiet s (rebuildStep x a r bad flushFails) := by
  dsimp only [Machine.rebuildStep]
  split
  · exact h.recordRebuild (fun _ _ hy => hy.endRebuild)
  · split
    · exact h
    · split
      · exact h.rebuildStripe
      · split
        · exact h.rebuildStripe
        · split
          · exact h.rebuildStripe.setArray.recordRebuild (fun _ _ hy => hy.endRebuild)
          · split
            · exact h.rebuildStripe.setArray.recordRebuild (fun _ _ hy => hy.writeSuperblocks)
            · exact h.rebuildStripe.setArray

theorem resyncStripe {a bad st} (h : Quiet s x) : Quiet s (resyncStripe x a bad st) := by
  dsimp only [Machine.resyncStripe]
  split
  · exact h.readErrors.faultEvent
  · exact .ite h.readErrors.patchPosition.patchPosition h.readErrors.patchPosition

theorem endResync {a} (h : Quiet s x) : Quiet s (endResync x a) := .ite h.setArray.writeSuperblocks h

theorem scrubStripe {a bad st repair} (h : Quiet s x) : Quiet s (scrubStripe x a bad st repair).2 := by
  have repaired {y : State} (hy : Quiet s y) {c c' : Bool} {j : Option Nat}
      {p q sp : List Byte} {ds : List (List Byte)} : Quiet s
      (if c then match j with
          | some j => Machine.patchPosition y a st j 0 (xorBytes (ds.getD j []) sp)
          | none => Machine.patchPosition (Machine.patchPosition y a st a.k 0 p) a st (a.k + 1) 0 q
        else if c' then Machine.patchPosition y a st a.k 0 p else Machine.patchPosition y a st (a.k + 1) 0 q) := by
    refine .ite ?_ (.ite hy.patchPosition hy.patchPosition)
    split
    · exact hy.patchPosition
    · exact hy.patchPosition.patchPosition
  dsimp only [Machine.scrubStripe]
  split
  · exact h.readErrors
  · refine .snd_ite h.readErrors (.snd_ite h.readErrors.faultEvent.setKeep ?_)
    split
    · exact .setArray (repaired h.readErrors.faultEvent.setRegion)
    · exact repaired h.readErrors.faultEvent.setRegion

theorem nextPortTest (h : Quiet s x) : Quiet s (nextPortTest x) := h.setKeep

theorem portTestStart (h : Quiet s x) : Quiet s (portTestStart x) := .ite h h.setKeep.nextPortTest

/-! ### Operations of the file Vault -/

theorem armVault (h : Quiet s x) : Quiet s (armVault x) := by
  dsimp only [Machine.armVault]
  split
  · exact h.setCache
  · exact h.setCache (by simp)

theorem afterAssembly {ports} (h : Quiet s x) : Quiet s (afterAssembly x ports) := by
  dsimp only [Machine.afterAssembly]
  split
  · exact h
  · exact .queueReadds <| h.onlyIf (·.setImage) |>.onlyIf (·.setCache.setArray) |>.onlyIf (·.writeSuperblocks)
      |>.onlyIf (·.armVault)

theorem takeArray {a spares} (h : Quiet s x) : Quiet s (takeArray x a spares) := h.setKeep

theorem assembleRecorded (h : Quiet s x) : Quiet s (assembleRecorded x) :=
  .ite h (by split; exacts [h, h.takeArray.afterAssembly])

theorem keepStart (h : Quiet s x) : Quiet s (keepStart x) := by
  dsimp only [Machine.keepStart]
  have h1 {b : Prop} [Decidable b] {c : Cache} (hc : c.assureFell = x.cache.assureFell) :
      Quiet s ((if b then Machine.faultEvent x 0x9000 2 else x).setCache c) := by
    split
    · exact h.faultEvent.setCache hc
    · exact h.setCache hc
  exact .ite (.armVault (.assembleRecorded (h1 rfl))) (.assembleRecorded (h1 rfl))

theorem storeUnits {position data} (h : Quiet s x) : Quiet s (storeUnits x position data) :=
  .foldl (fun _ _ h => h.setDev.setFaults) _ h

theorem restoreImage (h : Quiet s x) : Quiet s (restoreImage x) :=
  .setCache (.foldl (fun _ _ h => (by split; exacts [h.storeUnits.setCache, h])) _ h.setCache)

theorem replayStripe {a j} (h : Quiet s x) : Quiet s (replayStripe x a j) := by
  have written {y : State} (h : Quiet s y) :
      Quiet s (if a.p = 2 then Machine.writePosition y a j.stripe (a.k + 1) 0 j.q else y) :=
    h.onlyIf (·.writePosition)
  dsimp only [Machine.replayStripe]
  split
  · exact .setArray (written (.writePosition (.foldl (fun _ _ h => h.writePosition) _ h.setRegion)))
  · exact written (.writePosition (.foldl (fun _ _ h => h.writePosition) _ h.setRegion))

theorem appendDump {area} (h : Quiet s x) : Quiet s (appendDump x area) := h.setCache

theorem beginDump (h : Quiet s x) : Quiet s (beginDump x) := by
  dsimp only [Machine.beginDump]
  split
  · exact .ite h h.setFaults.appendDump
  · exact h

theorem sealVault (h : Quiet s x) : Quiet s (sealVault x) := by
  dsimp only [Machine.sealVault]
  split
  · exact h.setCache
  · exact h

theorem loseDump (h : Quiet s x) : Quiet s (loseDump x) := .ite h.setCache.faultEvent h.setCache

/-! ### Operations of the file KeepCommands -/

theorem takeExtent {a k o} (h : Quiet s x) : Quiet s (takeExtent x a k o) := h.setCache

theorem openHalf {slot half epoch} (h : Quiet s x) : Quiet s (openHalf x slot half epoch) := h.setCache.writeCommit

theorem copyToExtent {k o e ecc} (h : Quiet s x) : Quiet s (copyToExtent x k o e ecc) := by
  have hr := h.readRun (fuel := keepLength o / 64 + 2) (ag := keepAgent x o ecc none true) (a := fld o.desc 16 8)
    (n := keepLength o)
  dsimp only [Machine.copyToExtent]
  split
  · next e => exact (hr.via e).saveOp
  · next e => exact ((hr.via e).saveOp.setCache (by rfl)).settleLog.finishOp
  · next s1 e =>
    have h1 : Quiet s s1 := hr.via e
    exact .ite h1.saveOp.storeUnits.setCache h1.saveOp.storeUnits.setCache.finishOp

theorem keepWriteBody {k ecc o} (h : Quiet s x) : Quiet s (keepWriteBody k ecc x o) := by
  dsimp only [Machine.keepWriteBody]
  split
  · exact h.saveOp
  · split
    · exact .saveOp (.ite h (.ite h.takeExtent h))
    · exact .ite (.saveOp (.ite h (.ite h.takeExtent h))) <| .ite (.copyToExtent (.ite h (.ite h.takeExtent h))) <|
          .ite (.saveOp (.ite h (.ite h.takeExtent h))) <| .copyToExtent (.openHalf (.ite h (.ite h.takeExtent h)))

theorem runKeep {k opcode body} (h : Quiet s x) (hb : ∀ y o, Quiet s y → Quiet s (body y o)) :
    Quiet s (runKeep x k opcode body) :=
  .ite (h.runOp hb) h

theorem commitHalf {k o errors ports} (h : Quiet s x) : Quiet s (commitHalf x k o errors ports) := by
  dsimp only [Machine.commitHalf]
  split
  · exact h.flushPorts
  · exact .ite h.flushPorts h.flushPorts.writeCommit.finishOp

theorem countBad {bad} (h : Quiet s x) : Quiet s (countBad x bad) :=
  .foldl (fun _ _ h => (by split; exacts [h.readErrors, h])) _ h

theorem keepReadLoop {fuel a ag bad base o} (h : Quiet s x) : Quiet s (keepReadLoop fuel x a ag bad base o).out.state := by
  induction fuel generalizing x o with
  | zero => exact h
  | succ fuel ih =>
    dsimp only [Machine.keepReadLoop]
    split
    · exact h
    · split
      · exact h
      · split
        · exact h
        · next bs _ =>
          split
          · next e => exact ih (h.moverWrite.via e)
          · exact h.moverWrite

theorem keepReadBody {k bad err o} (h : Quiet s x) : Quiet s (keepReadBody k bad err x o) := by
  dsimp only [Machine.keepReadBody]
  split
  · exact h.saveOp
  · split
    · exact h.saveOp
    · refine .ite h.saveOp ?_
      split
      · exact h.saveOp.countBad
      · refine .ite h.saveOp.countBad ?_
        split
        · next e => exact (h.saveOp.countBad.keepReadLoop.via e).saveOp.finishOp
        · next e => exact (h.saveOp.countBad.keepReadLoop.via e).saveOp
        · next e => exact (h.saveOp.countBad.keepReadLoop.via e).saveOp.finishOp

theorem scrubLoop {fuel k bad o} (h : Quiet s x) : Quiet s (scrubLoop fuel k x bad o) := by
  induction fuel generalizing x o with
  | zero => exact h.saveOp
  | succ fuel ih =>
    dsimp only [Machine.scrubLoop]
    split
    · exact h.saveOp
    · refine .ite h.saveOp.finishOp (.ite h.saveOp ?_)
      split
      · exact h.saveOp.scrubStripe
      · exact .ite h.saveOp.scrubStripe (ih h.saveOp.scrubStripe)

theorem scrubBody {k bad o} (h : Quiet s x) : Quiet s (scrubBody k bad x o) := by
  dsimp only [Machine.scrubBody]
  split
  · exact h.saveOp
  · exact .ite h.saveOp.finishOp h.scrubLoop

theorem defineSlot {a slot n r} (h : Quiet s x) (e : defineSlot x a slot n = r := by rfl) : Quiet s (r.getD x) := by
  subst e
  dsimp only [Machine.defineSlot]
  cases freeRun a.stripes ((n + a.width - 1) / a.width) (takenRuns a) with
  | none => exact h
  | some fa =>
    dsimp only [Option.bind]
    cases freeRun a.stripes ((n + a.width - 1) / a.width) ((fa, (n + a.width - 1) / a.width) :: takenRuns a) with
    | none => exact h
    | some fb => exact h.writeCommit.writeCommit.writeSlot

theorem recordUuid {u} (h : Quiet s x) : Quiet s (recordUuid x u) := h.setFirmware

theorem createArray {o} (h : Quiet s x) : Quiet s (createArray x o) := by
  dsimp only [Machine.createArray]
  exact
      .writeSuperblocks (.foldl (fun _ _ h => h.writeBitmapBlock) _ (.takeArray (.foldl (fun _ _ h => h.setPort) _ h.tookFree)))

theorem buildArray {o failing} (h : Quiet s x) : Quiet s (buildArray x o failing).1 := by
  dsimp only [Machine.buildArray]
  split
  · exact .foldl (fun _ _ h => h.failPort) _ h.createArray
  · split
    · exact .setKeep (.foldl (fun _ _ h => h.failPort) _ h.createArray)
    · exact .afterAssembly (.recordUuid (.foldl (fun _ _ h => h.failPort) _ h.createArray))

theorem detachArray {k} (h : Quiet s x) : Quiet s (detachArray x k) := .ite h.completeOp h.setKeep.recordUuid.completeOp

theorem unlockPort {q} (h : Quiet s x) : Quiet s (unlockPort x q) := h.setPort

/-! ### Operations of the file LaneTests -/

theorem laneTestStart (h : Quiet s x) : Quiet s (laneTestStart x) := .ite h.setLink h

theorem laneTestWrite {lanes start} (h : Quiet s x) : Quiet s (laneTestWrite x lanes start) :=
  .ite h <| .ite (.laneTestStart (by split; exacts [h.setLink, h])) (by split; exacts [h.setLink, h])

theorem applyLaneTest {passed failed} (h : Quiet s x) : Quiet s (applyLaneTest x passed failed) := by
  unfold Machine.applyLaneTest
  refine .ite (.foldl (fun _ _ h => h.faultEvent) _ ?_) (.foldl (fun _ _ h => .ite h.faultEvent h.retireLane) _ ?_)
  · exact h.setLink.setFirmware
  · exact h.setLink.setFirmware

/-! ### Operations of the file Management -/

theorem onTailstock {f} (h : Quiet s x) (hf : ∀ y, Quiet s y → Quiet s (f y)) : Quiet s (onTailstock x f) := .ite (hf _ h) h

theorem sensorStep {n r} (h : Quiet s x) : Quiet s (sensorStep x n r) :=
  .ite h.setMgmt <| .ite h <| .ite h.setMgmt.mgmtFaultEvent.logCrumb h.setMgmt.mgmtFaultEvent

theorem latchSensors {readings} (h : Quiet s x) : Quiet s (latchSensors x readings) := .foldl (fun _ _ h => h.sensorStep) _ h

theorem throttleStep (h : Quiet s x) : Quiet s (throttleStep x) :=
  .ite (.pldmEvent (.mgmtFaultEvent (.setMgmt (.ite h.setMgmt.setLevel.logCrumb h.setMgmt.setLevel)))) <|
    .setMgmt (.ite h.setMgmt.setLevel.logCrumb h.setMgmt.setLevel)

theorem tripNow (h : Quiet s x) : Quiet s (tripNow x) := .ite h h.setMgmt.logCrumb

theorem thermalTrip {sensor value} (h : Quiet s x) : Quiet s (thermalTrip x sensor value) :=
  h.onTailstock (fun _ h => .ite h.setMgmt.tripNow h)

theorem tripClear {readings} (h : Quiet s x) : Quiet s (tripClear x readings) := h.onTailstock (fun _ h => .ite h.setMgmt h)

theorem storeImpedance {eepromOk} (h : Quiet s x) : Quiet s (storeImpedance x eepromOk) := by
  dsimp only [Machine.storeImpedance]
  split
  · exact .ite h.setGauge.mgmtFaultEvent h.setGauge
  · exact h.setGauge
  · exact h

theorem publishStep (h : Quiet s x) : Quiet s (publishStep x) :=
  h.publishWord.publishWord.publishWord.publishWord.publishWord.wdogRefresh

theorem replyOp {o status code} (h : Quiet s x) : Quiet s (replyOp x o status code) := h.setMgmt.sendDp

theorem serveSnapshot (h : Quiet s x) : Quiet s (serveSnapshot x) := by
  dsimp only [Machine.serveSnapshot]
  split
  · exact .ite h.setMgmt.replyOp h
  · exact h

theorem logDpAlert (h : Quiet s x) : Quiet s (logDpAlert x) := .ite h.setMgmt.logCrumb h

theorem reportSelftest (h : Quiet s x) : Quiet s (reportSelftest x) := .ite h.sendDp.logCrumb.writeFfr.setMgmt h

theorem handOver (h : Quiet s x) : Quiet s (handOver x) := .ite h.setJiman h

theorem completeMgmtReset (h : Quiet s x) : Quiet s (completeMgmtReset x) :=
  .ite (.ite h.setMgmt.logCrumb.sendDp h.setMgmt.logCrumb.sendDp.sendDp) h

theorem applyWrites (h : Quiet s x) : Quiet s (applyWrites x) :=
  .ite (.setMgmt (by split; exacts [h, h.setGauge.setMgmt])) (by split; exacts [h, h.setGauge.setMgmt])

theorem raiseTick {readings power rails} (h : Quiet s x) : Quiet s (raiseTick x readings power rails) :=
  .ite h.setMgmt.raiseLine.latchSensors.setMgmt.tripNow h.setMgmt.raiseLine.latchSensors.setMgmt

theorem statusWordStale (h : Quiet s x) : Quiet s (statusWordStale x) := h.setMgmt.limitFell

theorem nvmeMiPoll {port reply} (h : Quiet s x) : Quiet s (nvmeMiPoll x port reply) :=
  h.onTailstock (fun _ h => .ite h.setMgmt.logCrumb h.setMgmt)

theorem deliverToMg {kind f} (h : Quiet s x) (hf : ∀ y m, Quiet s y → Quiet s (f y m)) : Quiet s (deliverToMg x kind f) := by
  dsimp only [Machine.deliverToMg]
  split
  · exact h.pumpToMg
  · exact .ite (hf _ _ h.pumpToMg.mbxTake) h.pumpToMg

theorem jimanActivate {o} (h : Quiet s x) : Quiet s (jimanActivate x o) := by
  dsimp only [Machine.jimanActivate]
  split
  · exact h.replyOp
  · exact h.setFirmware.replyOp.logCrumb.setMgmt

theorem jimanConfirm {o} (h : Quiet s x) : Quiet s (jimanConfirm x o) := .ite h.replyOp h.setFirmware.replyOp.logCrumb

theorem receiveRequest {m} (h : Quiet s x) : Quiet s (receiveRequest x m) := by
  dsimp only [Machine.receiveRequest]
  split
  · exact .ite h.sendDp (.ite h.jimanActivate (.ite h.jimanConfirm h.setMgmt))
  · exact .ite h.jimanActivate (.ite h.jimanConfirm h.setMgmt)

theorem receiveData {m} (h : Quiet s x) : Quiet s (receiveData x m) := by
  dsimp only [Machine.receiveData]
  split
  · exact h
  · exact .ite h (.ite h.setMgmt h.setFirmware.setJiman.replyOp)

theorem receiveReg {m} (h : Quiet s x) : Quiet s (receiveReg x m) := .ite h.setMgmt h.setMgmt

theorem receiveAlert {m} (h : Quiet s x) : Quiet s (receiveAlert x m) := h.logCrumb

theorem withToDp {kind f} (h : Quiet s x) (hf : ∀ y m, Quiet s y → Quiet s (f y m)) : Quiet s (withToDp x kind f) := by
  dsimp only [Machine.withToDp]
  split
  · exact h.pumpToDp
  · exact .ite (hf _ _ h.pumpToDp) h.pumpToDp

theorem dpTake (h : Quiet s x) : Quiet s (dpTake x) := h.setMgmt

theorem takeData {m} (h : Quiet s x) : Quiet s (takeData x m) := by
  dsimp only [Machine.takeData]
  split
  · exact h.dpTake
  · split
    · exact h.dpTake
    · split
      · next e => exact (h.busWriteAll e).saveOp.dpTake
      · next e => exact h.busWriteAll e
      · next s1 e =>
        have h1 : Quiet s s1 := h.busWriteAll e
        exact h1.setMgmt.dpTake.saveOp.finishOp

theorem takeReply {m} (h : Quiet s x) : Quiet s (takeReply x m) := by
  dsimp only [Machine.takeReply]
  split
  · exact .ite h.dpTake.setMgmt h.dpTake
  · exact
        .finishOp (.ite (.setFirmware (.setMgmt (.ite h.dpTake.setMgmt h.dpTake))) (.setMgmt (.ite h.dpTake.setMgmt h.dpTake)))

theorem takeNotice {m} (h : Quiet s x) : Quiet s (takeNotice x m) := h.dpTake.setMgmt.setFirmware

theorem flashDone (h : Quiet s x) : Quiet s (flashDone x) := by
  dsimp only [Machine.flashDone]
  split
  · exact h
  · exact h.setJiman.raiseLine

theorem signatureCheck (h : Quiet s x) : Quiet s (signatureCheck x) := h.setJiman

theorem oneshotExpiry (h : Quiet s x) : Quiet s (oneshotExpiry x) := .ite h h.setJiman.raiseLine

/-! ### Operations of the file Registers -/

theorem regRead {turner off n} (h : Quiet s x) : Quiet s (regRead x turner off n).2 := by
  dsimp only [Machine.regRead]
  split
  · exact h.setClocks
  · split
    · split
      · exact h.setClocks
      · exact h
    · exact h

theorem writeSharedWindow {v} (h : Quiet s x) : Quiet s (writeSharedWindow x v) := .ite h.setLink h

theorem writeQeControl {v} (h : Quiet s x) : Quiet s (writeQeControl x v) := .ite h.enableSet h.enableClear

theorem writePortTest {v} (h : Quiet s x) : Quiet s (writePortTest x v) := .ite h (.ite h.setKeep.portTestStart h.setKeep)

theorem writeFfrClear {v} (h : Quiet s x) : Quiet s (writeFfrClear x v) := .ite h.setMgmt h

theorem writeMsix {off lo hi v} (h : Quiet s x) : Quiet s (writeMsix x off lo hi v) := h.setLink.sendPendingVectors

theorem hostWrite {off lo hi v} (h : Quiet s x) : Quiet s (hostWrite x off lo hi v) :=
  .ite (.ite h.setLink h) <| .ite h.writeSharedWindow <| .ite (.ite h.laneTestWrite h) <| .ite (.ite h h.setScale) <|
    .ite (.ite h.writeQeControl h) <| .ite (.ite h.setQueue h) <| .ite (.ite h.setQueue h) <| .ite (.ite h.setQueue h) <|
    .ite (.ite h.setQueue h) <| .ite (.ite h.setQueue h) <| .ite (.ite h.writePortTest h) <| .ite (.ite h.setCache h) <|
    .ite (.ite h.hpControlWrite h) <| .ite (.ite h.writeFfrClear h) <| .ite h.writeMsix h

theorem writeSpControl {v} (h : Quiet s x) : Quiet s (writeSpControl x v) :=
  .ite (.spReset (.ite h.spEnable.spResume h.spEnable)) <| .ite h.spEnable.spResume h.spEnable

theorem turnerWrite {off lo hi v} (h : Quiet s x) : Quiet s (turnerWrite x off lo hi v) :=
  .ite (.ite h.tcKernelDone h) <| .ite h.setTurner <| .ite (.ite h.setTurner h) <| .ite (.ite h.tcResume h) <|
    .ite (.ite h.setLattice h) <| .ite (.ite h.tqControl h) <| .ite h.setFinish.noteTables <| .ite h.setFinish <|
    .ite (.ite h.pwlCommit h) <| .ite (.ite h.setSpindle h) <| .ite (.ite h.writeSpControl h) h

theorem slotWrite {turner off data} (h : Quiet s x) : Quiet s (slotWrite x turner off data) := .ite h.turnerWrite h.hostWrite

theorem slotsWrite {n turner off data} (h : Quiet s x) : Quiet s (slotsWrite n x turner off data) := by
  induction n generalizing x off data with
  | zero => exact h
  | succ n ih => exact .ite h (ih h.slotWrite)

theorem regWrite {turner off data} (h : Quiet s x) : Quiet s (regWrite x turner off data) :=
  .ite (.ite h.slotWrite h) <| .ite h.slotsWrite h

/-! ### Operations of the file TurnerMem -/

theorem cacheEvent {e} (h : Quiet s x) : Quiet s (cacheEvent x e) := by
  dsimp only [Machine.cacheEvent]
  split
  exacts [h, h.faultEvent, h.faultEvent, h.faultEvent, h.faultEvent]

theorem cacheEvents {ecc line} (h : Quiet s x) : Quiet s (cacheEvents x ecc line) := .foldl (fun _ _ h => h.cacheEvent) _ h

theorem writeBackL2 {p} (h : Quiet s x) : Quiet s (writeBackL2 x p) := .ite h.setHost.setLink.sendHost h.setHost.setLink

theorem evictL2 (h : Quiet s x) : Quiet s (evictL2 x) := by
  dsimp only [Machine.evictL2]
  split
  · exact h
  · exact .ite h.writeBackL2 h

theorem loadHost {t' n lost} (h : Quiet s x) : Quiet s (loadHost x t' n lost).2 := by
  dsimp only [Machine.loadHost]
  split
  · exact h
  · exact .snd_ite h.setLink.writeBackL2 h.setLink

theorem storeL2 {t' data poison} (h : Quiet s x) : Quiet s (storeL2 x t' data poison) := h.setLink.evictL2

theorem storeIo {pasid t' data poison} (h : Quiet s x) : Quiet s (storeIo x pasid t' data poison) := h.setHost.sendHost

theorem markStored {a poison} (h : Quiet s x) : Quiet s (markStored x a poison) := .ite h.markPoison h

theorem performLoad {earlier a n pasid ecc r} (h : Quiet s x) (e : performLoad x earlier a n pasid ecc = r := by rfl) :
    Quiet s r.state := by
  subst e
  unfold Machine.performLoad
  split
  · rw [LoadOutcome.state_data]
    exact h.regRead
  · split
    · split
      · next e => exact .ite (h.translateRead e).cacheEvents.loadHost.faultEvent (h.translateRead e).cacheEvents.loadHost
      · next e => exact h.translateRead e
      · next e => exact h.translateRead e
    · split
      · exact h.cacheEvents.markPoison
      · have h1 : Quiet s (if isCached x a then Machine.cacheEvents x ecc (a / 64) else x) := .ite h.cacheEvents h
        split
        · next e => exact h1.busRead e
        · next e => exact h1.busRead e
        · next e => exact h1.busRead e

theorem performStore {a data poison pasid cached r} (h : Quiet s x)
    (e : performStore x a data poison pasid cached = r := by rfl) : Quiet s r.state := by
  subst e
  dsimp only [Machine.performStore]
  split
  · exact h.regWrite
  · split
    · split
      · next e => split; exacts [(h.translate e).storeL2, (h.translate e).storeIo]
      · next e => exact h.translate e
      · next e => exact h.translate e
    · split
      · next e => exact (h.busWrite e).markStored.noteRingStore
      · next e => exact h.busWrite e
      · next e => exact h.busWrite e

theorem drainGo {kept rest} (h : Quiet s x) : Quiet s (drainGo kept rest x) := by
  induction rest generalizing x kept with
  | nil => exact h.setTurner
  | cons a rest ih =>
    dsimp only [Machine.drainGo]
    split
    · exact h.setTurner
    · exact ih h
    · exact h.setTurner
    · split
      · next e => exact ih (h.performStore e).setTurner
      · next e => exact (h.performStore e).setTurner
      · next e => exact (h.performStore e).setTurner

theorem drainStores (h : Quiet s x) : Quiet s (drainStores x) := h.drainGo

theorem dropStore (h : Quiet s x) : Quiet s (dropStore x) := h.setTurner

theorem takeAsync {r} (h : Quiet s x) (e : takeAsync x = r := by rfl) : Quiet s (r.getD x) := by
  subst e
  dsimp only [Machine.takeAsync]
  split
  · split
    · exact h
    · exact h.dropStore.takeException
  · split
    · split
      · exact h
      · split
        · exact h
        · exact h.setLattice.takeException
    · exact h

theorem goto {pc} (h : Quiet s x) : Quiet s (goto x pc) := h.setTurner

theorem advance (h : Quiet s x) : Quiet s (advance x) := h.goto

theorem fetchCheck {r} (h : Quiet s x) (e : fetchCheck x = r := by rfl) : Quiet s r.state := by
  subst e
  dsimp only [Machine.fetchCheck]
  split
  · exact h
  · split
    · exact h
    · split
      · split
        · next e => exact h.translate e
        · next e => exact h.translate e
        · next e => exact h.translate e
      · split
        · next e => exact h.busRead e
        · next e => exact h.busRead e
        · next e => exact h.busRead e

theorem turnerRun {reads writes decode} {body : State → TRes} (h : Quiet s x)
    (hb : ∀ y, Quiet s y → Quiet s (body y).state) : Quiet s (turnerRun x reads writes decode body) := by
  dsimp only [Machine.turnerRun]
  refine .ite h ?_
  split
  · next e => exact (h.drainStores.takeAsync e)
  · split
    · next e => exact (h.drainStores.fetchCheck e).takeException
    · next e => exact h.drainStores.fetchCheck e
    · next s1 e =>
      have h1 : Quiet s s1 := h.drainStores.fetchCheck e
      split
      · exact h1.takeException
      · refine .ite h1 ?_
        split
        · exact h1.takeException
        · have h2 := hb s1 h1
          split
          · next e => rw [e] at h2; exact h2.takeException
          · next e => rw [e] at h2; exact h2
          · next s2 n e =>
            rw [e] at h2
            exact .ite h1 (.ite h2.passTime h2)

theorem pushLoad {rd a k pasid cached result} (h : Quiet s x) : Quiet s (pushLoad x rd a k pasid cached result) := h.setTurner

theorem commitLoad {rd a k late ecc x' r} (h : Quiet s x) (e : commitLoad x rd a k late ecc x' = r :=
  by rfl) : Quiet s (r.state) := by
  subst e
  dsimp only [Machine.commitLoad]
  split
  · exact h
  · split
    · split
      · exact h
      · split
        · exact h
        · exact h.pushLoad
    · split
      · next e =>
        split
        · exact h
        · split
          · exact (h.performLoad e)
          · exact (h.performLoad e).pushLoad
      · next e =>
        split
        · exact (h.performLoad e).pushLoad
        · exact (h.performLoad e)
      · next e =>
        split
        · exact (h.performLoad e).pushLoad
        · split
          · exact (h.performLoad e)
          · exact ((h.performLoad e).setTurner).advance

theorem commitStore {a data poison slot sBank cycles r} (h : Quiet s x) (e :
    commitStore x a data poison slot sBank cycles = r :=
  by rfl) : Quiet s (r.state) := by
  subst e
  dsimp only [Machine.commitStore]
  exact .drainStores (by split; exacts [h.setTurner, (by split; exacts [h.setTurner, .ite h.setTurner.setOp h.setTurner])])

theorem loadRun {rd ra seg k disp kind late ecc} (h : Quiet s x) : Quiet s (loadRun x rd ra seg k disp kind late ecc) :=
  h.turnerRun fun y h => by
    have h1 : Quiet s ((ecc.filter fun e => decide (e.unit = .l1i)).foldl Machine.cacheEvent y) :=
      .foldl (fun _ _ h => h.cacheEvent) _ h
    dsimp only
    split
    · exact h1
    · exact h1.setTurner.advance
    · exact h1.commitLoad

theorem storeRun {rs ra seg k disp n} (h : Quiet s x) : Quiet s (storeRun x rs ra seg k disp n) :=
  h.turnerRun fun y h => by
    dsimp only
    split
    · exact h
    · exact h.setTurner.advance
    · exact h.commitStore

/-! ### Operations of the file Resets -/

theorem stopCore (h : Quiet s x) : Quiet s (stopCore x) := by
  have h1 : Quiet s (Machine.drainStores (if x.turner.mode = .halted then (Machine.countHalt x).2 else x)) :=
    .drainStores (h.onlyIf (·.countHalt))
  exact .postDone (.coreReset (.onlyIf (.ite h1.writeBackHostLines h1.setLink) (·.setTurner)))

theorem abortOps (h : Quiet s x) : Quiet s (abortOps x) := .settle (.foldl (fun _ _ h => .ite h h.decideOp) _ h)

theorem writeFitting {cr n} (h : Quiet s x) : Quiet s (writeFitting cr n x) := by
  induction n generalizing x with
  | zero => exact h
  | succ n ih => exact ih h.writeOldest

theorem writeAllFitting (h : Quiet s x) : Quiet s (writeAllFitting x) :=
  .ite (.foldl (fun _ _ h => h.writeFitting) _ h.writePendingLines) h

theorem clearRegisters (h : Quiet s x) : Quiet s (clearRegisters x) :=
  h.setTurner.setQueue.setScale.setFinish.setSpindle.setDev.setLink.setMgmt

theorem toWarm (h : Quiet s x) : Quiet s (toWarm x) := h.setPower.setClocks

theorem functionReset (h : Quiet s x) : Quiet s (functionReset x) :=
  h.endScans.stopCore.abortOps.setCache.settleLog.writeAllFitting.clearRegisters.toWarm

theorem onConfig {f} (h : Quiet s x) (hf : ∀ y, Quiet s y → Quiet s (f y)) : Quiet s (onConfig x f) :=
  h.onLink fun _ h => .ite h.sendHost (hf _ h)

theorem loseLink (h : Quiet s x) : Quiet s (loseLink x) := h.setLink.functionReset

theorem applyImage (h : Quiet s x) : Quiet s (applyImage x) := h.setPower.setLink

theorem perstReset (h : Quiet s x) : Quiet s (perstReset x) := .ite h.setLink h.functionReset.setLink.applyImage.setPower

theorem completeStart (h : Quiet s x) : Quiet s (completeStart x) := .ite h.setPower.toWarm h

theorem linkTrained {x'} (h : Quiet s x) : Quiet s (linkTrained x x') :=
  .ite h <| .ite h.setLink.completeStart.sendPendingVectors.retryHome <| .faultEvent (.setLink (.ite h.loseLink h))

/-! ### Operations of the file Power -/

theorem tornCommand {a w c} (h : Quiet s x) : Quiet s (tornCommand x a w c) := by
  dsimp only [Machine.tornCommand]
  split
  · exact h
  · exact h.writeMedia.tookFree

theorem tearWrites (h : Quiet s x) : Quiet s (tearWrites x) := by
  dsimp only [Machine.tearWrites]
  split
  · exact h
  · exact .foldl (fun _ _ h => (by split; exacts [.ite h.tornCommand h, h])) _ h

theorem loseUnflushed (h : Quiet s x) : Quiet s (loseUnflushed x) :=
  .foldl (fun _ _ h => (by split; exacts [h, .flushDrive (.foldl (fun _ _ h => h.onDrive.tookFree) _ h)])) _ h

theorem shedCompute (h : Quiet s x) : Quiet s (shedCompute x) :=
  h.tearWrites.loseUnflushed.setCache.setFaults.setLink.setMgmt.setPower

theorem toRetention (h : Quiet s x) : Quiet s (toRetention x) := h.setPower.setClocks

theorem gaugeOnLoss (h : Quiet s x) : Quiet s (gaugeOnLoss x) := h.setGauge.driveCharger

theorem endDischarge {eepromOk} (h : Quiet s x) : Quiet s (endDischarge x eepromOk) := by
  dsimp only [Machine.endDischarge]
  split
  · exact h.setGauge
  · exact h

theorem retireAtStart {a} (h : Quiet s x) : Quiet s (retireAtStart x a) := .ite h.faultEvent.setPower h.faultAction.setFaults

theorem reportHbm (h : Quiet s x) : Quiet s (reportHbm x) := .ite h.writeFfr.pldmEvent h

theorem afterNotice (h : Quiet s x) : Quiet s (afterNotice x) := .ite h h.applyImage.setLink.setKeep.keepStart

theorem resetNotice {m} (h : Quiet s x) : Quiet s (resetNotice x m) := .ite h.takeNotice h.takeNotice.afterNotice

theorem completeDump {eepromOk} (h : Quiet s x) : Quiet s (completeDump x eepromOk) :=
  .ite (.endDischarge (.ite h.beginDump.sealVault.logCrumb h.beginDump)) h

/-! ### Operations of the file Sideband -/

theorem sideSend {kind data} (h : Quiet s x) : Quiet s (sideSend x kind data) := h.setMgmt

theorem onControl {f} (h : Quiet s x) (hf : ∀ y, Quiet s y → Quiet s (f y)) : Quiet s (onControl x f) := .ite (hf _ h) h

theorem onService {update f} (h : Quiet s x) (hf : ∀ y, Quiet s y → Quiet s (f y)) : Quiet s (onService x update f) :=
  .ite (hf _ h) h

theorem pldm5 {cmd code} (h : Quiet s x) : Quiet s (pldm5 x cmd code) := h.sideSend

theorem requestUpdate (h : Quiet s x) : Quiet s (requestUpdate x) := .ite h.pldm5 h.setFirmware.pldm5

theorem passComponentTable (h : Quiet s x) : Quiet s (passComponentTable x) := .ite h.setFirmware.pldm5 h.pldm5

theorem updateComponent (h : Quiet s x) : Quiet s (updateComponent x) := .ite h.setFirmware.pldm5 h.pldm5

theorem verifyAndApply (h : Quiet s x) : Quiet s (verifyAndApply x) := by
  dsimp only [Machine.verifyAndApply]
  split
  · exact h.pldm5.pldm5
  · exact h.pldm5.setFirmware.pldm5.pldm5

theorem firmwareData {offset data} (h : Quiet s x) : Quiet s (firmwareData x offset data) :=
  .ite h <| .ite h.setFirmware.setJiman.verifyAndApply h.setFirmware.setJiman

theorem cancelUpdate (h : Quiet s x) : Quiet s (cancelUpdate x) := .ite h.pldm5 h.setFirmware.pldm5

theorem spdmAnswer {r} (h : Quiet s x) : Quiet s (spdmAnswer x r).1 := by
  dsimp only [Machine.spdmAnswer]
  split
  · exact h.setMgmt
  · exact .fst_ite h.setMgmt h
  · exact .fst_ite h.setMgmt h
  · exact .fst_ite h.tookFree h
  · exact .fst_ite h.tookFree h
  · exact .fst_ite h.tookFree h
  · exact .fst_ite h.tookFree h

theorem spdmSide {r} (h : Quiet s x) : Quiet s (spdmSide x r) := h.spdmAnswer.sideSend

theorem receiveDoe {last m} (h : Quiet s x) : Quiet s (receiveDoe last x m) := by
  dsimp only [Machine.receiveDoe]
  refine .ite h.setMgmt ?_
  split
  · exact h.setMgmt.spdmAnswer.setMgmt
  · exact h.setMgmt.setMgmt

theorem settingsWrite {keepOn bar4 window smbus} (h : Quiet s x) : Quiet s (settingsWrite x keepOn bar4 window smbus) :=
  .ite h.setFirmware.sideSend h.sideSend

/-! ### Operations of the file Turner -/

theorem aluRun {reads rd cycles f} (h : Quiet s x) : Quiet s (aluRun x reads rd cycles f) :=
  h.turnerRun fun _ h => h.setTurner.advance

theorem alu3 {rd ra rb cycles f} (h : Quiet s x) : Quiet s (alu3 x rd ra rb cycles f) := h.aluRun

theorem mulRun {rd ra rb cycles f} (h : Quiet s x) : Quiet s (mulRun x rd ra rb cycles f) :=
  h.turnerRun fun y h => by
    dsimp only
    split
    · exact h
    · exact h.setTurner.advance

theorem alu2 {rd ra f} (h : Quiet s x) : Quiet s (alu2 x rd ra f) := h.aluRun

theorem shiftImm {rd ra n w kind f} (h : Quiet s x) : Quiet s (shiftImm x rd ra n w kind f) :=
  h.turnerRun fun _ h => show Quiet s (TRes.state (.next _ _)) from h.setTurner.advance

theorem branchRun {reads off taken} (h : Quiet s x) : Quiet s (branchRun x reads off taken) :=
  h.turnerRun fun y h => by
    split
    · exact h.goto
    · exact h.advance

theorem cb {ra rb off c} (h : Quiet s x) : Quiet s (cb x ra rb off c) := h.branchRun

theorem cbi {ra imm off c} (h : Quiet s x) : Quiet s (cbi x ra imm off c) := h.branchRun

theorem callRun {reads target} (h : Quiet s x) : Quiet s (callRun x reads target) :=
  h.turnerRun fun y h => by
    dsimp only
    split
    · exact h
    · exact h.setTurner

/-! ### Operations of the file TurnerSys -/

theorem sysStore {sel v} (h : Quiet s x) : Quiet s (sysStore x sel v) := by
  dsimp only [Machine.sysStore]
  split
  · exact h.setTurner
  · split
    · exact h.setTurner
    · exact h.setTurner
    · exact h.setTurner
    · exact h.setTurner
    · exact h.setTurner
    · split
      · exact h.setTurner
      · exact h.setTurner.setTurner
    · exact h.setTurner
    · exact h.setTurner
    · split
      · exact h.setTurner
      · exact h
    · exact h.setTurner
    · exact h.setTurner
    · exact h

theorem performAt {i ecc} (h : Quiet s x) : Quiet s (performAt x i ecc).2 := by
  dsimp only [Machine.performAt]
  split
  · exact h
  · split
    · split
      · next e1 => exact (h.performLoad e1)
      · next e1 => exact (h.performLoad e1)
      · next e1 => exact (h.performLoad e1)
    · exact h
  · exact h

/-! ### Operations of the file TurnerTile -/

theorem tileRun {word ra rb rc} (h : Quiet s x) : Quiet s (tileRun x word ra rb rc) :=
  h.turnerRun fun y h => by
    dsimp only
    split
    · exact h
    · split
      · exact h
      · exact h.setLattice.advance

/-! ### Commands of the file Rings -/

theorem execForwardScan {ring} (h : Quiet s x) : Leads (Quiet s) (execForwardScan ring x) := by
  dsimp only [Machine.execForwardScan, Leads]
  split
  · exact h
  · exact .ite h.scanSlots h

theorem execRingReadReturn {ring failed} (h : Quiet s x) : Leads (Quiet s) (execRingReadReturn ring failed x) := by
  dsimp only [Machine.execRingReadReturn, Leads]
  split
  · exact h
  · split
    · exact h
    · refine .settleInvalidations (.ite h.faultEvent.stopRing ?_)
      split
      · next e => exact (h.busReadAll e).scanData
      · next e => exact h.busReadAll e
      · next e => exact (h.busReadAll e).stopRing

theorem execRingCreate {k} (h : Quiet s x) : Leads (Quiet s) (execRingCreate k x) :=
  h.runOp (fun _ _ hy => .ite (.ite hy.finishOp hy.setSr.finishOp) (.ite hy.finishOp hy.setCr.finishOp))

theorem execRingDelete {k} (h : Quiet s x) : Leads (Quiet s) (execRingDelete k x) :=
  .ite h <| h.runOp (fun _ _ hy => .ite hy.resetRing (.ite hy.finishOp (.ite hy.finishOp hy.setCr.finishOp)))

/-! ### Commands of the file Data -/

theorem execHistogramRead {k} (h : Quiet s x) : Leads (Quiet s) (execHistogramRead k x) := by
  refine h.runOp fun y o hy => ?_
  have hw := hy.busWriteAll (ag := moverAgent y o []) (a := fld o.desc 16 8)
    (data := histRecord y (fld o.desc 8 1) (decide (fld o.desc 9 1 = 1)))
  dsimp only
  split
  · next e => rw [e] at hw; exact .endRun (.ite hw.clearHist hw)
  · next e => rw [e] at hw; exact hw.saveOp
  · next e => rw [e] at hw; exact .endRun (.ite hw.clearHist hw)

/-! ### Commands of the file Admin -/

theorem execFwStage {k ecc} (h : Quiet s x) : Leads (Quiet s) (execFwStage k ecc x) := by
  dsimp only [Machine.execFwStage, Leads]
  exact h.runOp (fun _ _ hy => by
      split
      · next e5 => exact (hy.stageRead e5).passOp
      · next e5 => exact (hy.stageRead e5)
      · next e5 => exact (hy.stageRead e5).stageFault)

/-! ### Commands of the file Lattice -/

theorem execTileIssue {ecc tecc} (h : Quiet s x) : Leads (Quiet s) (execTileIssue ecc tecc x) := by
  dsimp only [Machine.execTileIssue]
  split
  · exact h
  · split
    · exact h
    · split
      · exact h.setLattice
      · split
        · exact h.setLattice
        · exact h
      · split
        · exact h.issueTile
        · exact h

theorem execTileInstructionComplete {j} (h : Quiet s x) : Leads (Quiet s) (execTileInstructionComplete j x) := by
  dsimp only [Machine.execTileInstructionComplete]
  split
  · exact h
  · split
    · exact h
    · split
      · exact h.writeRows.endTile.setFlight
      · exact h.writeRows.setFlight

/-! ### Commands of the file Spindle -/

theorem execSpindleCommandComplete {ecc tecc} (h : Quiet s x) : Leads (Quiet s) (execSpindleCommandComplete ecc tecc x) :=
  .ite (h.readHead fun _ hy => hy) (by split; exacts [h, .ite h.endCommand h])

/-! ### Commands of the file Runtime -/

theorem execSegmentSet {k} (h : Quiet s x) : Leads (Quiet s) (execSegmentSet k x) := by
  dsimp only [Machine.execSegmentSet, Leads]
  split
  · exact h
  · exact .ite h (h.runOp (fun _ _ hy => hy.setTurner.finishOp))

/-! ### Commands of the file ScaleOut -/

theorem execWait {k ecc} (h : Quiet s x) : Leads (Quiet s) (execWait k ecc x) := by
  dsimp only [Machine.execWait, Leads]
  split
  · exact h
  · split
    · exact h
    · split
      · exact h
      · split
        · next e2 => exact (h.busRead e2)
        · next e2 => exact (h.busRead e2).finishOp
        · next e2 => exact .ite ((h.busRead e2).satisfyWait) ((h.busRead e2).setOp)

theorem execSignal {k ecc} (h : Quiet s x) : Leads (Quiet s) (execSignal k ecc x) :=
  h.runOp (fun _ _ hy => (by split; exacts [hy.refuseAccess, hy.saveOp.signalAdd]))

theorem execRelay {k} (h : Quiet s x) : Leads (Quiet s) (execRelay k x) :=
  h.runOp (fun _ _ hy => (by split; exacts [hy.relayWrite, .ite hy.refuseAccess (.ite hy.refuseAccess hy.saveOp.relayWrite)]))

theorem execCounterSet {k} (h : Quiet s x) : Leads (Quiet s) (execCounterSet k x) := by
  dsimp only [Machine.execCounterSet, Leads]
  exact h.runOp (fun _ _ hy => by
      split
      · exact .ite hy.finishOp hy.deregisterCounter.finishOp
      · split
        · exact hy.finishOp
        · split
          · exact hy.refuseAccess
          · split
            · exact hy.registerCounter.finishOp
            · split
              · next e5 => exact (hy.registerCounter.busWrite e5).finishOp
              · next e5 => exact (hy.registerCounter.busWrite e5).setScale
              · next e5 => exact (hy.registerCounter.busWrite e5).finishOp)

/-! ### Commands of the file HostLink -/

theorem execAtomicop {bar4 offset op is64 ecc} (h : Quiet s x) : Leads (Quiet s) (execAtomicop bar4 offset op is64 ecc x) := by
  dsimp only [Machine.execAtomicop, Leads]
  exact h.onLink (fun _ hy => by
      exact .ite hy.faultEvent.aerUncorrectable (.ite hy.refuseNonPosted (by split; exacts [hy.submit, hy.refuseNonPosted])))

theorem execBackInvalidateTimeout {line} (h : Quiet s x) : Leads (Quiet s) (execBackInvalidateTimeout line x) :=
  h.onLink (fun _ hy => .ite hy.markPoison.hostRequestError.aerUncorrectable.biEnds hy)

theorem execHostSnoop {line bad} (h : Quiet s x) : Leads (Quiet s) (execHostSnoop line bad x) := by
  refine h.onLink fun y hy => ?_
  split
  · exact hy.sendHost
  · exact .ite hy.setLink.sendHost (.ite hy.setLink.faultEvent.sendHost hy.setLink.setHost.sendHost)

theorem execTranslationCompletion {pasid page result} (h : Quiet s x) :
    Leads (Quiet s) (execTranslationCompletion pasid page result x) :=
  h.onLink (fun _ hy => (by split; exacts [hy, (by split; exacts [.ite hy.setLink hy.setLink, hy.setLink])]))

theorem execLinkError {e} (h : Quiet s x) : Leads (Quiet s) (execLinkError e x) := by
  refine h.onLink fun y hy => ?_
  split
  · exact hy.onlyIf (·.symbolError)
  · exact hy.linkRetry
  · exact hy.linkRetry
  · exact hy.linkRetry
  · exact hy.bar4Write
  · exact hy.hostRequestError.aerUncorrectable.setLink
  · exact .ite hy hy.devReadFails.aerUncorrectable
  · exact .ite hy hy.devReadFails.aerUncorrectable
  · exact hy.dropPosted
  · exact hy.refuseNonPosted
  · exact hy.faultEvent.aerUncorrectable
  · exact hy.faultEvent.aerUncorrectable
  · exact hy.faultEvent.aerUncorrectable

/-! ### Commands of the file Keep -/

theorem execDestageStripeStart {ecc} (h : Quiet s x) : Leads (Quiet s) (execDestageStripeStart ecc x) := by
  dsimp only [Machine.execDestageStripeStart, Leads]
  split
  · split
    · exact h
    · exact .ite h.setKeep (.ite h.lockStripe h)
  · exact h

theorem execStripeLockGrant {ecc} (h : Quiet s x) : Leads (Quiet s) (execStripeLockGrant ecc x) := by
  dsimp only [Machine.execStripeLockGrant, Leads]
  split
  · split
    · exact h
    · exact .ite h.lockStripe h
  · exact h

theorem execStripeReadsComplete {reads} (h : Quiet s x) : Leads (Quiet s) (execStripeReadsComplete reads x) := by
  dsimp only [Machine.execStripeReadsComplete, Leads]
  split
  · exact .ite h (by split; exacts [h.readErrors.failStripe, .ite h.readErrors.issueWrites h.readErrors])
  · exact h

theorem execStripeWritesComplete {lock} (h : Quiet s x) : Leads (Quiet s) (execStripeWritesComplete lock x) := by
  dsimp only [Machine.execStripeWritesComplete, Leads]
  split
  · exact .ite h.endStripe h
  · exact h

theorem execDriveCommandCompletion {work member error} (h : Quiet s x) :
    Leads (Quiet s) (execDriveCommandCompletion work member error x) := by
  dsimp only [Machine.execDriveCommandCompletion, Leads]
  split
  · exact h
  · refine .ite h ?_
    split
    · exact h.onlyIf (·.failMember)
    · split
      · exact .ite h.failMember (.setWrite (h.onlyIf (·.writePosition)))
      · exact h

theorem execDriveCommandTimeout {work member} (h : Quiet s x) : Leads (Quiet s) (execDriveCommandTimeout work member x) := by
  dsimp only [Machine.execDriveCommandTimeout, Leads]
  split
  · exact .ite h.failMember h
  · exact h

theorem execDriveLinkReturn {port found} (h : Quiet s x) : Leads (Quiet s) (execDriveLinkReturn port found x) := by
  dsimp only [Machine.execDriveLinkReturn, Leads]
  split
  · exact h
  · exact .ite h (.ite h.setPort h.setPort.failPort)

theorem execUnrecoveredReadError {port stripe off len others} (h : Quiet s x) :
    Leads (Quiet s) (execUnrecoveredReadError port stripe off len others x) := by
  dsimp only [Machine.execUnrecoveredReadError, Leads]
  split
  · exact .ite h.readErrors h
  · exact h

theorem execRebuildAutoStart (h : Quiet s x) : Leads (Quiet s) (execRebuildAutoStart x) := by
  dsimp only [Machine.execRebuildAutoStart, Leads]
  split
  · split
    · exact .ite h h.startRebuild
    · exact h
  · exact h

theorem execRebuildStep {run} (h : Quiet s x) : Leads (Quiet s) (execRebuildStep run x) := by
  dsimp only [Machine.execRebuildStep, Leads]
  split
  · exact h.startReadd
  · split
    · exact h.startReadd
    · exact .ite h.startReadd h.startReadd.rebuildStep

theorem execResyncStep {bad} (h : Quiet s x) : Leads (Quiet s) (execResyncStep bad x) := by
  dsimp only [Machine.execResyncStep, Leads]
  split
  · exact h
  · split
    · exact h
    · split
      · exact h
      · split
        · exact h
        · split
          · exact h.resyncStripe.setRegion
          · exact h.resyncStripe.setRegion.setArray.endResync

theorem execPatrolScrubStep {bad} (h : Quiet s x) : Leads (Quiet s) (execPatrolScrubStep bad x) := by
  dsimp only [Machine.execPatrolScrubStep, Leads]
  split
  · exact h
  · exact .ite h (.ite h.scrubStripe.setKeep h.scrubStripe.setKeep)

theorem execBitmapClearBatch (h : Quiet s x) : Leads (Quiet s) (execBitmapClearBatch x) := by
  dsimp only [Machine.execBitmapClearBatch, Leads]
  split
  · exact h
  · split
    · exact h
    · split
      · exact h.flushPorts
      · split
        · exact h.flushPorts
        · exact .foldl (fun _ _ h => h.writeBitmapBlock) _ h.flushPorts.setKeep

theorem execPortTestEnd {lock errors0 errors1 tenths} (h : Quiet s x) :
    Leads (Quiet s) (execPortTestEnd lock errors0 errors1 tenths x) := by
  dsimp only [Machine.execPortTestEnd, Leads]
  split
  · exact h
  · exact .ite h (.nextPortTest (.ite h.setPort.setKeep h.setPort.setKeep.faultAction))

/-! ### Commands of the file Vault -/

theorem execVaultDiscard {k} (h : Quiet s x) : Leads (Quiet s) (execVaultDiscard k x) := by
  refine h.runOp fun y o hy => ?_
  have h1 := (hy.setCache (v := { appendRecord y.cache y.cache.imageArea .discarded with discarded := true })).setImage
    (v := .none)
  refine .ite (.completeOp (.ite h1.afterAssembly h1.assembleRecorded)) ?_
  split
  · exact .ite (Quiet.completeOp (.settleLog (hy.setCache (by rfl)))) hy.completeOp
  · exact hy.completeOp

theorem execDriveInsertion {port drive} (h : Quiet s x) : Leads (Quiet s) (execDriveInsertion port drive x) :=
  .ite h <| .ite (.ite h h.setPort) <| .ite (.ite h.setPort.setKeep.assembleRecorded h.setPort) h.setPort.queueReadds.startReadd

theorem execVaultReplay (h : Quiet s x) : Leads (Quiet s) (execVaultReplay x) := by
  dsimp only [Machine.execVaultReplay, Leads]
  split
  · exact h
  · exact .ite h (.endReplay (.setCache (.foldl (fun _ _ h => (by split; exacts [h.replayStripe, h])) _ h.restoreImage)))

/-! ### Commands of the file KeepCommands -/

theorem execKeepWrite {k ecc} (h : Quiet s x) : Leads (Quiet s) (execKeepWrite k ecc x) := by
  dsimp only [Machine.execKeepWrite, Leads]
  split
  · exact h
  · split
    · exact h.runOp (fun _ _ hy => hy.keepWriteBody)
    · split
      · exact h
      · split
        · split
          · exact h.completeOp
          · exact h
        · split
          · split
            · exact h.completeOp
            · exact h.runOp (fun _ _ hy => hy.keepWriteBody)
          · split
            · exact h.runOp (fun _ _ hy => hy.keepWriteBody)
            · exact h

theorem execKeepRead {k bad} (h : Quiet s x) : Leads (Quiet s) (execKeepRead k bad x) := by
  dsimp only [Machine.execKeepRead, Leads]
  split
  · exact h
  · refine .ite (h.runKeep fun _ _ hy => hy.keepReadBody) (h.runKeep fun y o hy => ?_)
    split
    · exact hy.completeOp
    · exact hy.saveOp
    · split
      · exact hy.completeOp
      · exact hy.keepReadBody

theorem execKeepCommit {run} (h : Quiet s x) : Leads (Quiet s) (execKeepCommit run x) := by
  dsimp only [Machine.execKeepCommit, Leads]
  exact h.runKeep (fun _ _ hy => by
      split
      · exact hy.completeOp
      · exact hy.saveOp
      · split
        · exact hy.saveOp
        · exact .ite hy.saveOp (.ite hy.saveOp.finishOp (.ite hy.saveOp hy.saveOp.commitHalf)))

theorem execKeepScrub {k bad} (h : Quiet s x) : Leads (Quiet s) (execKeepScrub k bad x) := by
  dsimp only [Machine.execKeepScrub, Leads]
  split
  · exact h
  · exact .ite (h.runKeep (fun _ _ hy => hy.scrubBody)) <|
        h.runKeep (fun _ _ hy => (by split; exacts [hy.completeOp, .ite hy.completeOp (.ite hy.completeOp hy.scrubBody)]))

theorem execArrayCreate {run} (h : Quiet s x) : Leads (Quiet s) (execArrayCreate run x) := by
  refine h.runOp fun y o hy => ?_
  exact .ite (.ite hy.saveOp.completeOp hy.saveOp) <| .ite hy.completeOp <| .ite hy.completeOp <|
    .ite hy.buildArray.completeOp <| .ite hy.buildArray.completeOp hy.buildArray.saveOp

theorem execArrayImport {k} (h : Quiet s x) : Leads (Quiet s) (execArrayImport k x) := by
  refine h.runOp fun y o hy => .ite hy.detachArray (.ite hy.completeOp ?_)
  split
  · exact hy.completeOp
  · split
    · exact hy.completeOp
    · exact .ite hy.completeOp hy.takeArray.recordUuid.afterAssembly.completeOp

theorem execMemberReplace {k} (h : Quiet s x) : Leads (Quiet s) (execMemberReplace k x) := by
  refine h.runOp fun y o hy0 => ?_
  have hy := hy0.unlockPort (q := fld o.desc 9 1)
  dsimp only
  split
  · exact hy.completeOp
  · refine .ite hy.saveOp (.ite hy.completeOp ?_)
    split
    · exact hy.completeOp
    · refine .ite hy.completeOp (.ite hy.completeOp ?_)
      split
      · exact .completeOp (.markFailed (hy.onlyIf (·.countDropout)))
      · refine .ite (.completeOp (.markFailed ?_)) (.completeOp (.startRebuild (.markFailed ?_)))
        · exact hy.onlyIf (·.countDropout)
        · exact hy.onlyIf (·.countDropout)

theorem execSlotDefine {k} (h : Quiet s x) : Leads (Quiet s) (execSlotDefine k x) := by
  dsimp only [Machine.execSlotDefine, Leads]
  exact h.runOp (fun _ _ hy => by
      split
      · exact hy.completeOp
      · split
        · exact hy.saveOp
        · split
          · split
            · exact hy.completeOp
            · exact .ite hy.completeOp hy.writeSlot.completeOp
          · split
            · exact hy.completeOp
            · split
              · exact hy.completeOp
              · next e6 => exact (hy.defineSlot e6).completeOp)

theorem execSpareAdd {k} (h : Quiet s x) : Leads (Quiet s) (execSpareAdd k x) := by
  refine h.runOp fun y o hy0 => ?_
  have hy := hy0.unlockPort (q := fld o.desc 8 1)
  dsimp only
  split
  · exact hy.completeOp
  · refine .ite hy.saveOp ?_
    split
    · exact hy.completeOp
    · exact .ite hy.completeOp <| .ite hy.writeMedia.setKeep.completeOp <| .ite hy.completeOp
        hy.setKeep.writeSuperblocks.completeOp

/-! ### Commands of the file Management -/

theorem execMbxData {toJiman} (h : Quiet s x) : Leads (Quiet s) (execMbxData toJiman x) :=
  .ite (h.deliverToMg (fun _ _ hy => hy.receiveData)) <| h.withToDp (fun _ _ hy => hy.takeData)

/-! ### Commands of the file Resets -/

theorem execPowerStateWrite {d3hot} (h : Quiet s x) : Leads (Quiet s) (execPowerStateWrite d3hot x) :=
  h.onConfig (fun _ hy => .ite hy.setLink.functionReset.retryHome hy.setLink)

theorem execPerstN (h : Quiet s x) : Leads (Quiet s) (execPerstN x) :=
  .ite h.setLink <| .ite h.setLink.perstReset <| .ite h.setLink.setLink h.setLink

/-! ### Commands of the file Power -/

theorem execVaultSeal {eepromOk} (h : Quiet s x) : Leads (Quiet s) (execVaultSeal eepromOk x) :=
  .ite (.ite h.sealVault.logCrumb h.sealVault.logCrumb.endDischarge.toRetention) h

theorem execHbmRowRetirement {stack lost fails} (h : Quiet s x) :
    Leads (Quiet s) (execHbmRowRetirement stack lost fails x) := by
  dsimp only [Machine.execHbmRowRetirement, Leads]
  split
  · exact h
  · exact .ite h <| .ite (.setFaults (.faultEvent (.foldl (fun _ _ h => h.eccEvent) _ h))) <|
        .setFaults (.foldl (fun _ _ h => h.eccEvent) _ h)

/-! ### Commands of the file Sideband -/

theorem execDoeSpdm {fragment last} (h : Quiet s x) : Leads (Quiet s) (execDoeSpdm fragment last x) := by
  dsimp only [Machine.execDoeSpdm]
  split
  · exact .ite (h.setMgmt.deliverToMg (fun _ _ hy => hy.receiveDoe)) h
  · exact h.withToDp (fun _ _ hy => hy.dpTake)

/-! ### Commands of the file Turner -/

theorem execJ {off} (h : Quiet s x) : Leads (Quiet s) (execJ off x) := by
  dsimp only [Machine.execJ, Leads]
  exact h.turnerRun (fun _ hy => by
      exact hy.goto)

theorem execJr {ra} (h : Quiet s x) : Leads (Quiet s) (execJr ra x) := by
  dsimp only [Machine.execJr, Leads]
  exact h.turnerRun (fun _ hy => by
      exact hy.goto)

theorem execRet (h : Quiet s x) : Leads (Quiet s) (execRet x) := by
  dsimp only [Machine.execRet, Leads]
  exact h.turnerRun (fun _ hy => by
      split
      · exact hy
      · split
        · exact hy
        · exact hy.setTurner)

theorem execWrlk {ra} (h : Quiet s x) : Leads (Quiet s) (execWrlk ra x) := by
  dsimp only [Machine.execWrlk, Leads]
  exact h.turnerRun (fun _ hy => by
      exact hy.setTurner.advance)

/-! ### Commands of the file TurnerSys -/

theorem execKernel {k} (h : Quiet s x) : Leads (Quiet s) (execKernel k x) := by
  dsimp only [Machine.execKernel, Leads]
  split
  · exact h
  · split
    · exact h
    · split
      · exact h
      · split
        · exact h.closeOp
        · split
          · exact h.drainStores.postDone
          · exact h
      · split
        · exact h
        · split
          · exact h.finishOp
          · exact h.raiseKernelBits

theorem execTurnerNop (h : Quiet s x) : Leads (Quiet s) (execTurnerNop x) := by
  dsimp only [Machine.execTurnerNop, Leads]
  exact h.turnerRun (fun _ hy => by
      exact hy.advance)

theorem execTrap {code} (h : Quiet s x) : Leads (Quiet s) (execTrap code x) := by
  dsimp only [Machine.execTrap, Leads]
  exact h.turnerRun (fun _ hy => by
      exact hy)

theorem execTBreak (h : Quiet s x) : Leads (Quiet s) (execTBreak x) := by
  dsimp only [Machine.execTBreak, Leads]
  exact h.turnerRun (fun _ hy => by
      exact hy)

theorem execEret (h : Quiet s x) : Leads (Quiet s) (execEret x) := by
  dsimp only [Machine.execEret, Leads]
  exact h.turnerRun (fun _ hy => by
      exact hy.setTurner)

theorem execEretX (h : Quiet s x) : Leads (Quiet s) (execEretX x) := by
  dsimp only [Machine.execEretX, Leads]
  exact h.turnerRun (fun _ hy => by
      exact hy.setTurner)

theorem execEretL (h : Quiet s x) : Leads (Quiet s) (execEretL x) := by
  dsimp only [Machine.execEretL, Leads]
  exact h.turnerRun (fun _ hy => by
      split
      · exact hy.advance
      · split
        · exact hy
        · exact hy.launchKernel)

theorem execSync (h : Quiet s x) : Leads (Quiet s) (execSync x) := by
  dsimp only [Machine.execSync, Leads]
  exact h.turnerRun (fun _ hy => by
      split
      · exact hy.advance
      · exact hy)

theorem execIsync (h : Quiet s x) : Leads (Quiet s) (execIsync x) := by
  dsimp only [Machine.execIsync, Leads]
  exact h.turnerRun (fun _ hy => by
      exact hy.setTurner.advance)

theorem execMfs {rd sel} (h : Quiet s x) : Leads (Quiet s) (execMfs rd sel x) := by
  dsimp only [Machine.execMfs, Leads]
  exact h.turnerRun (fun _ hy => by
      split
      · split
        · exact hy
        · exact hy.commitLoad
      · exact hy.setTurner.advance)

theorem execMts {sel ra} (h : Quiet s x) : Leads (Quiet s) (execMts sel ra x) := by
  dsimp only [Machine.execMts, Leads]
  exact h.turnerRun (fun _ hy => by
      split
      · split
        · exact hy
        · exact hy.commitStore
      · exact hy.sysStore.advance)

theorem execInterruptEntry (h : Quiet s x) : Leads (Quiet s) (execInterruptEntry x) := by
  dsimp only [Machine.execInterruptEntry, Leads]
  split
  · exact h
  · split
    · next e => exact (h.drainStores.takeAsync e)
    · split
      · exact h.drainStores
      · exact h.drainStores.takeException

theorem execLoadCompletion {i ecc} (h : Quiet s x) : Leads (Quiet s) (execLoadCompletion i ecc x) := by
  have h1 := h.drainStores.performAt (i := i) (ecc := ecc)
  dsimp only [Machine.execLoadCompletion, Leads]
  split
  · exact h
  · split
    · next e => rw [e] at h1; exact h1
    · next e =>
      rw [e] at h1
      split
      · exact h1.setTurner.settleInvalidations.postDone
      · exact h1

theorem execHaltWritebackComplete (h : Quiet s x) : Leads (Quiet s) (execHaltWritebackComplete x) := by
  refine .ite h ?_
  have h1 : Quiet s (if (failedStore (Machine.drainStores x).turner.accesses).isSome then
      Machine.dropStore (Machine.drainStores x) else Machine.drainStores x) := h.drainStores.onlyIf (·.dropStore)
  have h2 := h1.writeBackHostLines.failKernels.postDone.countHalt
  exact .ite h1 (.ite h2 h2.coreReset.setTurner)

theorem execBudgetExceeded (h : Quiet s x) : Leads (Quiet s) (execBudgetExceeded x) := by
  dsimp only [Machine.execBudgetExceeded, Leads]
  split
  · exact h
  · exact .ite h.setTurner h

theorem execIllegalOpcode {word} (h : Quiet s x) : Leads (Quiet s) (execIllegalOpcode word x) := by
  dsimp only [Machine.execIllegalOpcode, Leads]
  exact .ite (h.turnerRun (fun _ hy => by
      exact hy)) h

/-! ### Commands of the file TurnerTile -/

theorem execTbar {ports} (h : Quiet s x) : Leads (Quiet s) (execTbar ports x) := by
  dsimp only [Machine.execTbar, Leads]
  exact h.turnerRun (fun _ hy => by
      split
      · exact hy
      · split
        · exact hy
        · exact hy.advance)

theorem execTileAsyncFault {j} (h : Quiet s x) : Leads (Quiet s) (execTileAsyncFault j x) := by
  dsimp only [Machine.execTileAsyncFault, Leads]
  split
  · exact h
  · split
    · exact h
    · exact .ite h (.ite h.raiseTile.takeAsync h.raiseTile)

end Quiet

/-! ### Hold-up assurance in two weaker forms -/

/-- What a fall of HOLD_ASSURE needs: ASSURE is 1 only while it is high, and a lockout keeps the mismatch standing. -/
structure AssuranceShown (s : State) : Prop where
  shown : s.mgmt.assure = true → s.mgmt.holdAssure = true
  locked : s.mgmt.assureLock = true → s.mgmt.mismatch = true

/-- HOLD_ASSURE and ASSURE are low, and a lockout keeps the mismatch standing. -/
structure AssuranceOff (s : State) : Prop where
  low : s.mgmt.holdAssure = false
  hidden : s.mgmt.assure = false
  locked : s.mgmt.assureLock = true → s.mgmt.mismatch = true

theorem AssuranceSound.toShown {s : State} (h : AssuranceSound s) : AssuranceShown s := ⟨h.shown, h.locked⟩

theorem AssuranceOff.toSound {s : State} (h : AssuranceOff s) : AssuranceSound s :=
  ⟨fun e => absurd (h.low.symm.trans e) Bool.false_ne_true, fun e => absurd (h.hidden.symm.trans e) Bool.false_ne_true,
    h.locked⟩

/-- A property of states that depends on nothing but what hold-up assurance reads. -/
def ReadsAssurance (P : State → Prop) : Prop := ∀ {s t : State}, t.assurance = s.assurance → P s → P t

theorem AssuranceShown.reads : ReadsAssurance AssuranceShown := by
  intro s t e h
  simp only [State.assurance, Prod.mk.injEq] at e
  obtain ⟨⟨e1, e2, e3, e4, -⟩, -⟩ := e
  exact ⟨by rw [e1, e2]; exact h.shown, by rw [e3, e4]; exact h.locked⟩

theorem AssuranceOff.reads : ReadsAssurance AssuranceOff := by
  intro s t e h
  simp only [State.assurance, Prod.mk.injEq] at e
  obtain ⟨⟨e1, e2, e3, e4, -⟩, -⟩ := e
  exact ⟨e1.trans h.low, e2.trans h.hidden, by rw [e3, e4]; exact h.locked⟩

theorem AssuranceSound.reads : ReadsAssurance AssuranceSound := by
  intro s t e h
  obtain ⟨shown, locked⟩ := AssuranceShown.reads e h.toShown
  refine ⟨?_, shown, locked⟩
  simp only [State.assurance, Prod.mk.injEq] at e
  obtain ⟨⟨e1, -, e3, e4, e5⟩, ⟨e6, e7⟩, e8, e9⟩ := e
  simp only [assureHolds, e1, e3, e4, e5, e6, e7, e8, e9]
  exact h.held

/-! ### Changes that may move hold-up assurance -/

/-- As `Behind`, and t has the property Q where s has the property P. -/
structure Moves (P Q : State → Prop) (s t : State) : Prop extends Behind s t where
  leads : P s → Q t

/-- As `Behind`, and hold-up assurance stays sound. -/
abbrev Keeps : State → State → Prop := Moves AssuranceSound AssuranceSound

namespace Moves
variable {P Q R : State → Prop} {s x t : State}

theorem refl (s : State) : Moves P P s s := ⟨⟨rfl, le_rfl⟩, id⟩

theorem trans (h : Moves P Q s x) (h' : Moves Q R x t) : Moves P R s t :=
  ⟨h.toBehind.trans h'.toBehind, h'.leads ∘ h.leads⟩

/-- A change of the blocks' fields alone that takes the property Q to R. -/
theorem update (h : Moves P Q s x) (leads : Q x → R t) (hp : t.pending = x.pending := by rfl)
    (hf : t.freeCtr = x.freeCtr := by rfl) : Moves P R s t :=
  h.trans ⟨⟨hp, hf.ge⟩, leads⟩

theorem ofQuiet (hP : ReadsAssurance P) (q : Quiet s t) : Moves P P s t := ⟨q.toBehind, hP q.assurance⟩

/-- What hold-up assurance does not notice, after h. -/
theorem andThen (h : Moves P Q s x) (hQ : ReadsAssurance Q) (q : Quiet x x → Quiet x t) : Moves P Q s t :=
  h.trans (.ofQuiet hQ (q (.refl x)))

theorem ite {c : Prop} [Decidable c] {a b : State} (ha : Moves P Q s a) (hb : Moves P Q s b) :
    Moves P Q s (if c then a else b) := by
  split
  · exact ha
  · exact hb

/-- Where HOLD_ASSURE falls, it was shown as it should be. -/
theorem keeps_of_falls (h : Moves AssuranceShown AssuranceOff s t) : Keeps s t :=
  ⟨h.toBehind, fun hs => (h.leads hs.toShown).toSound⟩

end Moves

/-- What hold-up assurance does not notice, after h. -/
theorem Moves.quiet {s x t : State} (h : Keeps s x) (q : Quiet x x → Quiet x t) : Keeps s t := h.andThen AssuranceSound.reads q

theorem Quiet.keeps {s t : State} (q : Quiet s t) : Keeps s t := .ofQuiet AssuranceSound.reads q

/-! ### Falls of HOLD_ASSURE, and management faults -/

/-- `setAssure` writes ASSURE, and what else it does hold-up assurance does not notice. -/
theorem setAssure_quiet (s : State) (v : Bool) : Quiet (s.setMgmt { s.mgmt with assure := v }) (setAssure s v) := by
  unfold setAssure
  split
  · next e => subst e; exact .refl s
  · exact .ite (Quiet.refl _).deviceEvent (.refl _)

namespace Moves
variable {P : State → Prop} {s x : State}

theorem assureFall (h : Moves P AssuranceShown s x) : Moves P AssuranceOff s (assureFall x) := by
  unfold Machine.assureFall
  split
  · refine (h.update (R := AssuranceOff) (t := (State.setCache _ _).setMgmt _) fun hx => ?_).andThen AssuranceOff.reads
      fun q => (q.trans (setAssure_quiet _ false)).logCrumb
    exact ⟨rfl, rfl, hx.locked⟩
  · next low =>
    exact h.update fun hx => ⟨Bool.not_eq_true _ ▸ low, Bool.not_eq_true _ ▸ fun e => low (hx.shown e), hx.locked⟩

theorem countFault (h : Moves P AssuranceShown s x) : Moves P AssuranceShown s (countFault x) :=
  h.update fun hx => ⟨hx.shown, fun e => (Bool.or_eq_true ..).mpr (.inr e)⟩

theorem mgmtReset {ok} (h : Moves P AssuranceShown s x) : Moves P AssuranceOff s (mgmtReset x ok) := by
  have h1 := h.assureFall
  unfold Machine.mgmtReset
  generalize Machine.assureFall x = y at h1 ⊢
  exact h1.update fun hx => ⟨hx.low, hx.hidden, fun e => e⟩

theorem setGauge {g} (h : Moves P AssuranceShown s x) : Moves P AssuranceShown s (x.setGauge g) :=
  h.update fun hx => ⟨hx.shown, hx.locked⟩

theorem setMgmt {m} (h : Moves P AssuranceShown s x)
    (hm : (m.holdAssure, m.assure, m.assureLock, m.mismatch) =
      (x.mgmt.holdAssure, x.mgmt.assure, x.mgmt.assureLock, x.mgmt.mismatch) := by rfl) :
    Moves P AssuranceShown s (x.setMgmt m) := by
  simp only [Prod.mk.injEq] at hm
  obtain ⟨h1, h2, h3, h4⟩ := hm
  exact h.update fun hx => ⟨by simpa [h1, h2] using hx.shown, by simpa [h3, h4] using hx.locked⟩

/-- A mismatch that stands, while HOLD_ASSURE is low. -/
theorem setMismatch {m} (h : Moves P AssuranceOff s x) (ha : m.assure = x.mgmt.assure := by rfl)
    (hm : m.mismatch = true := by rfl) :
    Moves P AssuranceShown s (x.setMgmt m) :=
  h.update fun hx => ⟨fun e => absurd (hx.hidden.symm.trans (ha.symm.trans e)) Bool.false_ne_true, fun _ => hm⟩

theorem mgmtFault {loc ok} (h : Moves P AssuranceShown s x) : Moves P AssuranceOff s (mgmtFault x loc ok) := by
  have h1 := h.countFault.assureFall.andThen AssuranceOff.reads fun q => q.writeFfr (loc := loc) (sev := 3) (ev := 1)
  exact .mgmtReset (h1.setMismatch.andThen AssuranceShown.reads fun q => q.mgmtFaultEvent)

end Moves

theorem AssuranceOff.toShown {s : State} (h : AssuranceOff s) : AssuranceShown s := h.toSound.toShown

/-! ### The operations that move hold-up assurance -/

namespace Keeps
variable {s x : State}

theorem shown (h : Keeps s x) : Moves AssuranceSound AssuranceShown s x := h.update AssuranceSound.toShown

theorem ofOff (h : Moves AssuranceSound AssuranceOff s x) : Keeps s x := h.update AssuranceOff.toSound

theorem assureFall (h : Keeps s x) : Keeps s (assureFall x) := ofOff h.shown.assureFall

theorem mgmtReset {ok} (h : Keeps s x) : Keeps s (mgmtReset x ok) := ofOff h.shown.mgmtReset

theorem mgmtFault {loc ok} (h : Keeps s x) : Keeps s (mgmtFault x loc ok) := ofOff h.shown.mgmtFault

theorem setAssure {v} (h : Keeps s x) (hv : v = true → x.mgmt.holdAssure = true) : Keeps s (setAssure x v) :=
  (h.update (t := x.setMgmt { x.mgmt with assure := v }) fun hx => ⟨hx.held, hv, hx.locked⟩).quiet fun q =>
    q.trans (setAssure_quiet x v)

theorem setValidLatch {v} (h : Keeps s x) : Keeps s (setValidLatch x v) := by
  unfold Machine.setValidLatch checkAssure
  split
  · next holds => exact h.update fun hx => ⟨fun e => ⟨holds, (hx.held e).2⟩, hx.shown, hx.locked⟩
  · exact ofOff (.assureFall (h.update fun hx => ⟨hx.shown, hx.locked⟩))

theorem gaugeTick {ok} (h : Keeps s x) : Keeps s (gaugeTick x ok) :=
  setValidLatch (h.quiet fun q => q.storeImpedance.setGauge ((writeResidue_latch ..).trans (moveRep_latch ..)))

/-- While the Tailstock has no power, HOLD_ASSURE is low whatever the pack does. -/
theorem setGauge_of_unpowered {g} (h : Keeps s x) (off : x.power.tailstock = false) : Keeps s (x.setGauge g) :=
  h.update fun hx => ⟨fun e => absurd (off.symm.trans (hx.held e).2.1) Bool.false_ne_true, hx.shown, hx.locked⟩

theorem packInsertion {r} (h : Keeps s x) : Keeps s (packInsertion x r) := by
  unfold Machine.packInsertion
  split
  · next off => exact h.setGauge_of_unpowered (by simpa using off)
  · have h1 : Keeps s (Machine.assureFall (raiseLine (driveCharger (x.setGauge
        (startInsertion { x.gauge with present := true, eeprom := r, fetClosed := true, cutoff := false }))) 3)) :=
      ofOff (.assureFall (h.shown.setGauge.andThen AssuranceShown.reads fun q => q.driveCharger.raiseLine))
    dsimp only
    split
    · exact h1.quiet fun q => q.logCrumb
    · exact h1.quiet fun q => q.logCrumb.mgmtFaultEvent

theorem holdAssureRise (h : Keeps s x) : Keeps s (holdAssureRise x) := by
  unfold Machine.holdAssureRise
  split
  · next rise =>
    simp only [Bool.and_eq_true] at rise
    obtain ⟨⟨⟨powered, -⟩, holds⟩, -⟩ := rise
    have h1 : Keeps s ((x.setMgmt { x.mgmt with holdAssure := true, riseDue := false }).setCache
        { x.cache with assureFell := none }) :=
      h.update fun hx => ⟨fun _ => ⟨holds, powered, rfl⟩, fun _ => rfl, hx.locked⟩
    exact h1.quiet fun q => q.logCrumb.sendDp
  · exact h

/-- A self-test that passes takes no condition of hold-up assurance away. -/
theorem passSelftest {n} (h : Keeps s x) : Keeps s (x.setMgmt { x.mgmt with selftestNo := n, selftestOk := true }) :=
  h.update fun hx => ⟨fun e => ⟨by
    obtain ⟨holds, -⟩ := hx.held e
    simp only [assureHolds, Bool.and_eq_true] at holds ⊢
    obtain ⟨⟨⟨packed, -⟩, clean⟩, free⟩ := holds
    exact ⟨⟨⟨packed, rfl⟩, clean⟩, free⟩, (hx.held e).2⟩, hx.shown, hx.locked⟩

theorem comparatorSelftest {pass} (h : Keeps s x) : Keeps s (comparatorSelftest x pass) := by
  refine .ite ?_ h
  dsimp only
  split
  · exact h.quiet fun q => q.setMgmt
  · split
    · exact h.passSelftest
    · exact (ofOff h.shown.setMgmt.setMgmt.countFault.assureFall).quiet fun q => q.mgmtFaultEvent

theorem lockstepMismatch {ok} (h : Keeps s x) : Keeps s (lockstepMismatch x ok) := .ite (.ite h h.mgmtFault) h

theorem takeAssure {m} (h : Keeps s x) : Keeps s (takeAssure x m) :=
  (h.quiet fun q => q.dpTake).setAssure fun e => (Bool.and_eq_true_iff.mp e).2

theorem withToDp {kind f} (h : Keeps s x) (hf : ∀ y m, Keeps s y → Keeps s (f y m)) : Keeps s (withToDp x kind f) := by
  have h1 := h.quiet fun q => q.pumpToDp
  dsimp only [Machine.withToDp]
  split
  · exact h1
  · exact .ite (hf _ _ h1) h1

theorem activateFirmware (h : Keeps s x) : Keeps s (activateFirmware x) := by
  unfold Machine.activateFirmware
  refine .ite (.ite ?_ ?_) ?_
  · exact mgmtReset (h.quiet fun q => q.setFirmware.pldm5.logCrumb)
  · exact h.quiet fun q => q.setFirmware.pldm5.logCrumb.setMgmt
  · exact h.quiet fun q => q.pldm5

/-! ### The control loop -/

theorem tickHandler {ok ok'} (h : Keeps s x) : Keeps s (tickHandler x ok ok') := by
  refine .ite h ?_
  have h1 := (h.quiet fun q => q.handOver.applyWrites).gaugeTick (ok := ok')
  have h2 := h1.quiet fun q => q.throttleStep.publishStep.completeMgmtReset.reportSelftest.logDpAlert.serveSnapshot
  exact .ite h2.mgmtReset h2

theorem controlLoopTick {p r w rs ok ok'} (h : Keeps s x) : Keeps s (controlLoopTick x p r w rs ok ok') := by
  have handled {y : State} (h : Keeps s y) :
      Keeps s (Machine.tickHandler (y.setMgmt { y.mgmt with tickRunning := false }) ok ok') :=
    Keeps.tickHandler (h.quiet fun q => q.setMgmt)
  have after {y : State} (h : Keeps s y) : Keeps s (if y.mgmt.tickHeld then
      Machine.tickHandler (y.setMgmt { y.mgmt with tickHeld := false }) ok ok' else y) :=
    .ite (Keeps.tickHandler (h.quiet fun q => q.setMgmt)) h
  have taken {y : State} (h : Keeps s y) : Keeps s (y.setMgmt { y.mgmt with tickRunning := true }) := h.quiet fun q => q.setMgmt
  refine .ite (.ite (after (handled ?_)) (taken ?_)) h
  · exact h.quiet fun q => .ite q.raiseTick.setMgmt.logCrumb q.raiseTick
  · exact h.quiet fun q => .ite q.raiseTick.setMgmt.logCrumb q.raiseTick

/-! ### Power -/

theorem unpowered (h : Keeps s x) : Keeps s (unpowered x) :=
  ofOff (h.update fun hx => ⟨rfl, rfl, hx.locked⟩)

theorem inputLost (h : Keeps s x) : Keeps s (inputLost x) := by
  have h1 := h.quiet fun q => q.shedCompute.gaugeOnLoss
  dsimp only [Machine.inputLost]
  refine .ite (h.quiet fun q => q.setPower) (.ite ?_ (.ite ?_ ?_))
  · exact unpowered (h1.quiet fun q => q.setPower.loseDump)
  · exact h1.quiet fun q => q.setPower.toRetention
  · exact h1.quiet fun q => q.setPower.setPower

theorem packStops (h : Keeps s x) : Keeps s (packStops x) :=
  .ite h (.ite (unpowered (h.quiet fun q => q.loseDump)) (.ite h.unpowered h))

theorem finishStart {e} (h : Keeps s x) : Keeps s (finishStart x e) := by
  have noticed : Keeps s (Machine.withToDp (pumpToDp (completeMgmtReset ((handOver x).setMgmt { (handOver x).mgmt with
      selftestNo := (handOver x).mgmt.selftestNo + 1, selftestOk := true }))) 0x84 resetNotice) :=
    (passSelftest (h.quiet fun q => q.handOver)).quiet fun q =>
      q.completeMgmtReset.pumpToDp.withToDp fun _ _ q => q.resetNotice
  refine .ite h ?_
  dsimp only
  split
  · exact noticed.quiet fun q => q.linkTrained
  · exact noticed

/-- The Ohmim starts with the Tailstock powered and no fall counted: no condition of hold-up assurance is taken away. -/
theorem ohmimStart {kind e} (h : Keeps s x) : Keeps s (ohmimStart x kind e) := by
  refine (h.update ?_).quiet fun q => .foldl (fun _ _ q => q.retireAtStart) _ q
  exact fun hx => ⟨fun e => ⟨(hx.held e).1, rfl, rfl⟩, hx.shown, hx.locked⟩

/-- A Tailstock whose state begins anew holds no assurance. -/
theorem coldTailstock (h : Keeps s x) : Keeps s (coldTailstock x) := by
  unfold Machine.coldTailstock
  refine .ite (Moves.quiet ?_ fun q => q.mgmtFaultEvent) ?_
  · exact ofOff (h.update (fun _ => ⟨rfl, rfl, fun e => absurd e Bool.false_ne_true⟩))
  · exact ofOff (h.update (fun _ => ⟨rfl, rfl, fun e => absurd e Bool.false_ne_true⟩))

theorem retainedTailstock {ok} (h : Keeps s x) : Keeps s (retainedTailstock x ok) := by
  have h1 := h.shown.mgmtReset (ok := ok)
  unfold Machine.retainedTailstock
  generalize Machine.mgmtReset x ok = y at h1 ⊢
  exact ofOff (h1.update fun hx => ⟨hx.low, hx.hidden, fun e => absurd e Bool.false_ne_true⟩)

theorem retainedStart {e} (h : Keeps s x) : Keeps s (retainedStart x e) :=
  .finishStart (h.retainedTailstock.ohmimStart.quiet fun q => q.reportHbm)

theorem packRemoval (h : Keeps s x) : Leads (Keeps s) (execPackRemoval x) := by
  dsimp only [execPackRemoval, Leads]
  split
  · exact h
  · split
    · next off => exact h.setGauge_of_unpowered (by simpa using off)
    · have fallen : Keeps s (Machine.assureFall (raiseLine (driveCharger (x.setGauge (packGone x.gauge))) 3)) :=
        ofOff (.assureFall (h.shown.setGauge.andThen AssuranceShown.reads fun q => q.driveCharger.raiseLine))
      exact packStops (fallen.quiet fun q => q.logCrumb)

theorem pllRelockTimeout {e} (h : Keeps s x) : Leads (Keeps s) (execPllRelockTimeout e x) := by
  have retained {y : State} (h : Keeps s y) : Keeps s (toRetention (loseDump y)) := h.quiet fun q => q.loseDump.toRetention
  refine .ite (.ite (Keeps.retainedStart (retained ?_)) (retained ?_)) h
  · exact h.quiet fun q => .ite q.shedCompute q
  · exact h.quiet fun q => .ite q.shedCompute q

/-! ### Units of the Jiman -/

theorem portWrite {p v} (h : Keeps s x) : Keeps s (portWrite x p v) := by
  have q := Quiet.refl x
  have k {y : State} (q : Quiet x y) : Keeps s y := h.quiet fun _ => q
  exact .ite (k q.setJiman) <| .ite (k q.setJiman) <| .ite (k q.wdogRefresh) <| .ite (k q.mbxTake) <| .ite (k q.mbxSend) <|
    .ite (k q.setJiman) <| .ite (k q.pubWrite) <| .ite h.setValidLatch <| .ite (k q.setLevel) <|
    .ite (k (.ite q q.setJiman)) <| .ite (k q.setJiman.setGauge) <| .ite (k q.setJiman) <| .ite (k q.setJiman) <|
    .ite (k q.setJiman) <| .ite (k q.setJiman) <| .ite (k q.setJiman) <|
    .ite (k (.ite q.flashStart (.ite q.flashStart (.ite q.flashStart q)))) <| .ite (k q.signatureStart) <|
    .ite (k q.setJiman) <| .ite (k q.setJiman) <| .ite (k q.blowRevoke) <| .ite (k q.setJiman) <| .ite (k q.setJiman) <|
    .ite (k q.setJiman) h

theorem guardEntry {c g} (h : Keeps s x) : Keeps s (guardEntry x c g) := by
  have h0 := h.quiet fun q => q.setJiman (v := { closeUnit x.jiman with regs := unitStart x.jiman })
  dsimp only [Machine.guardEntry]
  refine .ite h0.mgmtFault ?_
  split
  · exact h0.mgmtFault
  · next e => exact h0.quiet fun q => (q.guardFrame e).setJr

theorem interruptEntry (h : Keeps s x) : Keeps s (interruptEntry x) := by
  have h0 := h.quiet fun q => q.setJiman (v := { closeUnit x.jiman with regs := unitStart x.jiman })
  dsimp only [Machine.interruptEntry]
  split
  · exact h
  · refine .ite h0.guardEntry ?_
    split
    · exact h0.guardEntry
    · exact (h0.quiet fun q => q.setRamWord).guardEntry
    · exact h0.quiet fun q => q.setRamWord.setRamWord.setJiman

theorem finishInstr {start r} (h : Keeps s r.state) : Keeps s (finishInstr start r) := by
  cases r with
  | done x => exact h.quiet fun q => q.endInstr
  | jump x => exact h.quiet fun q => q.setJiman
  | branch x => exact h.quiet fun q => q.setJiman.stepUnit
  | stay x => exact h
  | guard c n x => exact (h.quiet fun q => q.setJiman).guardEntry
  | late c n x => exact h.guardEntry
  | idle x => exact h.quiet fun q => q.endInstr.setJiman
  | request x => exact (h.quiet fun q => q.setJiman).mgmtFault

theorem jimanRun {k body} (h : Keeps s x) (hb : Keeps s (body x).state) : Keeps s (jimanRun x k body) := by
  refine .ite h ?_
  split
  · exact h.guardEntry
  · exact hb.finishInstr

theorem openUnit {ok f} (h : Keeps s x) : Keeps s (openUnit x ok f) :=
  .ite h (.ite h.guardEntry (.ite h.guardEntry (h.quiet fun q => q.setJiman.stepUnit)))

end Keeps

theorem Leads.quiet {s : State} {o : Host.Outcome State Fault Refusal} (h : Leads (Quiet s) o) : Leads (Keeps s) o :=
  h.mono fun _ => Quiet.keeps

theorem exec_keeps (i : Instr) (s : State) : Leads (Keeps s) (exec i s) := by
  have q := Quiet.refl s
  have k : Keeps s s := .refl s
  cases i with
  | doorbell => exact .quiet (.ite q (.ite (.ringDoorbell (.ite q.setQueue q)) (.ite q.setQueue q)))
  | push => exact .quiet (.ite q (by split; exacts [q.setSr, .ite q.setSr q.setSr.ringDoorbell]))
  | crHead => exact .quiet (.ite q (.ite q.setCr q.setCr))
  | fetchGrant => exact .quiet (.ite (by split; exacts [q, q.grantRing]) q)
  | forwardScan => exact .quiet q.execForwardScan
  | ringReadReturn => exact .quiet q.execRingReadReturn
  | completionWrite => exact .quiet q.writePendingLines.writeOldest
  | msixCoalesceTimer => exact .quiet (.ite q.sendRingVector q)
  | enableSet => exact .quiet (.ite q.enableSet q)
  | enableClear => exact .quiet (.ite q.enableClear q)
  | drainComplete => exact .quiet (.ite q.writeBackHostLines.setPower.setClocks q)
  | nop | fence => exact .quiet (q.runOp (fun _ _ q => q.finishOp))
  | copy => exact .quiet (q.runOp (fun _ _ q => q.copyRun.endRun))
  | convert => exact .quiet (q.runOp (fun _ _ q => q.convertRun.endRun))
  | fill => exact .quiet (q.runOp (fun _ _ q => q.fillLoop.endRun))
  | kernel => exact .quiet q.execKernel
  | wait => exact .quiet q.execWait
  | signal => exact .quiet q.execSignal
  | relay => exact .quiet q.execRelay
  | streamPark | streamUnpark => exact .quiet (q.runOp (fun _ _ q => q.streamRun))
  | histogramRead => exact .quiet q.execHistogramRead
  | keepWrite => exact .quiet q.execKeepWrite
  | keepRead => exact .quiet q.execKeepRead
  | keepCommit => exact .quiet q.execKeepCommit
  | keepScrub => exact .quiet q.execKeepScrub
  | ringCreate => exact .quiet q.execRingCreate
  | ringDelete => exact .quiet q.execRingDelete
  | ringReset => exact .quiet (.ite q (q.runOp (fun _ _ q => q.resetRing)))
  | segmentSet => exact .quiet q.execSegmentSet
  | relayTableSet => exact .quiet (q.runOp (fun _ _ q => .ite q.refuseAccess q.setScale.finishOp))
  | counterSet => exact .quiet q.execCounterSet
  | runtimeLoad => exact .quiet (.ite (q.runOp (fun _ _ q => q.runtimeLoadRun)) q)
  | arrayCreate => exact .quiet q.execArrayCreate
  | arrayImport => exact .quiet q.execArrayImport
  | memberReplace => exact .quiet q.execMemberReplace
  | slotDefine => exact .quiet q.execSlotDefine
  | spareAdd => exact .quiet q.execSpareAdd
  | fwStage => exact .quiet q.execFwStage
  | fwActivate | fwConfirm | telemetrySnapshot => exact .quiet (q.runOp (fun _ _ q => q.passOp))
  | vaultDiscard => exact .quiet q.execVaultDiscard
  | bar4Read => exact .quiet (q.onLink (fun _ q => (by split; exacts [q.submit, q.refuseNonPosted])))
  | bar4Write => exact .quiet (q.onLink (fun _ q => q.bar4Write))
  | atomicop => exact .quiet q.execAtomicop
  | cxlMemRead | cxlMemWrite => exact .quiet (q.onLink (fun _ q => .ite q.submit q))
  | backInvalidateResponse => exact .quiet (q.onLink (fun _ q => .ite q.biEnds q))
  | backInvalidateTimeout => exact .quiet q.execBackInvalidateTimeout
  | hostSnoop => exact .quiet q.execHostSnoop
  | atsInvalidateRequest => exact .quiet (q.onLink (fun _ q => .ite q q.setLink.settleInvalidations))
  | translationCompletion => exact .quiet q.execTranslationCompletion
  | completionTimeout => exact .quiet (.ite (.ite q q.devReadFails.aerUncorrectable) q)
  | linkError => exact .quiet q.execLinkError
  | laneRetire => exact .quiet (.ite q.retireLane q)
  | hdmDecoderCommit => exact .quiet (q.onLink (fun _ q => .ite q (.ite q.setLink q.setLink)))
  | resizableBarWrite => exact .quiet (q.onLink (fun _ q => .ite q.setLink q))
  | configurationRequest => exact .quiet (q.onLink (fun _ q => .ite q.sendHost q.configRequest))
  | powerStateWrite => exact .quiet q.execPowerStateWrite
  | linkLoss => exact .quiet (q.onLink (fun _ q => q.loseLink))
  | functionLevelReset => exact .quiet (q.onConfig (fun _ q => q.functionReset))
  | perstN => exact .quiet q.execPerstN
  | counterValueTaken => exact .quiet (.ite q.takeValues.retryHome q)
  | add | sub | and | or | xor | andn | sll | srl | sra | ror | slt | sltu | min | max | minu | maxu => exact .quiet q.alu3
  | clz | ctz | popc | addi | andi | ori | xori | slti | sltiu | sloi => exact .quiet q.alu2
  | mul | mulh | mulhu | div | divu | rem | remu => exact .quiet q.mulRun
  | movi | addpc | rdlk => exact .quiet q.aluRun
  | slli | srli | srai | rori => exact .quiet q.shiftImm
  | ldB | ldBu | ldH | ldHu | ldW | ldWu | ldD => exact .quiet q.loadRun
  | stB | stH | stW | stD => exact .quiet q.storeRun
  | cbEq | cbNe | cbLt | cbGe | cbLtu | cbGeu => exact .quiet q.cb
  | cbiEq | cbiNe | cbiLt | cbiGe => exact .quiet q.cbi
  | j => exact .quiet q.execJ
  | call | callr => exact .quiet q.callRun
  | jr => exact .quiet q.execJr
  | ret => exact .quiet q.execRet
  | wrlk => exact .quiet q.execWrlk
  | turnerNop => exact .quiet q.execTurnerNop
  | trap => exact .quiet q.execTrap
  | tBreak => exact .quiet q.execTBreak
  | eret => exact .quiet q.execEret
  | eretX => exact .quiet q.execEretX
  | eretL => exact .quiet q.execEretL
  | sync => exact .quiet q.execSync
  | isync => exact .quiet q.execIsync
  | mfs => exact .quiet q.execMfs
  | mts => exact .quiet q.execMts
  | interruptEntry => exact .quiet q.execInterruptEntry
  | loadCompletion => exact .quiet q.execLoadCompletion
  | asyncStoreFailure => exact .quiet (.ite q (.ite q.setTurner.takeAsync q.setTurner))
  | haltWritebackComplete => exact .quiet q.execHaltWritebackComplete
  | runtimeReload => exact .quiet (.ite q.reloadRuntime q)
  | budgetExceeded => exact .quiet q.execBudgetExceeded
  | budgetGraceTimeout => exact .quiet (.ite q.haltCore q)
  | timercmpReached => exact .quiet (.ite q.setTurner q)
  | tcKernelDone => exact .quiet (.ite q.tcKernelDone q)
  | tcResume => exact .quiet (.ite q.tcResume q)
  | tload | tstore | tmma | tloadc | tdrain | tsave | trest | tzero | tfold | tdly => exact .quiet q.tileRun
  | tbar => exact .quiet q.execTbar
  | tileIssue => exact .quiet q.execTileIssue
  | tileInstructionComplete => exact .quiet q.execTileInstructionComplete
  | tileAsyncFault => exact .quiet q.execTileAsyncFault
  | resume | tileDiscard => exact .quiet (.ite q.tqControl q)
  | nfPwlCommit => exact .quiet (.ite q.pwlCommit q)
  | spindleEnable => exact .quiet (.ite q.spEnable q)
  | spContinue => exact .quiet (.ite q.spResume q)
  | spClear => exact .quiet (.ite q.spReset q)
  | spStep | spScan => exact .quiet (.ite q.issueCommand q)
  | spindleCommandComplete => exact .quiet q.execSpindleCommandComplete
  | destageStripeStart => exact .quiet q.execDestageStripeStart
  | stripeLockGrant => exact .quiet q.execStripeLockGrant
  | stripeReadsComplete => exact .quiet q.execStripeReadsComplete
  | stripeWritesComplete => exact .quiet q.execStripeWritesComplete
  | driveCommandCompletion => exact .quiet q.execDriveCommandCompletion
  | driveCommandTimeout => exact .quiet q.execDriveCommandTimeout
  | driveLinkDown => exact .quiet (.ite (by split; exacts [q.setPort, q]) q)
  | driveLinkDownTimeout => exact .quiet (.ite q.setPort.failPort q)
  | driveLinkReturn => exact .quiet q.execDriveLinkReturn
  | driveControllerFatal => exact .quiet (.ite q.failPort q)
  | unrecoveredReadError => exact .quiet q.execUnrecoveredReadError
  | driveInsertion => exact .quiet q.execDriveInsertion
  | rebuildAutoStart => exact .quiet q.execRebuildAutoStart
  | rebuildStep => exact .quiet q.execRebuildStep
  | resyncStep => exact .quiet q.execResyncStep
  | patrolScrubStep => exact .quiet q.execPatrolScrubStep
  | bitmapClearBatch => exact .quiet q.execBitmapClearBatch
  | drivePortTestDaily => exact .quiet (.ite q (.ite q.setKeep q.setKeep))
  | kpPortTestStart => exact .quiet (.ite q q.setKeep.portTestStart)
  | portTestEnd => exact .quiet q.execPortTestEnd
  | holdAssureFall => exact k.assureFall
  | holdAssureRise => exact k.holdAssureRise
  | statusWordStale => exact .quiet q.statusWordStale
  | throttleReqChange => exact .quiet (.ite q (.ite q.setClocks.setPower q.setClocks.setPower.deviceEvent))
  | pwrLoss | inputOvervoltage | railOutOfLimits => exact k.inputLost
  | vaultDumpStart => exact .quiet (.ite q.beginDump q)
  | vaultSeal => exact .quiet q.execVaultSeal
  | inputReturn | epoLatchClear => exact .quiet (.ite q.setPower q)
  | packCutoff | packProtectionTrip => exact .ite (Keeps.packStops (k.quiet fun q => q.setGauge)) k
  | vaultReplay => exact .quiet q.execVaultReplay
  | emergencyOff =>
    exact Moves.quiet (Keeps.unpowered (k.quiet fun q => .loseDump (.ite q.shedCompute q))) fun q => q.setPower
  | pwrPrsntNBreak => exact (Moves.quiet k fun q => q.setPower).inputLost
  | holdupRailLow => exact .quiet (.ite q.loseDump.mgmtFaultEvent.writeFfr.toRetention q)
  | startUp => exact .ite (Keeps.finishStart (k.coldTailstock.ohmimStart.quiet fun q => q.reportHbm)) k
  | retainedPowerOn => exact .ite (Keeps.retainedStart (k.quiet fun q => q.completeDump)) k
  | pllLockLoss => exact .quiet (.ite q.setClocks.mgmtFaultEvent q)
  | pllRelock => exact .quiet (.ite (.ite q.setClocks.perstReset q.setClocks) q)
  | pllRelockTimeout => exact k.pllRelockTimeout
  | gaugeSample => exact .quiet q.gaugeSample
  | restCorrection => exact .quiet q.restCorrection
  | chargeStart => exact .quiet q.chargeStart
  | chargeEnd => exact .quiet q.chargeEnd
  | chargeTimeout => exact .quiet q.chargeTimeout
  | impedanceTestStart => exact .quiet q.impedanceTestStart
  | impedanceV10Sample => exact .quiet q.impedanceV10Sample
  | impedanceV200Sample => exact .quiet q.impedanceV200Sample
  | impedanceRetry => exact .quiet q.impedanceRetry
  | packInsertion => exact k.packInsertion
  | packRemoval => exact k.packRemoval
  | hpEventRearm => exact .quiet q.hpEventRearm
  | hpControlTest | chargeInhibit => exact .quiet q.hpControlWrite
  | controlLoopTick => exact k.controlLoopTick
  | comparatorSelftest => exact k.comparatorSelftest
  | lockstepMismatch => exact k.lockstepMismatch
  | watchdogTimeout => exact .ite k.mgmtFault k
  | thermalTrip => exact .quiet q.thermalTrip
  | tripClear => exact .quiet q.tripClear
  | nvmeMiPoll => exact .quiet q.nvmeMiPoll
  | opRequest => exact .quiet (q.deliverToMg (fun _ _ q => q.receiveRequest))
  | mbxData => exact .quiet q.execMbxData
  | regWrite => exact .quiet (q.deliverToMg (fun _ _ q => q.receiveReg))
  | alert => exact .quiet (q.deliverToMg (fun _ _ q => q.receiveAlert))
  | doeSpdm => exact .quiet q.execDoeSpdm
  | opReply => exact .quiet (q.withToDp (fun _ _ q => q.takeReply))
  | assureNotice => exact k.withToDp fun _ _ k => k.takeAssure
  | resetNotice => exact .quiet (q.withToDp (fun _ _ q => q.resetNotice))
  | mbxTake => exact .quiet q.mbxTake
  | mbxSend => exact .quiet q.mbxSend
  | pubWrite => exact .quiet q.pubWrite
  | wdog => exact .quiet q.wdogRefresh
  | flashCommand => exact .quiet q.flashStart
  | flashOperationDone => exact .quiet q.flashDone
  | signatureCommand => exact .quiet q.signatureCheck
  | blowRevoke => exact .quiet q.blowRevoke
  | oneshotTimerExpiry => exact .quiet q.oneshotExpiry
  | tickLoRead => exact .quiet q.latchTick.setJiman
  | entdaa => exact .quiet (q.onControl (fun _ q => .ite q.setMgmt q))
  | setEndpointId => exact .quiet (q.onControl (fun _ q => q.setMgmt.sideSend))
  | getEndpointId | getMessageTypeSupport | getVendorDefinedMessageSupport =>
    exact .quiet (q.onControl (fun _ q => q.sideSend))
  | getMctpVersionSupport => exact .quiet (q.onControl (fun _ q => q.sideSend.tookFree))
  | pldmBaseCommand | firstFaultRead | settingsRead => exact .quiet (q.onService (fun _ q => q.sideSend))
  | pldmSensorRead => exact .quiet (q.onService (fun _ q => q.sideSend.tookFree))
  | setEventReceiver | firstFaultClear => exact .quiet (q.onService (fun _ q => q.setMgmt.sideSend))
  | requestUpdate => exact .quiet (q.onService (fun _ q => q.requestUpdate))
  | passComponentTable => exact .quiet (q.onService (fun _ q => q.passComponentTable))
  | updateComponent => exact .quiet (q.onService (fun _ q => q.updateComponent))
  | requestFirmwareData => exact .quiet (q.onService (fun _ q => q.firmwareData))
  | activateFirmware => exact .ite k.activateFirmware k
  | cancelUpdate => exact .quiet (q.onService (fun _ q => q.cancelUpdate))
  | getVersion | getCapabilities | negotiateAlgorithms | getDigests | getCertificate | challenge | getMeasurements =>
    exact .quiet (q.onService (fun _ q => q.spdmSide))
  | breadcrumbRead => exact .quiet (q.onService (fun _ q => (by split; exacts [q.sideSend, q.sideSend])))
  | settingsWrite => exact .quiet (q.onService (fun _ q => q.settingsWrite))
  | mgFfrClear => exact .quiet (.ite q.writeFfrClear q)
  | hbmRowRetirement => exact .quiet q.execHbmRowRetirement
  | hlLaneTestStart => exact .quiet (.ite q.laneTestWrite q)
  | laneTestEnd => exact .quiet (.ite q.applyLaneTest.setLink q)
  | loopbackTimeout => exact .quiet (.ite q.setLink q)
  | ckTimebaseRead => exact .quiet (.ite (.ite q.regRead.sendHost q) (.ite q.regRead q))
  | registerWrite => exact .quiet (.ite q.regWrite q)
  | jimanInterruptEntry => exact k.interruptEntry
  | jimanPfx | jimanCallm => exact k.openUnit
  | jimanB | jimanCb | jimanCbz => exact k.jimanRun (Quiet.keeps q.relBranch)
  | jimanCall | jimanCallr => exact k.jimanRun (Quiet.keeps q.jcall)
  | jimanDbnz => exact k.jimanRun (Quiet.keeps q.setJd.relBranch)
  | jimanIn => exact k.jimanRun (Quiet.keeps q.portRead.setJd)
  | jimanOut => exact k.jimanRun k.portWrite
  | jimanLd => exact k.jimanRun (Quiet.keeps q.jld)
  | jimanSt => exact k.jimanRun (Quiet.keeps q.jst)
  | jimanLds => exact k.jimanRun (Quiet.keeps (q.jload fun _ => q.setJd))
  | jimanSts => exact k.jimanRun (Quiet.keeps (q.jstore fun _ q => q))
  | jimanMpy | jimanMac | jimanMsu | jimanMpyu | jimanLdac | jimanLdacl | jimanShac | jimanClrac | jimanNegac
  | jimanAddac | jimanSubac | jimanAbsac | jimanDivs =>
    exact k.jimanRun (Quiet.keeps q.setJac)
  | jimanNop | jimanIdle | jimanGrst | jimanBr => exact k.jimanRun k
  | jimanEi | jimanDi => exact k.jimanRun (Quiet.keeps q.setJr)
  | jimanRet | jimanRetm => exact k.jimanRun (Quiet.keeps q.jret)
  | jimanReti => exact k.jimanRun (Quiet.keeps q.jreti)
  | jimanRetg => exact k.jimanRun (Quiet.keeps q.jretg)
  | jimanMovb => exact k.jimanRun (Quiet.keeps (q.stringBody fun _ _ _ q hk => q.movbElem hk))
  | jimanFillb => exact k.jimanRun (Quiet.keeps (q.stringBody fun _ _ _ q hk => q.fillbElem hk))
  | jimanMacb => exact k.jimanRun (Quiet.keeps (q.stringBody fun _ _ _ q hk => q.macbElem hk))
  | jimanMvac | jimanMvach | jimanMvacl | jimanMvr | jimanMov | jimanAdd | jimanAdds | jimanSub | jimanSubs | jimanAnd
  | jimanOr | jimanXor | jimanAndn | jimanShl | jimanShr | jimanSar | jimanShls | jimanMin | jimanMax | jimanNeg
  | jimanNegs | jimanAbs | jimanAbss | jimanNot | jimanCls | jimanMovda | jimanMovi | jimanAddi | jimanShli | jimanShri
  | jimanSari | jimanShlsi =>
    exact k.jimanRun (Quiet.keeps q.setJd)
  | jimanMvs => exact k.jimanRun (Quiet.keeps (.state_ite q q.setJr))
  | jimanMovad | jimanAdda | jimanMovia | jimanMova | jimanAddaD | jimanSuba => exact k.jimanRun (Quiet.keeps q.setJa)
  | jimanLdf => exact k.jimanRun (Quiet.keeps q.jldf)
  | jimanRpti | jimanRpt => exact k.jimanRun (Quiet.keeps q.repeatBody)
  | illegalOpcode => exact .quiet q.execIllegalOpcode
  | linkTrained => exact .quiet q.linkTrained
  | perstNDeassertion => exact .quiet q.setLink
  | msixVectorUnmask => exact .quiet (.ite q q.setLink.sendPendingVectors)
  | driveRemoval => exact .quiet (.ite q.setPort.setKeep (.ite q q.setPort))

/-- Settles O6: every command keeps hold-up assurance sound, and time does not touch what it reads. -/
theorem assuranceStaysSound : Obligations.AssuranceStaysSound := by
  intro s t sound e
  unfold step at e
  split at e
  · cases e
    exact (Quiet.refl s).tickFclk.settleTime.keeps.leads sound
  · next c rest _ =>
    have kept := exec_keeps c { s with pending := rest }
    rw [e] at kept
    exact kept.leads (AssuranceSound.reads (s := s) rfl sound)

/-- Settles O8: what every command keeps holds the queue and the count of free values. -/
theorem commandsLeaveTheQueue : Obligations.CommandsLeaveTheQueue := by
  intro i s t e
  have kept := exec_keeps i s
  rw [e] at kept
  exact ⟨kept.pending, kept.free⟩

/-- Settles O1: `step` reads the queue's front. -/
theorem aStepRunsTheFrontCommand : Obligations.AStepRunsTheFrontCommand := by
  intro s c rest e
  rw [step, e]

/-- Settles O5: HOLD_ASSURE and ASSURE are low after reset, and its memories are listed as they must be. -/
theorem resetIsSound : Obligations.ResetIsSound :=
  ⟨AssuranceOff.toSound ⟨rfl, rfl, fun e => absurd e Bool.false_ne_true⟩, rfl⟩

end Sys2Proof.Machine
end

section
/-! PROOF. What the shared operations of the power, management and gauge commands leave as it is. -/

set_option Elab.async false

namespace Sys2Proof.Machine
open Sys2Proof

/-! ### Relating a state to the one before it

An operation is described by what it leaves as it is: `Same e s t` says that s and t agree in all that e keeps of a state. -/

/-- The states s and t agree in what e keeps of a state. -/
def Same {α : Type} (e : State → α) (s t : State) : Prop := e t = e s

section
variable {α β : Type} {e : State → α} {s t u : State}

theorem Same.refl (s : State) : Same e s s := Eq.refl _

theorem Same.trans (h : Same e s t) (k : Same e t u) : Same e s u := Eq.trans k h

theorem Same.ite {c : Prop} [Decidable c] (h : Same e s t) (k : Same e s u) : Same e s (if c then t else u) := by
  split <;> assumption

/-- What depends only on the part kept is the same of both states. -/
theorem Same.get {e : State → State} (h : Same e s t) (f : State → β) (hf : ∀ x, f (e x) = f x := by intro x; rfl) :
    f t = f s := by
  rw [← hf t, ← hf s]; exact congrArg f h

/-- Two states that agree in more agree in less. -/
theorem Same.weaken {e : State → State} (h : Same e s t) {f : State → β} (hf : ∀ x, f (e x) = f x := by intro x; rfl) :
    Same f s t := h.get f hf

end

/-! ### Reports

A report to the log, to the sideband or to the host changes only the log, the messages sent, the event register and the
count of free values. -/

/-- A state with all that a report may change taken out of it. -/
def State.unreported (s : State) : State :=
  { s with
    mgmt := { s.mgmt with crumbs := [], crumbCount := 0, side := [] }
    queue := { s.queue with event := 0 }
    link := { s.link with sent := [], pba := 0 }
    freeCtr := 0 }

/-- The state t is s after reports. -/
abbrev Reported : State → State → Prop := Same State.unreported

/-- A state without its log and its count of free values. -/
def State.unlogged (s : State) : State := { s with mgmt := { s.mgmt with crumbs := [], crumbCount := 0 }, freeCtr := 0 }

theorem logCrumb_unlogged (s : State) (loc : W16) (sev ev : Byte) : Same State.unlogged s (logCrumb s loc sev ev) := rfl

theorem logCrumb_reported (s : State) (loc : W16) (sev ev : Byte) : Reported s (logCrumb s loc sev ev) :=
  (logCrumb_unlogged s loc sev ev).weaken

theorem pldmEvent_reported (s : State) (n : Nat) : Reported s (pldmEvent s n) := by
  unfold pldmEvent; split
  · exact .refl s
  · rfl

theorem sendVector_reported (s : State) (v : Nat) : Reported s (sendVector s v) := by
  unfold sendVector; exact .ite rfl rfl

theorem deviceEvent_reported (s : State) (b : Nat) : Reported s (deviceEvent s b) := by
  unfold deviceEvent
  have h : Reported s (s.setQueue { s.queue with event := s.queue.event ||| BitVec.twoPow 32 b }) := rfl
  exact .ite (.refl s) (.ite (h.trans (sendVector_reported _ 63)) h)

/-- Whether a fall of the limit from `old` passes a threshold that is armed (R311, R348). -/
def fallsBelow (s : State) (old threshold : Nat) (armed : Bool) : Bool :=
  decide (threshold ≤ old) && decide (s.limit < threshold) && armed

/-- The state with the thresholds disarmed that a fall of the limit passes. -/
def disarmed (s : State) (old : Nat) : State :=
  s.setGauge { s.gauge with
    warnArmed := s.gauge.warnArmed && !fallsBelow s old 262144 s.gauge.warnArmed
    critArmed := s.gauge.critArmed && !fallsBelow s old 16384 s.gauge.critArmed }

theorem limitFell_reported (s : State) (old : Nat) : Reported (disarmed s old) (limitFell s old) := by
  unfold limitFell
  extract_lets warn crit g s1 s2 s3 s4
  have h1 : Reported (disarmed s old) s1 := rfl
  have h2 : Reported (disarmed s old) s2 := .ite (h1.trans (deviceEvent_reported _ _)) h1
  have h3 : Reported (disarmed s old) s3 := .ite (h2.trans (deviceEvent_reported _ _)) h2
  have h4 : Reported (disarmed s old) s4 := .ite (h3.trans (pldmEvent_reported _ _)) h3
  exact .ite (h4.trans (pldmEvent_reported _ _)) h4

/-- A state with what a fall of the limit may change taken out of it: the reports and the arms. -/
def State.unfallen (s : State) : State :=
  { s.unreported with gauge := { s.gauge with warnArmed := false, critArmed := false } }

theorem limitFell_unfallen (s : State) (old : Nat) : Same State.unfallen s (limitFell s old) :=
  (limitFell_reported s old).weaken (f := State.unfallen)

/-! ### Vectors -/

theorem vset_eq_set {α : Type} {n : Nat} (v : Vector α n) (i : Nat) (x : α) (h : i < n) : vset v i x = v.set i x h := by
  ext j hj
  simp [vset, Vector.getElem_setIfInBounds, Vector.getElem_set]

theorem vget_eq_getElem {α : Type} {n : Nat} (v : Vector α n) (i : Nat) (d : α) (h : i < n) : vget v i d = v[i] := by
  simp [vget, h]

/-! ### Publishing a status word (R14) -/

/-- The state with a status word stored, before the events of a fallen limit. -/
def storedWord (s : State) (k : Nat) (v : W64) : State :=
  s.setMgmt { s.mgmt with
    words := vset s.mgmt.words k v
    stale := if k = 0 ∧ bitsOf (vget s.mgmt.words 0 0).toNat 32 16 ≠ bitsOf v.toNat 32 16 then false else s.mgmt.stale }

theorem publishWord_eq (s : State) (k : Nat) (v : W64) :
    publishWord s k v = if k = 0 then limitFell (storedWord s k v) s.limit else storedWord s k v := rfl

/-- Publishing a word stores it, and reports the events of a fallen limit. -/
theorem publishWord_unfallen (s : State) (k : Nat) (v : W64) : Same State.unfallen (storedWord s k v) (publishWord s k v) := by
  rw [publishWord_eq]; exact .ite (limitFell_unfallen _ _) (.refl _)

/-- A word other than the dirty-limit word is stored and nothing else. -/
theorem publishWord_of_pos (s : State) {k : Nat} (v : W64) (h : 0 < k) :
    publishWord s k v = { s with mgmt := { s.mgmt with words := vset s.mgmt.words k v } } := by
  have hk : k ≠ 0 := by omega
  rw [publishWord_eq, if_neg hk, storedWord, if_neg (fun c => hk c.1)]
  rfl

end Sys2Proof.Machine
end

section
/-! PROOF. The ports of the Jiman (O53). -/

set_option Elab.async false

namespace Sys2Proof.Machine
open Sys2Proof

/-! ### PUB_WRITE (R14) -/

theorem exec_pubWrite (v : W16) (s : State) (h : 1 ≤ v.toNat ∧ v.toNat ≤ 5) :
    exec (.pubWrite v) s = .next (publishWord s (v.toNat - 1) s.jiman.stage) :=
  congrArg Host.Outcome.next (if_pos h)

theorem exec_pubWrite_other (v : W16) (s : State) (h : v.toNat = 0 ∨ 5 < v.toNat) : exec (.pubWrite v) s = .next s :=
  congrArg Host.Outcome.next (if_neg (by omega))

theorem pubWrite_pos (s : State) (k : Fin 5) (h : 0 < k.val) :
    exec (.pubWrite (BitVec.ofNat 16 (k + 1))) s =
      .next { s with mgmt := { s.mgmt with words := s.mgmt.words.set k s.jiman.stage } } := by
  have hv : (BitVec.ofNat 16 (k.val + 1)).toNat = k.val + 1 := by
    rw [BitVec.toNat_ofNat]; have := k.isLt; omega
  rw [exec_pubWrite _ s (by rw [hv]; have := k.isLt; omega), hv, Nat.add_sub_cancel, publishWord_of_pos s _ h,
    vset_eq_set _ _ _ k.isLt]

theorem pubWrite_dirtyLimit (s : State) :
    ∃ t, exec (.pubWrite 1) s = .next t ∧ t.mgmt.words = s.mgmt.words.set 0 s.jiman.stage ∧
      (bitsOf s.mgmt.words[0].toNat 32 16 ≠ bitsOf s.jiman.stage.toNat 32 16 →
        t.mgmt.stale = false ∧ t.limit = bitsOf s.jiman.stage.toNat 0 23) ∧
      (bitsOf s.mgmt.words[0].toNat 32 16 = bitsOf s.jiman.stage.toNat 32 16 → t.mgmt.stale = s.mgmt.stale) ∧ t.dev = s.dev := by
  have h := publishWord_unfallen s 0 s.jiman.stage
  have h0 : vget s.mgmt.words 0 0 = s.mgmt.words[0] := vget_eq_getElem _ _ _ (by omega)
  have hstale : (storedWord s 0 s.jiman.stage).mgmt.stale =
      if bitsOf s.mgmt.words[0].toNat 32 16 ≠ bitsOf s.jiman.stage.toNat 32 16 then false else s.mgmt.stale := by
    rw [← h0]; simp [storedWord]
  have hw : (storedWord s 0 s.jiman.stage).mgmt.words = vset s.mgmt.words 0 s.jiman.stage := rfl
  refine ⟨_, exec_pubWrite 1 s (by decide), (h.get (·.mgmt.words)).trans (vset_eq_set _ _ _ (by omega)), fun hne => ?_, fun heq => ?_, h.get State.dev⟩
  · rw [if_pos hne] at hstale
    refine ⟨(h.get (·.mgmt.stale)).trans hstale, (h.get State.limit).trans ?_⟩
    rw [State.limit, hstale, hw, vget_vset_self _ _ _ _ (by omega)]
    rfl
  · rw [if_neg (fun c => c heq)] at hstale
    exact (h.get (·.mgmt.stale)).trans hstale

/-! ### Program flash (Table 21.10, log entry 23) -/

/-- Two memories with the same bytes of a word read the same word. -/
theorem flashWord_congr {m m' : Memory} {k : Nat} (h : ∀ i < 2, m.read (2 * k + i) = m'.read (2 * k + i)) :
    flashWord m k = flashWord m' k := by
  rw [flashWord, flashWord, Memory.readLE, Memory.readLE, Memory.readN_congr m m' 2 (2 * k) h]

/-- Storing a word leaves every other word. -/
theorem flashWord_setFlashWord_ne (m : Memory) {a k : Nat} (w : BitVec 14) (h : k ≠ a) :
    flashWord (setFlashWord m a w) k = flashWord m k := by
  refine flashWord_congr fun i hi => Memory.read_writeN_outside _ _ ?_
  rw [length_natToBytes]; omega

/-- A word stored reads as stored. -/
theorem flashWord_setFlashWord_self {m : Memory} (a : Nat) (w : BitVec 14) (hw : m.wf = true) :
    flashWord (setFlashWord m a w) a = w := by
  have hlt : (0x3FFF ^^^ w).toNat < 2 ^ 14 := BitVec.isLt _
  rw [flashWord, setFlashWord, Memory.readLE_writeLE _ _ _ hw, Nat.mod_eq_of_lt (by omega), BitVec.ofNat_toNat,
    BitVec.setWidth_eq, ← BitVec.xor_assoc, BitVec.xor_self, BitVec.zero_xor]

theorem flashWord_programWord_ne (m : Memory) {a k : Nat} (w : BitVec 14) (h : k ≠ a) :
    flashWord (programWord m a w) k = flashWord m k := flashWord_setFlashWord_ne m _ h

/-- An erased word takes the data programmed. -/
theorem flashWord_programWord_erased {m : Memory} {a : Nat} (w : BitVec 14) (hw : m.wf = true) (he : flashWord m a = 0x3FFF) :
    flashWord (programWord m a w) a = w := by
  rw [programWord, flashWord_setFlashWord_self a _ hw, he, if_pos (Or.inl rfl)]

theorem read_eraseFlash (m : Memory) (a n x : Nat) :
    (eraseFlash m a n).read x = if x < 2 * a ∨ 2 * (a + n) ≤ x then m.read x else 0 := by
  rw [eraseFlash, Memory.read_filter (fun x => decide (x < 2 * a ∨ 2 * (a + n) ≤ x))]
  simp only [decide_eq_true_eq]

/-- A word outside the range erased stays. -/
theorem flashWord_eraseFlash_outside (m : Memory) {a n k : Nat} (h : k < a ∨ a + n ≤ k) :
    flashWord (eraseFlash m a n) k = flashWord m k :=
  flashWord_congr fun i hi => by rw [read_eraseFlash, if_pos (by omega)]

/-- A word inside the range erased reads erased. -/
theorem flashWord_eraseFlash_inside (m : Memory) {a n k : Nat} (h : a ≤ k ∧ k < a + n) :
    flashWord (eraseFlash m a n) k = 0x3FFF := by
  have hb : flashWord (eraseFlash m a n) k = flashWord [] k :=
    flashWord_congr fun i hi => by rw [read_eraseFlash, if_neg (by omega)]; rfl
  rw [hb]
  simp [flashWord, Memory.readLE, Memory.readN, Memory.read, bytesToNat]

/-- The boot monitor's words never change (R404). -/
theorem flashResult_bootMonitor (j : Jiman) {k : Nat} (hk : k < 0x1000) : flashWord (flashResult j) k = flashWord j.flash k := by
  unfold flashResult
  extract_lets a
  split
  · split
    · rfl
    · exact flashWord_programWord_ne _ _ (by omega)
  · split
    · split
      · rfl
      · exact flashWord_eraseFlash_outside _ (by simp only [flashSector]; omega)
    · split
      · exact flashWord_eraseFlash_outside _ (.inl hk)
      · exact flashWord_eraseFlash_outside _ (by omega)

theorem flashResult_program (j : Jiman) (hc : j.flashCmd = 0) (ha : 0x1000 ≤ j.flashAddr.toNat % 131072) :
    flashResult j = programWord j.flash (j.flashAddr.toNat % 131072) (j.flashData.setWidth 14) := by
  rw [flashResult, if_pos hc, if_neg (by omega)]

theorem flashResult_eraseSector (j : Jiman) (hc : j.flashCmd = 1) (ha : 0x1000 ≤ j.flashAddr.toNat % 131072) :
    flashResult j = eraseFlash j.flash (j.flashAddr.toNat % 131072 / 4096 * 4096) 4096 := by
  rw [flashResult, if_neg (by rw [hc]; decide), if_pos hc, if_neg (by omega)]
  rfl

theorem exec_flashOperationDone {s : State} {b : Bool} (h : s.jiman.flashBusy = some b) :
    exec .flashOperationDone s = .next (s.setJiman { s.jiman with
      flash := flashResult s.jiman, flashBusy := none, intPend := s.jiman.intPend ||| 0x40 }) := by
  change Host.Outcome.next (flashDone s) = _
  rw [flashDone, h]
  rfl

theorem flashOperationDone_words (s : State) (b : Bool) (hb : s.jiman.flashBusy = some b) (hw : s.jiman.flash.wf = true) :
    let a := s.jiman.flashAddr.toNat % 131072
    ∃ t, exec .flashOperationDone s = .next t ∧ t.jiman.flashBusy = none ∧
      t.jiman.intPend = s.jiman.intPend ||| 0x40 ∧ t = { s with jiman := t.jiman } ∧
      (∀ k < 0x1000, flashWord t.jiman.flash k = flashWord s.jiman.flash k) ∧
      (s.jiman.flashCmd = 0 → 0x1000 ≤ a → flashWord s.jiman.flash a = 0x3FFF →
        flashWord t.jiman.flash a = s.jiman.flashData.setWidth 14 ∧
        ∀ k, k ≠ a → flashWord t.jiman.flash k = flashWord s.jiman.flash k) ∧
      (s.jiman.flashCmd = 1 → 0x1000 ≤ a →
        (∀ k, a / 4096 = k / 4096 → flashWord t.jiman.flash k = 0x3FFF) ∧
        (∀ k, a / 4096 ≠ k / 4096 → flashWord t.jiman.flash k = flashWord s.jiman.flash k)) := by
  intro a
  refine ⟨_, exec_flashOperationDone hb, rfl, rfl, rfl, fun k hk => flashResult_bootMonitor _ hk, fun hc ha he => ?_,
    fun hc ha => ?_⟩
  · simp only [State.setJiman_jiman, flashResult_program s.jiman hc ha]
    exact ⟨flashWord_programWord_erased _ hw he, fun k hk => flashWord_programWord_ne _ _ hk⟩
  · simp only [State.setJiman_jiman, flashResult_eraseSector s.jiman hc ha]
    exact ⟨fun k hk => flashWord_eraseFlash_inside _ (by omega), fun k hk => flashWord_eraseFlash_outside _ (by omega)⟩

theorem exec_flashCommand (op : FlashOp) {s : State} (h : s.jiman.flashBusy = none) :
    exec (.flashCommand op) s = .next { s with jiman := { s.jiman with
      flashCmd := (match op with | .program => 0 | .eraseSector => 1 | .eraseBank => 2)
      flashBusy := some (s.jiman.flashAddr.getLsbD 16) } } := by
  change Host.Outcome.next (flashStart s op) = _
  simp only [flashStart, h]
  cases op <;> rfl

theorem exec_flashCommand_busy (op : FlashOp) {s : State} {b : Bool} (h : s.jiman.flashBusy = some b) :
    exec (.flashCommand op) s = .next s := by
  change Host.Outcome.next (flashStart s op) = _
  simp only [flashStart, h]

/-! ### The signature unit, the fuses, the timer and the tick -/

theorem toNat_extractLsb'_setWidth {w : Nat} (x : BitVec w) {m n : Nat} (h : n ≤ m) :
    ((x.setWidth m).extractLsb' 0 n).toNat = (x.extractLsb' 0 n).toNat := by
  rw [BitVec.extractLsb'_toNat, BitVec.extractLsb'_toNat, Nat.shiftRight_zero, Nat.shiftRight_zero, BitVec.toNat_setWidth,
    Nat.mod_mod_of_dvd _ (Nat.pow_dvd_pow 2 h)]

/-- The first four bytes of a header are those of its first 64 bytes. -/
theorem fld_setWidth_header (h : BitVec 4096) : fld (h.setWidth 512) 0 4 = hfld h 0 4 := by
  exact toNat_extractLsb'_setWidth h (by decide)

/-- A header without its magic number is not correct (R407). -/
theorem headerOk_of_magic_ne {h : BitVec 4096} (hm : fld (h.setWidth 512) 0 4 ≠ 0x57465354) : headerOk h = false := by
  rw [fld_setWidth_header] at hm
  simp only [headerOk, hm, decide_false, Bool.false_and]

theorem imagePasses_of_header_wrong (f : Firmware) (flash : Memory) (slot : Bool) {h : BitVec 4096} (hw : headerOk h = false) :
    imagePasses f flash slot h = false := by simp [imagePasses, hw]

/-- The image of manufacture passes with a correct header (R407). -/
theorem imagePasses_of_factory {f : Firmware} (flash : Memory) {slot : Bool} {h : BitVec 4096}
    (hf : f.factory[slot.toNat]? = some true) (ho : headerOk h = true) : imagePasses f flash slot h = true := by
  simp [imagePasses, ho, vget, hf]

/-- Blowing a fuse sets that fuse (R408). -/
theorem getLsbD_blown (r : BitVec 2) (k j : Fin 2) :
    (r ||| BitVec.ofNat 2 (2 ^ k.val % 4)).getLsbD j = (r.getLsbD j || decide (j = k)) := by
  rw [BitVec.getLsbD_or]
  congr 1
  revert k j; decide

theorem blowRevoke_fuses (s : State) (k : Fin 2) :
    ∃ t, exec (.blowRevoke k) s = .next t ∧ t.firmware.revoked.getLsbD k = true ∧
      (∀ j : Fin 2, j ≠ k → t.firmware.revoked.getLsbD j = s.firmware.revoked.getLsbD j) ∧
      t = { s with firmware := { s.firmware with revoked := t.firmware.revoked } } := by
  have hb (j : Fin 2) : (blowRevoke s k).firmware.revoked.getLsbD j = (s.firmware.revoked.getLsbD j || decide (j = k)) :=
    getLsbD_blown _ k j
  refine ⟨blowRevoke s k, rfl, ?_, fun j hj => ?_, rfl⟩
  · rw [hb, decide_eq_true rfl, Bool.or_true]
  · rw [hb, decide_eq_false hj, Bool.or_false]

theorem exec_oneshotTimerExpiry {s : State} (h : s.jiman.oneshot ≠ 0) :
    exec .oneshotTimerExpiry s = .next { s with jiman := { s.jiman with oneshot := 0, intPend := s.jiman.intPend ||| 0x80 } } :=
  congrArg Host.Outcome.next (if_neg h)

theorem exec_oneshotTimerExpiry_unloaded {s : State} (h : s.jiman.oneshot = 0) : exec .oneshotTimerExpiry s = .next s :=
  congrArg Host.Outcome.next (if_pos h)

theorem exec_tickLoRead (s : State) (d : BitVec 3) :
    exec (.tickLoRead d) s = .next { s with jiman := { s.jiman with
      tickHi := s.mgmt.tick.extractLsb' 16 16
      regs := { s.jiman.regs with d := s.jiman.regs.d.set d.toNat (s.mgmt.tick.extractLsb' 0 16) d.isLt } } } := by
  rw [← vset_eq_set]
  rfl

/-- Settles O53. Each command is one of the operations above: the words of program flash follow from what a store and an
erase do to a word, and the dirty-limit word from its store before the reports of a fallen limit. -/
theorem portsOfTheJiman : Obligations.PortsOfTheJiman := by
  unfold Obligations.PortsOfTheJiman
  intro s
  refine ⟨pubWrite_pos s, pubWrite_dirtyLimit s, fun v => exec_pubWrite_other v s, rfl, fun op => exec_flashCommand op,
    fun op b => exec_flashCommand_busy op, flashOperationDone_words s, ?signature, blowRevoke_fuses s, exec_oneshotTimerExpiry,
    exec_oneshotTimerExpiry_unloaded, exec_tickLoRead s⟩
  case signature =>
    exact ⟨_, rfl, fun hm => imagePasses_of_header_wrong _ _ _ (headerOk_of_magic_ne hm), imagePasses_of_factory _⟩

end Sys2Proof.Machine
end

section
/-! PROOF. Hold-up assurance, management faults and the management reset: what each sets and what it leaves as it is. -/

set_option Elab.async false

namespace Sys2Proof.Machine
open Sys2Proof

/-! ### The fall of hold-up assurance (R16, R17) -/

/-- HOLD_ASSURE and ASSURE low, with the time of the fall where HOLD_ASSURE was high; not yet reported. -/
def lowered (s : State) : State :=
  if s.mgmt.holdAssure then
    { s with
      mgmt := { s.mgmt with holdAssure := false, riseDue := false, assure := false }
      cache := { s.cache with assureFell := some s.clocks.timebase } }
  else { s with mgmt := { s.mgmt with riseDue := false } }

theorem setAssure_reported (s : State) (v : Bool) :
    Reported (s.setMgmt { s.mgmt with assure := v }) (setAssure s v) := by
  unfold setAssure
  split
  · next h => subst h; exact .refl s
  · exact .ite (deviceEvent_reported _ _) (.refl _)

theorem assureFall_reported (s : State) : Reported (lowered s) (assureFall s) := by
  unfold assureFall lowered
  split
  · exact (setAssure_reported _ false).trans (logCrumb_reported _ _ _ _)
  · exact .refl _

/-- A state with what a fall of hold-up assurance may change taken out of it. -/
def State.unassured (s : State) : State :=
  { s.unreported with
    mgmt := { s.unreported.mgmt with holdAssure := false, riseDue := false, assure := false }
    cache := { s.cache with assureFell := none } }

theorem lowered_unassured (s : State) : Same State.unassured s (lowered s) := by
  unfold lowered; exact .ite rfl rfl

theorem assureFall_unassured (s : State) : Same State.unassured s (assureFall s) :=
  (lowered_unassured s).trans (assureFall_reported s).weaken

theorem lowered_holdAssure (s : State) : (lowered s).mgmt.holdAssure = false := by
  unfold lowered
  split
  · rfl
  · next h => exact Bool.eq_false_iff.mpr h

theorem assureFall_holdAssure (s : State) : (assureFall s).mgmt.holdAssure = false :=
  ((assureFall_reported s).get (·.mgmt.holdAssure)).trans (lowered_holdAssure s)

theorem checkAssure_unassured (s : State) : Same State.unassured s (checkAssure s) :=
  .ite (.refl s) (assureFall_unassured s)

/-! ### The management reset (R353-R355, R379) -/

/-- A state with what a management reset may change taken out of it: of the management plane, what it keeps stays. -/
def State.outliving (s : State) : State :=
  { s with
    mgmt := { Reset.mgmt with
      tick := s.mgmt.tick, words := s.mgmt.words, stale := s.mgmt.stale, assureLock := s.mgmt.assureLock
      faultTicks := s.mgmt.faultTicks, faultCounter := s.mgmt.faultCounter, overruns := s.mgmt.overruns
      wdogAt := s.mgmt.wdogAt, level := s.mgmt.level, driven := s.mgmt.driven, trip := s.mgmt.trip, tripN := s.mgmt.tripN
      ops := s.mgmt.ops, ffr := s.mgmt.ffr, powerOns := s.mgmt.powerOns }
    gauge := { Reset.gauge with present := s.gauge.present, rc := s.gauge.rc, fetClosed := s.gauge.fetClosed }
    jiman := { Reset.jiman with flash := s.jiman.flash }
    cache := { s.cache with assureFell := none }
    queue := { s.queue with event := 0 }
    link := { s.link with sent := [], pba := 0 }
    firmware := Reset.firmware
    freeCtr := 0 }

/-- What a management reset keeps of the gauge. -/
def Gauge.outliving (g : Gauge) : Bool × Nat × Bool := (g.present, g.rc, g.fetClosed)

theorem pauseCharge_outliving (g : Gauge) : (pauseCharge g).outliving = g.outliving := by
  unfold pauseCharge; split <;> rfl

theorem abandonTest_outliving (g : Gauge) (tick : Nat) : (abandonTest g tick).outliving = g.outliving := by
  unfold abandonTest; split <;> rfl

theorem selectRecord_outliving (g : Gauge) : (selectRecord g).outliving = g.outliving := by
  unfold selectRecord
  extract_lets e m
  clear_value e m
  cases e <;> cases m <;> rfl

theorem startInsertion_outliving (g : Gauge) : (startInsertion g).outliving = g.outliving := selectRecord_outliving g

theorem gaugeCleared_outliving (g : Gauge) (tick : Nat) (ok : Bool) : (gaugeCleared g tick ok).outliving = g.outliving := by
  have h : ({ abandonTest (pauseCharge g) tick with validLatch := false, fast := false } : Gauge).outliving = g.outliving :=
    (abandonTest_outliving _ _).trans (pauseCharge_outliving g)
  unfold gaugeCleared
  extract_lets g0 g1
  split
  · exact h
  · split
    · exact (startInsertion_outliving g1).trans h
    · exact h

theorem gaugeCleared_validLatch (g : Gauge) (tick : Nat) (ok : Bool) : (gaugeCleared g tick ok).validLatch = false := by
  unfold gaugeCleared
  extract_lets g0 g1
  split
  · rfl
  · split <;> rfl

theorem mgmtReset_mgmt (s : State) (ok : Bool) : (mgmtReset s ok).mgmt = mgmtCleared (assureFall s).mgmt ok := rfl

theorem mgmtReset_gauge (s : State) (ok : Bool) :
    (mgmtReset s ok).gauge = gaugeCleared (assureFall s).gauge (assureFall s).mgmt.tick.toNat ok := by
  unfold mgmtReset
  generalize assureFall s = u
  rfl

theorem mgmtReset_validLatch (s : State) (ok : Bool) : (mgmtReset s ok).gauge.validLatch = false := by
  rw [mgmtReset_gauge, gaugeCleared_validLatch]

/-- The state that differs from a state in its gauge only, and there in what a management reset may change. -/
theorem outliving_setGauge {s : State} {g : Gauge} (h : g.outliving = s.gauge.outliving) :
    Same State.outliving s (s.setGauge g) := by
  obtain ⟨hp, hr, hf⟩ : g.present = s.gauge.present ∧ g.rc = s.gauge.rc ∧ g.fetClosed = s.gauge.fetClosed := by
    simpa [Gauge.outliving] using h
  simp only [Same, State.outliving, State.setGauge, hp, hr, hf]

theorem mgmtReset_outliving (s : State) (ok : Bool) : Same State.outliving s (mgmtReset s ok) := by
  have h1 : Same State.outliving s (assureFall s) := (assureFall_unassured s).weaken
  refine h1.trans ?_
  unfold mgmtReset
  generalize assureFall s = s1
  extract_lets t1 t2 t3 t4 f
  have h3 : Same State.outliving s1 t3 := rfl
  have h4 : Same State.outliving t3 t4 := outliving_setGauge (gaugeCleared_outliving _ _ ok)
  exact (h3.trans h4).trans rfl

/-- What a management reset makes of the state, beyond what it leaves (Table 14.1). -/
theorem mgmtReset_begun (s : State) (ok : Bool) :
    (mgmtReset s ok).mgmt.resetting = true ∧ (mgmtReset s ok).mgmt.holdAssure = false ∧
      (mgmtReset s ok).mgmt.selftestOk = false ∧ (mgmtReset s ok).mgmt.toMg = none ∧ (mgmtReset s ok).mgmt.toDp = none ∧
      (mgmtReset s ok).mgmt.outbox = [] ∧ (mgmtReset s ok).mgmt.awaitNotice = true ∧
      (mgmtReset s ok).mgmt.resets = satInc s.mgmt.resets ∧ (mgmtReset s ok).jiman.regs = Reset.jregs ∧
      (mgmtReset s ok).gauge.validLatch = false := by
  have hr : (assureFall s).mgmt.resets = s.mgmt.resets := (assureFall_unassured s).get (·.mgmt.resets)
  refine ⟨rfl, assureFall_holdAssure s, rfl, rfl, rfl, rfl, rfl, ?_, rfl, mgmtReset_validLatch s ok⟩
  rw [mgmtReset_mgmt, ← hr]
  rfl

theorem mgmtReset_ram (s : State) {ok : Bool} (h : ok = false) : (mgmtReset s ok).jiman.ram = [] := by
  subst h; rfl

/-! ### Management faults (R358, R359) -/

/-- A fault is counted with its tick; what else a count may change is the lockout and the mismatch. -/
def State.uncounted (s : State) : State :=
  { s with mgmt := { s.mgmt with faultCounter := 0, assureLock := false, mismatch := false, faultTicks := [] } }

theorem countFault_uncounted (s : State) : Same State.uncounted s (countFault s) := rfl

/-- The fault after three kept ones is within a day of the second of them (R359). -/
theorem lockoutDue_of_third {ticks : List W32} {tick : W32}
    (h : ∃ a b c : W32, ticks = [a, b, c] ∧ (tick - b).toNat ≤ 86400000) : lockoutDue ticks tick = true := by
  obtain ⟨a, b, c, rfl, hb⟩ := h
  exact decide_eq_true hb

/-- Fewer than two faults before this one do not lock assurance out. -/
theorem lockoutDue_of_few {ticks : List W32} (tick : W32) (h : ticks.length < 2) : lockoutDue ticks tick = false := by
  match ticks, h with
  | [], _ => rfl
  | [_], _ => rfl

theorem writeFfr_ffr_ne_none (s : State) (loc : W16) (sev ev : Byte) : (writeFfr s loc sev ev).mgmt.ffr ≠ none := by
  unfold writeFfr
  extract_lets m
  split
  · next h => exact fun c => by rw [show s.mgmt.ffr = none from c] at h; cases h
  · exact Option.some_ne_none _

/-- A first-fault record that is not empty stays (R376). -/
theorem writeFfr_of_full {s : State} (loc : W16) (sev ev : Byte) (h : s.mgmt.ffr ≠ none) : writeFfr s loc sev ev = s := by
  unfold writeFfr
  extract_lets m
  split
  · rfl
  · next hn => exact absurd hn h

/-- A state without its first-fault record and its count of free values. -/
def State.unrecorded (s : State) : State := { s with mgmt := { s.mgmt with ffr := none }, freeCtr := 0 }

theorem writeFfr_unrecorded (s : State) (loc : W16) (sev ev : Byte) : Same State.unrecorded s (writeFfr s loc sev ev) := by
  unfold writeFfr
  extract_lets m
  split <;> rfl

/-! ### Bytes of a mailbox message (R367, Table 14.12) -/

theorem fld_eq (d : BitVec 512) (b n : Nat) : fld d b n = d.toNat / 2 ^ (8 * b) % 2 ^ (8 * n) := by
  rw [fld, BitVec.extractLsb'_toNat, Nat.shiftRight_eq_div_pow]

theorem natToBytes_one (x : Nat) : natToBytes x 1 = [BitVec.ofNat 8 x] := rfl

/-- The kind of a message is its first byte. -/
theorem fld_mkMsg_kind (kind opcode seq status code : Nat) (payload : List Byte) :
    fld (mkMsg kind opcode seq status code payload) 0 1 = kind % 256 := by
  rw [fld_eq, mkMsg, BitVec.toNat_ofNat]
  simp only [natToBytes_one, List.append_assoc, List.cons_append, bytesToNat, BitVec.toNat_ofNat]
  omega

end Sys2Proof.Machine
end

section
/-! PROOF. Management faults, the trip and the polls of drives, and the steps of a control-loop tick (O51). -/

set_option Elab.async false

namespace Sys2Proof.Machine
open Sys2Proof

/-! ### Lockstep mismatch and watchdog timeout (R358, R359) -/

/-- The state in which a management fault asserts its reset. -/
def faulted (s : State) (loc : W16) : State :=
  let s1 := writeFfr (assureFall (countFault s)) loc 3 0x01
  mgmtFaultEvent (s1.setMgmt { s1.mgmt with gated := true, mismatch := true }) loc 3

theorem mgmtFault_eq (s : State) (loc : W16) (ok : Bool) : mgmtFault s loc ok = mgmtReset (faulted s loc) ok := rfl

/-- A state with what a management fault may change before its reset taken out of it. -/
def State.unfaulted (s : State) : State :=
  { s.unassured with
    mgmt := { s.unassured.mgmt with
      faultCounter := 0, assureLock := false, mismatch := false, faultTicks := [], gated := false, ffr := none } }

theorem faulted_unfaulted (s : State) (loc : W16) : Same State.unfaulted s (faulted s loc) := by
  have h1 : Same State.unfaulted s (countFault s) := (countFault_uncounted s).weaken
  have h2 : Same State.unfaulted (countFault s) (assureFall (countFault s)) := (assureFall_unassured _).weaken
  have h3 : Same State.unfaulted (assureFall (countFault s)) (writeFfr (assureFall (countFault s)) loc 3 0x01) :=
    (writeFfr_unrecorded _ _ _ _).weaken
  refine ((h1.trans h2).trans h3).trans ?_
  unfold faulted
  generalize writeFfr (assureFall (countFault s)) loc 3 0x01 = u
  rfl

/-- The count and the lockout of a fault are those of its count. -/
theorem faulted_counted (s : State) (loc : W16) :
    (faulted s loc).mgmt.faultCounter = s.mgmt.faultCounter + 1 ∧
      (faulted s loc).mgmt.assureLock = (s.mgmt.assureLock || lockoutDue s.mgmt.faultTicks s.mgmt.tick) := by
  have h2 := assureFall_unassured (countFault s)
  have h3 := writeFfr_unrecorded (assureFall (countFault s)) loc 3 0x01
  have e (f : Mgmt → Nat × Bool) (hf : f = fun m => (m.faultCounter, m.assureLock)) :
      f (faulted s loc).mgmt = f (countFault s).mgmt := by
    subst hf
    refine Eq.trans ?_ ((h3.get fun x => (x.mgmt.faultCounter, x.mgmt.assureLock)).trans
      (h2.get fun x => (x.mgmt.faultCounter, x.mgmt.assureLock)))
    unfold faulted
    generalize writeFfr (assureFall (countFault s)) loc 3 0x01 = u
    rfl
  have := e _ rfl
  exact Prod.mk.inj this

theorem faulted_ffr (s : State) (loc : W16) :
    (faulted s loc).mgmt.ffr ≠ none ∧ (s.mgmt.ffr ≠ none → (faulted s loc).mgmt.ffr = s.mgmt.ffr) := by
  have hf : (faulted s loc).mgmt.ffr = (writeFfr (assureFall (countFault s)) loc 3 0x01).mgmt.ffr := by
    unfold faulted
    generalize writeFfr (assureFall (countFault s)) loc 3 0x01 = u
    rfl
  have ha : (assureFall (countFault s)).mgmt.ffr = s.mgmt.ffr := (assureFall_unassured (countFault s)).get (·.mgmt.ffr)
  rw [hf]
  refine ⟨writeFfr_ffr_ne_none _ _ _ _, fun h => ?_⟩
  rw [writeFfr_of_full _ _ _ (by rw [ha]; exact h), ha]

theorem exec_lockstepMismatch {s : State} (ok : Bool) (hp : s.power.tailstock = true) :
    exec (.lockstepMismatch ok) s = .next (if s.mgmt.assureLock then s else mgmtFault s 0xA000 ok) :=
  congrArg Host.Outcome.next (if_pos hp)

theorem exec_watchdogTimeout {s : State} (ok : Bool) (hp : s.power.tailstock = true) :
    exec (.watchdogTimeout ok) s = .next (mgmtFault s 0xA001 ok) :=
  congrArg Host.Outcome.next (if_pos hp)

/-- What a management fault makes of a state: its reset has begun, the fault is counted and in the first-fault record, and
the rest is as it was. -/
structure FaultReset (s t : State) : Prop where
  begun : t.mgmt.resetting = true ∧ t.mgmt.holdAssure = false ∧ t.mgmt.selftestOk = false ∧ t.mgmt.toMg = none ∧
    t.mgmt.toDp = none ∧ t.mgmt.outbox = [] ∧ t.mgmt.awaitNotice = true ∧ t.mgmt.resets = satInc s.mgmt.resets ∧
    t.jiman.regs = Reset.jregs ∧ t.gauge.validLatch = false
  counted : t.mgmt.faultCounter = s.mgmt.faultCounter + 1 ∧
    t.mgmt.assureLock = (s.mgmt.assureLock || lockoutDue s.mgmt.faultTicks s.mgmt.tick)
  recorded : t.mgmt.ffr ≠ none ∧ (s.mgmt.ffr ≠ none → t.mgmt.ffr = s.mgmt.ffr)
  left : t.mgmt.words = s.mgmt.words ∧ t.mgmt.tick = s.mgmt.tick ∧ t.mgmt.ops = s.mgmt.ops ∧
    t.jiman.flash = s.jiman.flash ∧ t.gauge.rc = s.gauge.rc ∧ t.power = s.power ∧ t.keep = s.keep ∧ t.dev = s.dev

theorem mgmtFault_reset (s : State) (loc : W16) (ok : Bool) : FaultReset s (mgmtFault s loc ok) := by
  have hu := faulted_unfaulted s loc
  have ho := mgmtReset_outliving (faulted s loc) ok
  have hc := faulted_counted s loc
  have hf := faulted_ffr s loc
  have hb := mgmtReset_begun (faulted s loc) ok
  rw [hu.get (·.mgmt.resets)] at hb
  rw [mgmtFault_eq]
  refine ⟨hb, ?_, ?_, ?_⟩
  · rw [ho.get (·.mgmt.faultCounter), ho.get (·.mgmt.assureLock)]; exact hc
  · rw [ho.get (·.mgmt.ffr)]; exact hf
  · exact ⟨(ho.get (·.mgmt.words)).trans (hu.get (·.mgmt.words)), (ho.get (·.mgmt.tick)).trans (hu.get (·.mgmt.tick)),
      (ho.get (·.mgmt.ops)).trans (hu.get (·.mgmt.ops)), (ho.get (·.jiman.flash)).trans (hu.get (·.jiman.flash)),
      (ho.get (·.gauge.rc)).trans (hu.get (·.gauge.rc)), (ho.get State.power).trans (hu.get State.power),
      (ho.get State.keep).trans (hu.get State.keep), (ho.get State.dev).trans (hu.get State.dev)⟩

theorem mgmtFault_ram (s : State) (loc : W16) {ok : Bool} (h : ok = false) : (mgmtFault s loc ok).jiman.ram = [] :=
  mgmtReset_ram _ h

/-- The lockout after a count: it stays, and it begins at the third fault within a day. -/
theorem lockout_counted {s : State} {lock : Bool} (hl : lock = (s.mgmt.assureLock || lockoutDue s.mgmt.faultTicks s.mgmt.tick)) :
    (s.mgmt.assureLock = true ∨ (∃ a b c : W32, s.mgmt.faultTicks = [a, b, c] ∧ (s.mgmt.tick - b).toNat ≤ 86400000) →
      lock = true) ∧
    (s.mgmt.assureLock = false → s.mgmt.faultTicks.length < 2 → lock = false) := by
  subst hl
  refine ⟨fun h => ?_, fun h hn => ?_⟩
  · rcases h with h | h
    · rw [h, Bool.true_or]
    · rw [lockoutDue_of_third h, Bool.or_true]
  · rw [h, lockoutDue_of_few _ hn, Bool.or_self]

/-! ### The comparator self-test (R357) -/

theorem exec_comparatorSelftest_pass {s : State} (hp : s.power.tailstock = true) :
    exec (.comparatorSelftest true) s = .next { s with mgmt := { s.mgmt with
      selftestNo := s.mgmt.selftestNo + 1, selftestOk := if s.mgmt.assureLock then s.mgmt.selftestOk else true } } := by
  refine congrArg Host.Outcome.next ((if_pos hp).trans ?_)
  cases s.mgmt.assureLock <;> rfl

/-- The state in which a failed self-test is reported. -/
def selftestFailedState (s : State) : State :=
  countFault (s.setMgmt { s.mgmt with selftestNo := s.mgmt.selftestNo + 1, selftestOk := false, selftestFailed := true })

theorem exec_comparatorSelftest_fail {s : State} (hp : s.power.tailstock = true) (hl : s.mgmt.assureLock = false) :
    exec (.comparatorSelftest false) s = .next (mgmtFaultEvent (assureFall (selftestFailedState s)) 0xA003 3) := by
  exact congrArg Host.Outcome.next ((if_pos hp).trans (if_neg (Bool.eq_false_iff.mp hl)))

theorem comparatorSelftest_fail {s : State} (hp : s.power.tailstock = true) (hl : s.mgmt.assureLock = false) :
    ∃ t, exec (.comparatorSelftest false) s = .next t ∧ t.mgmt.selftestNo = s.mgmt.selftestNo + 1 ∧
      t.mgmt.selftestOk = false ∧ t.mgmt.selftestFailed = true ∧ t.mgmt.holdAssure = false ∧
      t.mgmt.faultCounter = s.mgmt.faultCounter + 1 ∧
      ((∃ a b c : W32, s.mgmt.faultTicks = [a, b, c] ∧ (s.mgmt.tick - b).toNat ≤ 86400000) → t.mgmt.assureLock = true) ∧
      t.mgmt.resetting = s.mgmt.resetting ∧ t.power = s.power ∧ t.dev = s.dev := by
  obtain ⟨t, he, h, hh⟩ : ∃ t, exec (.comparatorSelftest false) s = .next t ∧
      Same State.unassured (selftestFailedState s) t ∧ t.mgmt.holdAssure = false := by
    have hr := logCrumb_reported (assureFall (selftestFailedState s)) 0xA003 3 ((assureFall (selftestFailedState s)).free 8)
    exact ⟨_, exec_comparatorSelftest_fail hp hl, (assureFall_unassured _).trans hr.weaken,
      (hr.get (·.mgmt.holdAssure)).trans (assureFall_holdAssure _)⟩
  have hlock : t.mgmt.assureLock = (s.mgmt.assureLock || lockoutDue s.mgmt.faultTicks s.mgmt.tick) := h.get (·.mgmt.assureLock)
  exact ⟨t, he, h.get (·.mgmt.selftestNo), h.get (·.mgmt.selftestOk), h.get (·.mgmt.selftestFailed), hh,
    h.get (·.mgmt.faultCounter), fun h3 => (lockout_counted hlock).1 (.inr h3), h.get (·.mgmt.resetting), h.get State.power,
    h.get State.dev⟩

/-! ### The trip and the polls (R365, R374) -/

/-- A state with what the trip may change taken out of it. -/
def State.untripped (s : State) : State :=
  { s with mgmt := { s.mgmt with trip := false, tripN := false, driven := 0, crumbs := [], crumbCount := 0 }, freeCtr := 0 }

theorem tripNow_untripped (s : State) : Same State.untripped s (tripNow s) := by
  unfold tripNow
  refine .ite (.refl s) (Same.trans ?_ (logCrumb_unlogged _ _ _ _).weaken)
  rfl

theorem tripNow_of_trip {s : State} (h : s.mgmt.trip = true) : tripNow s = s := if_pos h

theorem tripNow_of_not_trip {s : State} (h : s.mgmt.trip = false) :
    tripNow s = logCrumb (s.setMgmt { s.mgmt with trip := true, tripN := true, driven := 3 }) 0 0 0x05 :=
  if_neg (Bool.eq_false_iff.mp h)

/-- A trip is logged and forces level 3 (R365). -/
theorem tripNow_trips {s : State} (h : s.mgmt.trip = false) :
    (tripNow s).mgmt.trip = true ∧ (tripNow s).mgmt.tripN = true ∧ (tripNow s).mgmt.driven = 3 ∧
      (tripNow s).mgmt.crumbCount = s.mgmt.crumbCount + 1 := by
  rw [tripNow_of_not_trip h]
  exact ⟨rfl, rfl, rfl, rfl⟩

/-- A state with a sensor's reading changed. -/
def withReading (s : State) (n : Nat) (v : Int) : State :=
  s.setMgmt { s.mgmt with sensors := vset s.mgmt.sensors n { vget s.mgmt.sensors n noSensor with value := v } }

theorem withReading_value (s : State) (n : Fin 24) (v : Int) : (withReading s n v).mgmt.sensors[n].value = v := by
  change (vset s.mgmt.sensors n.val _)[n.val].value = v
  simp [vset_eq_set _ _ _ n.isLt]

theorem thermalTrip_trips {s : State} (hp : s.power.tailstock = true) (n : Fin 20) (v : Int) (hv : 840 ≤ v) (ht : s.mgmt.trip = false) :
    ∃ t, exec (.thermalTrip n v) s = .next t ∧ t.mgmt.trip = true ∧ t.mgmt.tripN = true ∧ t.mgmt.driven = 3 ∧
      t.mgmt.level = s.mgmt.level ∧ t.mgmt.sensors[n].value = v ∧ t.mgmt.crumbCount = s.mgmt.crumbCount + 1 ∧
      t.clocks = s.clocks ∧ t.power = s.power ∧ t.dev = s.dev := by
  have he : exec (.thermalTrip n v) s = .next (tripNow (withReading s n v)) :=
    congrArg Host.Outcome.next ((if_pos hp).trans (if_pos hv))
  have h := tripNow_untripped (withReading s n v)
  have hn : n.val < 24 := by have := n.isLt; omega
  have hval : (withReading s n v).mgmt.sensors[n.val].value = v := withReading_value s ⟨n, hn⟩ v
  obtain ⟨h1, h2, h3, h4⟩ := tripNow_trips (s := withReading s n v) ht
  generalize tripNow (withReading s n v) = t at he h h1 h2 h3 h4
  exact ⟨t, he, h1, h2, h3, h.get (·.mgmt.level), (h.get (·.mgmt.sensors[n.val].value)).trans hval, h4, h.get State.clocks,
    h.get State.power, h.get State.dev⟩

theorem all_below_trip {readings : Vector Int 20} :
    ((List.range 20).all fun n => decide (vget readings n 0 < 816)) = true ↔ ∀ n : Fin 20, readings[n] < 816 := by
  simp only [List.all_eq_true, List.mem_range, decide_eq_true_eq]
  constructor
  · intro h n; have := h n n.isLt; rwa [vget_eq_getElem _ _ _ n.isLt] at this
  · intro h n hn; rw [vget_eq_getElem _ _ _ hn]; exact h ⟨n, hn⟩

theorem exec_tripClear {s : State} (hp : s.power.tailstock = true) (readings : Vector Int 20) (ht : s.mgmt.trip = true)
    (hr : ∀ n : Fin 20, readings[n] < 816) :
    exec (.tripClear readings) s = .next { s with mgmt := { s.mgmt with
      trip := false, tripN := false, driven := s.mgmt.level } } :=
  congrArg Host.Outcome.next ((if_pos hp).trans (if_pos (by rw [ht, all_below_trip.mpr hr]; rfl)))

theorem exec_tripClear_hot {s : State} (hp : s.power.tailstock = true) (readings : Vector Int 20) (n : Fin 20) (hr : 816 ≤ readings[n]) :
    exec (.tripClear readings) s = .next s := by
  refine congrArg Host.Outcome.next ((if_pos hp).trans (if_neg fun c => ?_))
  have := all_below_trip.mp (Bool.and_eq_true_iff.mp c).2 n
  omega

/-- A port's record after a poll. -/
def polled (old : NvmePoll) : Option (Bool × Bool × W64) → NvmePoll
  | some (w, h, v) => { fails := 0, responds := true, smartWarn := w, tempWarn := h, reply := v }
  | none => { old with fails := old.fails + 1, responds := old.responds && decide (old.fails + 1 < 3) }

/-- A poll is recorded at its port; a change of what it says is logged (R374). -/
theorem nvmeMiPoll_reported {s : State} (hp : s.power.tailstock = true) (q : Fin 8) (reply : Option (Bool × Bool × W64)) :
    ∃ t, exec (.nvmeMiPoll q reply) s = .next t ∧
      Reported (s.setMgmt { s.mgmt with polls := s.mgmt.polls.set q (polled s.mgmt.polls[q] reply) }) t := by
  refine ⟨_, rfl, ?_⟩
  rw [nvmeMiPoll, onTailstock, if_pos hp, ← vset_eq_set _ _ _ q.isLt]
  have ho : vget s.mgmt.polls q.val { fails := 0, responds := false, smartWarn := false, tempWarn := false, reply := 0 } =
    s.mgmt.polls[q] := vget_eq_getElem _ _ _ q.isLt
  rw [ho]
  have hnew : (match reply with
      | some (w, t, r) => { fails := 0, responds := true, smartWarn := w, tempWarn := t, reply := r }
      | none => { s.mgmt.polls[q] with
          fails := s.mgmt.polls[q].fails + 1
          responds := s.mgmt.polls[q].responds && decide (s.mgmt.polls[q].fails + 1 < 3) } : NvmePoll) = polled s.mgmt.polls[q] reply := by
    rcases reply with _ | ⟨w, t, r⟩ <;> rfl
  rw [← hnew]
  exact .ite (logCrumb_reported _ _ _ _) (.refl _)

end Sys2Proof.Machine
end

section
/-! PROOF. A control-loop tick: raising it, the throttle decision, the publish step and its service step (O51). -/

set_option Elab.async false

namespace Sys2Proof.Machine
open Sys2Proof

/-! ### The conversions of a tick (R362, R366) -/

/-- A sensor after a conversion (R366). -/
def converted (x : Sensor) (r : Option Int) : Sensor :=
  if goodReading r then { x with value := r.getD 0, fails := 0 }
  else if x.retired then x
  else { x with fails := x.fails + 1, retired := decide (3 ≤ x.fails + 1) }

/-- A state without its sensors and its log. -/
def State.unlatched (s : State) : State :=
  { s.unlogged with mgmt := { s.unlogged.mgmt with sensors := Reset.mgmt.sensors } }

theorem vset_vget_self {α : Type} {n : Nat} (v : Vector α n) (i : Nat) (d : α) (h : i < n) : vset v i (vget v i d) = v := by
  rw [vget_eq_getElem v i d h, vset_eq_set v i _ h, Vector.set_getElem_self]

theorem sensorStep_unlatched (s : State) (n : Nat) (r : Option Int) : Same State.unlatched s (sensorStep s n r) := by
  have hset (v : Vector Sensor 24) : Same State.unlatched s (s.setMgmt { s.mgmt with sensors := v }) := rfl
  unfold sensorStep
  extract_lets x m retire s1 s2
  split
  · exact hset _
  · split
    · exact .refl s
    · have h1 : Same State.unlatched s s1 := hset _
      have h2 : Same State.unlatched s s2 := h1.trans (logCrumb_unlogged _ _ _ _).weaken
      exact .ite (h2.trans (logCrumb_unlogged _ _ _ _).weaken) h2

theorem sensorStep_sensors (s : State) {n : Nat} (r : Option Int) (hn : n < 24) :
    (sensorStep s n r).mgmt.sensors = vset s.mgmt.sensors n (converted (vget s.mgmt.sensors n noSensor) r) := by
  unfold sensorStep converted
  extract_lets x m retire s1 s2
  split
  · rfl
  · split
    · exact (vset_vget_self _ _ _ hn).symm
    · have h2 : s2.mgmt.sensors = s1.mgmt.sensors := (logCrumb_unlogged _ _ _ _).get (·.mgmt.sensors)
      refine Eq.trans ?_ h2
      split
      · exact (logCrumb_unlogged _ _ _ _).get (·.mgmt.sensors)
      · rfl

/-- The conversions of sensors 0 to k - 1. -/
def latchedTo (s : State) (readings : Vector (Option Int) 24) (k : Nat) : State :=
  (List.range k).foldl (fun s n => sensorStep s n (vget readings n none)) s

theorem latchedTo_succ (s : State) (readings : Vector (Option Int) 24) (k : Nat) :
    latchedTo s readings (k + 1) = sensorStep (latchedTo s readings k) k (vget readings k none) := by
  rw [latchedTo, List.range_succ, List.foldl_append]; rfl

theorem latchedTo_unlatched (s : State) (readings : Vector (Option Int) 24) (k : Nat) :
    Same State.unlatched s (latchedTo s readings k) := by
  induction k with
  | zero => exact .refl s
  | succ k ih => rw [latchedTo_succ]; exact ih.trans (sensorStep_unlatched _ _ _)

theorem latchedTo_sensor (s : State) (readings : Vector (Option Int) 24) {k : Nat} (hk : k ≤ 24) (n : Nat) :
    vget (latchedTo s readings k).mgmt.sensors n noSensor =
      if n < k then converted (vget s.mgmt.sensors n noSensor) (vget readings n none) else vget s.mgmt.sensors n noSensor := by
  induction k with
  | zero => rw [if_neg (by omega)]; rfl
  | succ k ih =>
    rw [latchedTo_succ, sensorStep_sensors _ _ (by omega)]
    by_cases h : n = k
    · subst h
      rw [vget_vset_self _ _ _ _ (by omega), if_pos (by omega), ih (by omega), if_neg (by omega)]
    · rw [vget_vset_ne _ _ _ (Ne.symm h), ih (by omega)]
      simp only [show n < k + 1 ↔ n < k by omega]

/-! ### Raising a tick (R360, R362, R365) -/

/-- A state with what raising a tick may change taken out of it. -/
def State.unraised (s : State) : State :=
  { s with
    mgmt := { s.mgmt with
      tick := 0, sensors := Reset.mgmt.sensors, power := [], rails := [], trip := false, tripN := false, driven := 0,
      crumbs := [], crumbCount := 0 }
    jiman := { s.jiman with intPend := 0 }
    freeCtr := 0 }

/-- The state of a raised tick before its conversions. -/
def tickedState (s : State) : State := raiseLine (s.setMgmt { s.mgmt with tick := s.mgmt.tick + 1 }) 0

/-- The state in which the trip of a tick is decided. -/
def latchedTick (s : State) (readings : Vector (Option Int) 24) (power : Nat) (rails : List W32) : State :=
  let s1 := latchSensors (tickedState s) readings
  s1.setMgmt { s1.mgmt with power := (power :: s1.mgmt.power).take 10, rails := rails.take 20 }

theorem raiseTick_eq (s : State) (readings : Vector (Option Int) 24) (power : Nat) (rails : List W32) :
    raiseTick s readings power rails =
      if overTrip readings then tripNow (latchedTick s readings power rails) else latchedTick s readings power rails := rfl

section
variable (s : State) (readings : Vector (Option Int) 24) (power : Nat) (rails : List W32)

theorem latchSensors_eq : latchSensors s readings = latchedTo s readings 24 := rfl

theorem latchedTick_unraised : Same State.unraised s (latchedTick s readings power rails) := by
  have h0 : Same State.unraised s (tickedState s) := rfl
  have h1 := (latchedTo_unlatched (tickedState s) readings 24).weaken (f := State.unraised)
  rw [latchedTick, latchSensors_eq]
  refine (h0.trans h1).trans ?_
  generalize latchedTo (tickedState s) readings 24 = u
  rfl

theorem latchedTick_fields :
    (latchedTick s readings power rails).mgmt.tick = s.mgmt.tick + 1 ∧
    (latchedTick s readings power rails).mgmt.trip = s.mgmt.trip ∧
    (latchedTick s readings power rails).mgmt.power = (power :: s.mgmt.power).take 10 ∧
    (latchedTick s readings power rails).jiman.intPend = s.jiman.intPend ||| BitVec.twoPow 8 0 := by
  have h := latchedTo_unlatched (tickedState s) readings 24
  have h1 := h.get (·.mgmt.tick)
  have h2 := h.get (·.mgmt.trip)
  have h3 := h.get (·.mgmt.power)
  have h4 := h.get (·.jiman.intPend)
  refine ⟨h1, h2, ?_, h4⟩
  have h5 : (latchedTo (tickedState s) readings 24).mgmt.power = s.mgmt.power := h3
  rw [← h5]; rfl

theorem latchedTick_sensor {n : Nat} (hn : n < 24) :
    vget (latchedTick s readings power rails).mgmt.sensors n noSensor =
      converted (vget s.mgmt.sensors n noSensor) (vget readings n none) :=
  (latchedTo_sensor (tickedState s) readings (Nat.le_refl 24) n).trans (if_pos hn)

theorem raiseTick_unraised : Same State.unraised s (raiseTick s readings power rails) := by
  have h := latchedTick_unraised s readings power rails
  rw [raiseTick_eq]
  exact .ite (h.trans (tripNow_untripped _).weaken) h

/-- Beyond the trip, a raised tick is the state in which the trip is decided. -/
theorem raiseTick_untripped : Same State.untripped (latchedTick s readings power rails) (raiseTick s readings power rails) := by
  rw [raiseTick_eq]
  exact .ite (tripNow_untripped _) (.refl _)

theorem raiseTick_trip :
    (raiseTick s readings power rails).mgmt.trip = (s.mgmt.trip || overTrip readings) := by
  obtain ⟨-, ht, -, -⟩ := latchedTick_fields s readings power rails
  rw [raiseTick_eq]
  cases ho : overTrip readings
  · rw [if_neg Bool.false_ne_true, Bool.or_false, ht]
  · rw [if_pos rfl, Bool.or_true]
    cases hs : s.mgmt.trip
    · exact (tripNow_trips (ht.trans hs)).1
    · rw [tripNow_of_trip (ht.trans hs), ht, hs]

end

/-- A conversion at 105 degrees C or above trips (R365). -/
theorem overTrip_of_hot {readings : Vector (Option Int) 24} {n : Nat} {v : Int} (hn : n < 20) (hr : vget readings n none = some v)
    (hv : 840 ≤ v) : overTrip readings = true := by
  rw [overTrip, List.any_eq_true]
  exact ⟨n, List.mem_range.mpr hn, by rw [hr]; exact decide_eq_true hv⟩

end Sys2Proof.Machine
end

section
/-! PROOF. The throttle decision and the status words (R14, R363). -/

set_option Elab.async false

namespace Sys2Proof.Machine
open Sys2Proof

/-! ### The hottest sensor -/

/-- The readings of the sensors in service from lo to hi, in whole degrees. -/
def degrees (m : Mgmt) (lo hi : Nat) : List Int :=
  (List.range (hi + 1 - lo)).filterMap fun i =>
    let x := vget m.sensors (lo + i) noSensor
    if x.retired then none else some (x.value / 8)

theorem mem_degrees {m : Mgmt} {lo hi : Nat} {d : Int} :
    d ∈ degrees m lo hi ↔ ∃ n, lo ≤ n ∧ n ≤ hi ∧ (vget m.sensors n noSensor).retired = false ∧
      d = (vget m.sensors n noSensor).value / 8 := by
  simp only [degrees, List.mem_filterMap, List.mem_range, Option.ite_none_left_eq_some, Option.some.injEq, Bool.not_eq_true]
  constructor
  · rintro ⟨i, hi', hr, rfl⟩
    exact ⟨lo + i, by omega, by omega, hr, rfl⟩
  · rintro ⟨n, hlo, hhi, hr, rfl⟩
    exact ⟨n - lo, by omega, by rwa [Nat.add_sub_cancel' hlo], by rw [Nat.add_sub_cancel' hlo]⟩

theorem highest_eq (m : Mgmt) (lo hi : Nat) : highest m lo hi = match degrees m lo hi with | [] => 0 | v :: rest => rest.foldl max v := by
  rw [highest]; rfl

theorem le_foldl_max {l : List Int} : ∀ {v x : Int}, x = v ∨ x ∈ l → x ≤ l.foldl max v := by
  induction l with
  | nil => rintro v x (rfl | h); exacts [Int.le_refl _, absurd h List.not_mem_nil]
  | cons y l ih =>
    rintro v x (rfl | h)
    · exact Int.le_trans (Int.le_max_left _ _) (ih (.inl rfl))
    · rcases List.mem_cons.mp h with rfl | h
      · exact Int.le_trans (Int.le_max_right _ _) (ih (.inl rfl))
      · exact ih (.inr h)

theorem foldl_max_mem {l : List Int} : ∀ {v : Int}, l.foldl max v = v ∨ l.foldl max v ∈ l := by
  induction l with
  | nil => exact .inl rfl
  | cons y l ih =>
    intro v
    rcases ih (v := max v y) with h | h
    · rw [List.foldl_cons, h]
      rcases le_total v y with hv | hv
      · rw [max_eq_right hv]; exact .inr List.mem_cons_self
      · rw [max_eq_left hv]; exact .inl rfl
    · exact .inr (List.mem_cons_of_mem _ h)

theorem le_highest {m : Mgmt} {lo hi : Nat} {d : Int} (h : d ∈ degrees m lo hi) : d ≤ highest m lo hi := by
  rw [highest_eq]
  match degrees m lo hi, h with
  | v :: rest, h => exact le_foldl_max (List.mem_cons.mp h)

theorem highest_le {m : Mgmt} {lo hi : Nat} {b : Int} (hb : 0 ≤ b) (h : ∀ d ∈ degrees m lo hi, d ≤ b) : highest m lo hi ≤ b := by
  rw [highest_eq]
  match hd : degrees m lo hi with
  | [] => exact hb
  | v :: rest =>
    rw [hd] at h
    change rest.foldl max v ≤ b
    rcases foldl_max_mem (l := rest) (v := v) with hv | hv
    · rw [hv]; exact h v List.mem_cons_self
    · exact h _ (List.mem_cons_of_mem _ hv)

/-! ### The throttle decision (R363, Table 14.11) -/

/-- A compute or memory sensor in service at 102 degrees C or above makes the highest reading so. -/
theorem highest_of_hot {m : Mgmt} {n : Nat} (hn : n < 20) (hr : (vget m.sensors n noSensor).retired = false)
    (hv : 816 ≤ (vget m.sensors n noSensor).value) : 102 ≤ max (highest m 0 11) (highest m 12 19) := by
  have hd : 102 ≤ (vget m.sensors n noSensor).value / 8 := by omega
  rcases Nat.lt_or_ge n 12 with h | h
  · have := le_highest (mem_degrees (lo := 0) (hi := 11).mpr ⟨n, by omega, by omega, hr, rfl⟩)
    exact le_max_of_le_left (by omega)
  · have := le_highest (mem_degrees (lo := 12) (hi := 19).mpr ⟨n, by omega, by omega, hr, rfl⟩)
    exact le_max_of_le_right (by omega)

theorem throttleDecision_of_hot {m : Mgmt} (h : 102 ≤ max (highest m 0 11) (highest m 12 19)) : (throttleDecision m).1 = 3 := by
  have he : entryLevel m = 3 := if_pos h
  have hx : exitHolds m 3 = false := decide_eq_false (by omega)
  have hl : m.level.toNat < 4 := m.level.isLt
  rw [throttleDecision, he]
  split
  · rfl
  · next h3 =>
    rw [show m.level.toNat = 3 by omega, hx]
    rfl

/-- With every sensor in service below 45 degrees C and the input power low, no level is asked for. -/
theorem entryLevel_of_cool {m : Mgmt} (h : ∀ n < 24, (vget m.sensors n noSensor).retired = false ∧ (vget m.sensors n noSensor).value < 360)
    (hp : powerAtLeast m 1400000 = false) : entryLevel m = 0 := by
  have hb (lo hi : Nat) (hhi : hi < 24) : highest m lo hi ≤ 44 := by
    refine highest_le (by omega) fun d hd => ?_
    obtain ⟨n, -, hn, -, rfl⟩ := mem_degrees.mp hd
    have := (h n (by omega)).2
    omega
  have hr (lo hi : Nat) (hhi : hi < 24) : retiredCount m lo hi = 0 := by
    rw [retiredCount, List.length_eq_zero_iff, List.filter_eq_nil_iff]
    intro i hi'
    have := List.mem_range.mp hi'
    rw [(h (lo + i) (by omega)).1]
    exact Bool.false_ne_true
  have hi : inletC m ≤ 44 := by have := (h 21 (by omega)).2; unfold inletC; omega
  have h1 := hb 0 11 (by omega)
  have h2 := hb 12 19 (by omega)
  have ht : max (highest m 0 11) (highest m 12 19) ≤ 44 := max_le h1 h2
  unfold entryLevel
  simp only [hr 0 11 (by omega), hr 12 19 (by omega), hp]
  rw [if_neg (by omega), if_neg (by omega), if_neg (by simp; omega)]

theorem throttleDecision_of_cool {m : Mgmt} (hl : m.level = 0) (h : entryLevel m = 0) : (throttleDecision m).1 = 0 := by
  have hx : exitHolds m 0 = false := rfl
  rw [throttleDecision, h, hl]
  simp [hx]

/-! ### The tick field of a status word (Tables 14.6 to 14.9) -/

/-- A word made of 32 low bits, a tick and bits above has the tick in its tick field. -/
theorem bitsOf_stamped {lo hi : Nat} {m : Mgmt} (hlo : lo < 2 ^ 32) :
    bitsOf (BitVec.ofNat 64 (lo + tickField m + 2 ^ 48 * hi)).toNat 32 16 = m.tick.toNat % 65536 := by
  rw [BitVec.toNat_ofNat, bitsOf, tickField]
  omega

theorem bitsOf_stamped_low {lo : Nat} {m : Mgmt} (hlo : lo < 2 ^ 32) :
    bitsOf (BitVec.ofNat 64 (lo + tickField m)).toNat 32 16 = m.tick.toNat % 65536 := by
  simpa using bitsOf_stamped (hi := 0) (m := m) hlo

theorem intBits_lt (w : Nat) (x : Int) : intBits w x < 2 ^ w := BitVec.isLt _

/-- The limit of a limit word. -/
def shownLimit (s : State) : Nat :=
  if s.gauge.present && estimateValid s.gauge && !s.mgmt.selftestFailed then dirtyLimit s.gauge.energy else 0

theorem shownLimit_le (s : State) : shownLimit s ≤ 4194304 := by
  unfold shownLimit
  split
  · exact Nat.min_le_right _ _
  · omega

theorem shownLimit_of_absent {s : State} (h : s.gauge.present = false) : shownLimit s = 0 := if_neg (by simp [h])

theorem limitWord_eq (s : State) :
    limitWord s = BitVec.ofNat 64 (shownLimit s + 2 ^ 23 * s.gauge.unrested.toNat + 2 ^ 24 * s.gauge.present.toNat + tickField s.mgmt) :=
  rfl

theorem limitWord_tick (s : State) : bitsOf (limitWord s).toNat 32 16 = s.mgmt.tick.toNat % 65536 := by
  have h1 := shownLimit_le s
  have h2 := Bool.toNat_le s.gauge.unrested
  have h3 := Bool.toNat_le s.gauge.present
  rw [limitWord_eq]
  exact bitsOf_stamped_low (by omega)

/-- Without a pack LIMIT is 0. -/
theorem limitWord_of_absent {s : State} (h : s.gauge.present = false) : bitsOf (limitWord s).toNat 0 23 = 0 := by
  rw [limitWord_eq, shownLimit_of_absent h, h, BitVec.toNat_ofNat, bitsOf, tickField]
  have h2 := Bool.toNat_le s.gauge.unrested
  simp only [Bool.toNat_false]
  omega

theorem packWord_tick (s : State) : bitsOf (packWord s).toNat 32 16 = s.mgmt.tick.toNat % 65536 := by
  have h1 := Nat.min_le_right s.gauge.energy 65535
  have h2 : s.gauge.sRep % 1024 < 1024 := Nat.mod_lt _ (by omega)
  have h3 := Bool.toNat_le s.gauge.present
  have h4 := Bool.toNat_le (estimateValid s.gauge)
  have h5 := Bool.toNat_le s.gauge.unrested
  have h6 := Bool.toNat_le (decide (s.gauge.charge = .constantCurrent ∨ s.gauge.charge = .constantVoltage))
  have h7 := Bool.toNat_le (decide (s.gauge.imp ≠ .idle))
  unfold packWord
  exact bitsOf_stamped (by omega)

theorem thermalWord_tick (s : State) : bitsOf (thermalWord s).toNat 32 16 = s.mgmt.tick.toNat % 65536 := by
  have h1 := intBits_lt 8 (highest s.mgmt 0 11)
  have h2 := intBits_lt 8 (highest s.mgmt 12 19)
  have h3 := intBits_lt 8 (inletC s.mgmt)
  have h4 : s.mgmt.driven.toNat < 4 := s.mgmt.driven.isLt
  have h5 := Bool.toNat_le s.mgmt.trip
  have h6 := Bool.toNat_le (decide (0 < retiredCount s.mgmt 12 19 ∨ 4 ≤ retiredCount s.mgmt 0 11))
  unfold thermalWord
  exact bitsOf_stamped (by omega)

/-- The bits of the drives up to port k, each less than a nibble. -/
theorem driveBits_lt (b : Nat → Nat) (hb : ∀ q, b q < 16) (k : Nat) :
    (List.range k).foldl (fun a q => a + 2 ^ (4 * q) * b q) 0 < 2 ^ (4 * k) := by
  induction k with
  | zero => simp
  | succ k ih =>
    rw [List.range_succ, List.foldl_append, Nat.mul_succ, Nat.pow_add]
    have := Nat.mul_le_mul_left (2 ^ (4 * k)) (Nat.lt_succ_iff.mp (hb k))
    simp only [List.foldl_cons, List.foldl_nil]
    omega

theorem driveWord_tick (s : State) : bitsOf (driveWord s).toNat 32 16 = s.mgmt.tick.toNat % 65536 := by
  unfold driveWord
  refine bitsOf_stamped_low (driveBits_lt (fun q => _) (fun q => ?_) 8)
  generalize vget s.mgmt.polls q _ = p
  have h1 := Bool.toNat_le p.responds
  have h2 := Bool.toNat_le p.smartWarn
  have h3 := Bool.toNat_le p.tempWarn
  omega

theorem healthWord_tick (s : State) : bitsOf (healthWord s).toNat 32 16 = s.mgmt.tick.toNat % 65536 := by
  have h1 := Nat.min_le_right (faultsInWindow s.mgmt) 3
  have h2 := Bool.toNat_le s.mgmt.assureLock
  have h3 := Bool.toNat_le s.mgmt.selftestOk
  have h4 : s.mgmt.overruns.toNat < 4096 := s.mgmt.overruns.isLt
  have h5 : s.mgmt.resets.toNat < 65536 := s.mgmt.resets.isLt
  unfold healthWord
  exact bitsOf_stamped (by omega)

end Sys2Proof.Machine
end

section
/-! PROOF. The handler of a control-loop tick (O51). -/

set_option Elab.async false

namespace Sys2Proof.Machine
open Sys2Proof

/-! ### What the steps of the handler leave as it is -/

/-- A state with what the handler's steps may change apart from the throttle level, the status words and the course of a
management reset taken out of it. -/
def State.steady (s : State) : State :=
  { s with
    mgmt := { s.mgmt with
      crumbs := [], crumbCount := 0, side := [], holdAssure := false, riseDue := false, assure := false, ffr := none
      hpCmd := none, ffrCmd := false, exitTicks := 0, inletOut := false, dpAlert := false, jop := none, retainedReply := none }
    gauge := { Reset.gauge with present := s.gauge.present }
    jiman := { s.jiman with regs := Reset.jregs }
    cache := Reset.cache
    queue := Reset.queue
    link := Reset.link
    freeCtr := 0 }

/-- The state t is s after steps of the handler that change neither the throttle level, the status words nor the course of
a management reset. -/
abbrev Steady : State → State → Prop := Same State.steady

theorem logCrumb_steady (s : State) (loc : W16) (sev ev : Byte) : Steady s (logCrumb s loc sev ev) :=
  (logCrumb_reported s loc sev ev).weaken

theorem pldmEvent_steady (s : State) (n : Nat) : Steady s (pldmEvent s n) := (pldmEvent_reported s n).weaken

theorem handOver_steady (s : State) : Steady s (handOver s) := by
  unfold handOver; exact .ite rfl (.refl s)

theorem applyWrites_steady (s : State) : Steady s (applyWrites s) := by
  unfold applyWrites
  extract_lets g m s1
  have h1 : Steady s s1 := by
    unfold s1
    split
    · exact .refl s
    · rfl
  exact .ite (h1.trans rfl) h1

/-- A change of the gauge that keeps the pack's presence. -/
theorem Steady.setGauge (s : State) {g : Gauge} (h : g.present = s.gauge.present) : Steady s (s.setGauge g) := by
  simp only [Same, State.steady, State.setGauge, h]

theorem storeImpedance_steady (s : State) (ok : Bool) : Steady s (storeImpedance s ok) := by
  unfold storeImpedance
  extract_lets g
  split
  · extract_lets z10 z200 g1 b
    exact .ite ((Steady.setGauge s rfl).trans (logCrumb_steady _ _ _ _)) (Steady.setGauge s rfl)
  · exact Steady.setGauge s rfl
  · exact .refl s

theorem moveRep_shown (g : Gauge) (tick : Nat) : (moveRep g tick).present = g.present := by
  unfold moveRep; split <;> rfl

theorem writeResidue_shown (g : Gauge) (tick : Nat) (ok : Bool) : (writeResidue g tick ok).present = g.present := by
  unfold writeResidue
  split
  · split <;> rfl
  · rfl

theorem setValidLatch_steady (s : State) (v : Bool) : Steady s (setValidLatch s v) :=
  (Steady.setGauge s rfl).trans (checkAssure_unassured _).weaken

theorem gaugeTick_steady (s : State) (ok : Bool) : Steady s (gaugeTick s ok) := by
  have h1 := storeImpedance_steady s ok
  unfold gaugeTick
  generalize storeImpedance s ok = s1 at h1 ⊢
  extract_lets s2 tick g
  have h2 : g.present = s1.gauge.present := (writeResidue_shown _ _ _).trans (moveRep_shown _ _)
  exact (h1.trans (Steady.setGauge s1 h2)).trans (setValidLatch_steady _ _)

theorem setInletOut_steady (s : State) (b : Bool) : Steady s (s.setMgmt { s.mgmt with inletOut := b }) := rfl

theorem throttleStep_steady (s : State) :
    Steady (setLevel s (BitVec.ofNat 2 (throttleDecision s.mgmt).1)) (throttleStep s) := by
  unfold throttleStep
  extract_lets d changed m s1 s2 v out m2 s3
  have h1 : Steady (setLevel s (BitVec.ofNat 2 d.1)) s1 := rfl
  have h2 : Steady (setLevel s (BitVec.ofNat 2 d.1)) s2 := .ite (h1.trans (logCrumb_steady _ _ _ _)) h1
  have h3 : Steady (setLevel s (BitVec.ofNat 2 d.1)) s3 := h2.trans (setInletOut_steady s2 out)
  have h4 : Steady s3 (mgmtFaultEvent s3 0xA035 0) := logCrumb_steady _ _ _ _
  split
  · exact (h3.trans h4).trans (pldmEvent_steady _ _)
  · exact h3

theorem logDpAlert_steady (s : State) : Steady s (logDpAlert s) := by
  unfold logDpAlert
  refine .ite ?_ (.refl s)
  refine Same.trans ?_ (logCrumb_steady _ _ _ _)
  rfl

/-! ### The publish step -/

/-- A state without its status words, their staleness and the watchdog's refresh. -/
def State.unpublished (s : State) : State :=
  { s.steady with mgmt := { s.steady.mgmt with words := Reset.mgmt.words, stale := false, wdogAt := 0 } }

theorem publishWord_unpublished (s : State) (k : Nat) (v : W64) : Same State.unpublished s (publishWord s k v) :=
  Same.trans (t := storedWord s k v) rfl (publishWord_unfallen s k v).weaken

theorem publishWord_words (s : State) (k : Nat) (v : W64) : (publishWord s k v).mgmt.words = vset s.mgmt.words k v :=
  (publishWord_unfallen s k v).get (·.mgmt.words)

/-- The status word k of a state (Table 14.6). -/
def statusWord : Nat → State → W64
  | 0 => limitWord
  | 1 => packWord
  | 2 => thermalWord
  | 3 => driveWord
  | _ => healthWord

theorem statusWord_tick (k : Nat) (s : State) : bitsOf (statusWord k s).toNat 32 16 = s.mgmt.tick.toNat % 65536 := by
  match k with
  | 0 => exact limitWord_tick s
  | 1 => exact packWord_tick s
  | 2 => exact thermalWord_tick s
  | 3 => exact driveWord_tick s
  | _ + 4 => exact healthWord_tick s

/-- The state with the first n words of a publish step published. -/
def published (s : State) : Nat → State
  | 0 => s
  | n + 1 => publishWord (published s n) n (statusWord n (published s n))

theorem publishStep_eq (s : State) : publishStep s = wdogRefresh (published s 5) := rfl

section
variable (s : State)

theorem published_unpublished (n : Nat) : Same State.unpublished s (published s n) := by
  induction n with
  | zero => exact .refl s
  | succ n ih => exact ih.trans (publishWord_unpublished _ _ _)

theorem published_tick (n : Nat) : (published s n).mgmt.tick = s.mgmt.tick := (published_unpublished s n).get (·.mgmt.tick)

/-- Each word published carries the tick. -/
theorem published_stamped {n : Nat} (hn : n ≤ 5) {k : Nat} (hk : k < n) :
    bitsOf (vget (published s n).mgmt.words k 0).toNat 32 16 = s.mgmt.tick.toNat % 65536 := by
  induction n with
  | zero => omega
  | succ n ih =>
    rw [published, publishWord_words]
    by_cases h : k = n
    · subst h
      rw [vget_vset_self _ _ _ _ (by omega), statusWord_tick, published_tick]
    · rw [vget_vset_ne _ _ _ (Ne.symm h)]
      exact ih (by omega) (by omega)

/-- The words after the first leave the dirty-limit word and its staleness. -/
theorem published_first {n : Nat} (hn : 0 < n) :
    vget (published s n).mgmt.words 0 0 = limitWord s ∧
      (published s n).mgmt.stale = (storedWord s 0 (limitWord s)).mgmt.stale := by
  induction n, hn using Nat.le_induction with
  | base =>
    refine ⟨?_, (publishWord_unfallen s 0 (limitWord s)).get (·.mgmt.stale)⟩
    exact (congrArg (vget · 0 0) (publishWord_words s 0 (limitWord s))).trans (vget_vset_self _ _ _ _ (by omega))
  | succ n hn ih =>
    rw [published, publishWord_of_pos _ _ hn]
    exact ⟨(vget_vset_ne _ _ _ (by omega)).trans ih.1, ih.2⟩

theorem wdogRefresh_unpublished : Same State.unpublished s (wdogRefresh s) := rfl

theorem wdogRefresh_words : (wdogRefresh s).mgmt.words = s.mgmt.words := rfl

theorem wdogRefresh_stale : (wdogRefresh s).mgmt.stale = s.mgmt.stale := rfl

theorem wdogRefresh_wdogAt : (wdogRefresh s).mgmt.wdogAt = s.clocks.timebase := rfl

theorem publishStep_unpublished : Same State.unpublished s (publishStep s) := by
  rw [publishStep_eq]
  exact (published_unpublished s 5).trans (wdogRefresh_unpublished _)

/-- The words and the watchdog after a publish step (R14, R360). -/
theorem publishStep_words :
    (∀ k : Fin 5, bitsOf (publishStep s).mgmt.words[k].toNat 32 16 = s.mgmt.tick.toNat % 65536) ∧
    (bitsOf (vget s.mgmt.words 0 0).toNat 32 16 ≠ s.mgmt.tick.toNat % 65536 → (publishStep s).mgmt.stale = false) ∧
    (s.gauge.present = false → bitsOf (publishStep s).mgmt.words[0].toNat 0 23 = 0) ∧
    (publishStep s).mgmt.wdogAt = s.clocks.timebase := by
  obtain ⟨h0, h1⟩ := published_first s (n := 5) (by omega)
  have hw : (publishStep s).mgmt.words = (published s 5).mgmt.words := by rw [publishStep_eq, wdogRefresh_words]
  have hs : (publishStep s).mgmt.stale = (published s 5).mgmt.stale := by rw [publishStep_eq, wdogRefresh_stale]
  have hd : (publishStep s).mgmt.wdogAt = (published s 5).clocks.timebase := by rw [publishStep_eq, wdogRefresh_wdogAt]
  rw [hw, hs, hd]
  refine ⟨fun k => ?_, fun hne => ?_, fun hp => ?_, (published_unpublished s 5).get (·.clocks.timebase)⟩
  · exact vget_eq_getElem (published s 5).mgmt.words _ 0 k.isLt ▸ published_stamped s (Nat.le_refl 5) k.isLt
  · exact h1.trans (if_pos ⟨rfl, by rwa [limitWord_tick]⟩)
  · rw [← vget_eq_getElem _ _ 0 (by omega), h0]
    exact limitWord_of_absent hp

end

/-! ### The service step -/

/-- A state with what an answer of the service step may change taken out of it: the messages to be sent. -/
def State.unsent (s : State) : State := { s.steady with mgmt := { s.steady.mgmt with outbox := [] } }

/-- A state with what the end of a management reset may change taken out of it. -/
def State.uncompleted (s : State) : State := { s.unsent with mgmt := { s.unsent.mgmt with resetting := false } }

/-- A state with what the service step may change taken out of it. -/
def State.unserved (s : State) : State :=
  { s.uncompleted with mgmt := { s.uncompleted.mgmt with selftestFailed := false, resetAsked := false } }

theorem sendDp_unsent (s : State) (x : MboxMsg) : Same State.unsent s (sendDp s x) := rfl

theorem completeMgmtReset_uncompleted (s : State) : Same State.uncompleted s (completeMgmtReset s) := by
  unfold completeMgmtReset
  extract_lets m s1 s2
  have h1 : Same State.uncompleted s s1 := by
    refine Same.trans ?_ (logCrumb_steady _ _ _ _).weaken
    rfl
  have h2 : Same State.uncompleted s s2 := h1.trans (sendDp_unsent _ _).weaken
  exact .ite (.ite h2 (h2.trans (sendDp_unsent _ _).weaken)) (.refl s)

/-- A management reset completes with a RESET_NOTICE at the first publish step with a self-test passed (R355). -/
theorem completeMgmtReset_completes {s : State} (hr : s.mgmt.resetting = true) (ho : s.mgmt.selftestOk = true) :
    (completeMgmtReset s).mgmt.resetting = false ∧ ∃ m ∈ (completeMgmtReset s).mgmt.outbox, fld m 0 1 = 0x84 := by
  unfold completeMgmtReset
  rw [if_pos (by rw [hr, ho]; rfl)]
  extract_lets m s1 s2
  have h1 : s1.mgmt.resetting = false := (logCrumb_steady _ _ _ _).get (·.mgmt.resetting)
  have h2 : resetNoticeMsg s1 ∈ s2.mgmt.outbox := List.mem_append_right _ List.mem_cons_self
  have hk : fld (resetNoticeMsg s1) 0 1 = 0x84 := fld_mkMsg_kind _ _ _ _ _ _
  split
  · exact ⟨h1, _, h2, hk⟩
  · exact ⟨h1, _, List.mem_append_left _ h2, hk⟩

theorem reportSelftest_unserved (s : State) : Same State.unserved s (reportSelftest s) := by
  unfold reportSelftest
  extract_lets s1 m
  have h1 : Same State.unserved s s1 :=
    ((sendDp_unsent s _).weaken.trans (logCrumb_steady _ _ _ _).weaken).trans (writeFfr_unrecorded _ _ _ _).weaken
  exact .ite (h1.trans rfl) (.refl s)

theorem reportSelftest_of_passed {s : State} (h : s.mgmt.selftestFailed = false) : reportSelftest s = s :=
  if_neg (Bool.eq_false_iff.mp h)

theorem reportSelftest_resetAsked {s : State} (h : s.mgmt.resetAsked = true) : (reportSelftest s).mgmt.resetAsked = true := by
  unfold reportSelftest
  split
  · rfl
  · exact h

theorem replyOp_unsent (s : State) (o : JOp) (status code : Nat) : Same State.unsent s (replyOp s o status code) := by
  unfold replyOp
  refine Same.trans ?_ (sendDp_unsent _ _)
  rfl

theorem serveSnapshot_unsent (s : State) : Same State.unsent s (serveSnapshot s) := by
  unfold serveSnapshot
  split
  · refine .ite (Same.trans ?_ (replyOp_unsent _ _ _ _)) (.refl s)
    rfl
  · exact .refl s

/-- A message to be sent is still to be sent after the service of a snapshot. -/
theorem serveSnapshot_outbox {s : State} {m : MboxMsg} (h : m ∈ s.mgmt.outbox) : m ∈ (serveSnapshot s).mgmt.outbox := by
  unfold serveSnapshot
  split
  · split
    · exact List.mem_append_left _ (List.mem_append_left _ h)
    · exact h
  · exact h

/-! ### The handler up to a management reset that it asks for -/

section
variable (s : State) (eepromOk : Bool)

/-- The state that the handler throttles. -/
def tickGauged : State := gaugeTick (applyWrites (handOver s)) eepromOk

/-- The state that the handler publishes. -/
def tickThrottled : State := throttleStep (tickGauged s eepromOk)

/-- The state that the handler's service step begins with. -/
def tickPublished : State := completeMgmtReset (publishStep (tickThrottled s eepromOk))

/-- The state of the handler before a management reset that is asked for. -/
def tickServed : State := serveSnapshot (logDpAlert (reportSelftest (tickPublished s eepromOk)))

theorem tickHandler_eq (retainedOk : Bool) (hr : s.firmware.recovery = false) :
    tickHandler s retainedOk eepromOk =
      if (tickServed s eepromOk).mgmt.resetAsked then mgmtReset (tickServed s eepromOk) retainedOk else tickServed s eepromOk := by
  unfold tickHandler
  rw [if_neg (Bool.eq_false_iff.mp hr)]
  rfl

theorem tickGauged_steady : Steady s (tickGauged s eepromOk) :=
  ((handOver_steady s).trans (applyWrites_steady _)).trans (gaugeTick_steady _ _)

theorem tickThrottled_steady :
    Steady (setLevel (tickGauged s eepromOk) (BitVec.ofNat 2 (throttleDecision (tickGauged s eepromOk).mgmt).1))
      (tickThrottled s eepromOk) := throttleStep_steady _

/-- A state without its throttle level. -/
def State.unlevelled (s : State) : State := { s.steady with mgmt := { s.steady.mgmt with level := 0, driven := 0 } }

omit s eepromOk in
theorem setLevel_unlevelled (s : State) (l : BitVec 2) : Same State.unlevelled s (setLevel s l) := rfl

theorem tickThrottled_unlevelled : Same State.unlevelled s (tickThrottled s eepromOk) := by
  exact ((tickGauged_steady s eepromOk).weaken.trans (setLevel_unlevelled _ _)).trans (tickThrottled_steady s eepromOk).weaken

/-- The service step leaves the tick, the words, the throttle level and all outside the Tailstock. -/
theorem tickServed_unserved : Same State.unserved (publishStep (tickThrottled s eepromOk)) (tickServed s eepromOk) := by
  have h1 : Same State.unserved (publishStep (tickThrottled s eepromOk)) (tickPublished s eepromOk) :=
    (completeMgmtReset_uncompleted _).weaken
  exact ((h1.trans (reportSelftest_unserved _)).trans (logDpAlert_steady _).weaken).trans (serveSnapshot_unsent _).weaken

/-- A reset asked for stays asked for to the end of the service step. -/
theorem tickServed_resetAsked (h : s.mgmt.resetAsked = true) : (tickServed s eepromOk).mgmt.resetAsked = true := by
  have h1 : (tickThrottled s eepromOk).mgmt.resetAsked = true := by
    rw [(tickThrottled_unlevelled s eepromOk).get (·.mgmt.resetAsked), h]
  unfold tickServed tickPublished
  generalize tickThrottled s eepromOk = w at h1 ⊢
  have h2 : (publishStep w).mgmt.resetAsked = true := by rw [(publishStep_unpublished w).get (·.mgmt.resetAsked), h1]
  generalize publishStep w = p at h2 ⊢
  have h3 : (completeMgmtReset p).mgmt.resetAsked = true := by
    rw [(completeMgmtReset_uncompleted p).get (·.mgmt.resetAsked), h2]
  generalize completeMgmtReset p = c at h3 ⊢
  have h4 := reportSelftest_resetAsked h3
  generalize reportSelftest c = r at h4 ⊢
  rw [(serveSnapshot_unsent _).get (·.mgmt.resetAsked), (logDpAlert_steady r).get (·.mgmt.resetAsked), h4]

/-- The service step with nothing asked and no failed self-test only answers and logs. -/
theorem serviceStep_of_quiet {s : State} (hf : s.mgmt.selftestFailed = false) :
    let t := serveSnapshot (logDpAlert (reportSelftest s))
    t.mgmt.resetAsked = s.mgmt.resetAsked ∧ t.mgmt.resetting = s.mgmt.resetting ∧ ∀ m ∈ s.mgmt.outbox, m ∈ t.mgmt.outbox := by
  rw [reportSelftest_of_passed hf]
  have hl := logDpAlert_steady s
  generalize logDpAlert s = l at hl ⊢
  have hs := serveSnapshot_unsent l
  refine ⟨?_, ?_, fun m hm => serveSnapshot_outbox ?_⟩
  · rw [hs.get (·.mgmt.resetAsked), hl.get (·.mgmt.resetAsked)]
  · rw [hs.get (·.mgmt.resetting), hl.get (·.mgmt.resetting)]
  · rw [hl.get (·.mgmt.outbox)]; exact hm

/-- With nothing asked and no failed self-test to report, no reset is asked for, and one in progress completes (R355). -/
theorem tickServed_of_quiet (ha : s.mgmt.resetAsked = false) (hf : s.mgmt.selftestFailed = false) :
    (tickServed s eepromOk).mgmt.resetAsked = false ∧
      (s.mgmt.resetting = true → s.mgmt.selftestOk = true →
        (tickServed s eepromOk).mgmt.resetting = false ∧ ∃ m ∈ (tickServed s eepromOk).mgmt.outbox, fld m 0 1 = 0x84) := by
  have hw := tickThrottled_unlevelled s eepromOk
  unfold tickServed tickPublished
  generalize tickThrottled s eepromOk = w at hw ⊢
  have hp := publishStep_unpublished w
  generalize publishStep w = p at hp ⊢
  have hc := completeMgmtReset_uncompleted p
  have hcc := completeMgmtReset_completes (s := p)
  generalize completeMgmtReset p = c at hc hcc ⊢
  have hask : c.mgmt.resetAsked = false := by
    rw [hc.get (·.mgmt.resetAsked), hp.get (·.mgmt.resetAsked), hw.get (·.mgmt.resetAsked), ha]
  have hfail : c.mgmt.selftestFailed = false := by
    rw [hc.get (·.mgmt.selftestFailed), hp.get (·.mgmt.selftestFailed), hw.get (·.mgmt.selftestFailed), hf]
  obtain ⟨h1, h2, h3⟩ := serviceStep_of_quiet hfail
  refine ⟨h1.trans hask, fun hr ho => ?_⟩
  obtain ⟨h4, m, hm, hk⟩ := hcc (by rw [hp.get (·.mgmt.resetting), hw.get (·.mgmt.resetting), hr])
    (by rw [hp.get (·.mgmt.selftestOk), hw.get (·.mgmt.selftestOk), ho])
  exact ⟨h2.trans h4, m, h3 m hm, hk⟩

end

end Sys2Proof.Machine
end

section
/-! PROOF. Ticks, faults and trips (O51). -/

set_option Elab.async false

namespace Sys2Proof.Machine
open Sys2Proof

/-! ### What the handler leaves to the end -/

/-- What a handler keeps from its start to its end, of a state: the tick, the trip, and all but the Tailstock's own. -/
def State.undone (s : State) : State :=
  { s.unserved with
    mgmt := { Reset.mgmt with tick := s.mgmt.tick, trip := s.mgmt.trip }
    gauge := Reset.gauge, jiman := Reset.jiman, firmware := Reset.firmware }

section
variable (s : State) (eepromOk : Bool)

theorem tickServed_undone : Same State.undone s (tickServed s eepromOk) := by
  have hw := tickThrottled_unlevelled s eepromOk
  have hu := tickServed_unserved s eepromOk
  generalize tickThrottled s eepromOk = w at hw hu
  have hp := publishStep_unpublished w
  generalize publishStep w = p at hp hu
  exact (hw.weaken.trans hp.weaken).trans hu.weaken

/-- The words and the watchdog at the end of the service step. -/
theorem tickServed_words :
    (∀ k : Fin 5, bitsOf (tickServed s eepromOk).mgmt.words[k].toNat 32 16 = s.mgmt.tick.toNat % 65536) ∧
    (bitsOf (vget s.mgmt.words 0 0).toNat 32 16 ≠ s.mgmt.tick.toNat % 65536 → (tickServed s eepromOk).mgmt.stale = false) ∧
    (s.gauge.present = false → bitsOf (tickServed s eepromOk).mgmt.words[0].toNat 0 23 = 0) ∧
    (tickServed s eepromOk).mgmt.wdogAt = s.clocks.timebase := by
  have hw := tickThrottled_unlevelled s eepromOk
  have hu := tickServed_unserved s eepromOk
  generalize tickThrottled s eepromOk = w at hw hu
  have h := publishStep_words w
  generalize publishStep w = p at hu h
  rw [hw.get (·.mgmt.tick), hw.get (·.mgmt.words), hw.get (·.gauge.present), hw.get (·.clocks.timebase)] at h
  rw [hu.get (·.mgmt.words), hu.get (·.mgmt.stale), hu.get (·.mgmt.wdogAt)]
  exact h

/-- The level at the end of the service step is the decision of the handler, driven with the trip (R363, R365). -/
theorem tickServed_level :
    (tickServed s eepromOk).mgmt.level = BitVec.ofNat 2 (throttleDecision (tickGauged s eepromOk).mgmt).1 ∧
    (s.mgmt.trip = true → (tickServed s eepromOk).mgmt.driven = 3) := by
  have hw := tickThrottled_steady s eepromOk
  have hg := tickGauged_steady s eepromOk
  have hu := tickServed_unserved s eepromOk
  generalize tickThrottled s eepromOk = w at hw hu
  generalize tickGauged s eepromOk = g at hw hg ⊢
  have hp := publishStep_unpublished w
  generalize publishStep w = p at hp hu
  refine ⟨?_, fun ht => ?_⟩
  · rw [hu.get (·.mgmt.level), hp.get (·.mgmt.level), hw.get (·.mgmt.level)]
    rfl
  · rw [hu.get (·.mgmt.driven), hp.get (·.mgmt.driven), hw.get (·.mgmt.driven)]
    have hd : drivenLevel (BitVec.ofNat 2 (throttleDecision g.mgmt).1) g.mgmt.trip = 3 := by
      rw [hg.get (·.mgmt.trip), ht]; rfl
    exact hd

/-- The service step leaves the lines that the tick raised. -/
theorem tickServed_intPend : (tickServed s eepromOk).jiman.intPend = s.jiman.intPend := by
  have hw := tickThrottled_unlevelled s eepromOk
  have hu := tickServed_unserved s eepromOk
  generalize tickThrottled s eepromOk = w at hw hu
  have hp := publishStep_unpublished w
  generalize publishStep w = p at hp hu
  rw [hu.get (·.jiman.intPend), hp.get (·.jiman.intPend), hw.get (·.jiman.intPend)]

theorem tickServed_resets : (tickServed s eepromOk).mgmt.resets = s.mgmt.resets ∧
    (tickServed s eepromOk).mgmt.tickHeld = s.mgmt.tickHeld := by
  have hw := tickThrottled_unlevelled s eepromOk
  have hu := tickServed_unserved s eepromOk
  generalize tickThrottled s eepromOk = w at hw hu
  have hp := publishStep_unpublished w
  generalize publishStep w = p at hp hu
  exact ⟨by rw [hu.get (·.mgmt.resets), hp.get (·.mgmt.resets), hw.get (·.mgmt.resets)],
    by rw [hu.get (·.mgmt.tickHeld), hp.get (·.mgmt.tickHeld), hw.get (·.mgmt.tickHeld)]⟩

end

/-! ### The handler -/

/-- What a handler does to a state: its words, its level and its reset. -/
structure Handled (s t : State) : Prop where
  tick : t.mgmt.tick = s.mgmt.tick
  stamped : ∀ k : Fin 5, bitsOf t.mgmt.words[k].toNat 32 16 = s.mgmt.tick.toNat % 65536
  fresh : bitsOf (vget s.mgmt.words 0 0).toNat 32 16 ≠ s.mgmt.tick.toNat % 65536 → t.mgmt.stale = false
  absent : s.gauge.present = false → bitsOf t.mgmt.words[0].toNat 0 23 = 0
  watched : t.mgmt.wdogAt = s.clocks.timebase
  trip : t.mgmt.trip = s.mgmt.trip
  driven : s.mgmt.trip = true → t.mgmt.driven = 3
  held : s.mgmt.tickHeld = false → t.mgmt.tickHeld = false
  line : s.mgmt.resetAsked = false → s.mgmt.selftestFailed = false → t.jiman.intPend = s.jiman.intPend
  asked : s.mgmt.resetAsked = true → t.mgmt.resetting = true ∧ t.mgmt.holdAssure = false ∧ t.mgmt.resets = satInc s.mgmt.resets
  completed : s.mgmt.resetting = true → s.mgmt.selftestOk = true → s.mgmt.resetAsked = false → s.mgmt.selftestFailed = false →
    t.mgmt.resetting = false ∧ ∃ m ∈ t.mgmt.outbox, fld m 0 1 = 0x84
  outside : t.power = s.power ∧ t.keep = s.keep ∧ t.dev = s.dev ∧ t.clocks = s.clocks

theorem tickHandler_handled (s : State) (retainedOk eepromOk : Bool) (hr : s.firmware.recovery = false) :
    Handled s (tickHandler s retainedOk eepromOk) ∧
      (tickHandler s retainedOk eepromOk).mgmt.level = BitVec.ofNat 2 (throttleDecision (tickGauged s eepromOk).mgmt).1 := by
  have hd := tickServed_undone s eepromOk
  have hw := tickServed_words s eepromOk
  have hl := tickServed_level s eepromOk
  have hi := tickServed_intPend s eepromOk
  have hc := tickServed_resets s eepromOk
  have ha := tickServed_resetAsked s eepromOk
  have hq := tickServed_of_quiet s eepromOk
  rw [tickHandler_eq s eepromOk retainedOk hr]
  generalize tickServed s eepromOk = u at *
  obtain ⟨hw1, hw2, hw3, hw4⟩ := hw
  obtain ⟨hl1, hl2⟩ := hl
  split
  · next hasked =>
    have ho := mgmtReset_outliving u retainedOk
    obtain ⟨hb1, hb2, -, -, -, -, -, hb3, -, -⟩ := mgmtReset_begun u retainedOk
    have hheld : (mgmtReset u retainedOk).mgmt.tickHeld = false := rfl
    have hnot (h1 : s.mgmt.resetAsked = false) (h2 : s.mgmt.selftestFailed = false) : False := by
      rw [(hq h1 h2).1] at hasked; cases hasked
    generalize mgmtReset u retainedOk = t at *
    refine ⟨⟨?_, ?_, ?_, ?_, ?_, ?_, ?_, fun _ => hheld, fun h1 h2 => (hnot h1 h2).elim, fun _ => ⟨hb1, hb2, ?_⟩,
      fun _ _ h1 h2 => (hnot h1 h2).elim, ?_, ?_, ?_, ?_⟩, ?_⟩
    · rw [ho.get (·.mgmt.tick), hd.get (·.mgmt.tick)]
    · rw [ho.get (·.mgmt.words)]; exact hw1
    · rw [ho.get (·.mgmt.stale)]; exact hw2
    · rw [ho.get (·.mgmt.words)]; exact hw3
    · rw [ho.get (·.mgmt.wdogAt)]; exact hw4
    · rw [ho.get (·.mgmt.trip), hd.get (·.mgmt.trip)]
    · rw [ho.get (·.mgmt.driven)]; exact hl2
    · rw [hb3, hc.1]
    · rw [ho.get State.power, hd.get State.power]
    · rw [ho.get State.keep, hd.get State.keep]
    · rw [ho.get State.dev, hd.get State.dev]
    · rw [ho.get State.clocks, hd.get State.clocks]
    · rw [ho.get (·.mgmt.level)]; exact hl1
  · next hasked =>
    exact ⟨⟨hd.get (·.mgmt.tick), hw1, hw2, hw3, hw4, hd.get (·.mgmt.trip), hl2, fun h => hc.2.trans h, fun _ _ => hi,
      fun h => absurd (ha h) hasked, fun h1 h2 h3 h4 => (hq h3 h4).2 h1 h2, hd.get State.power, hd.get State.keep,
      hd.get State.dev, hd.get State.clocks⟩, hl1⟩

/-! ### CONTROL_LOOP_TICK (R360, R361) -/

section
variable {s : State} (readings : Vector (Option Int) 24) (power : Nat) (rails : List W32) (retainedOk eepromOk : Bool)

/-- The state that the handler of a tick begins with. -/
def tickBegun (s : State) : State :=
  (raiseTick s readings power rails).setMgmt { (raiseTick s readings power rails).mgmt with tickRunning := false }

/-- A state without the note that a tick is running. -/
def State.unrun (s : State) : State := { s with mgmt := { s.mgmt with tickRunning := false } }

theorem tickBegun_unrun (s : State) : Same State.unrun (raiseTick s readings power rails) (tickBegun readings power rails s) := by
  unfold tickBegun
  generalize raiseTick s readings power rails = r
  rfl

theorem tickBegun_recovery (hr : s.firmware.recovery = false) : (tickBegun readings power rails s).firmware.recovery = false := by
  rw [(tickBegun_unrun readings power rails s).get (·.firmware.recovery),
    (raiseTick_unraised s readings power rails).get (·.firmware.recovery), hr]

theorem tickBegun_tickHeld (hh : s.mgmt.tickHeld = false) : (tickBegun readings power rails s).mgmt.tickHeld = false := by
  rw [(tickBegun_unrun readings power rails s).get (·.mgmt.tickHeld),
    (raiseTick_unraised s readings power rails).get (·.mgmt.tickHeld), hh]

theorem exec_controlLoopTick_publish (hp : s.power.tailstock = true) (hrec : s.firmware.recovery = false)
    (hh : s.mgmt.tickHeld = false) (hrun : s.mgmt.tickRunning = false) :
    exec (.controlLoopTick true readings power rails retainedOk eepromOk) s =
      .next (tickHandler (tickBegun readings power rails s) retainedOk eepromOk) := by
  refine congrArg Host.Outcome.next ((if_pos hp).trans ?_)
  have hb : (s.mgmt.tickRunning && !s.mgmt.tickHeld) = false := by rw [hrun, Bool.false_and]
  have hheld := (tickHandler_handled (tickBegun readings power rails s) retainedOk eepromOk
    (tickBegun_recovery readings power rails hrec)).1.held (tickBegun_tickHeld readings power rails hh)
  simp only [hb, Bool.false_eq_true, if_false, if_true]
  exact if_neg (Bool.eq_false_iff.mp hheld)

/-- The state of a tick held: it is counted and logged. -/
def heldTick (s : State) : State :=
  let s1 := logCrumb (s.setMgmt { s.mgmt with tickHeld := true, overruns := satInc s.mgmt.overruns }) 0 0 0x03
  s1.setMgmt { s1.mgmt with tickRunning := true }

/-- A state with what the holding of a tick may change taken out of it. -/
def State.unheld (s : State) : State :=
  { s.unlogged with mgmt := { s.unlogged.mgmt with tickHeld := false, overruns := 0, tickRunning := false } }

theorem setTickRunning_unheld (s : State) : Same State.unheld s (s.setMgmt { s.mgmt with tickRunning := true }) := rfl

theorem heldTick_unheld (s : State) : Same State.unheld s (heldTick s) := by
  unfold heldTick
  extract_lets m s1
  have h1 : Same State.unheld s s1 := by
    refine Same.trans ?_ (logCrumb_unlogged _ _ _ _).weaken
    rfl
  exact h1.trans (setTickRunning_unheld s1)

theorem heldTick_held (s : State) :
    (heldTick s).mgmt.tickHeld = true ∧ (heldTick s).mgmt.tickRunning = true ∧
      (heldTick s).mgmt.overruns = satInc s.mgmt.overruns := by
  have h := logCrumb_unlogged (s.setMgmt { s.mgmt with tickHeld := true, overruns := satInc s.mgmt.overruns }) 0 0 0x03
  exact ⟨h.get (·.mgmt.tickHeld), rfl, h.get (·.mgmt.overruns)⟩

/-- A tick raised while the one before has not published is held and counted (R361). -/
theorem exec_controlLoopTick_held (hp : s.power.tailstock = true) (hh : s.mgmt.tickHeld = false) (hrun : s.mgmt.tickRunning = true) :
    ∃ t, exec (.controlLoopTick false readings power rails retainedOk eepromOk) s = .next t ∧ t.mgmt.tick = s.mgmt.tick + 1 ∧
      t.mgmt.tickHeld = true ∧ t.mgmt.tickRunning = true ∧ t.mgmt.overruns = satInc s.mgmt.overruns ∧
      t.mgmt.words = s.mgmt.words ∧ t.mgmt.level = s.mgmt.level ∧ t.mgmt.wdogAt = s.mgmt.wdogAt ∧ t.power = s.power ∧
      t.queue = s.queue ∧ t.dev = s.dev := by
  have hu := raiseTick_unraised s readings power rails
  have ht : (raiseTick s readings power rails).mgmt.tick = s.mgmt.tick + 1 := by
    rw [(raiseTick_untripped s readings power rails).get (·.mgmt.tick)]
    exact (latchedTick_fields s readings power rails).1
  have hb : (s.mgmt.tickRunning && !s.mgmt.tickHeld) = true := by rw [hrun, hh]; rfl
  have he : exec (.controlLoopTick false readings power rails retainedOk eepromOk) s = .next (heldTick (raiseTick s readings power rails)) := by
    refine congrArg Host.Outcome.next ((if_pos hp).trans ?_)
    simp only [hb, Bool.false_eq_true, if_false, if_true]
    rfl
  have h := heldTick_unheld (raiseTick s readings power rails)
  obtain ⟨h1, h2, h3⟩ := heldTick_held (raiseTick s readings power rails)
  generalize raiseTick s readings power rails = r at *
  rw [hu.get (·.mgmt.overruns)] at h3
  exact ⟨heldTick r, he, (h.get (·.mgmt.tick)).trans ht, h1, h2, h3, (h.get (·.mgmt.words)).trans (hu.get (·.mgmt.words)),
    (h.get (·.mgmt.level)).trans (hu.get (·.mgmt.level)), (h.get (·.mgmt.wdogAt)).trans (hu.get (·.mgmt.wdogAt)),
    (h.get State.power).trans (hu.get State.power), (h.get State.queue).trans (hu.get State.queue),
    (h.get State.dev).trans (hu.get State.dev)⟩

/-- What a tick has made of a state before its handler. -/
theorem tickBegun_fields (s : State) :
    (tickBegun readings power rails s).mgmt.tick = s.mgmt.tick + 1 ∧
    (tickBegun readings power rails s).mgmt.trip = (s.mgmt.trip || overTrip readings) ∧
    (tickBegun readings power rails s).mgmt.power = (power :: s.mgmt.power).take 10 ∧
    (tickBegun readings power rails s).jiman.intPend = s.jiman.intPend ||| BitVec.twoPow 8 0 ∧
    ∀ n < 24, vget (tickBegun readings power rails s).mgmt.sensors n noSensor =
      converted (vget s.mgmt.sensors n noSensor) (vget readings n none) := by
  have hb := tickBegun_unrun readings power rails s
  have hr := raiseTick_untripped s readings power rails
  have ht := raiseTick_trip s readings power rails
  have hs (n : Nat) (hn : n < 24) := latchedTick_sensor s readings power rails hn
  obtain ⟨h1, -, h3, h4⟩ := latchedTick_fields s readings power rails
  generalize tickBegun readings power rails s = b at *
  generalize raiseTick s readings power rails = r at *
  generalize latchedTick s readings power rails = l at *
  refine ⟨?_, ?_, ?_, ?_, fun n hn => ?_⟩
  · rw [hb.get (·.mgmt.tick), hr.get (·.mgmt.tick), h1]
  · rw [hb.get (·.mgmt.trip), ht]
  · rw [hb.get (·.mgmt.power), hr.get (·.mgmt.power), h3]
  · rw [hb.get (·.jiman.intPend), hr.get (·.jiman.intPend), h4]
  · rw [hb.get (·.mgmt.sensors), hr.get (·.mgmt.sensors), hs n hn]

/-- The rest of a state is as it was before a tick. -/
def State.untick (s : State) : State :=
  { s.unraised with mgmt := { s.unraised.mgmt with tickRunning := false } }

theorem tickBegun_untick (s : State) : Same State.untick s (tickBegun readings power rails s) :=
  (raiseTick_unraised s readings power rails).weaken.trans (tickBegun_unrun readings power rails s).weaken

theorem converted_of_good {x : Sensor} {r : Option Int} {v : Int} (hr : r = some v) (h : -320 ≤ v ∧ v ≤ 1200) :
    converted x r = { x with value := v, fails := 0 } := by
  subst hr
  exact if_pos (decide_eq_true h)

/-- A hot sensor in service makes the level 3 (R363). -/
theorem tick_level_of_hot {b : State} {n : Fin 20} {v : Int}
    (hs : vget b.mgmt.sensors n noSensor = converted (vget s.mgmt.sensors n noSensor) (vget readings n none))
    (hret : s.mgmt.sensors[n].retired = false) (hr : readings[n] = some v) (hv : 816 ≤ v ∧ v ≤ 1200) :
    (throttleDecision (tickGauged b eepromOk).mgmt).1 = 3 := by
  have hn : n.val < 24 := by have := n.isLt; omega
  have hg := (tickGauged_steady b eepromOk).get (·.mgmt.sensors)
  have hconv : vget (tickGauged b eepromOk).mgmt.sensors n noSensor = { s.mgmt.sensors[n] with value := v, fails := 0 } := by
    rw [hg, hs, converted_of_good (v := v) ((vget_eq_getElem _ _ _ hn).trans hr) (by omega)]
    rw [vget_eq_getElem _ _ _ hn]
    rfl
  refine throttleDecision_of_hot (highest_of_hot n.isLt ?_ ?_)
  · rw [hconv]; exact hret
  · rw [hconv]; exact hv.1

theorem sum_take_le (l : List Nat) (k : Nat) : (l.take k).sum ≤ l.sum := (List.take_sublist k l).sum_le_sum (fun _ _ => Nat.zero_le _)

/-- With every entry condition false, level 0 stays (R363). -/
theorem tick_level_of_cool {b : State} (hlevel : b.mgmt.level = 0) (hpower : b.mgmt.power = (power :: s.mgmt.power).take 10)
    (hsum : s.mgmt.power.sum + power < 14000000)
    (hs : ∀ n < 24, vget b.mgmt.sensors n noSensor = converted (vget s.mgmt.sensors n noSensor) (vget readings n none))
    (hcool : ∀ n : Fin 24, s.mgmt.sensors[n].retired = false ∧ ∃ v : Int, readings[n] = some v ∧ -320 ≤ v ∧ v < 360) :
    (throttleDecision (tickGauged b eepromOk).mgmt).1 = 0 := by
  have hg := tickGauged_steady b eepromOk
  generalize tickGauged b eepromOk = g at hg ⊢
  refine throttleDecision_of_cool ((hg.get (·.mgmt.level)).trans hlevel) (entryLevel_of_cool (fun n hn => ?_) ?_)
  · obtain ⟨hret, v, hr, hv⟩ := hcool ⟨n, hn⟩
    rw [hg.get (·.mgmt.sensors), hs n hn, converted_of_good (v := v) ((vget_eq_getElem _ _ _ hn).trans hr) (by omega)]
    exact ⟨(congrArg Sensor.retired (vget_eq_getElem _ _ _ hn)).trans hret, hv.2⟩
  · have h1 : g.mgmt.power.sum ≤ power + s.mgmt.power.sum := by
      rw [hg.get (·.mgmt.power), hpower]
      exact (sum_take_le _ 10).trans_eq List.sum_cons
    exact decide_eq_false (by omega)

/-- A tick that publishes (R360 to R365, R355). -/
theorem controlLoopTick_publish (hp : s.power.tailstock = true) (hrec : s.firmware.recovery = false)
    (hh : s.mgmt.tickHeld = false) (hrun : s.mgmt.tickRunning = false) :
    ∃ t, exec (.controlLoopTick true readings power rails retainedOk eepromOk) s = .next t ∧ t.mgmt.tick = s.mgmt.tick + 1 ∧
      (∀ k : Fin 5, bitsOf t.mgmt.words[k].toNat 32 16 = (s.mgmt.tick + 1).toNat % 65536) ∧
      (s.mgmt.resetAsked = false → s.mgmt.selftestFailed = false → t.jiman.intPend.getLsbD 0 = true) ∧
      t.mgmt.wdogAt = s.clocks.timebase ∧ t.power = s.power ∧ t.keep = s.keep ∧ t.dev = s.dev ∧ t.clocks = s.clocks ∧
      (bitsOf s.mgmt.words[0].toNat 32 16 ≠ (s.mgmt.tick + 1).toNat % 65536 → t.mgmt.stale = false) ∧
      (s.gauge.present = false → bitsOf t.mgmt.words[0].toNat 0 23 = 0) ∧
      ((∃ n : Fin 20, ∃ v : Int, s.mgmt.sensors[n].retired = false ∧ readings[n] = some v ∧ 816 ≤ v ∧ v ≤ 1200) →
        t.mgmt.level = 3) ∧
      (s.mgmt.level = 0 →
        (∀ n : Fin 24, s.mgmt.sensors[n].retired = false ∧ ∃ v : Int, readings[n] = some v ∧ -320 ≤ v ∧ v < 360) →
        s.mgmt.power.sum + power < 14000000 → t.mgmt.level = 0) ∧
      (s.mgmt.trip = true → t.mgmt.driven = 3) ∧
      ((∃ n : Fin 20, ∃ v : Int, readings[n] = some v ∧ 840 ≤ v) → t.mgmt.trip = true ∧ t.mgmt.driven = 3) ∧
      (s.mgmt.resetAsked = true → t.mgmt.resetting = true ∧ t.mgmt.holdAssure = false ∧
        t.mgmt.resets = satInc s.mgmt.resets) ∧
      (s.mgmt.resetting = true → s.mgmt.selftestOk = true → s.mgmt.resetAsked = false → s.mgmt.selftestFailed = false →
        t.mgmt.resetting = false ∧ ∃ m ∈ t.mgmt.outbox, fld m 0 1 = 0x84) := by
  have he := exec_controlLoopTick_publish readings power rails retainedOk eepromOk hp hrec hh hrun
  obtain ⟨h, hlevel⟩ := tickHandler_handled (tickBegun readings power rails s) retainedOk eepromOk
    (tickBegun_recovery readings power rails hrec)
  have hu := tickBegun_untick readings power rails s
  obtain ⟨htick, htrip, hpower, hline, hsens⟩ := tickBegun_fields readings power rails s
  generalize tickBegun readings power rails s = b at *
  generalize tickHandler b retainedOk eepromOk = t at *
  refine ⟨t, he, h.tick.trans htick, fun k => ?_, fun ha hf => ?_, ?_, ?_, ?_, ?_, ?_, fun hne => h.fresh ?_, fun hg => h.absent ?_,
    fun ⟨n, v, hret, hr, hv⟩ => ?_, fun hl hcool hsum => ?_, fun ht => h.driven ?_, fun ⟨n, v, hr, hv⟩ => ?_, fun ha => ?_,
    fun h1 h2 h3 h4 => h.completed ?_ ?_ ?_ ?_⟩
  · rw [h.stamped k, htick]
  · rw [h.line ((hu.get (·.mgmt.resetAsked)).trans ha) ((hu.get (·.mgmt.selftestFailed)).trans hf), hline, BitVec.getLsbD_or]
    exact Bool.or_eq_true_iff.mpr (.inr rfl)
  · rw [h.watched, hu.get (·.clocks.timebase)]
  · rw [h.outside.1, hu.get State.power]
  · rw [h.outside.2.1, hu.get State.keep]
  · rw [h.outside.2.2.1, hu.get State.dev]
  · rw [h.outside.2.2.2, hu.get State.clocks]
  · rw [hu.get (·.mgmt.words), vget_eq_getElem _ _ _ (by omega), htick]; exact hne
  · rw [hu.get (·.gauge.present), hg]
  · rw [hlevel, tick_level_of_hot readings eepromOk (hsens n (by have := n.isLt; omega)) hret hr hv]; rfl
  · rw [hlevel, tick_level_of_cool readings power eepromOk ((hu.get (·.mgmt.level)).trans hl) hpower hsum hsens hcool]; rfl
  · rw [htrip, ht, Bool.true_or]
  · have hn := n.isLt
    have ho : b.mgmt.trip = true := by
      rw [htrip, overTrip_of_hot hn ((vget_eq_getElem _ _ _ (by omega)).trans hr) hv, Bool.or_true]
    exact ⟨h.trip.trans ho, h.driven ho⟩
  · rw [← hu.get (·.mgmt.resets)]; exact h.asked ((hu.get (·.mgmt.resetAsked)).trans ha)
  · rw [hu.get (·.mgmt.resetting), h1]
  · rw [hu.get (·.mgmt.selftestOk), h2]
  · rw [hu.get (·.mgmt.resetAsked), h3]
  · rw [hu.get (·.mgmt.selftestFailed), h4]

end

/-- What a management fault makes of a state, clause by clause. -/
theorem mgmtFault_clauses (s : State) (loc : W16) (ok : Bool) :
    let t := mgmtFault s loc ok
    t.mgmt.resetting = true ∧ t.mgmt.holdAssure = false ∧ t.mgmt.selftestOk = false ∧ t.mgmt.toMg = none ∧
      t.mgmt.toDp = none ∧ t.mgmt.outbox = [] ∧ t.mgmt.awaitNotice = true ∧ t.mgmt.resets = satInc s.mgmt.resets ∧
      t.mgmt.words = s.mgmt.words ∧ t.mgmt.tick = s.mgmt.tick ∧ t.mgmt.ops = s.mgmt.ops ∧ t.jiman.regs = Reset.jregs ∧
      t.jiman.flash = s.jiman.flash ∧ t.gauge.validLatch = false ∧ t.gauge.rc = s.gauge.rc ∧
      t.mgmt.faultCounter = s.mgmt.faultCounter + 1 ∧ t.mgmt.ffr ≠ none ∧ (s.mgmt.ffr ≠ none → t.mgmt.ffr = s.mgmt.ffr) ∧
      (s.mgmt.assureLock = true ∨ (∃ a b c : W32, s.mgmt.faultTicks = [a, b, c] ∧ (s.mgmt.tick - b).toNat ≤ 86400000) →
        t.mgmt.assureLock = true) ∧
      (s.mgmt.assureLock = false → s.mgmt.faultTicks.length < 2 → t.mgmt.assureLock = false) ∧
      t.power = s.power ∧ t.keep = s.keep ∧ t.dev = s.dev := by
  have h := mgmtFault_reset s loc ok
  generalize mgmtFault s loc ok = t at h ⊢
  obtain ⟨⟨b1, b2, b3, b4, b5, b6, b7, b8, b9, b10⟩, ⟨c1, c2⟩, ⟨r1, r2⟩, ⟨l1, l2, l3, l4, l5, l6, l7, l8⟩⟩ := h
  exact ⟨b1, b2, b3, b4, b5, b6, b7, b8, l1, l2, l3, b9, l4, b10, l5, c1, r1, r2, (lockout_counted c2).1, (lockout_counted c2).2,
    l6, l7, l8⟩

/-- Settles O51. A tick is its raising and its handler, each told by what it sets and what it keeps; a management fault is
its count, its record and a management reset. -/
theorem ticksFaultsAndTrips : Obligations.TicksFaultsAndTrips := by
  unfold Obligations.TicksFaultsAndTrips
  refine ⟨fun s rd power rails ok ok' hp hrec hh => ⟨controlLoopTick_publish rd power rails ok ok' hp hrec hh,
    exec_controlLoopTick_held rd power rails ok ok' hp hh⟩, fun s hp => ?_⟩
  refine ⟨exec_comparatorSelftest_pass hp, comparatorSelftest_fail hp, fun ok => ⟨fun hl => ?_, fun hl => ?_, ?_⟩,
    fun n v => thermalTrip_trips hp n v, exec_tripClear hp, exec_tripClear_hot hp, fun q w h v => ⟨?_, ?_⟩⟩
  · exact ⟨_, (exec_lockstepMismatch ok hp).trans (by rw [hl]; rfl), mgmtFault_clauses s _ ok, mgmtFault_ram s _⟩
  · rw [exec_lockstepMismatch ok hp, hl]; rfl
  · exact ⟨_, exec_watchdogTimeout ok hp, mgmtFault_clauses s _ ok, mgmtFault_ram s _⟩
  · obtain ⟨t, he, hr⟩ := nvmeMiPoll_reported hp q (some (w, h, v))
    exact ⟨t, he, hr.get (·.mgmt.polls), hr.get (·.mgmt.words), hr.get State.dev⟩
  · obtain ⟨t, he, hr⟩ := nvmeMiPoll_reported hp q none
    exact ⟨t, he, hr.get (·.mgmt.polls), hr.get State.dev⟩

end Sys2Proof.Machine
end

section
/-! PROOF. Losing input while a link retrains in WARM (O47). -/

set_option Elab.async false

namespace Sys2Proof.Machine
open Sys2Proof

theorem inputLost_powered {s : State} (hc : s.power.compute = true) (hp : packPowers s.gauge = true)
    (hw : s.power.state = .warm) :
    (inputLost s).power.state = .holdup := by
  unfold inputLost
  rw [if_neg (by rw [hc]; exact Bool.false_ne_true)]
  extract_lets off armed s1 s2
  rw [if_neg (by rw [hp]; exact Bool.false_ne_true), if_neg (by simp [hw])]
  exact rfl

/-- A module in WARM whose link retrains after a PERST_N: the vault is not armed, and a pack supplies. -/
def retrainingInWarm : State :=
  { State.reset with
    power := { Reset.power with compute := true, starting := true, state := .warm }
    gauge := { Reset.gauge with present := true, fetClosed := true } }

/-- Refutes O47: its clause of a start that has not armed the vault has no condition on the state of the module, but a module in
WARM that retrains its link after a PERST_N is starting too, and it goes to HOLDUP with its pack, not to OFF. -/
theorem not_losingAndRegainingPower : ¬ Obligations.LosingAndRegainingPower := by
  unfold Obligations.LosingAndRegainingPower
  rintro ⟨hloss, -⟩
  obtain ⟨t, he, -, -, -, -, -, -, -, -, -, -, -, -, -, -, -, -, -, -, -, -, -, hoff, -⟩ :=
    (hloss retrainingInWarm .pwrLoss List.mem_cons_self).1 rfl
  have ht : inputLost retrainingInWarm = t := Host.Outcome.next.inj he
  have hholdup : t.power.state = .holdup := ht ▸ inputLost_powered rfl rfl rfl
  rw [(hoff rfl rfl rfl rfl).1] at hholdup
  cases hholdup

end Sys2Proof.Machine
end

section
/-! PROOF. The root PLL, throttling, hold-up assurance, a stale limit and the repair of a row (O48). -/

set_option Elab.async false

namespace Sys2Proof.Machine
open Sys2Proof

/-! ### Device events -/

/-- A state without its event register and what the host has been sent. -/
def State.unsignalled (s : State) : State :=
  { s with queue := { s.queue with event := 0 }, link := { s.link with sent := [], pba := 0 } }

theorem sendVector_unsignalled (s : State) (v : Nat) : Same State.unsignalled s (sendVector s v) := by
  unfold sendVector; exact .ite rfl rfl

theorem sendVector_queue (s : State) (v : Nat) : (sendVector s v).queue = s.queue := by
  unfold sendVector
  extract_lets e
  split <;> rfl

/-- The state with an event's bit set. -/
def eventSet (s : State) (b : Nat) : State := s.setQueue { s.queue with event := s.queue.event ||| BitVec.twoPow 32 b }

theorem deviceEvent_eq (s : State) (b : Nat) : deviceEvent s b =
    if s.queue.event.getLsbD b then s
    else if s.queue.eventEnable.getLsbD b then sendVector (eventSet s b) 63 else eventSet s b := rfl

theorem eventSet_unsignalled (s : State) (b : Nat) : Same State.unsignalled s (eventSet s b) := rfl

theorem deviceEvent_unsignalled (s : State) (b : Nat) : Same State.unsignalled s (deviceEvent s b) := by
  rw [deviceEvent_eq]
  exact .ite (.refl s) (.ite ((eventSet_unsignalled s b).trans (sendVector_unsignalled _ 63)) (eventSet_unsignalled s b))

/-- A device event sets its bit of the event register and no other. -/
theorem deviceEvent_event (s : State) (b i : Nat) (hi : i < 32) :
    (deviceEvent s b).queue.event.getLsbD i = (s.queue.event.getLsbD i || decide (i = b)) := by
  have hset : (eventSet s b).queue.event.getLsbD i = (s.queue.event.getLsbD i || decide (i = b)) := by
    change (s.queue.event ||| BitVec.twoPow 32 b).getLsbD i = _
    rw [BitVec.getLsbD_or, BitVec.getLsbD_twoPow]
    by_cases h : i = b
    · subst h; simp only [hi, decide_true, Bool.true_and]
    · rw [decide_eq_false h, decide_eq_false (Ne.symm h), Bool.and_false]
  rw [deviceEvent_eq]
  split
  · next h =>
    by_cases hb : i = b
    · rw [hb, h, Bool.true_or]
    · rw [decide_eq_false hb, Bool.or_false]
  · split
    · rw [sendVector_queue]; exact hset
    · exact hset

/-! ### The root PLL (R425, R427) -/

theorem exec_pllLockLoss {s : State} (h : s.clocks.pllLocked = true) :
    exec .pllLockLoss s = .next (mgmtFaultEvent
      (s.setClocks { s.clocks with pllLocked := false, lockLosses := satInc s.clocks.lockLosses }) 0xA050 1) :=
  congrArg Host.Outcome.next (if_pos h)

theorem logCrumb_crumbCount (s : State) (loc : W16) (sev ev : Byte) :
    (logCrumb s loc sev ev).mgmt.crumbCount = s.mgmt.crumbCount + 1 := rfl

theorem pllLockLoss_counted {s : State} (h : s.clocks.pllLocked = true) :
    ∃ t, exec .pllLockLoss s = .next t ∧ t.mgmt.crumbCount = s.mgmt.crumbCount + 1 ∧
      t.clocks = { s.clocks with pllLocked := false, lockLosses := satInc s.clocks.lockLosses } ∧
      t.power = s.power ∧ t.queue = s.queue ∧ t.keep = s.keep ∧ t.cache = s.cache ∧ t.dev = s.dev := by
  have he := exec_pllLockLoss h
  generalize hu : s.setClocks { s.clocks with pllLocked := false, lockLosses := satInc s.clocks.lockLosses } = u at he
  have hl := logCrumb_unlogged u 0xA050 1 (u.free 8)
  refine ⟨_, he, (logCrumb_crumbCount u _ _ _).trans ?_, (hl.get State.clocks).trans ?_, (hl.get State.power).trans ?_,
    (hl.get State.queue).trans ?_, (hl.get State.keep).trans ?_, (hl.get State.cache).trans ?_, (hl.get State.dev).trans ?_⟩ <;>
    subst hu <;> rfl

theorem exec_pllRelock {s : State} (hh : s.power.holdup = true) (hd : s.link.perstDue = false) :
    exec .pllRelock s = .next { s with clocks := { s.clocks with pllLocked := true } } := by
  refine congrArg Host.Outcome.next ((if_pos hh).trans (if_neg ?_))
  rw [Bool.and_eq_true]
  exact fun c => Bool.eq_false_iff.mp hd c.2

/-! ### Throttling (R445, Table 1.10) -/

/-- The state of the module under a level. -/
def throttledTo (st : ModState) (level : BitVec 2) : ModState :=
  if st = .active ∧ level ≠ 0 then .throttled else if st = .throttled ∧ level = 0 then .active else st

theorem throttledTo_active {level : BitVec 2} (h : level ≠ 0) : throttledTo .active level = .throttled := if_pos ⟨rfl, h⟩

theorem throttledTo_zero {st : ModState} (h : st = .active ∨ st = .throttled) : throttledTo st 0 = .active := by
  rcases h with rfl | rfl <;> rfl

/-- Apart from a rise in ACTIVE and a fall to 0 in THROTTLED, a level leaves the state of the module. -/
theorem throttledTo_self {st : ModState} {level : BitVec 2} (h1 : ¬(st = .active ∧ level ≠ 0)) (h2 : ¬(st = .throttled ∧ level = 0)) :
    throttledTo st level = st := (if_neg h1).trans (if_neg h2)

/-- The state of a module at the level driven, before its event. -/
def atDriven (s : State) : State :=
  { s with
    clocks := { s.clocks with level := s.mgmt.driven }
    power := { s.power with state := throttledTo s.power.state s.mgmt.driven } }

theorem exec_throttleReqChange {s : State} (hr : s.running = true) (hd : s.mgmt.driven ≠ s.clocks.level) :
    exec .throttleReqChange s = .next (if decide (s.mgmt.driven = 0) = decide (s.clocks.level = 0) then atDriven s
      else deviceEvent (atDriven s) 7) :=
  congrArg Host.Outcome.next (if_neg (by simp [hr, hd]))

theorem throttleReqChange_follows {s : State} (hr : s.running = true) (hd : s.mgmt.driven ≠ s.clocks.level) :
    ∃ t, exec .throttleReqChange s = .next t ∧ t.clocks = { s.clocks with level := s.mgmt.driven } ∧
      (s.power.state = .active → t.power.state = .throttled ∨ s.mgmt.driven = 0 ∧ t.power.state = .active) ∧
      (s.power.state = .throttled → s.mgmt.driven = 0 → t.power.state = .active) ∧
      (s.power.state = .throttled → s.mgmt.driven ≠ 0 → t.power = s.power) ∧
      (s.power.state ≠ .active → s.power.state ≠ .throttled → t.power = s.power) ∧
      (s.mgmt.driven = 0 ∨ s.clocks.level = 0 → t.queue.event.getLsbD 7 = true) ∧
      (s.mgmt.driven ≠ 0 → s.clocks.level ≠ 0 → t.queue = s.queue) ∧
      (∀ b < 32, b ≠ 7 → t.queue.event.getLsbD b = s.queue.event.getLsbD b) ∧ t.queue.ops = s.queue.ops ∧
      t.turner = s.turner ∧ t.dev = s.dev := by
  have he := exec_throttleReqChange hr hd
  have hsame : ∀ t, Same State.unsignalled (atDriven s) t →
      t.clocks = { s.clocks with level := s.mgmt.driven } ∧
      t.power = { s.power with state := throttledTo s.power.state s.mgmt.driven } ∧
      t.queue.ops = s.queue.ops ∧ t.turner = s.turner ∧ t.dev = s.dev := fun t h =>
    ⟨h.get State.clocks, h.get State.power, h.get (·.queue.ops), h.get State.turner, h.get State.dev⟩
  obtain ⟨t, hx, hsig, h7, hq, hb⟩ : ∃ t, exec .throttleReqChange s = .next t ∧ Same State.unsignalled (atDriven s) t ∧
      (s.mgmt.driven = 0 ∨ s.clocks.level = 0 → t.queue.event.getLsbD 7 = true) ∧
      (s.mgmt.driven ≠ 0 → s.clocks.level ≠ 0 → t.queue = s.queue) ∧
      (∀ b < 32, b ≠ 7 → t.queue.event.getLsbD b = s.queue.event.getLsbD b) := by
    refine ⟨_, he, .ite (.refl _) (deviceEvent_unsignalled _ _), fun h0 => ?_, fun h1 h2 => ?_, fun b hb h7 => ?_⟩
    · rw [if_neg (fun c => ?_), deviceEvent_event _ _ _ (by omega), decide_eq_true rfl, Bool.or_true]
      rw [decide_eq_decide] at c
      rcases h0 with h0 | h0
      · exact hd (h0.trans (c.mp h0).symm)
      · exact hd ((c.mpr h0).trans h0.symm)
    · rw [if_pos (by rw [decide_eq_false h1, decide_eq_false h2])]; rfl
    · split
      · rfl
      · rw [deviceEvent_event _ _ _ hb, decide_eq_false h7, Bool.or_false]; rfl
  obtain ⟨hc, hp, ho, htu, hdev⟩ := hsame t hsig
  refine ⟨t, hx, hc, fun ha => ?_, fun ha h0 => ?_, fun ha h0 => ?_, fun h1 h2 => ?_, h7, hq, hb, ho, htu, hdev⟩
  · by_cases h0 : s.mgmt.driven = 0
    · exact .inr ⟨h0, by rw [hp, h0]; exact throttledTo_zero (.inl ha)⟩
    · exact .inl (by rw [hp, ha]; exact throttledTo_active h0)
  · rw [hp, h0]; exact throttledTo_zero (.inr ha)
  · rw [hp, throttledTo_self (by simp [ha]) (fun c => h0 c.2)]
  · rw [hp, throttledTo_self (fun c => h1 c.1) (fun c => h2 c.1)]

/-! ### Hold-up assurance (R16, R17, R369) -/

theorem setAssure_unsignalled (s : State) (v : Bool) :
    Same State.unsignalled (s.setMgmt { s.mgmt with assure := v }) (setAssure s v) := by
  unfold setAssure
  split
  · next h => subst h; exact .refl s
  · exact .ite (deviceEvent_unsignalled _ _) (.refl _)

/-- A fall of ASSURE on a running module sets its event. -/
theorem setAssure_event {s : State} (ha : s.mgmt.assure = true) (hr : s.running = true) :
    (setAssure s false).queue.event.getLsbD 4 = true := by
  unfold setAssure
  rw [if_neg (by rw [ha]; exact Bool.true_eq_false.mp)]
  split
  · rw [deviceEvent_event _ _ _ (by omega), decide_eq_true rfl, Bool.or_true]
  · next h => exact absurd hr h

/-- HOLD_ASSURE low with the time of its fall. -/
def holdLowered (s : State) : State :=
  { s with
    mgmt := { s.mgmt with holdAssure := false, riseDue := false }
    cache := { s.cache with assureFell := some s.clocks.timebase } }

theorem assureFall_of_high {s : State} (h : s.mgmt.holdAssure = true) :
    assureFall s = logCrumb (setAssure (holdLowered s) false) 0 0 0x09 := if_pos h

theorem holdAssureFall_falls {s : State} (h : s.mgmt.holdAssure = true) :
    ∃ t, exec .holdAssureFall s = .next t ∧ t.mgmt.holdAssure = false ∧ t.mgmt.assure = false ∧ t.mgmt.riseDue = false ∧
      t.cache = { s.cache with assureFell := some s.clocks.timebase } ∧ t.mgmt.crumbCount = s.mgmt.crumbCount + 1 ∧
      (s.mgmt.assure = true → s.running = true → t.queue.event.getLsbD 4 = true) ∧ t.gauge = s.gauge ∧ t.power = s.power := by
  have he : exec .holdAssureFall s = .next (logCrumb (setAssure (holdLowered s) false) 0 0 0x09) :=
    congrArg Host.Outcome.next (assureFall_of_high h)
  have ha := setAssure_unsignalled (holdLowered s) false
  have hev := setAssure_event (s := holdLowered s)
  generalize setAssure (holdLowered s) false = u at he ha hev
  have hl := logCrumb_unlogged u 0 0 0x09
  exact ⟨_, he, (hl.get (·.mgmt.holdAssure)).trans (ha.get (·.mgmt.holdAssure)),
    (hl.get (·.mgmt.assure)).trans (ha.get (·.mgmt.assure)), (hl.get (·.mgmt.riseDue)).trans (ha.get (·.mgmt.riseDue)),
    (hl.get State.cache).trans (ha.get State.cache),
    (logCrumb_crumbCount u _ _ _).trans (congrArg (· + 1) (ha.get (·.mgmt.crumbCount))),
    fun h1 h2 => (congrArg (·.getLsbD 4) (hl.get (·.queue.event))).trans (hev h1 h2),
    (hl.get State.gauge).trans (ha.get State.gauge), (hl.get State.power).trans (ha.get State.power)⟩

theorem exec_holdAssureFall_low {s : State} (h : s.mgmt.holdAssure = false) :
    exec .holdAssureFall s = .next { s with mgmt := { s.mgmt with riseDue := false } } :=
  congrArg Host.Outcome.next (if_neg (Bool.eq_false_iff.mp h))

theorem bytesToNat_append (xs ys : List Byte) : bytesToNat (xs ++ ys) = bytesToNat xs + 2 ^ (8 * xs.length) * bytesToNat ys := by
  induction xs with
  | nil => simp [bytesToNat]
  | cons x xs ih =>
    rw [List.cons_append, bytesToNat, bytesToNat, ih, List.length_cons, Nat.mul_succ, Nat.pow_add]
    ring

theorem bytesToNat_lt (xs : List Byte) : bytesToNat xs < 2 ^ (8 * xs.length) := by
  induction xs with
  | nil => simp [bytesToNat]
  | cons x xs ih =>
    have hx := x.isLt
    rw [bytesToNat, List.length_cons, Nat.mul_succ, Nat.pow_add]
    omega

/-- The first byte of a message's payload. -/
theorem fld_mkMsg_payload (kind opcode seq status code : Nat) (b : Byte) (bs : List Byte) :
    fld (mkMsg kind opcode seq status code (b :: bs)) 8 1 = b.toNat := by
  obtain ⟨hdr, hlen, hm⟩ : ∃ hdr : List Byte, hdr.length = 8 ∧
      mkMsg kind opcode seq status code (b :: bs) = BitVec.ofNat 512 (bytesToNat (hdr ++ b :: bs.take 55)) := ⟨_, rfl, rfl⟩
  have hb := b.isLt
  have hlt := bytesToNat_lt hdr
  rw [hlen] at hlt
  rw [fld_eq, hm, BitVec.toNat_ofNat, bytesToNat_append, hlen, bytesToNat]
  omega

/-- HOLD_ASSURE high, before its notice. -/
def holdRaised (s : State) : State :=
  { s with mgmt := { s.mgmt with holdAssure := true, riseDue := false }, cache := { s.cache with assureFell := none } }

theorem holdAssureRise_rises {s : State} (hp : s.power.tailstock = true) (hdue : s.mgmt.riseDue = true) (hres : s.mgmt.resetting = false)
    (hpres : s.gauge.present = true) (hv : s.gauge.validLatch = true) (hok : s.mgmt.selftestOk = true)
    (hm : s.mgmt.mismatch = false) (hl : s.mgmt.assureLock = false) :
    ∃ t, exec .holdAssureRise s = .next t ∧ t.mgmt.holdAssure = true ∧ t.mgmt.riseDue = false ∧
      t.mgmt.assure = s.mgmt.assure ∧ t.cache = { s.cache with assureFell := none } ∧
      (∃ m, t.mgmt.outbox = s.mgmt.outbox ++ [m] ∧ fld m 0 1 = 0x83 ∧ fld m 8 1 = 1) ∧ t.gauge = s.gauge ∧
      t.power = s.power := by
  have he : exec .holdAssureRise s = .next (sendDp (logCrumb (holdRaised s) 0 0 0x09) (assureNoticeMsg true)) :=
    congrArg Host.Outcome.next (if_pos (by simp [assureHolds, hp, hdue, hres, hpres, hv, hok, hm, hl]))
  have hlog := logCrumb_unlogged (holdRaised s) 0 0 0x09
  generalize logCrumb (holdRaised s) 0 0 0x09 = u at he hlog
  refine ⟨_, he, hlog.get (·.mgmt.holdAssure), hlog.get (·.mgmt.riseDue), hlog.get (·.mgmt.assure), hlog.get State.cache,
    ⟨assureNoticeMsg true, congrArg (· ++ [assureNoticeMsg true]) (hlog.get (·.mgmt.outbox)), fld_mkMsg_kind _ _ _ _ _ _,
      fld_mkMsg_payload _ _ _ _ _ _ _⟩, hlog.get State.gauge, hlog.get State.power⟩

/-! ### A stale limit (R14, R311, R348) -/

theorem pldmEvent_queue (s : State) (n : Nat) : (pldmEvent s n).queue = s.queue := by
  unfold pldmEvent; split <;> rfl

/-- The events of a fall of the limit are set on a running module. -/
theorem limitFell_event (s : State) (old : Nat) (hr : s.running = true) (i : Nat) (hi : i < 32) :
    (limitFell s old).queue.event.getLsbD i = (s.queue.event.getLsbD i ||
      (fallsBelow s old 262144 s.gauge.warnArmed && decide (i = 5)) || (fallsBelow s old 16384 s.gauge.critArmed && decide (i = 6))) := by
  unfold limitFell
  extract_lets warn crit g s1 s2 s3 s4
  have hw : fallsBelow s old 262144 s.gauge.warnArmed = warn := rfl
  have hc : fallsBelow s old 16384 s.gauge.critArmed = crit := rfl
  have h2 : s2.queue.event.getLsbD i = (s.queue.event.getLsbD i || (warn && decide (i = 5))) := by
    unfold s2
    rw [hr, Bool.and_true]
    split
    · next h => rw [deviceEvent_event s1 5 i hi, h, Bool.true_and]; rfl
    · next h => rw [Bool.not_eq_true] at h; rw [h, Bool.false_and, Bool.or_false]; rfl
  have h3 : s3.queue.event.getLsbD i = (s2.queue.event.getLsbD i || (crit && decide (i = 6))) := by
    unfold s3
    rw [hr, Bool.and_true]
    split
    · next h => rw [deviceEvent_event s2 6 i hi, h, Bool.true_and]
    · next h => rw [Bool.not_eq_true] at h; rw [h, Bool.false_and, Bool.or_false]
  have h4 : s4.queue = s3.queue := by
    unfold s4
    split
    · exact pldmEvent_queue _ _
    · rfl
  have h5 : (if crit = true then pldmEvent s4 0x31 else s4).queue = s3.queue := by
    split
    · exact (pldmEvent_queue _ _).trans h4
    · exact h4
  rw [h5, h3, h2, hw, hc]

theorem limitFell_of_above {s : State} {old : Nat} (h : old < 16384) : limitFell s old = s := by
  unfold limitFell
  have hw : decide (262144 ≤ old) = false := decide_eq_false (by omega)
  have hc : decide (16384 ≤ old) = false := decide_eq_false (by omega)
  simp only [hw, hc, Bool.false_and, Bool.false_eq_true, if_false, Bool.not_false, Bool.and_true]
  rfl

theorem statusWordStale_stale (s : State) :
    ∃ t, exec .statusWordStale s = .next t ∧ t.mgmt.stale = true ∧ t.limit = 0 ∧ t.mgmt.words = s.mgmt.words ∧
      (262144 ≤ s.limit → s.gauge.warnArmed = true → s.running = true →
        t.queue.event.getLsbD 5 = true ∧ t.gauge.warnArmed = false) ∧
      (16384 ≤ s.limit → s.gauge.critArmed = true → s.running = true →
        t.queue.event.getLsbD 6 = true ∧ t.gauge.critArmed = false) ∧
      (s.limit < 16384 → t = { s with mgmt := { s.mgmt with stale := true } }) ∧ t.dev = s.dev := by
  obtain ⟨u, hu⟩ : ∃ u, s.setMgmt { s.mgmt with stale := true } = u := ⟨_, rfl⟩
  have he : exec .statusWordStale s = .next (limitFell u s.limit) := hu ▸ rfl
  have h := limitFell_unfallen u s.limit
  have hd := limitFell_reported u s.limit
  have hlim : u.limit = 0 := hu ▸ rfl
  have hw : u.gauge = s.gauge := hu ▸ rfl
  have hrun : u.running = s.running := hu ▸ rfl
  have hfalls (n : Nat) (hn : 0 < n) (ho : n ≤ s.limit) : fallsBelow u s.limit n true = true := by
    simp [fallsBelow, hlim, ho, hn]
  refine ⟨_, he, (h.get (·.mgmt.stale)).trans (hu ▸ rfl), (h.get State.limit).trans hlim, (h.get (·.mgmt.words)).trans (hu ▸ rfl),
    fun ho ha hr => ⟨?_, ?_⟩, fun ho ha hr => ⟨?_, ?_⟩, fun hs => (limitFell_of_above hs).trans hu.symm, (h.get State.dev).trans (hu ▸ rfl)⟩
  · rw [limitFell_event u _ (hrun.trans hr) 5 (by omega), hw, ha, hfalls _ (by omega) ho]; simp
  · refine (hd.get (·.gauge.warnArmed)).trans ?_
    simp only [disarmed, State.setGauge_gauge, hw, ha, hfalls _ (by omega) ho]
    rfl
  · rw [limitFell_event u _ (hrun.trans hr) 6 (by omega), hw, ha, hfalls 16384 (by omega) ho]; simp
  · refine (hd.get (·.gauge.critArmed)).trans ?_
    simp only [disarmed, State.setGauge_gauge, hw, ha, hfalls 16384 (by omega) ho]
    rfl

end Sys2Proof.Machine
end

section
/-! PROOF. The repair of a row of HBM (O48). -/

set_option Elab.async false

namespace Sys2Proof.Machine
open Sys2Proof

/-- With no row due, a repaired row leaves the queue and nothing takes its place (R474). -/
theorem leaveQueue_of_none_due {f : FaultUnit} (r : HbmRow) (h : ∀ x ∈ f.rows, x.due = false) :
    leaveQueue f r = { f with retireQueue := f.retireQueue.erase r } := by
  have hn : (f.rows.find? fun t => t.due && decide (t.row.stack = r.stack)) = none :=
    List.find?_eq_none.mpr fun x hx => by rw [h x hx]; exact Bool.false_ne_true
  unfold leaveQueue
  extract_lets f1
  rw [show (f1.rows.find? fun t => t.due && decide (t.row.stack = r.stack)) = none from hn]

/-- The record of repairs used is that of a pseudo-channel. -/
def RepairUse.isOf (x y : Nat) (q : RepairUse) : Bool := decide (q.stack = x ∧ q.pc = y)

theorem repairsUsed_eq (f : FaultUnit) (x y : Nat) :
    repairsUsed f x y = ((f.repairs.find? (RepairUse.isOf x y)).map (·.used)).getD 0 := rfl

theorem useRepair_repairs (f : FaultUnit) (r : HbmRow) :
    (useRepair f r).repairs = (f.repairs.filter fun q => !RepairUse.isOf r.stack r.pc q) ++
      [{ stack := r.stack, pc := r.pc, used := repairsUsed f r.stack r.pc + 1 }] := by
  simp only [useRepair, RepairUse.isOf, Bool.decide_and]

/-- A repair is used in the pseudo-channel of its row (R475). -/
theorem repairsUsed_useRepair_same (f : FaultUnit) (r : HbmRow) :
    repairsUsed (useRepair f r) r.stack r.pc = repairsUsed f r.stack r.pc + 1 := by
  have hn : (f.repairs.filter fun q => !RepairUse.isOf r.stack r.pc q).find? (RepairUse.isOf r.stack r.pc) = none := by
    refine List.find?_eq_none.mpr fun q hq => ?_
    rw [Bool.not_eq_true]
    exact Bool.not_eq_true' _ ▸ (List.mem_filter.mp hq).2
  rw [repairsUsed_eq, useRepair_repairs, List.find?_append, hn]
  simp [RepairUse.isOf]

/-- A repair leaves the count of every other pseudo-channel. -/
theorem repairsUsed_useRepair_other (f : FaultUnit) (r : HbmRow) {x y : Nat} (h : x ≠ r.stack ∨ y ≠ r.pc) :
    repairsUsed (useRepair f r) x y = repairsUsed f x y := by
  have hp : (fun q : RepairUse => decide ((!RepairUse.isOf r.stack r.pc q) = true ∧ RepairUse.isOf x y q = true)) =
      RepairUse.isOf x y := by
    funext q
    by_cases hq : RepairUse.isOf x y q = true
    · have hxy := of_decide_eq_true hq
      have hne : RepairUse.isOf r.stack r.pc q = false := decide_eq_false (by omega)
      rw [hq, hne]; rfl
    · rw [Bool.not_eq_true] at hq
      rw [hq, decide_eq_false (fun c => Bool.false_ne_true c.2)]
  have hs : RepairUse.isOf x y { stack := r.stack, pc := r.pc, used := repairsUsed f r.stack r.pc + 1 } = false :=
    decide_eq_false (by simp only; omega)
  rw [repairsUsed_eq, repairsUsed_eq, useRepair_repairs, List.find?_append, List.find?_filter, hp, List.find?_singleton, hs,
    if_neg Bool.false_ne_true, Option.or_none]

/-- What a fault event adds to a fault unit: counts and alerts, or lost alerts. -/
structure Alerted (f g : FaultUnit) : Prop where
  same : { g with classes := f.classes, alerts := f.alerts, alertsLost := f.alertsLost } = f
  more : f.alerts.length + f.alertsLost.toNat ≤ g.alerts.length + g.alertsLost.toNat

theorem Alerted.trans {f g k : FaultUnit} (h : Alerted f g) (j : Alerted g k) : Alerted f k := by
  refine ⟨?_, h.more.trans j.more⟩
  have h1 := j.same
  have h2 := h.same
  rw [← h1] at h2
  exact h2

theorem toNat_le_satInc (x : Byte) : x.toNat ≤ (satInc x).toNat := by
  unfold satInc
  split
  · exact Nat.le_refl _
  · next h =>
    have h1 : x.toNat ≠ 255 := fun c => h (BitVec.eq_of_toNat_eq c)
    have h2 := x.isLt
    rw [BitVec.toNat_add]
    change x.toNat ≤ (x.toNat + 1) % 2 ^ 8
    omega

theorem pushAlert_alerted (f : FaultUnit) (a : Alert) : Alerted f (pushAlert f a) := by
  unfold pushAlert
  split
  · exact ⟨rfl, by simp⟩
  · exact ⟨rfl, Nat.add_le_add_left (toNat_le_satInc _) _⟩

theorem faultUnitEvent_alerted (f : FaultUnit) (loc : W16) (sev : Nat) (addr : W64) (action : Bool) :
    Alerted f (faultUnitEvent f loc sev addr action) := by
  unfold faultUnitEvent
  extract_lets n c counted alerted
  have h1 : Alerted f counted := by
    unfold counted; split
    · exact ⟨rfl, Nat.le_refl _⟩
    · exact ⟨rfl, Nat.le_refl _⟩
  have h2 : Alerted f alerted := by
    unfold alerted; split
    · exact h1.trans (pushAlert_alerted _ _)
    · split
      · exact h1.trans (pushAlert_alerted _ _)
      · exact h1
  split
  · exact h2.trans (pushAlert_alerted _ _)
  · exact h2

section
variable {s : State} {stack : Fin 8} {r : HbmRow}

theorem exec_hbmRowRetirement (hr : s.running = true) (hq : s.faults.retireQueue.find? (fun r => r.stack = stack.val) = some r)
    (hx : pcExhausted s.faults r.stack r.pc = false) (hd : ∀ x ∈ s.faults.rows, x.due = false) :
    exec (.hbmRowRetirement stack [] false) s = .next (s.setFaults { useRepair s.faults r with
      retireQueue := s.faults.retireQueue.erase r, retired := s.faults.retired ++ [r] }) := by
  have hl := leaveQueue_of_none_due (f := useRepair s.faults r) r hd
  refine congrArg Host.Outcome.next ?_
  rw [hq]
  simp only [hr, Bool.not_true, Bool.false_eq_true, if_false, List.filter_nil, List.foldl_nil, hx, Bool.or_self, hl]
  rfl

/-- A row whose programming fails is reported and leaves the queue. -/
theorem exec_hbmRowRetirement_fails (hr : s.running = true)
    (hq : s.faults.retireQueue.find? (fun r => r.stack = stack.val) = some r) :
    ∃ (loc : W16) (addr : W64), exec (.hbmRowRetirement stack [] true) s = .next (s.setFaults (leaveQueue
      (faultUnitEvent s.faults loc 3 addr false) r)) := by
  refine ⟨memLocation s (rowAddress s.power.sku r), BitVec.ofNat 64 (rowAddress s.power.sku r), congrArg Host.Outcome.next ?_⟩
  rw [hq]
  simp only [hr, Bool.not_true, Bool.false_eq_true, if_false, List.filter_nil, List.foldl_nil, Bool.true_or, if_true]
  rfl

theorem hbmRowRetirement_repairs (hr : s.running = true)
    (hq : s.faults.retireQueue.find? (fun r => r.stack = stack.val) = some r)
    (hx : pcExhausted s.faults r.stack r.pc = false) (hd : ∀ x ∈ s.faults.rows, x.due = false) :
    (∃ t, exec (.hbmRowRetirement stack [] false) s = .next t ∧ t.faults.retired = s.faults.retired ++ [r] ∧
      t.faults.retireQueue = s.faults.retireQueue.erase r ∧
      repairsUsed t.faults r.stack r.pc = repairsUsed s.faults r.stack r.pc + 1 ∧
      (∀ x y, x ≠ r.stack ∨ y ≠ r.pc → repairsUsed t.faults x y = repairsUsed s.faults x y) ∧
      t.faults.classes = s.faults.classes ∧ t = { s with faults := t.faults }) ∧
    (∃ t, exec (.hbmRowRetirement stack [] true) s = .next t ∧ t.faults.retired = s.faults.retired ∧
      t.faults.retireQueue = s.faults.retireQueue.erase r ∧ t.faults.repairs = s.faults.repairs ∧
      t.faults.alerts.length + t.faults.alertsLost.toNat ≥ s.faults.alerts.length + s.faults.alertsLost.toNat ∧
      t = { s with faults := t.faults }) := by
  constructor
  · exact ⟨_, exec_hbmRowRetirement hr hq hx hd, rfl, rfl, repairsUsed_useRepair_same s.faults r,
      fun x y h => repairsUsed_useRepair_other s.faults r h, rfl, rfl⟩
  · obtain ⟨loc, addr, he⟩ := exec_hbmRowRetirement_fails hr hq
    have ha := faultUnitEvent_alerted s.faults loc 3 addr false
    generalize faultUnitEvent s.faults loc 3 addr false = f at he ha
    have hrows : f.rows = s.faults.rows := (congrArg FaultUnit.rows ha.same :)
    have hqueue : f.retireQueue = s.faults.retireQueue := (congrArg FaultUnit.retireQueue ha.same :)
    rw [leaveQueue_of_none_due r (by rw [hrows]; exact hd)] at he
    exact ⟨_, he, (congrArg FaultUnit.retired ha.same :), congrArg (·.erase r) hqueue, (congrArg FaultUnit.repairs ha.same :), ha.more,
      rfl⟩

end

end Sys2Proof.Machine
end

section
/-! PROOF. What the steps of a start leave as it is (O48). -/

set_option Elab.async false

namespace Sys2Proof.Machine
open Sys2Proof

theorem Same.foldl {α β : Type} {e : State → β} {f : State → α → State} (hf : ∀ s x, Same e s (f s x)) (l : List α) (s : State) :
    Same e s (l.foldl f s) := by
  induction l generalizing s with
  | nil => exact .refl s
  | cons x l ih => exact (hf s x).trans (ih _)

/-! ### The assembly of the array and the arming of the vault -/

/-- A state with what the assembly of the array and the arming of the vault may change taken out of it. -/
def State.unkept (s : State) : State :=
  { s.unreported with keep := Reset.keep, cache := Reset.cache, faults := Reset.faults }

theorem setImage_unkept (s : State) (v : ImageState) : Same State.unkept s (setImage s v) := by
  have h0 : Same State.unkept s (s.setCache { s.cache with image := v }) := rfl
  unfold setImage
  extract_lets was c s1
  exact .ite (h0.trans (deviceEvent_reported _ _).weaken) h0

/-- A state without its drives and its count of free values. -/
def State.untorn (s : State) : State := { s with keep := { s.keep with ports := Reset.keep.ports }, freeCtr := 0 }

theorem onDrive_untorn (s : State) (q : Nat) (f : Drive → Drive) : Same State.untorn s (onDrive s q f) := rfl

theorem writeMedia_untorn (s : State) (q off : Nat) (data : List Byte) : Same State.untorn s (writeMedia s q off data) :=
  onDrive_untorn s q _

theorem writeSuperblocks_unkept (s : State) : Same State.unkept s (writeSuperblocks s) := by
  unfold writeSuperblocks
  split
  · exact .refl s
  · extract_lets a off targets
    refine Same.trans (t := s.setArray a) rfl ?_
    exact Same.foldl (fun s x => (writeMedia_untorn s _ _ _).weaken) _ _

theorem queueReadds_unkept (s : State) (ports : List Nat) : Same State.unkept s (queueReadds s ports) := by
  unfold queueReadds
  refine Same.foldl (fun s q => ?_) _ _
  split
  · exact .refl s
  · split
    · rfl
    · exact .refl s

theorem armVault_unkept (s : State) : Same State.unkept s (armVault s) := by
  unfold armVault
  extract_lets c body
  split
  · rfl
  · rfl

theorem afterAssembly_unkept (s : State) (ports : List Nat) : Same State.unkept s (afterAssembly s ports) := by
  unfold afterAssembly
  split
  · exact .refl s
  · next a _ =>
    extract_lets s1 waits mark c s2 s3
    have h1 : Same State.unkept s s1 := .ite (setImage_unkept _ _) (.refl s)
    have h2 : Same State.unkept s s2 := by
      refine h1.trans ?_
      clear_value s1
      exact .ite rfl (.refl s1)
    have h3 : Same State.unkept s s3 := .ite (h2.trans (writeSuperblocks_unkept _)) h2
    exact Same.trans (.ite (h3.trans (armVault_unkept _)) h3) (queueReadds_unkept _ _)

theorem assembleRecorded_unkept (s : State) : Same State.unkept s (assembleRecorded s) := by
  unfold assembleRecorded
  extract_lets u
  split
  · exact .refl s
  · split
    · exact .refl s
    · exact Same.trans (t := takeArray s _ _) rfl (afterAssembly_unkept _ _)

theorem setCache_unkept (s : State) (c : Cache) : Same State.unkept s (s.setCache c) := rfl

theorem keepStart_unkept (s : State) : Same State.unkept s (keepStart s) := by
  unfold keepStart
  extract_lets c c0 c1 both area pend newest lost u s0 s1 s2
  have h0 : Same State.unkept s s0 := .ite rfl (.refl s)
  have h1 : Same State.unkept s s1 := h0.trans (setCache_unkept s0 _)
  have h2 : Same State.unkept s s2 := h1.trans (assembleRecorded_unkept s1)
  exact .ite (h2.trans (armVault_unkept _)) h2

/-! ### The notice of a start -/

/-- A state with what the notice of a start may change taken out of it. -/
def State.unnoticed (s : State) : State :=
  { s with
    mgmt := { Reset.mgmt with powerOns := s.mgmt.powerOns, assureLock := s.mgmt.assureLock }
    jiman := { s.jiman with regs := Reset.jregs }
    firmware := { Reset.firmware with recovery := s.firmware.recovery }
    power := { s.power with keepEnabled := false }
    queue := { s.queue with event := 0 }
    link := { Reset.link with up := s.link.up, homeQueue := s.link.homeQueue }
    keep := Reset.keep, cache := Reset.cache, faults := Reset.faults, freeCtr := 0 }

theorem handOver_unnoticed (s : State) : Same State.unnoticed s (handOver s) := by
  unfold handOver; exact .ite rfl (.refl s)

theorem setMgmt_unnoticed (s : State) {m : Mgmt} (h : m.powerOns = s.mgmt.powerOns ∧ m.assureLock = s.mgmt.assureLock) :
    Same State.unnoticed s (s.setMgmt m) := by
  simp only [Same, State.unnoticed, State.setMgmt, h]

/-- What the completion of a start's management reset makes of the Tailstock: its notice is the first message to be sent. -/
theorem completeMgmtReset_notice {s : State} (hr : s.mgmt.resetting = true) (ho : s.mgmt.selftestOk = true)
    (hout : s.mgmt.outbox = []) :
    Same State.unnoticed s (completeMgmtReset s) ∧ (completeMgmtReset s).mgmt.resetting = false ∧
      (completeMgmtReset s).mgmt.toDp = s.mgmt.toDp ∧ (completeMgmtReset s).firmware = s.firmware ∧
      ∃ m rest, (completeMgmtReset s).mgmt.outbox = m :: rest ∧ msgKind m = 0x84 := by
  unfold completeMgmtReset
  rw [if_pos (by rw [hr, ho]; rfl)]
  extract_lets m s1 s2
  have hl := logCrumb_unlogged (s.setMgmt { m with resetting := false, riseDue := assureHolds s }) 0 0 0x01
  have h1 : Same State.unnoticed s s1 := (setMgmt_unnoticed s ⟨rfl, rfl⟩).trans hl.weaken
  have h2 : Same State.unnoticed s1 s2 := setMgmt_unnoticed s1 ⟨rfl, rfl⟩
  have hs1 : s1.mgmt.resetting = false ∧ s1.mgmt.toDp = s.mgmt.toDp ∧ s1.firmware = s.firmware ∧ s1.mgmt.outbox = [] :=
    ⟨hl.get (·.mgmt.resetting), hl.get (·.mgmt.toDp), hl.get State.firmware, (hl.get (·.mgmt.outbox)).trans hout⟩
  have hk : msgKind (resetNoticeMsg s1) = 0x84 := fld_mkMsg_kind _ _ _ _ _ _
  have hb : s2.mgmt.outbox = [resetNoticeMsg s1] := congrArg (· ++ [resetNoticeMsg s1]) hs1.2.2.2
  split
  · exact ⟨h1.trans h2, hs1.1, hs1.2.1, hs1.2.2.1, _, _, hb, hk⟩
  · exact ⟨(h1.trans h2).trans (setMgmt_unnoticed s2 ⟨rfl, rfl⟩), hs1.1, hs1.2.1, hs1.2.2.1, _, _,
      congrArg (· ++ [assureNoticeMsg false]) hb, hk⟩

/-- A RESET_NOTICE at the front of the Jiman's messages is sent first (R368). -/
theorem pumpToDp_notice {s : State} {m : MboxMsg} {rest : List MboxMsg} (hd : s.mgmt.toDp = none) (hr : s.firmware.recovery = false)
    (ho : s.mgmt.outbox = m :: rest) (hk : msgKind m = 0x84) :
    pumpToDp s = s.setMgmt { s.mgmt with toDp := some m, outbox := s.mgmt.outbox.erase m } := by
  have hrank : msgRank m = 0 := by
    unfold msgRank
    rw [hk]
    rfl
  have hfind : ((List.range 4).findSome? fun r => s.mgmt.outbox.find? fun x => msgRank x = r) = some m := by
    rw [ho, List.range_succ_eq_map, List.findSome?_cons, List.find?_cons_of_pos (by simp [hrank])]
  unfold pumpToDp
  extract_lets x
  rw [if_neg (by rw [show x.toDp = none from hd, hr]; simp), hfind]

theorem pumpToDp_of_full {s : State} {m : MboxMsg} (h : s.mgmt.toDp = some m) : pumpToDp s = s :=
  if_pos (by rw [h]; rfl)

theorem withToDp_of_full {s : State} {m : MboxMsg} {kind : Nat} (f : State → MboxMsg → State) (h : s.mgmt.toDp = some m)
    (hk : msgKind m = kind) (hr : s.running = true) : withToDp s kind f = f s m := by
  unfold withToDp
  rw [pumpToDp_of_full h]
  simp only [h]
  exact if_pos ⟨hk, hr⟩

theorem setFirmware_unnoticed (s : State) {f : Firmware} (h : f.recovery = s.firmware.recovery) :
    Same State.unnoticed s (s.setFirmware f) := by
  simp only [Same, State.unnoticed, State.setFirmware, h]

theorem setLink_unnoticed (s : State) {l : Link} (h : l.up = s.link.up ∧ l.homeQueue = s.link.homeQueue) :
    Same State.unnoticed s (s.setLink l) := by
  simp only [Same, State.unnoticed, State.setLink, h]

theorem takeNotice_unnoticed (s : State) (m : MboxMsg) : Same State.unnoticed s (takeNotice s m) := by
  unfold takeNotice
  exact ((setMgmt_unnoticed s ⟨rfl, rfl⟩).trans (setMgmt_unnoticed _ ⟨rfl, rfl⟩)).trans (setFirmware_unnoticed _ rfl)

theorem takeNotice_taken (s : State) (m : MboxMsg) :
    (takeNotice s m).mgmt.awaitNotice = false ∧ (takeNotice s m).mgmt.resetting = s.mgmt.resetting ∧
      (takeNotice s m).firmware.imageTaken = true ∧ (takeNotice s m).power = s.power := ⟨rfl, rfl, rfl, rfl⟩

/-- What the notice of a start has done: the settings image is in, and the reset of the Tailstock is over. -/
structure Noticed (t : State) : Prop where
  taken : t.firmware.imageTaken = true
  completed : t.mgmt.resetting = false
  arrived : t.mgmt.awaitNotice = false
  applied : t.power.keepEnabled = t.firmware.image.keepEnabled

/-- The state with the settings image in force, before the array is assembled. -/
def imageApplied (s : State) : State :=
  let s1 := applyImage s
  let s2 := s1.setLink (loadLanes s1.link s1.firmware.image.lanes)
  s2.setKeep { s2.keep with ports := s2.keep.ports.map fun p => { p with perst := false } }

theorem afterNotice_eq {s : State} (h : s.power.hbmFailed = false) : afterNotice s = keepStart (imageApplied s) :=
  if_neg (Bool.eq_false_iff.mp h)

theorem applyImage_unnoticed (s : State) : Same State.unnoticed s (applyImage s) := by
  unfold applyImage
  exact Same.trans (t := s.setPower _) rfl (setLink_unnoticed _ ⟨rfl, rfl⟩)

theorem setKeep_unnoticed (s : State) (k : Keep) : Same State.unnoticed s (s.setKeep k) := rfl

theorem offerLanes_kept (l : Link) : (offerLanes l).up = l.up ∧ (offerLanes l).homeQueue = l.homeQueue := ⟨rfl, rfl⟩

theorem loadLanes_kept (l : Link) (retired : W16) :
    (loadLanes l retired).up = l.up ∧ (loadLanes l retired).homeQueue = l.homeQueue := by
  unfold loadLanes
  exact offerLanes_kept _

theorem imageApplied_unnoticed (s : State) : Same State.unnoticed s (imageApplied s) := by
  have h := applyImage_unnoticed s
  unfold imageApplied
  generalize applyImage s = a at h ⊢
  exact (h.trans (setLink_unnoticed a (loadLanes_kept _ _))).trans (setKeep_unnoticed _ _)

theorem imageApplied_kept (s : State) :
    (imageApplied s).mgmt = s.mgmt ∧ (imageApplied s).firmware = s.firmware ∧
      (imageApplied s).power.keepEnabled = s.firmware.image.keepEnabled := ⟨rfl, rfl, rfl⟩

/-- The notice of a start is taken, and start-up goes on (R438 step 6, R440). -/
theorem resetNotice_noticed {s : State} (m : MboxMsg) (hi : s.firmware.imageTaken = false) (hf : s.power.hbmFailed = false)
    (hr : s.mgmt.resetting = false) :
    Same State.unnoticed s (resetNotice s m) ∧ Noticed (resetNotice s m) := by
  obtain ⟨h1, h2, h3, h4⟩ := takeNotice_taken s m
  have hu := takeNotice_unnoticed s m
  have he : resetNotice s m = afterNotice (takeNotice s m) := if_neg (Bool.eq_false_iff.mp hi)
  rw [he]
  generalize takeNotice s m = n at h1 h2 h3 h4 hu ⊢
  rw [afterNotice_eq (by rw [h4]; exact hf)]
  obtain ⟨a1, a2, a3⟩ := imageApplied_kept n
  have ha := imageApplied_unnoticed n
  generalize imageApplied n = a at a1 a2 a3 ha ⊢
  have hk := keepStart_unkept a
  generalize keepStart a = k at hk ⊢
  refine ⟨(hu.trans ha).trans hk.weaken, ?_, ?_, ?_, ?_⟩
  · rw [hk.get (·.firmware.imageTaken), a2, h3]
  · rw [hk.get (·.mgmt.resetting), a1, h2, hr]
  · rw [hk.get (·.mgmt.awaitNotice), a1, h1]
  · rw [hk.get (·.power.keepEnabled), hk.get (·.firmware.image.keepEnabled), a3, a2]

/-! ### The training of the link -/

/-- A state with what the training of the link at a start may change taken out of it. -/
def State.untrained (s : State) : State :=
  { s.unreported with
    power := { s.power with starting := false, state := .off, draining := false, selfRefresh := false }
    clocks := { s.clocks with cclkStopped := true }
    link := Reset.link, faults := Reset.faults }

theorem sendPendingVectors_unreported (s : State) : Same State.unreported s (sendPendingVectors s) := by
  unfold sendPendingVectors
  refine Same.foldl (fun s v => ?_) _ _
  split
  · exact Same.trans (t := s.setLink _) rfl (sendVector_reported _ _)
  · exact .refl s

theorem retryHome_of_none {s : State} (h : s.link.homeQueue = []) : retryHome s = s := by
  rw [retryHome, h, serveAll]
  have hl : ({ s.link with homeQueue := [] } : Link) = s.link := by rw [← h]
  rw [hl, State.setLink_self]

theorem trainLink_homeQueue (l : Link) (x : LinkTrain) : (trainLink l x).homeQueue = l.homeQueue := by
  unfold trainLink
  extract_lets lane o n
  have ho : o.homeQueue = l.homeQueue := (offerLanes_kept _).2
  clear_value o n
  split <;> exact ho

theorem setLink_untrained (s : State) (l : Link) : Same State.untrained s (s.setLink l) := rfl

theorem setFaults_untrained (s : State) (f : FaultUnit) : Same State.untrained s (s.setFaults f) := rfl

/-- The state of a start whose link has trained. -/
def startedWarm (s : State) (l : Link) : State := completeStart (s.setLink l)

theorem startedWarm_warm {s : State} (l : Link) (h : s.power.starting = true) :
    Same State.untrained s (startedWarm s l) ∧ (startedWarm s l).clocks.cclkStopped = true ∧
      (startedWarm s l).power.starting = false ∧ (startedWarm s l).power.state = .warm ∧ (startedWarm s l).link = l := by
  have he : startedWarm s l = toWarm ((s.setLink l).setPower { s.power with starting := false }) := if_pos h
  rw [he]
  exact ⟨rfl, rfl, rfl, rfl, rfl⟩

/-- What a training of the link at a start leaves: WARM with the link up, or the start going on with the link down. -/
structure Trained (s t : State) : Prop where
  kept : Same State.untrained s t
  stopped : t.clocks.cclkStopped = true
  starting : t.power.starting = !t.link.up
  warm : t.link.up = true → t.power.state = .warm

theorem trained_up {s : State} {l : Link} (hs : s.power.starting = true) (hq : l.homeQueue = []) (hl : l.up = true) :
    Trained s (retryHome (sendPendingVectors (startedWarm s l))) := by
  obtain ⟨h0, h1, h2, h3, h4⟩ := startedWarm_warm l hs
  generalize startedWarm s l = u at h0 h1 h2 h3 h4 ⊢
  have hp := sendPendingVectors_unreported u
  generalize sendPendingVectors u = v at hp ⊢
  rw [retryHome_of_none (by rw [hp.get (·.link.homeQueue), h4, hq])]
  refine ⟨h0.trans hp.weaken, ?_, ?_, fun _ => ?_⟩
  · rw [hp.get (·.clocks.cclkStopped), h1]
  · rw [hp.get (·.power.starting), hp.get (·.link.up), h2, h4, hl]; rfl
  · rw [hp.get (·.power.state), h3]

theorem trained_down {s : State} {l : Link} (loc : W16) (sev : Nat) (hs : s.power.starting = true) (hc : s.clocks.cclkStopped = true)
    (hl : l.up = false) : Trained s (faultEvent (s.setLink l) loc sev) :=
  ⟨(setLink_untrained s l).trans (setFaults_untrained _ _), hc, hs.trans (congrArg (!·) hl).symm,
    fun c => absurd (hl.symm.trans c) Bool.false_ne_true⟩

/-- A start whose link trains is in WARM; one whose link does not goes on starting (R438, R441). -/
theorem linkTrained_start {s : State} (x : LinkTrain) (hs : s.power.starting = true) (hq : s.link.homeQueue = [])
    (hu : s.link.up = false) (hc : s.clocks.cclkStopped = true) : Trained s (linkTrained s x) := by
  unfold linkTrained
  split
  · exact ⟨.refl s, hc, by rw [hs, hu]; rfl, fun c => by rw [hu] at c; cases c⟩
  · have hhome := trainLink_homeQueue s.link x
    simp only [hu, Bool.false_eq_true, if_false]
    generalize trainLink s.link x = l at hhome ⊢
    split
    · next hl => exact trained_up hs (hhome.trans hq) hl
    · next hl => exact trained_down _ _ hs hc (Bool.eq_false_iff.mpr hl)

/-! ### A start to the end of what happens now -/

/-- The Tailstock with the self-test of a start passed. -/
def selfTested (s : State) : State :=
  (handOver s).setMgmt { (handOver s).mgmt with selftestNo := (handOver s).mgmt.selftestNo + 1, selftestOk := true }

theorem selfTested_unnoticed (s : State) : Same State.unnoticed s (selfTested s) :=
  (handOver_unnoticed s).trans (setMgmt_unnoticed _ ⟨rfl, rfl⟩)

theorem handOver_kept (s : State) : (handOver s).mgmt = s.mgmt ∧ (handOver s).firmware = s.firmware := by
  unfold handOver
  extract_lets r w h
  split <;> exact ⟨rfl, rfl⟩

theorem selfTested_kept (s : State) :
    (selfTested s).mgmt.resetting = s.mgmt.resetting ∧ (selfTested s).mgmt.selftestOk = true ∧
      (selfTested s).mgmt.outbox = s.mgmt.outbox ∧ (selfTested s).mgmt.toDp = s.mgmt.toDp ∧ (selfTested s).firmware = s.firmware := by
  obtain ⟨hm, hf⟩ := handOver_kept s
  rw [← hm, ← hf]
  exact ⟨rfl, rfl, rfl, rfl, rfl⟩

/-- The state of a start once its notice has arrived. -/
def startNoticed (s : State) : State := withToDp (pumpToDp (completeMgmtReset (selfTested s))) 0x84 resetNotice

/-- What a start's steps on the Tailstock begin with. -/
structure Waking (s : State) : Prop where
  resetting : s.mgmt.resetting = true
  outbox : s.mgmt.outbox = []
  toDp : s.mgmt.toDp = none
  imageTaken : s.firmware.imageTaken = false
  hbm : s.power.hbmFailed = false
  running : s.running = true

theorem startNoticed_noticed {s : State} (h : Waking s) (hrec : s.firmware.recovery = false) :
    Same State.unnoticed s (startNoticed s) ∧ Noticed (startNoticed s) := by
  obtain ⟨k1, k2, k3, k4, k5⟩ := selfTested_kept s
  have ht := selfTested_unnoticed s
  unfold startNoticed
  generalize selfTested s = t at k1 k2 k3 k4 k5 ht ⊢
  obtain ⟨hc, hres, hdp, hfw, m, rest, hm, hk⟩ := completeMgmtReset_notice (k1.trans h.resetting) k2 (k3.trans h.outbox)
  generalize completeMgmtReset t = c at hc hres hdp hfw hm ⊢
  rw [pumpToDp_notice (hdp.trans (k4.trans h.toDp)) (by rw [hfw, k5, hrec]) hm hk]
  obtain ⟨p, hp⟩ : ∃ p, c.setMgmt { c.mgmt with toDp := some m, outbox := c.mgmt.outbox.erase m } = p := ⟨_, rfl⟩
  have hpu : Same State.unnoticed c p := hp ▸ setMgmt_unnoticed c ⟨rfl, rfl⟩
  have hall := (ht.trans hc).trans hpu
  have hpm : p.mgmt.toDp = some m ∧ p.mgmt.resetting = c.mgmt.resetting ∧ p.firmware = c.firmware := hp ▸ ⟨rfl, rfl, rfl⟩
  obtain ⟨p1, p2, p3⟩ := hpm
  rw [hp, withToDp_of_full resetNotice p1 hk ((hall.get State.running).trans h.running)]
  have hi : p.firmware.imageTaken = false := by rw [p3, hfw, k5, h.imageTaken]
  obtain ⟨n1, n2⟩ := resetNotice_noticed m hi ((hall.get (·.power.hbmFailed)).trans h.hbm) (p2.trans hres)
  exact ⟨hall.trans n1, n2⟩

end Sys2Proof.Machine
end

section
/-! PROOF. Starting up, from the Tailstock to the training of the link (O48). -/

set_option Elab.async false

namespace Sys2Proof.Machine
open Sys2Proof

/-! ### What a start makes of the module -/

/-- A module started with a kind and a power-on count, and more. -/
def StartedWith (e : StartUp) (kind : BitVec 2) (ons : W32) (t : State) (more : Prop) : Prop :=
  t.power.input = true ∧ t.power.tailstock = true ∧ t.power.retention = false ∧ t.power.holdup = true ∧
  t.power.compute = true ∧ t.power.pwrLoss = false ∧ t.power.afterEpo = false ∧ t.power.slotId = e.slot ∧
  t.power.trayId = e.tray ∧ t.clocks.startKind = kind ∧ t.clocks.timebase = 0 ∧ t.clocks.pllLocked = true ∧
  t.clocks.cclkStopped = true ∧ t.turner = Reset.turner ∧ t.lattice = Reset.lattice ∧ t.spindle = Reset.spindle ∧
  t.scale = Reset.scale ∧ t.queue.ops = Reset.queue.ops ∧ t.queue.enable = false ∧ t.dev = [] ∧
  t.mgmt.powerOns = ons ∧ t.mgmt.assureLock = false ∧ more

theorem StartedWith.imp {e : StartUp} {kind : BitVec 2} {ons : W32} {t : State} {p q : Prop} (h : StartedWith e kind ons t p)
    (hpq : p → q) : StartedWith e kind ons t q := by
  obtain ⟨h1, h2, h3, h4, h5, h6, h7, h8, h9, h10, h11, h12, h13, h14, h15, h16, h17, h18, h19, h20, h21, h22, hp⟩ := h
  exact ⟨h1, h2, h3, h4, h5, h6, h7, h8, h9, h10, h11, h12, h13, h14, h15, h16, h17, h18, h19, h20, h21, h22, hpq hp⟩

/-- A module that has just been powered: the start has begun, its image is not in, and its link is down. -/
structure Powered (st : ModState) (e : StartUp) (kind : BitVec 2) (ons : W32) (u : State) : Prop where
  started : StartedWith e kind ons u True
  waking : Waking u
  state : u.power.state = st
  starting : u.power.starting = true
  up : u.link.up = false
  homeQueue : u.link.homeQueue = []
  array : u.keep.array = none

/-- A start as the obligation says it. -/
def StartedAs (st : ModState) (ons : W32) (e : StartUp) (kind : BitVec 2) (t : State) : Prop :=
  StartedWith e kind ons t <|
    (e.notice = false → t.power.state = st ∧ t.power.starting = true ∧ t.link.up = false ∧ t.keep.array = none ∧
      t.mgmt.resetting = true ∧ t.firmware.imageTaken = false) ∧
    (e.notice = true → t.firmware.recovery = false →
      t.firmware.imageTaken = true ∧ t.mgmt.resetting = false ∧ t.mgmt.awaitNotice = false ∧
      t.power.keepEnabled = t.firmware.image.keepEnabled ∧ (t.link.up = true → e.train ≠ none) ∧
      t.power.starting = !t.link.up ∧ (t.link.up = true → t.power.state = .warm))

/-! ### The Ohmim at a power-on -/

/-- With every stack and row good, the Ohmim is at reset, and only what a power-on keeps stays (R438 steps 3 to 5). -/
theorem ohmimStart_kept {e : StartUp} (hb : e.badRows = []) (s : State) (kind : BitVec 2) :
    (ohmimStart s kind e).mgmt = s.mgmt ∧ (ohmimStart s kind e).firmware = s.firmware ∧ (ohmimStart s kind e).jiman = s.jiman ∧
      (ohmimStart s kind e).gauge = s.gauge ∧ (ohmimStart s kind e).cache.area0 = s.cache.area0 ∧
      (ohmimStart s kind e).cache.area1 = s.cache.area1 := by
  unfold ohmimStart
  rw [hb]
  exact ⟨rfl, rfl, rfl, rfl, rfl, rfl⟩

theorem ohmimStart_powered {e : StartUp} (hf : e.stackFails = false) (hb : e.badRows = []) {s : State} (kind : BitVec 2)
    (hlock : s.mgmt.assureLock = false) (hres : s.mgmt.resetting = true) (hout : s.mgmt.outbox = []) (hdp : s.mgmt.toDp = none)
    (hi : s.firmware.imageTaken = false) :
    Powered s.power.state e kind s.mgmt.powerOns (ohmimStart s kind e) := by
  obtain ⟨hm, hfw, -⟩ := ohmimStart_kept hb s kind
  refine ⟨?_, ⟨?_, ?_, ?_, ?_, ?_, ?_⟩, ?_, ?_, ?_, ?_, ?_⟩
  · rw [StartedWith, hm]
    unfold ohmimStart
    rw [hb]
    exact ⟨rfl, rfl, rfl, rfl, rfl, rfl, rfl, rfl, rfl, rfl, rfl, rfl, rfl, rfl, rfl, rfl, rfl, rfl, rfl, rfl, rfl, hlock, trivial⟩
  · rw [hm]; exact hres
  · rw [hm]; exact hout
  · rw [hm]; exact hdp
  · rw [hfw]; exact hi
  all_goals
    unfold ohmimStart
    rw [hb]
  · exact hf
  all_goals rfl

/-- Every stack good, there is nothing to report. -/
theorem reportHbm_of_good {s : State} (h : s.power.hbmFailed = false) : reportHbm s = s := if_neg (Bool.eq_false_iff.mp h)

/-! ### The end of a start -/

section
variable {e : StartUp} {st : ModState} {kind : BitVec 2} {ons : W32} {u : State}

theorem finishStart_waits (u : State) (h : e.notice = false ∨ u.firmware.recovery = true) : finishStart u e = u := by
  refine if_pos ?_
  rcases h with h | h <;> simp [h]

theorem finishStart_noticed (u : State) (hn : e.notice = true) (hr : u.firmware.recovery = false) (ht : e.train = none) :
    finishStart u e = startNoticed u := by
  refine (if_neg (by simp [hn, hr])).trans ?_
  rw [ht]
  rfl

theorem finishStart_trains (u : State) {x : LinkTrain} (hn : e.notice = true) (hr : u.firmware.recovery = false)
    (ht : e.train = some x) : finishStart u e = linkTrained (startNoticed u) x := by
  refine (if_neg (by simp [hn, hr])).trans ?_
  rw [ht]
  rfl

/-- A state with what the steps of a start after power-on may change taken out of it. -/
def State.unfinished (s : State) : State :=
  { s.unnoticed with
    power := { s.unnoticed.power with starting := false, state := .off, draining := false, selfRefresh := false }
    clocks := { s.clocks with cclkStopped := true }
    link := Reset.link }

theorem finishStart_unfinished (h : Powered st e kind ons u) :
    Same State.unfinished u (finishStart u e) ∧ (finishStart u e).clocks.cclkStopped = true ∧
      (e.notice = true → (finishStart u e).firmware.recovery = false → Noticed (finishStart u e) ∧
        ((finishStart u e).link.up = true → e.train ≠ none) ∧
        (finishStart u e).power.starting = !(finishStart u e).link.up ∧
        ((finishStart u e).link.up = true → (finishStart u e).power.state = .warm)) := by
  obtain ⟨-, -, -, -, -, -, -, -, -, -, -, -, hstop, -⟩ := h.started
  by_cases hw : e.notice = false ∨ u.firmware.recovery = true
  · rw [finishStart_waits u hw]
    refine ⟨.refl u, hstop, fun hn hr => ?_⟩
    rcases hw with hw | hw
    · rw [hw] at hn; cases hn
    · rw [hw] at hr; cases hr
  · obtain ⟨hn, hr⟩ := not_or.mp hw
    rw [Bool.not_eq_false] at hn
    rw [Bool.not_eq_true] at hr
    obtain ⟨hs, hno⟩ := startNoticed_noticed h.waking hr
    have hnone := finishStart_noticed u hn hr
    have hsome (x : LinkTrain) := finishStart_trains u (x := x) hn hr
    generalize startNoticed u = v at hs hno hnone hsome
    have hvs : v.power.starting = true := (hs.get (·.power.starting)).trans h.starting
    have hvu : v.link.up = false := (hs.get (·.link.up)).trans h.up
    have hvc : v.clocks.cclkStopped = true := (hs.get (·.clocks.cclkStopped)).trans hstop
    cases htr : e.train with
    | none =>
      rw [hnone htr]
      have hdown : ¬v.link.up = true := Bool.eq_false_iff.mp hvu
      exact ⟨hs.weaken, hvc, fun _ _ => ⟨hno, fun c => absurd c hdown, hvs.trans (congrArg (!·) hvu).symm, fun c => absurd c hdown⟩⟩
    | some x =>
      have ht := linkTrained_start x hvs ((hs.get (·.link.homeQueue)).trans h.homeQueue) hvu hvc
      rw [hsome x htr]
      generalize linkTrained v x = t at ht ⊢
      refine ⟨hs.weaken.trans ht.kept.weaken, ht.stopped, fun _ _ => ⟨⟨?_, ?_, ?_, ?_⟩, fun _ => Option.some_ne_none x, ht.starting, ht.warm⟩⟩
      · rw [ht.kept.get (·.firmware.imageTaken), hno.taken]
      · rw [ht.kept.get (·.mgmt.resetting), hno.completed]
      · rw [ht.kept.get (·.mgmt.awaitNotice), hno.arrived]
      · rw [ht.kept.get (·.power.keepEnabled), ht.kept.get (·.firmware.image.keepEnabled), hno.applied]

/-- A powered module started to the end of what happens now is as the obligation says. -/
theorem finishStart_started (h : Powered st e kind ons u) : StartedAs st ons e kind (finishStart u e) := by
  obtain ⟨hu, hstop, hno⟩ := finishStart_unfinished h
  have hwait (hn : e.notice = false) : finishStart u e = u := finishStart_waits u (.inl hn)
  have hstart : StartedWith e kind ons (finishStart u e) True := by
    have hs := h.started
    obtain ⟨h1, h2, h3, h4, h5, h6, h7, h8, h9, h10, h11, h12, -, h14, h15, h16, h17, h18, h19, h20, h21, h22, -⟩ := hs
    generalize finishStart u e = t at hu hstop
    exact ⟨(hu.get (·.power.input)).trans h1, (hu.get (·.power.tailstock)).trans h2, (hu.get (·.power.retention)).trans h3,
      (hu.get (·.power.holdup)).trans h4, (hu.get (·.power.compute)).trans h5, (hu.get (·.power.pwrLoss)).trans h6,
      (hu.get (·.power.afterEpo)).trans h7, (hu.get (·.power.slotId)).trans h8, (hu.get (·.power.trayId)).trans h9,
      (hu.get (·.clocks.startKind)).trans h10, (hu.get (·.clocks.timebase)).trans h11, (hu.get (·.clocks.pllLocked)).trans h12,
      hstop, (hu.get State.turner).trans h14, (hu.get State.lattice).trans h15, (hu.get State.spindle).trans h16,
      (hu.get State.scale).trans h17, (hu.get (·.queue.ops)).trans h18, (hu.get (·.queue.enable)).trans h19,
      (hu.get State.dev).trans h20, (hu.get (·.mgmt.powerOns)).trans h21, (hu.get (·.mgmt.assureLock)).trans h22, trivial⟩
  refine hstart.imp fun _ => ⟨fun hn => ?_, fun hn hr => ?_⟩
  · rw [hwait hn]
    exact ⟨h.state, h.starting, h.up, h.array, h.waking.resetting, h.waking.imageTaken⟩
  · obtain ⟨⟨n1, n2, n3, n4⟩, n5, n6, n7⟩ := hno hn hr
    exact ⟨n1, n2, n3, n4, n5, n6, n7⟩

end

end Sys2Proof.Machine
end

section
/-! PROOF. Starting, clocks and assurance (O48). -/

set_option Elab.async false

namespace Sys2Proof.Machine
open Sys2Proof

/-! ### The Tailstock at a power-on (R432, R439) -/

/-- The Tailstock of a power-on: its count is one higher, its reset has begun, and nothing is to be sent. -/
structure Woken (s t : State) : Prop where
  power : t.power = s.power
  powerOns : t.mgmt.powerOns = s.mgmt.powerOns + 1
  unlocked : t.mgmt.assureLock = false
  resetting : t.mgmt.resetting = true
  outbox : t.mgmt.outbox = []
  toDp : t.mgmt.toDp = none
  imageTaken : t.firmware.imageTaken = false
  flash : t.jiman.flash = s.jiman.flash
  areas : t.cache.area0 = s.cache.area0 ∧ t.cache.area1 = s.cache.area1

/-- An entry in the log leaves a woken Tailstock as it is. -/
theorem Woken.logged {s t u : State} (h : Woken s t) (hl : Same State.unlogged t u) : Woken s u :=
  ⟨(hl.get State.power).trans h.power, (hl.get (·.mgmt.powerOns)).trans h.powerOns, (hl.get (·.mgmt.assureLock)).trans h.unlocked,
    (hl.get (·.mgmt.resetting)).trans h.resetting, (hl.get (·.mgmt.outbox)).trans h.outbox, (hl.get (·.mgmt.toDp)).trans h.toDp,
    (hl.get (·.firmware.imageTaken)).trans h.imageTaken, (hl.get (·.jiman.flash)).trans h.flash,
    (hl.get (·.cache.area0)).trans h.areas.1, (hl.get (·.cache.area1)).trans h.areas.2⟩

theorem coldTailstock_woken (s : State) : Woken s (coldTailstock s) := by
  unfold coldTailstock
  extract_lets mr m gr g0 g jr s1 fr s2
  have h2 : Woken s s2 := ⟨rfl, rfl, rfl, rfl, rfl, rfl, rfl, rfl, rfl, rfl⟩
  split
  · exact h2.logged (logCrumb_unlogged _ _ _ _)
  · exact h2

theorem retainedTailstock_woken (s : State) (ok : Bool) : Woken s (retainedTailstock s ok) := by
  have ho := mgmtReset_outliving s ok
  obtain ⟨hb1, -, -, -, hb5, hb6, -, -, -, -⟩ := mgmtReset_begun s ok
  unfold retainedTailstock
  generalize mgmtReset s ok = r at *
  exact ⟨ho.get State.power, congrArg (· + 1) (ho.get (·.mgmt.powerOns)), rfl, hb1, hb6, hb5, rfl, ho.get (·.jiman.flash),
    ho.get (·.cache.area0), ho.get (·.cache.area1)⟩

theorem retainedTailstock_rc (s : State) (ok : Bool) : (retainedTailstock s ok).gauge.rc = s.gauge.rc := by
  have ho := mgmtReset_outliving s ok
  unfold retainedTailstock
  generalize mgmtReset s ok = r at *
  exact ho.get (·.gauge.rc)

/-! ### A start with every stack and row good -/

section
variable {e : StartUp} {s u : State} (hf : e.stackFails = false) (hb : e.badRows = []) (h : Woken s u) (kind : BitVec 2)
include hf hb h

/-- The start of a woken Tailstock is as the obligation says; it keeps the flash and the charge count, and before its notice
the vault areas. -/
theorem start_of_woken :
    StartedAs s.power.state (s.mgmt.powerOns + 1) e kind (finishStart (reportHbm (ohmimStart u kind e)) e) ∧
      (finishStart (reportHbm (ohmimStart u kind e)) e).jiman.flash = s.jiman.flash ∧
      (finishStart (reportHbm (ohmimStart u kind e)) e).gauge.rc = u.gauge.rc ∧
      (e.notice = false → (finishStart (reportHbm (ohmimStart u kind e)) e).cache.area0 = s.cache.area0 ∧
        (finishStart (reportHbm (ohmimStart u kind e)) e).cache.area1 = s.cache.area1) := by
  have hp := ohmimStart_powered hf hb kind h.unlocked h.resetting h.outbox h.toDp h.imageTaken
  obtain ⟨-, -, hj, hg, ha0, ha1⟩ := ohmimStart_kept hb u kind
  rw [h.power, h.powerOns] at hp
  generalize ohmimStart u kind e = o at hp hj hg ha0 ha1 ⊢
  rw [reportHbm_of_good hp.waking.hbm]
  have hk := (finishStart_unfinished hp).1
  refine ⟨finishStart_started hp, ?_, ?_, fun hn => ?_⟩
  · rw [hk.get (·.jiman.flash), hj, h.flash]
  · rw [hk.get (·.gauge.rc), hg]
  · rw [finishStart_waits o (.inl hn), ha0, ha1]
    exact h.areas

end

theorem exec_startUp {e : StartUp} {s : State} (h1 : s.power.state = .off) (h2 : s.power.tailstock = false)
    (h3 : s.power.epoLatch = false) (h4 : s.power.starting = false) :
    exec (.startUp e) s = .next (finishStart (reportHbm (ohmimStart (coldTailstock s) (if s.power.afterEpo then 2 else 0) e)) e) :=
  congrArg Host.Outcome.next (if_pos (by rw [h1, h2, h3, h4]; rfl))

theorem exec_retainedPowerOn {e : StartUp} {s : State} (h1 : s.power.state = .off) (h2 : s.power.tailstock = true)
    (h3 : s.power.compute = false) (h4 : s.power.epoLatch = false) (h5 : s.power.retention = true) :
    exec (.retainedPowerOn e) s = .next (retainedStart s e) := by
  have hc : completeDump s e.eepromOk = s := if_neg (by rw [h1]; exact ModState.noConfusion)
  refine congrArg Host.Outcome.next ((if_pos ?_).trans (congrArg (retainedStart · e) hc))
  rw [h2, h3, h4, h5, Bool.or_true]
  rfl

/-! ### A relock that times out (R427) -/

theorem setFreeCtr_untorn (s : State) : Same State.untorn s s.tookFree := rfl

theorem tearWrites_untorn (s : State) : Same State.untorn s (tearWrites s) := by
  unfold tearWrites
  split
  · exact .refl s
  · refine Same.foldl (fun s1 c => ?_) _ _
    split
    · refine .ite ?_ (.refl s1)
      unfold tornCommand
      split
      · exact .refl s1
      · exact (writeMedia_untorn s1 _ _ _).trans (setFreeCtr_untorn _)
    · exact .refl s1

theorem loseUnflushed_untorn (s : State) : Same State.untorn s (loseUnflushed s) := by
  unfold loseUnflushed
  refine Same.foldl (fun s q => ?_) _ _
  split
  · exact .refl s
  · refine Same.trans (Same.foldl (fun s u => ?_) _ _) (onDrive_untorn _ _ _)
    exact (onDrive_untorn s _ _).trans (setFreeCtr_untorn _)

/-- Shedding compute ends the compute domains and keeps the power-on count and the input. -/
theorem shedCompute_kept (s : State) :
    (shedCompute s).mgmt.powerOns = s.mgmt.powerOns ∧ (shedCompute s).power.input = s.power.input ∧
      (shedCompute s).power.compute = false := by
  have h := (tearWrites_untorn s).trans (loseUnflushed_untorn _)
  unfold shedCompute
  generalize loseUnflushed (tearWrites s) = u at h ⊢
  exact ⟨h.get (·.mgmt.powerOns), h.get (·.power.input), rfl⟩

theorem loseDump_kept (s : State) :
    (loseDump s).mgmt = s.mgmt ∧ (loseDump s).power = s.power ∧ (loseDump s).cache.armed = none := by
  unfold loseDump
  extract_lets c s1
  split <;> exact ⟨rfl, rfl, rfl⟩

/-- The state in which a relock that times out leaves the module, before a power-on. -/
def unlockedOff (s : State) : State := toRetention (loseDump (if s.power.compute then shedCompute s else s))

theorem unlockedOff_off (s : State) :
    (unlockedOff s).power.state = .off ∧ (unlockedOff s).power.retention = true ∧ (unlockedOff s).power.holdup = false ∧
      (unlockedOff s).power.compute = false ∧ (unlockedOff s).cache.armed = none ∧ (unlockedOff s).clocks.pllLocked = false ∧
      (unlockedOff s).mgmt.powerOns = s.mgmt.powerOns := by
  obtain ⟨u, hu, hc, hm⟩ : ∃ u, (if s.power.compute then shedCompute s else s) = u ∧ u.power.compute = false ∧
      u.mgmt.powerOns = s.mgmt.powerOns := by
    refine ⟨_, rfl, ?_⟩
    split
    · exact ⟨(shedCompute_kept s).2.2, (shedCompute_kept s).1⟩
    · next h => exact ⟨Bool.eq_false_iff.mpr h, rfl⟩
  obtain ⟨l1, l2, l3⟩ := loseDump_kept u
  rw [unlockedOff, hu]
  generalize loseDump u = l at l1 l2 l3 ⊢
  exact ⟨rfl, rfl, rfl, (congrArg Power.compute l2).trans hc, l3, rfl, (congrArg Mgmt.powerOns l1).trans hm⟩

theorem exec_pllRelockTimeout {e : StartUp} {s : State} (h1 : s.clocks.pllLocked = false) (h2 : s.power.holdup = true) :
    exec (.pllRelockTimeout e) s = .next (if s.power.input then retainedStart (unlockedOff s) e else unlockedOff s) :=
  congrArg Host.Outcome.next (if_pos (by rw [h1, h2]; rfl))

/-- Settles O48. A start is what the Tailstock's power-on makes of it, then the Ohmim at reset, then its notice and the training
of its link, each told by what it sets and what it keeps; the other commands are single operations and their events. -/
theorem startingClocksAndAssurance : Obligations.StartingClocksAndAssurance := by
  unfold Obligations.StartingClocksAndAssurance
  intro started healthy
  refine ⟨fun s e he => ?_, fun s => ?_, fun s stack r => hbmRowRetirement_repairs⟩
  · obtain ⟨hf, hb⟩ := he
    refine ⟨fun h1 h2 h3 h4 => ?_, fun h1 h2 h3 h4 h5 => ?_, fun h1 h2 => ⟨fun hin => ?_, fun hin => ?_⟩⟩
    · obtain ⟨hs, hflash, -, hareas⟩ := start_of_woken hf hb (coldTailstock_woken s) (if s.power.afterEpo then 2 else 0)
      exact ⟨_, exec_startUp h1 h2 h3 h4, hs, hflash, hareas⟩
    · obtain ⟨hs, -, hrc, hareas⟩ := start_of_woken hf hb (retainedTailstock_woken s e.retainedOk) 1
      exact ⟨_, exec_retainedPowerOn h1 h2 h3 h4 h5, hs, fun _ => hrc.trans (retainedTailstock_rc s e.retainedOk), hareas⟩
    · obtain ⟨hoff, -, -, -, -, -, hons⟩ := unlockedOff_off s
      obtain ⟨hs, -⟩ := start_of_woken hf hb (retainedTailstock_woken (unlockedOff s) e.retainedOk) 1
      rw [hoff, hons] at hs
      exact ⟨_, (exec_pllRelockTimeout h1 h2).trans (by rw [hin]; rfl), hs⟩
    · obtain ⟨o1, o2, o3, o4, o5, o6, -⟩ := unlockedOff_off s
      exact ⟨_, (exec_pllRelockTimeout h1 h2).trans (by rw [hin]; rfl), o1, o2, o3, o4, o5, o6⟩
  · exact ⟨pllLockLoss_counted, exec_pllRelock, throttleReqChange_follows, holdAssureFall_falls, exec_holdAssureFall_low,
      holdAssureRise_rises, statusWordStale_stale s⟩

end Sys2Proof.Machine
end

section
/-! PROOF. What requests of the host meet on a link that is up, and what an error that is reported leaves as it is (O21, O22). -/

set_option Elab.async false

namespace Sys2Proof.Machine
open Sys2Proof

theorem onLink_up {s : State} (hu : s.link.up = true) (hr : s.running = true) (f : State → State) : onLink s f = f s :=
  if_pos (by rw [hu, hr]; rfl)

/-! ### Errors that are counted and reported (R36, R39)

What an error does to the AER status is given by what the status then holds: the rest of a proof needs no more of it. -/

/-- An uncorrectable error changes the AER status, tells the host, and takes a free value. -/
theorem aerUncorrectable_eq (s : State) (bit : Nat) (advisory fatal : Bool) : ∃ a : Aer,
    a.uncorr = s.link.aer.uncorr ||| BitVec.twoPow 32 bit ∧
    a.corr = (if advisory then s.link.aer.corr ||| 0x2000 else s.link.aer.corr) ∧
    aerUncorrectable s bit advisory fatal =
      (s.setLink { s.link with aer := a, sent := s.link.sent ++ [.aer bit fatal advisory] }).setFreeCtr (s.freeCtr + 1) :=
  ⟨_, rfl, rfl, rfl⟩

/-- A correctable error changes the AER status and tells the host. -/
theorem aerCorrectable_eq (s : State) (bit : Nat) : ∃ a : Aer,
    a.uncorr = s.link.aer.uncorr ∧ a.corr = s.link.aer.corr ||| BitVec.twoPow 32 bit ∧
    aerCorrectable s bit = s.setLink { s.link with aer := a, sent := s.link.sent ++ [.aer bit false true] } :=
  ⟨{ s.link.aer with corr := s.link.aer.corr ||| BitVec.twoPow 32 bit }, rfl, rfl, rfl⟩

/-- An error of a request of the host, counted, changes the fault unit alone. -/
theorem hostRequestError_eq (s : State) (a : Nat) : ∃ f : FaultUnit,
    f = faultUnitEvent s.faults 0x6101 2 (BitVec.ofNat 64 a) false ∧ hostRequestError s a = s.setFaults f :=
  ⟨_, rfl, rfl⟩

/-- A fault event changes the fault unit alone. -/
theorem faultEvent_eq (s : State) (loc : W16) (sev : Nat) (addr : W64) : ∃ f : FaultUnit,
    f = faultUnitEvent s.faults loc sev addr false ∧ faultEvent s loc sev addr = s.setFaults f :=
  ⟨_, rfl, rfl⟩

theorem faultUnitEvent_poison (f : FaultUnit) (loc : W16) (sev : Nat) (addr : W64) (action : Bool) :
    (faultUnitEvent f loc sev addr action).poison = f.poison := by
  have h := congrArg FaultUnit.poison (faultUnitEvent_alerted f loc sev addr action).same
  exact h

end Sys2Proof.Machine
end

section
/-! PROOF. Lines of device memory at the home agents: CXL.mem requests, back-invalidates and snoops (O21). -/

set_option Elab.async false

namespace Sys2Proof.Machine
open Sys2Proof

/-! ### Poison marks -/

theorem mem_insertNat_self (x : Nat) : ∀ l : List Nat, x ∈ insertNat x l
  | [] => List.mem_singleton_self x
  | y :: ys => by
    unfold insertNat
    split
    · exact List.mem_cons_self
    · split
      · next h => exact h ▸ List.mem_cons_self
      · exact List.mem_cons_of_mem y (mem_insertNat_self x ys)

theorem markPoison_poisoned (s : State) (a : Nat) : (markPoison s a).poisoned a = true :=
  List.contains_iff_mem.mpr (mem_insertNat_self _ _)

theorem clearPoison_poisoned (s : State) (a x : Nat) :
    (clearPoison s a).poisoned x = (s.poisoned x && decide (x / 64 ≠ a / 64)) := by
  rw [Bool.eq_iff_iff]
  simp [State.poisoned, clearPoison]

/-! ### Home agents at which nothing waits (R60) -/

theorem heldBack_nil (s : State) (r : HomeReq) : heldBack s [] r = false := by
  simp [heldBack, agentFull]

/-- A host request that comes alone is served as it arrives. -/
theorem submit_served {s t : State} {r : HomeReq} (hq : s.link.homeQueue = []) (hr : r.stands s = true)
    (hs : serve s r = (true, t)) (ht : t.link.homeQueue = []) : submit s r = t := by
  have h := retryHome_of_none ht
  rw [retryHome, ht] at h
  rw [submit, hq, serveAll, hr, heldBack_nil, hs]
  exact h

/-! ### The snoop directory (R58, R59) -/

/-- The directory has an entry for a line, or room for one in its set. -/
def dirRoom (s : State) (line : Nat) : Prop :=
  line ∈ s.link.dir ∨ (s.link.dir.filter fun l => l % 2 ^ 18 = line % 2 ^ 18).length < 16

/-- The directory with an entry for a line. -/
def withHeld (dir : List Nat) (line : Nat) : List Nat := if line ∈ dir then dir else dir ++ [line]

theorem allocate_of_room {s : State} {line : Nat} (h : dirRoom s line) :
    allocate s line = (true, s.setLink { s.link with dir := withHeld s.link.dir line }) := by
  unfold allocate withHeld
  by_cases hm : line ∈ s.link.dir
  · rw [if_pos (List.contains_iff_mem.mpr hm), if_pos hm]; rfl
  · rw [if_neg (fun c => hm (List.contains_iff_mem.mp c)), if_neg hm]
    exact if_pos (h.resolve_left hm)

/-! ### CXL.mem (R57, R60, R254) -/

/-- The shared window is committed, the port runs in CXL mode, and the window holds the line. -/
def InWindow (s : State) (line : Nat) : Prop :=
  s.link.cxlMode = true ∧ s.link.hdmCommitted = true ∧ s.link.winSize ≠ 0 ∧
    s.link.winBase.toNat * 2 ^ 28 ≤ 64 * line ∧
    64 * line < s.link.winBase.toNat * 2 ^ 28 + s.link.winSize.toNat * 2 ^ 28

theorem hdmLine_of_window {s : State} {line : Nat} (h : InWindow s line) : hdmLine s line = true := by
  obtain ⟨hc, hh, hs, hl, hu⟩ := h
  simp only [hdmLine, inShared, sharedWindow, hc, hh, if_neg hs, hl, hu, and_self, decide_true, Bool.and_self]

/-- The home agent's read of an unmarked line with no error of its ECC changes nothing. -/
theorem homeRead_clean {s : State} {line : Nat} (h : s.poisoned (64 * line) = false) : homeRead s [] line = s :=
  if_neg (by rw [h]; exact Bool.false_ne_true)

/-- The state with a line's data sent to the host. -/
def answered (s : State) (line : Nat) : State := sendHost s (.memData line (s.dev.readN (64 * line) 64) false)

theorem answered_eq {s : State} {line : Nat} (h : s.poisoned (64 * line) = false) :
    sendHost (homeRead s [] line) (.memData line ((homeRead s [] line).dev.readN (64 * line) 64)
      ((homeRead s [] line).poisoned (64 * line))) = answered s line := by
  rw [homeRead_clean h, h]; rfl

theorem serve_memRead_unwatched {s : State} {line : Nat} (hb : line ∉ s.link.biPending) (hp : s.poisoned (64 * line) = false)
    (hw : watchers s line = []) (hr : dirRoom s line) : serve s (.memRead line []) =
      (true, answered (s.setLink { s.link with dir := withHeld s.link.dir line }) line) := by
  have hb' : ¬s.link.biPending.contains line = true := fun c => hb (List.contains_iff_mem.mp c)
  simp only [serve, if_neg hb', if_pos hw, allocate_of_room hr, if_true]
  exact congrArg _ (answered_eq hp)

theorem serve_memRead_watched {s : State} {line : Nat} (hb : line ∉ s.link.biPending) (hp : s.poisoned (64 * line) = false)
    (hw : watchers s line ≠ []) : serve s (.memRead line []) = (true, answered s line) := by
  have hb' : ¬s.link.biPending.contains line = true := fun c => hb (List.contains_iff_mem.mp c)
  simp only [serve, if_neg hb', if_neg hw, if_true]
  exact congrArg _ (answered_eq hp)

theorem watchRoom_unwatched {s : State} {line : Nat} (hw : watchers s line = []) (hd : s.scale.delivered.length ≤ 1024) :
    watchRoom s line = true :=
  decide_eq_true (by rw [hw]; exact hd)

/-- The directory after a write of a line: it holds the line only where the host keeps a copy. -/
def dirAfterWrite (dir : List Nat) (line : Nat) (keep : Bool) : List Nat :=
  if keep then withHeld dir line else dir.erase line

/-- The state with a whole line stored, which clears the line's poison (19 R479). -/
def lineStored (s : State) (line : Nat) (data : List Byte) : State :=
  clearPoison (s.setDev (s.dev.writeN (64 * line) data)) (64 * line)

theorem lineStored_poisoned (s : State) (line : Nat) (data : List Byte) (x : Nat) :
    (lineStored s line data).poisoned x = (s.poisoned x && decide (x / 64 ≠ line)) := by
  have h := clearPoison_poisoned (s.setDev (s.dev.writeN (64 * line) data)) (64 * line) x
  rwa [Nat.mul_div_cancel_left line (by decide)] at h

/-- A whole line written where nothing watches it: bytes and poison mark, and no counter's value. -/
theorem homeWrite_line {s : State} {line : Nat} {data : List Byte} (hn : data.length = 64) (hw : watchers s line = []) :
    homeWrite s (64 * line) data = lineStored s line data := by
  have hl : 64 * line / 64 = line := Nat.mul_div_cancel_left line (by decide)
  have hw' : watchers (lineStored s line data) line = [] := hw
  have hd : deliver (lineStored s line data) line = lineStored s line data := by
    rw [deliver, hw', List.map_nil, List.append_nil]; rfl
  change deliver (if data.length = 64 then lineStored s line data else _) (64 * line / 64) = _
  rw [if_pos hn, hl, hd]

theorem serve_memWrite_unwatched {s : State} {line : Nat} {data : List Byte} (keep : Bool) (hn : data.length = 64)
    (hw : watchers s line = []) (hd : s.scale.delivered.length ≤ 1024) (hr : keep = true → dirRoom s line) :
    serve s (.memWrite line data keep) =
      (true, sendHost (lineStored (s.setLink { s.link with dir := dirAfterWrite s.link.dir line keep }) line data)
        (.memCmp line)) := by
  rw [← homeWrite_line hn (s := s.setLink { s.link with dir := dirAfterWrite s.link.dir line keep }) hw]
  simp only [serve, watchRoom_unwatched hw hd, hw]
  cases keep with
  | true => rw [allocate_of_room (hr rfl)]; rfl
  | false => rfl

theorem biEnds_of_none {t : State} {line : Nat} (hq : t.link.homeQueue = []) : biEnds t line =
    t.setLink { t.link with dir := t.link.dir.erase line, biPending := t.link.biPending.erase line } :=
  retryHome_of_none hq

section
variable {s : State} {line : Nat} (hu : s.link.up = true) (hrun : s.running = true)
include hu hrun

theorem exec_cxlMemRead (hwin : InWindow s line) (ecc : List Ecc) :
    exec (.cxlMemRead line ecc) s = .next (submit s (.memRead line ecc)) :=
  congrArg Host.Outcome.next ((onLink_up hu hrun _).trans (if_pos (hdmLine_of_window hwin)))

theorem exec_cxlMemWrite (hwin : InWindow s line) (data : Vector Byte 64) (keep : Bool) :
    exec (.cxlMemWrite line data keep) s = .next (submit s (.memWrite line data.toList keep)) :=
  congrArg Host.Outcome.next ((onLink_up hu hrun _).trans (if_pos (hdmLine_of_window hwin)))

theorem cxlMemWrite_stores {data : Vector Byte 64} {keep : Bool} (hq : s.link.homeQueue = []) (hd : s.dev.wf = true)
    (hl : s.scale.delivered.length ≤ 1024) (hwin : InWindow s line) (hw : watchers s line = [])
    (hroom : keep = true → dirRoom s line) :
    ∃ t, exec (.cxlMemWrite line data keep) s = .next t ∧ t.dev.readN (64 * line) 64 = data.toList ∧
      (∀ x, x < 64 * line ∨ 64 * line + 64 ≤ x → t.dev.read x = s.dev.read x) ∧ t.poisoned (64 * line) = false ∧
      (∀ x, x / 64 ≠ line → t.poisoned x = s.poisoned x) ∧
      t.link = { s.link with dir := dirAfterWrite s.link.dir line keep, sent := s.link.sent ++ [.memCmp line] } ∧
      t.host = s.host ∧ t.queue = s.queue := by
  have hn : data.toList.length = 64 := Vector.length_toList
  have hs := serve_memWrite_unwatched keep hn hw hl hroom
  have hp := lineStored_poisoned (s.setLink { s.link with dir := dirAfterWrite s.link.dir line keep }) line data.toList
  refine ⟨_, (exec_cxlMemWrite hu hrun hwin data keep).trans (congrArg _ (submit_served hq rfl hs hq)), ?_, fun x hx => ?_,
    (hp _).trans ?_, fun x hx => (hp x).trans ?_, rfl, rfl, rfl⟩
  · have h := Memory.readN_writeN data.toList (64 * line) hd
    rwa [hn] at h
  · exact Memory.read_writeN_outside _ _ (hn.symm ▸ hx)
  · rw [Nat.mul_div_cancel_left line (by decide), decide_eq_false (not_not_intro rfl), Bool.and_false]
  · rw [decide_eq_true hx, Bool.and_true]; rfl

/-! ### Back-invalidates (R59, R62) -/

theorem exec_backInvalidateResponse (hb : line ∈ s.link.biPending) :
    exec (.backInvalidateResponse line) s = .next (biEnds s line) :=
  congrArg Host.Outcome.next ((onLink_up hu hrun _).trans (if_pos (List.contains_iff_mem.mpr hb)))

theorem exec_backInvalidateTimeout (hb : line ∈ s.link.biPending) :
    exec (.backInvalidateTimeout line) s =
      .next (biEnds (aerUncorrectable (hostRequestError (markPoison s (64 * line)) (64 * line)) 22 false true) line) :=
  congrArg Host.Outcome.next ((onLink_up hu hrun _).trans (if_pos (List.contains_iff_mem.mpr hb)))

theorem backInvalidateTimeout_poisons (hq : s.link.homeQueue = []) (hb : line ∈ s.link.biPending) :
    ∃ t, exec (.backInvalidateTimeout line) s = .next t ∧ t.poisoned (64 * line) = true ∧
      t.link.dir = s.link.dir.erase line ∧ t.link.biPending = s.link.biPending.erase line ∧
      t.link.aer.uncorr = s.link.aer.uncorr ||| 0x400000 ∧ t.dev = s.dev ∧ t.queue = s.queue := by
  have hx := (exec_backInvalidateTimeout hu hrun hb).trans (congrArg _ (biEnds_of_none hq))
  obtain ⟨f, hf, he⟩ := hostRequestError_eq (markPoison s (64 * line)) (64 * line)
  have hp : f.poison.contains (64 * line / 64) = true :=
    (congrArg (·.contains (64 * line / 64)) (hf ▸ faultUnitEvent_poison ..)).trans (markPoison_poisoned s (64 * line))
  obtain ⟨a, ha, -, hr⟩ := aerUncorrectable_eq ((markPoison s (64 * line)).setFaults f) 22 false true
  rw [he, hr] at hx
  exact ⟨_, hx, hp, rfl, rfl, ha, rfl, rfl⟩

/-! ### Snoops of the host (R55) -/

theorem hostSnoop_unmodified (h : ∀ p ∈ s.link.l2Host, p.1 ≠ line) :
    exec (.hostSnoop line false) s = .next (sendHost s (.snoopRsp line none false)) := by
  have hf : (s.link.l2Host.find? fun p => p.1 = line) = none :=
    List.find?_eq_none.mpr fun p hp => by rw [decide_eq_true_eq]; exact h p hp
  refine congrArg Host.Outcome.next ((onLink_up hu hrun _).trans ?_)
  simp only [hf]

variable {d : List Byte} {rest : List (Nat × List Byte)}

/-- The line first among the modified lines of the Turner L2 is the one that a snoop of it answers. -/
theorem hostSnoop_modified (h : s.link.l2Host = (line, d) :: rest) :
    exec (.hostSnoop line false) s = .next
      (if s.link.l2Poison.contains line then
        sendHost (s.setLink { s.link with l2Host := rest, l2Poison := s.link.l2Poison.erase line }) (.snoopRsp line (some d) true)
      else sendHost ((s.setLink { s.link with l2Host := rest, l2Poison := s.link.l2Poison.erase line }).setHost
        (s.host.writeN (64 * line) d)) (.snoopRsp line (some d) false)) := by
  have hf : (s.link.l2Host.find? fun p => p.1 = line) = some (line, d) := by
    rw [h]; exact List.find?_cons_of_pos (decide_eq_true rfl)
  have he : s.link.l2Host.erase (line, d) = rest := by rw [h, List.erase_cons_head]
  refine congrArg Host.Outcome.next ((onLink_up hu hrun _).trans ?_)
  simp only [hf, he]
  rfl

theorem hostSnoop_clean (h : s.link.l2Host = (line, d) :: rest) (hp : line ∉ s.link.l2Poison) :
    exec (.hostSnoop line false) s = .next { s with
      host := s.host.writeN (64 * line) d
      link := { s.link with l2Host := rest, sent := s.link.sent ++ [.snoopRsp line (some d) false] } } := by
  rw [hostSnoop_modified hu hrun h, if_neg (fun c => hp (List.contains_iff_mem.mp c)), List.erase_of_not_mem hp]
  rfl

theorem hostSnoop_poisoned (h : s.link.l2Host = (line, d) :: rest) (hp : line ∈ s.link.l2Poison) :
    exec (.hostSnoop line false) s = .next { s with link := { s.link with
      l2Host := rest, l2Poison := s.link.l2Poison.erase line
      sent := s.link.sent ++ [.snoopRsp line (some d) true] } } := by
  rw [hostSnoop_modified hu hrun h, if_pos (List.contains_iff_mem.mpr hp)]
  rfl

/-! ### The HDM decoder (R57) -/

theorem exec_hdmDecoderCommit (hc : s.link.cxlMode = true) : exec .hdmDecoderCommit s = .next
    (if s.link.winSize ≠ 0 ∧ s.link.cfg.biEnable = true then
      { s with link := { s.link with hdmCommitted := true, commitError := false } }
    else { s with link := { s.link with commitError := true } }) :=
  congrArg Host.Outcome.next ((onLink_up hu hrun _).trans (if_neg (by rw [hc]; exact Bool.false_ne_true)))

end

end Sys2Proof.Machine
end

section
/-! PROOF. Address translation: what the host invalidates and what it answers (O21). -/

set_option Elab.async false

namespace Sys2Proof.Machine
open Sys2Proof

section
variable {s : State} (hu : s.link.up = true) (hrun : s.running = true)
include hu hrun

/-! ### Invalidations (R48) -/

/-- The translation is of a page that an invalidation covers. -/
def Invalidation.covers (i : Invalidation) (e : Translation) : Bool :=
  decide (e.pasid = i.pasid ∧ i.page ≤ e.page ∧ e.page < i.page + i.count)

/-- The state once an invalidation has dropped its translations and waits alone for its completion. -/
def invalidated (s : State) (i : Invalidation) : State :=
  s.setLink { s.link with atc := s.link.atc.filter fun e => !i.covers e, invalidations := [i] }

theorem exec_atsInvalidateRequest (he : s.link.cfg.atsEnable = true) (hi : s.link.invalidations = []) (i : Invalidation) :
    exec (.atsInvalidateRequest i.tag i.pasid i.page i.count) s = .next (settleInvalidations (invalidated s i)) := by
  refine congrArg Host.Outcome.next ((onLink_up hu hrun _).trans ((if_neg (by rw [he]; exact Bool.false_ne_true)).trans ?_))
  rw [hi]; rfl

end

/-- The state once the completion of that invalidation has been sent. -/
def invalidationAnswered (s : State) (i : Invalidation) : State :=
  s.setLink { s.link with
    atc := s.link.atc.filter fun e => !i.covers e, invalidations := []
    sent := s.link.sent ++ [.invalidateCompletion i.tag] }

/-- The completion goes at once where no read that is out uses the translations. -/
theorem settleInvalidations_invalidated (s : State) (i : Invalidation) :
    settleInvalidations (invalidated s i) = if i.inUse s then invalidated s i else invalidationAnswered s i := by
  have hused : i.inUse (invalidated s i) = i.inUse s := rfl
  have hi : (invalidated s i).link.invalidations = [i] := rfl
  have hs : (invalidated s i).link.sent = s.link.sent := rfl
  unfold settleInvalidations
  cases h : i.inUse s with
  | true => simp only [hi, hs, hused, h, List.filter_cons, List.filter_nil, Bool.not_true, if_true, Bool.false_eq_true, if_false,
      List.map_nil, List.append_nil]; rfl
  | false => simp only [hi, hs, hused, h, List.filter_cons, List.filter_nil, Bool.not_false, if_true, Bool.false_eq_true,
      if_false, List.map_cons, List.map_nil]; rfl

theorem Invalidation.inUse_iff (s : State) (i : Invalidation) :
    i.inUse s = true ↔ ∃ r ∈ hostReads s, r.1 = i.pasid ∧ i.page ≤ r.2 ∧ r.2 < i.page + i.count := by
  simp [Invalidation.inUse]

theorem mem_atc_invalidated {s : State} {i : Invalidation} (e : Translation) :
    (e ∈ s.link.atc.filter fun e => !i.covers e) ↔
      e ∈ s.link.atc ∧ ¬(e.pasid = i.pasid ∧ i.page ≤ e.page ∧ e.page < i.page + i.count) := by
  rw [List.mem_filter, Invalidation.covers, Bool.not_eq_true', decide_eq_false_iff_not]

section
variable {s : State} (hu : s.link.up = true) (hrun : s.running = true)
include hu hrun

theorem atsInvalidateRequest_drops (i : Invalidation) (he : s.link.cfg.atsEnable = true) (hi : s.link.invalidations = []) :
    let used : Prop := ∃ r ∈ hostReads s, r.1 = i.pasid ∧ i.page ≤ r.2 ∧ r.2 < i.page + i.count
    ∃ t, exec (.atsInvalidateRequest i.tag i.pasid i.page i.count) s = .next t ∧
      (∀ e, e ∈ t.link.atc ↔ e ∈ s.link.atc ∧ ¬(e.pasid = i.pasid ∧ i.page ≤ e.page ∧ e.page < i.page + i.count)) ∧
      (¬used → t = { s with link := { s.link with
        atc := t.link.atc, sent := s.link.sent ++ [.invalidateCompletion i.tag] } }) ∧
      (used → t = { s with link := { s.link with atc := t.link.atc, invalidations := [i] } }) := by
  intro used
  have hx := exec_atsInvalidateRequest hu hrun he hi i
  rw [settleInvalidations_invalidated] at hx
  by_cases h : i.inUse s = true
  · rw [if_pos h] at hx
    exact ⟨_, hx, mem_atc_invalidated, fun c => absurd ((i.inUse_iff s).mp h) c, fun _ => rfl⟩
  · rw [if_neg h, invalidationAnswered, ← hi] at hx
    exact ⟨_, hx, mem_atc_invalidated, fun _ => rfl, fun c => absurd ((i.inUse_iff s).mpr c) h⟩

/-! ### Answers to Translation Requests (R47, R49) -/

/-- The translations cached after an answer: one that permits a read or a write comes first. -/
def atcAfter (s : State) (p : Option (BitVec 20)) (page : Nat) : Option (BitVec 34 × Bool × Bool) → List Translation
  | some (x, r, w) => if r || w then
      ({ pasid := p, page := page, target := x.toNat, canRead := r, canWrite := w } :: s.link.atc).take 4096
    else s.link.atc
  | none => s.link.atc

/-- The refusals after an answer: with no permission, or none at all, each that waits is refused. -/
def refusedAfter (s : State) (p : Option (BitVec 20)) (page : Nat) (ask : XlatAsk) :
    Option (BitVec 34 × Bool × Bool) → List XlatRefusal
  | some (_, r, w) => if r || w then s.link.xlatRefused
    else s.link.xlatRefused ++ ask.who.map fun w => { who := w, pasid := p, page := page }
  | none => s.link.xlatRefused ++ ask.who.map fun w => { who := w, pasid := p, page := page }

theorem exec_translationCompletion {p : Option (BitVec 20)} {page : Nat} {ask : XlatAsk}
    (ha : (s.link.xlatAsked.find? fun x => x.isFor p page) = some ask) (result : Option (BitVec 34 × Bool × Bool)) :
    exec (.translationCompletion p page result) s = .next { s with link := { s.link with
      xlatAsked := s.link.xlatAsked.erase ask, atc := atcAfter s p page result
      xlatRefused := refusedAfter s p page ask result } } := by
  refine congrArg Host.Outcome.next ((onLink_up hu hrun _).trans ?_)
  simp only [ha]
  cases result with
  | none => rfl
  | some x =>
    obtain ⟨target, r, w⟩ := x
    cases h : r || w with
    | true => simp only [atcAfter, refusedAfter, h, if_true]; rfl
    | false => simp only [atcAfter, refusedAfter, h, Bool.false_eq_true, if_false]; rfl

end

/-- Settles O21. A request that comes alone to the home agents is served as it arrives; the rest are single operations. -/
theorem coherenceAndTranslation : Obligations.CoherenceAndTranslation := by
  unfold Obligations.CoherenceAndTranslation
  intro s line hu hrun hq hd hl window room held
  refine ⟨fun hwin hb hp => ⟨fun hw hr => ?_, fun hw => ?_⟩,
    fun data keep hwin hw hr => cxlMemWrite_stores hu hrun hq hd hl hwin hw hr,
    fun hb => ⟨?_, backInvalidateTimeout_poisons hu hrun hq hb⟩, hostSnoop_unmodified hu hrun,
    fun d rest h => ⟨hostSnoop_clean hu hrun h, hostSnoop_poisoned hu hrun h⟩, exec_hdmDecoderCommit hu hrun,
    fun tag p page count => atsInvalidateRequest_drops hu hrun { tag := tag, pasid := p, page := page, count := count },
    fun p page result ask ha => (exec_translationCompletion hu hrun ha result).trans (by cases result <;> rfl)⟩
  · rw [exec_cxlMemRead hu hrun hwin, submit_served hq rfl (serve_memRead_unwatched hb hp hw hr) hq]; rfl
  · rw [exec_cxlMemRead hu hrun hwin, submit_served hq rfl (serve_memRead_watched hb hp hw) hq]; rfl
  · rw [exec_backInvalidateResponse hu hrun hb, biEnds_of_none hq]; rfl

end Sys2Proof.Machine
end

section
/-! PROOF. Configuration requests (O22). -/

set_option Elab.async false

namespace Sys2Proof.Machine
open Sys2Proof

/-! ### Pending vectors and masked base addresses -/

theorem sendPendingVectors_of_none {s : State} (h : s.link.pba = 0) : sendPendingVectors s = s :=
  List.foldl_fixed' (fun v => if_neg (by rw [h]; simp)) _

/-- Shifting right and back left clears the bits below n. -/
theorem shift_back_eq_ofNat (b : W64) (n : Nat) : (b >>> n) <<< n = BitVec.ofNat 64 (b.toNat / 2 ^ n * 2 ^ n) := by
  apply BitVec.eq_of_toNat_eq
  rw [BitVec.toNat_shiftLeft, BitVec.toNat_ushiftRight, BitVec.toNat_ofNat, Nat.shiftLeft_eq, Nat.shiftRight_eq_div_pow]

theorem configRequest_bar0 (s : State) (b : W64) : configRequest s (.bar0 b) = sendPendingVectors (s.setLink { s.link with
    cfg := { s.link.cfg with bar0 := BitVec.ofNat 64 (b.toNat / 2 ^ 26 * 2 ^ 26) } }) := by
  rw [← shift_back_eq_ofNat]; rfl

theorem configRequest_bar2 (s : State) (b : W64) : configRequest s (.bar2 b) = sendPendingVectors (s.setLink { s.link with
    cfg := { s.link.cfg with bar2 := BitVec.ofNat 64 (b.toNat / 2 ^ 17 * 2 ^ 17) } }) := by
  rw [← shift_back_eq_ofNat]; rfl

theorem configRequest_bar4 (s : State) (b : W64) : configRequest s (.bar4 b) = sendPendingVectors (s.setLink { s.link with
    cfg := { s.link.cfg with
      bar4 := BitVec.ofNat 64 (b.toNat / 2 ^ (s.link.cfg.bar4Enc + 20) * 2 ^ (s.link.cfg.bar4Enc + 20)) } }) := by
  rw [← shift_back_eq_ofNat]; rfl

theorem extractLsb'_zero_eq_ofNat (x : W64) : x.extractLsb' 0 32 = BitVec.ofNat 32 x.toNat := by
  apply BitVec.eq_of_toNat_eq
  rw [BitVec.extractLsb'_toNat, BitVec.toNat_ofNat, Nat.shiftRight_zero]

theorem extractLsb'_high_eq_ofNat (x : W64) : x.extractLsb' 32 32 = BitVec.ofNat 32 (x.toNat / 2 ^ 32) := by
  apply BitVec.eq_of_toNat_eq
  rw [BitVec.extractLsb'_toNat, BitVec.toNat_ofNat, Nat.shiftRight_eq_div_pow]

/-! ### A margined lane (Table 2.2) -/

/-- The status of a timing step with so many errors counted. -/
def timingStatus (limit steps errors : Nat) : MarginStatus :=
  if steps < 1 ∨ 16 < steps then .refused else if limit < errors then .tooMany else .margining errors

theorem marginAfter_timing (m : MarginLane) (right : Bool) (steps : Nat) {errors : Nat} (he : errors < 64) :
    marginAfter m (.timing right steps errors) = { m with status := timingStatus m.limit steps errors } := by
  have hmin : min errors 63 = errors := Nat.min_eq_left (Nat.le_of_lt_succ he)
  simp only [marginAfter, marginStep, timingStatus, hmin]
  by_cases h : 1 ≤ steps ∧ steps ≤ 16
  · have h' : ¬(steps < 1 ∨ 16 < steps) := by omega
    rw [decide_eq_true h, if_neg h']; rfl
  · have h' : steps < 1 ∨ 16 < steps := by omega
    rw [decide_eq_false h, if_pos h']; rfl

section
variable {s : State} (hu : s.link.up = true) (hrun : s.running = true)
include hu hrun

/-! ### Before WARM and after (R441) -/

theorem exec_configurationRequest_starting (h : s.power.starting = true) (r : ConfigReq) :
    exec (.configurationRequest r) s = .next (sendHost s .retry) :=
  congrArg Host.Outcome.next ((onLink_up hu hrun _).trans (if_pos h))

theorem exec_configurationRequest (h : s.power.starting = false) (r : ConfigReq) :
    exec (.configurationRequest r) s = .next (configRequest s r) :=
  congrArg Host.Outcome.next ((onLink_up hu hrun _).trans (if_neg (by rw [h]; exact Bool.false_ne_true)))

/-! ### Reads, writes and cleared errors (Tables 2.1, 2.5) -/

theorem exec_configurationRequest_read (h : s.power.starting = false) {r : ConfigReg} {v : W32} (hv : configValue s r = some v) :
    exec (.configurationRequest (.read r)) s = .next (sendHost s (.configData v)) := by
  rw [exec_configurationRequest hu hrun h, configRequest, configRead, hv]

/-- A write of a field of configuration space, with no vector pending that it could let go. -/
theorem exec_configurationRequest_write (h : s.power.starting = false) (hp : s.link.pba = 0) {r : ConfigReq} {c : Config}
    (hc : configRequest s r = sendPendingVectors (s.setLink { s.link with cfg := c })) :
    exec (.configurationRequest r) s = .next { s with link := { s.link with cfg := c } } := by
  rw [exec_configurationRequest hu hrun h, hc]
  exact congrArg _ (sendPendingVectors_of_none hp)

theorem clearUncorrectable_clears (h : s.power.starting = false) (v : W32) :
    ∃ log, exec (.configurationRequest (.clearUncorrectable v)) s = .next { s with link := { s.link with
        aer := { s.link.aer with uncorr := s.link.aer.uncorr &&& ~~~v, log := log } } } ∧
      (s.link.aer.log = none → log = none) ∧
      ∀ x, s.link.aer.log = some x → log = if v.getLsbD x.1 then none else some x :=
  ⟨(s.link.aer.clearUncorr v).log, exec_configurationRequest hu hrun h _, fun hn => by simp only [Aer.clearUncorr, hn],
    fun x hx => by simp only [Aer.clearUncorr, hx]⟩

/-! ### Lane margining -/

theorem exec_configurationRequest_timing (h : s.power.starting = false) (lane : Fin 16) (right : Bool) (steps : Nat)
    {errors : Nat} (he : errors < 64) :
    exec (.configurationRequest (.margin lane (.timing right steps errors))) s = .next { s with link := { s.link with
      margins := s.link.margins.set lane
        { s.link.margins[lane] with status := timingStatus s.link.margins[lane].limit steps errors }
      sent := s.link.sent ++ [.margin lane (timingStatus s.link.margins[lane].limit steps errors)] } } := by
  rw [exec_configurationRequest hu hrun h]
  simp only [configRequest, marginLane, vget_eq_getElem _ _ _ lane.isLt, marginAfter_timing _ right steps he,
    vset_eq_set _ _ _ lane.isLt, Fin.ofNat_val_eq_self]
  rfl

/-! ### BAR4's size (R40) -/

theorem exec_resizableBarWrite (enc : Nat) : exec (.resizableBarWrite enc) s =
    .next (if 10 ≤ enc ∧ enc ≤ 19 then { s with link := { s.link with cfg := { s.link.cfg with bar4Enc := enc } } } else s) :=
  congrArg Host.Outcome.next (onLink_up hu hrun _)

end

end Sys2Proof.Machine
end

section
/-! PROOF. The errors counted on a lane (O22). -/

set_option Elab.async false

namespace Sys2Proof.Machine
open Sys2Proof

/-! ### The count of a lane (R34, R470) -/

/-- A lane once an error on it has been counted at a time. -/
def Lane.erred (x : Lane) (now : Nat) : Lane :=
  { x with
    errors := (threshold 4097 (fclkSeconds 1) x.errors now).2
    due := x.due || (threshold 4097 (fclkSeconds 1) x.errors now).1 }

theorem Lane.erred_of_room {x : Lane} (now : Nat) (h : x.errors.length < 4096) :
    x.erred now = { x with errors := x.errors ++ [now] } := by
  have ht : threshold 4097 (fclkSeconds 1) x.errors now = (false, x.errors ++ [now]) := by
    have hk : ¬(4097 - 1 < (x.errors ++ [now]).length) := by rw [List.length_append, List.length_singleton]; omega
    rw [threshold, if_neg (by omega)]
    exact congrArg (Prod.mk false) (if_neg hk)
  rw [Lane.erred, ht, Bool.or_false]

theorem Lane.erred_of_full {x : Lane} {now : Nat} (h : x.errors.length = 4096) (hs : now - x.errors.headD 0 ≤ 1200000000) :
    x.erred now = { x with errors := [], due := true } := by
  have hh : x.errors.headD now = x.errors.headD 0 := by
    cases he : x.errors with
    | nil => rw [he] at h; exact absurd h (by decide)
    | cons y ys => rfl
  have ht : threshold 4097 (fclkSeconds 1) x.errors now = (true, []) :=
    if_pos ⟨h, by rw [hh]; exact hs⟩
  rw [Lane.erred, ht, Bool.or_true]

/-- The state with other lanes. -/
def State.withLanes (s : State) (v : Vector Lane 16) : State := s.setLink { s.link with lanes := v }

theorem laneError_eq (s : State) (i : Fin 16) :
    laneError s i = s.withLanes (s.link.lanes.set i (s.link.lanes[i].erred s.now)) := by
  unfold laneError
  simp only [vget_eq_getElem _ _ _ i.isLt, vset_eq_set _ _ _ i.isLt]
  rfl

/-- Counting errors of the first n lanes of a bit map changes those lanes alone. -/
theorem foldl_laneError (s : State) (lanes : W16) (n : Nat) (hn : n ≤ 16) :
    ∃ v, (List.range n).foldl (fun s i => if lanes.getLsbD i then laneError s i else s) s = s.withLanes v ∧
      ∀ j : Fin 16, v[j] = if j < n ∧ lanes.getLsbD j = true then s.link.lanes[j].erred s.now else s.link.lanes[j] := by
  induction n with
  | zero => exact ⟨s.link.lanes, rfl, fun j => (if_neg (fun c => Nat.not_lt_zero _ c.1)).symm⟩
  | succ n ih =>
    obtain ⟨v, hv, hl⟩ := ih (by omega)
    rw [List.range_succ, List.foldl_append, hv]
    by_cases hb : lanes.getLsbD n = true
    · refine ⟨v.set n (v[n].erred s.now), (if_pos hb).trans (laneError_eq (s.withLanes v) ⟨n, hn⟩), fun j => ?_⟩
      by_cases hj : (j : Nat) = n
      · subst hj
        have hv : v[(j : Nat)] = s.link.lanes[j] := (hl j).trans (if_neg (fun c => Nat.lt_irrefl _ c.1))
        rw [Fin.getElem_fin, Vector.getElem_set_self, hv, if_pos ⟨Nat.lt_succ_self _, hb⟩]
      · rw [Fin.getElem_fin, Vector.getElem_set_ne _ _ (Ne.symm hj)]
        exact (hl j).trans (if_congr (and_congr_left' (by omega)) rfl rfl)
    · refine ⟨v, if_neg hb, fun j => (hl j).trans ?_⟩
      by_cases hj : (j : Nat) = n
      · rw [if_neg (fun c => by omega), if_neg (fun c => hb (hj ▸ c.2))]
      · exact if_congr (and_congr_left' (by omega)) rfl rfl

end Sys2Proof.Machine
end

section
/-! PROOF. Link errors, the retirement of lanes, and loads whose host read fails (O22). -/

set_option Elab.async false

namespace Sys2Proof.Machine
open Sys2Proof

/-- The state with one more posted request counted as dropped. -/
def dropCounted (s : State) : State := s.setLink { s.link with dropped := s.link.dropped + 1 }

section
variable {s : State} (hu : s.link.up = true) (hrun : s.running = true)
include hu hrun

/-! ### Errors of the link itself (R39, Table 2.4) -/

/-- An error of the link is counted at 0x6100 with a severity and recorded at a bit of the AER status: of a correctable one, the
lane counts of its lanes advance. -/
def LinkErrCounted (s : State) (e : LinkErr) (lanes : W16) (sev bit : Nat) : Prop :=
  ∃ t, exec (.linkError e) s = .next t ∧ t.faults = faultUnitEvent s.faults 0x6100 sev 0 false ∧
    t.link.aer.corr = (if sev = 1 then s.link.aer.corr ||| BitVec.twoPow 32 bit else s.link.aer.corr) ∧
    t.link.aer.uncorr = (if sev = 1 then s.link.aer.uncorr else s.link.aer.uncorr ||| BitVec.twoPow 32 bit) ∧
    (∀ j : Fin 16, if sev = 1 ∧ lanes.getLsbD j = true then
        s.link.lanes[j].errors.length < 4096 → t.link.lanes[j].errors = s.link.lanes[j].errors ++ [s.now]
      else t.link.lanes[j] = s.link.lanes[j]) ∧
    t.dev = s.dev ∧ t.queue = s.queue ∧ t.link.cfg = s.link.cfg

omit hu hrun in
theorem linkErrCounted_of_retry {e : LinkErr} {lanes : W16} {bit : Nat}
    (he : exec (.linkError e) s = .next (linkRetry s lanes bit)) : LinkErrCounted s e lanes 1 bit := by
  obtain ⟨v, hv, hl⟩ := foldl_laneError s lanes 16 (Nat.le_refl 16)
  obtain ⟨f, hf, hcount⟩ := faultEvent_eq (s.withLanes v) 0x6100 1 0
  obtain ⟨a, huncorr, hcorr, hreport⟩ := aerCorrectable_eq ((s.withLanes v).setFaults f) bit
  rw [linkRetry, hv, hcount, hreport] at he
  refine ⟨_, he, hf, hcorr, huncorr, fun j => ?_, rfl, rfl, rfl⟩
  have hj := hl j
  split
  · next c =>
    intro hroom
    rw [if_pos ⟨j.isLt, c.2⟩, Lane.erred_of_room _ hroom] at hj
    exact congrArg Lane.errors hj
  · next c =>
    rw [if_neg (fun d => c ⟨rfl, d.2⟩)] at hj
    exact hj

omit hu hrun in
theorem linkErrCounted_of_fatal {e : LinkErr} {bit : Nat} (lanes : W16)
    (he : exec (.linkError e) s = .next (aerUncorrectable (faultEvent s 0x6100 2) bit false true)) :
    LinkErrCounted s e lanes 2 bit := by
  obtain ⟨f, hf, hcount⟩ := faultEvent_eq s 0x6100 2 0
  obtain ⟨a, huncorr, hcorr, hreport⟩ := aerUncorrectable_eq (s.setFaults f) bit false true
  rw [hcount, hreport] at he
  exact ⟨_, he, hf, hcorr, huncorr, fun _ => by rw [if_neg (fun c => absurd c.1 (by decide))]; rfl, rfl, rfl, rfl⟩

theorem linkErrors_counted (i : Fin 6) (lanes : W16) :
    LinkErrCounted s ([LinkErr.badFlit lanes, .replay lanes, .replayTimeout lanes, .malformedTlp, .receiverOverflow,
      .flowControl].getD i (.badFlit lanes)) lanes ([1, 1, 1, 2, 2, 2].getD i 1) ([6, 8, 12, 18, 17, 13].getD i 6) := by
  have up := onLink_up hu hrun
  match i with
  | 0 => exact linkErrCounted_of_retry (congrArg Host.Outcome.next (up _))
  | 1 => exact linkErrCounted_of_retry (congrArg Host.Outcome.next (up _))
  | 2 => exact linkErrCounted_of_retry (congrArg Host.Outcome.next (up _))
  | 3 => exact linkErrCounted_of_fatal lanes (congrArg Host.Outcome.next (up _))
  | 4 => exact linkErrCounted_of_fatal lanes (congrArg Host.Outcome.next (up _))
  | 5 => exact linkErrCounted_of_fatal lanes (congrArg Host.Outcome.next (up _))

/-! ### Requests of the host in error (R39, R42) -/

omit hu hrun in
/-- A command that drops a posted request, and records it at a bit of the AER status. -/
theorem dropped_of_posted {e : LinkErr} {bit : Nat}
    (he : exec (.linkError e) s = .next (dropCounted (aerUncorrectable (hostRequestError s 0) bit true false))) :
    ∃ t, exec (.linkError e) s = .next t ∧ t.link.dropped = s.link.dropped + 1 ∧
      t.faults = faultUnitEvent s.faults 0x6101 2 0 false ∧
      t.link.aer.uncorr = s.link.aer.uncorr ||| BitVec.twoPow 32 bit ∧ t.dev = s.dev ∧ t.queue = s.queue := by
  obtain ⟨f, hf, hcount⟩ := hostRequestError_eq s 0
  obtain ⟨a, ha, -, hreport⟩ := aerUncorrectable_eq (s.setFaults f) bit true false
  rw [hcount, hreport] at he
  exact ⟨_, he, rfl, hf, ha, rfl, rfl⟩

theorem postedErrors_dropped (i : Fin 2) :
    ∃ t, exec (.linkError ([LinkErr.poisonedBar02, .unsupportedPosted].getD i .poisonedBar02)) s = .next t ∧
      t.link.dropped = s.link.dropped + 1 ∧ t.faults = faultUnitEvent s.faults 0x6101 2 0 false ∧
      t.link.aer.uncorr = s.link.aer.uncorr ||| BitVec.twoPow 32 ([12, 20].getD i 12) ∧ t.dev = s.dev ∧
      t.queue = s.queue := by
  have up := onLink_up hu hrun
  match i with
  | 0 => exact dropped_of_posted (congrArg Host.Outcome.next (up _))
  | 1 => exact dropped_of_posted (congrArg Host.Outcome.next (up _))

theorem unsupportedNonPosted_refused : ∃ t, exec (.linkError .unsupportedNonPosted) s = .next t ∧
    HostMsg.unsupported ∈ t.link.sent ∧ t.faults = faultUnitEvent s.faults 0x6101 2 0 false ∧ t.dev = s.dev ∧
    t.queue = s.queue := by
  have he : exec (.linkError .unsupportedNonPosted) s = .next (refuseNonPosted s 0) :=
    congrArg Host.Outcome.next (onLink_up hu hrun _)
  obtain ⟨f, hf, hcount⟩ := hostRequestError_eq s 0
  obtain ⟨a, -, -, hreport⟩ := aerUncorrectable_eq (s.setFaults f) 20 false false
  rw [refuseNonPosted, hcount, hreport] at he
  exact ⟨_, he, List.mem_append_right _ (List.mem_singleton_self _), hf, rfl, rfl⟩

/-! ### Symbol errors (R34) -/

theorem exec_linkError_symbol (lane : Fin 16) : exec (.linkError (.symbol lane)) s =
    .next (aerCorrectable (faultEvent (s.withLanes (s.link.lanes.set lane (s.link.lanes[lane].erred s.now)))
      (BitVec.ofNat 16 (0x6000 + lane)) 1) 0) := by
  rw [← laneError_eq]
  exact congrArg Host.Outcome.next ((onLink_up hu hrun _).trans (if_pos lane.isLt))

theorem symbolError_counted (lane : Fin 16) :
    let x := s.link.lanes[lane]
    ∃ t, exec (.linkError (.symbol lane)) s = .next t ∧
      t.faults = faultUnitEvent s.faults (BitVec.ofNat 16 (0x6000 + lane)) 1 0 false ∧
      (x.errors.length = 4096 → s.now - x.errors.headD 0 ≤ 1200000000 →
        t.link.lanes[lane].due = true ∧ t.link.lanes[lane].errors = []) ∧
      (x.errors.length < 4096 → t.link.lanes[lane].due = x.due ∧ t.link.lanes[lane].errors = x.errors ++ [s.now]) ∧
      ∀ j : Fin 16, j ≠ lane → t.link.lanes[j] = s.link.lanes[j] := by
  intro x
  have hself : (s.link.lanes.set lane (x.erred s.now))[lane] = x.erred s.now := Vector.getElem_set_self _
  refine ⟨_, exec_linkError_symbol hu hrun lane, rfl, fun hn hs => ?_, fun hn => ?_, fun j hj =>
    Vector.getElem_set_ne lane.isLt j.isLt (fun c => hj (Fin.ext c.symm))⟩
  · have hx := hself.trans (Lane.erred_of_full hn hs)
    exact ⟨congrArg Lane.due hx, congrArg Lane.errors hx⟩
  · have hx := hself.trans (Lane.erred_of_room _ hn)
    exact ⟨(congrArg Lane.due hx :), congrArg Lane.errors hx⟩

/-! ### Retirement (R34, R35) -/

omit hu hrun in
@[simp] theorem writeSettings_inUse (f : Firmware) (items : Settings) : (writeSettings f items).inUse = items := by
  unfold writeSettings
  extract_lets slot v
  split
  · rfl
  · split <;> rfl

omit hu in
theorem exec_laneRetire (lane : Fin 16) : exec (.laneRetire lane) s =
    .next (if s.link.lanes[lane].retired = false ∧ (s.link.lanes[lane].due = true ∨ 2 ≤ s.link.lanes[lane].lockFails) then
      retireLane s lane else s) := by
  have h : vget s.link.lanes lane.val { errors := [], due := false, lockFails := 0, retired := false } = s.link.lanes[lane] :=
    vget_eq_getElem _ _ _ lane.isLt
  refine congrArg Host.Outcome.next (if_congr ?_ rfl rfl)
  rw [h, hrun]
  simp

theorem laneRetire_retires (lane : Fin 16) (hr : s.link.lanes[lane].retired = false)
    (hd : s.link.lanes[lane].due = true ∨ 2 ≤ s.link.lanes[lane].lockFails) :
    ∃ t, exec (.laneRetire lane) s = .next t ∧ t.link.lanes[lane].retired = true ∧
      (∀ j : Fin 16, j ≠ lane → t.link.lanes[j] = s.link.lanes[j]) ∧
      t.firmware.inUse.lanes = s.firmware.inUse.lanes ||| BitVec.twoPow 16 lane ∧
      t.link.width = (offeredWidth t.link).1 ∧ t.link.up = true ∧ t.link.recovery = true ∧ t.dev = s.dev := by
  have hx := exec_laneRetire hrun lane
  rw [if_pos ⟨hr, hd⟩] at hx
  obtain ⟨x, hxr, hl⟩ : ∃ x : Lane, x.retired = true ∧ (retireLane s lane).link.lanes = s.link.lanes.set lane x :=
    ⟨_, rfl, vset_eq_set _ _ _ lane.isLt⟩
  refine ⟨_, hx, ?_, fun j hj => ?_, congrArg Settings.lanes (writeSettings_inUse _ _), rfl, hu, hu, rfl⟩
  · simp only [hl, Fin.getElem_fin, Vector.getElem_set_self, hxr]
  · simp only [hl, Fin.getElem_fin]
    exact Vector.getElem_set_ne lane.isLt j.isLt (fun c => hj (Fin.ext c.symm))

end

/-! ### Loads whose host read fails (05 R129) -/

/-- A load whose host read has failed with no data: poison, and bytes 0xFF. -/
def failedLoad (rd : BitVec 5) (a : DevAddr) (kd : LoadKind) (p : Option (BitVec 20)) (c : Bool) : MemAccess :=
  .load rd a kd p c (some { bytes := List.replicate kd.width 0xFF, poison := true })

section
variable {s : State} {rd : BitVec 5} {a : DevAddr} {kd : LoadKind} {p : Option (BitVec 20)} {c : Bool} {rest : List MemAccess}
  (h : s.turner.accesses = .load rd a kd p c none :: rest) (ha : 0xC00000000000 ≤ a.toNat)
include h ha

/-- The first load that is out is marked as failed. -/
theorem devReadFails_load : devReadFails s (.load 0) 0x21 0x12 =
    faultEvent (s.setTurner { s.turner with accesses := failedLoad rd a kd p c :: rest }) 0x2002 2
      (loadAddr s.turner.accesses 0) := by
  have hf : failLoad s.turner.accesses 0 (decide ((0x12 : Byte) = 0x22)) = failedLoad rd a kd p c :: rest := by
    rw [h, failLoad, if_pos ha]; rfl
  have hne : failLoad s.turner.accesses 0 (decide ((0x12 : Byte) = 0x22)) ≠ s.turner.accesses := by
    rw [hf, h]; simp [failedLoad]
  exact (if_neg hne).trans (by rw [hf])

/-- A command that fails the read of that load, and records it at a bit of the AER status. -/
theorem load_fails {i : Instr} {bit : Nat}
    (hi : exec i s = .next (if devReadFails s (.load 0) 0x21 0x12 = s then s
      else aerUncorrectable (devReadFails s (.load 0) 0x21 0x12) bit false false)) :
    ∃ t, exec i s = .next t ∧ t.turner = { s.turner with accesses := failedLoad rd a kd p c :: rest } ∧
      t.link.aer.uncorr = s.link.aer.uncorr ||| BitVec.twoPow 32 bit ∧ t.dev = s.dev ∧ t.queue = s.queue := by
  have hd := devReadFails_load h ha
  have hne : devReadFails s (.load 0) 0x21 0x12 ≠ s := by
    intro hs
    have hacc := congrArg (fun t : State => t.turner.accesses) (hd.symm.trans hs)
    rw [h] at hacc
    simp [faultEvent, failedLoad] at hacc
  rw [if_neg hne, hd] at hi
  generalize s.turner.accesses = l at hi
  obtain ⟨f, -, hcount⟩ := faultEvent_eq (s.setTurner { s.turner with accesses := failedLoad rd a kd p c :: rest }) 0x2002 2
    (loadAddr l 0)
  obtain ⟨r, hr, -, hreport⟩ := aerUncorrectable_eq
    ((s.setTurner { s.turner with accesses := failedLoad rd a kd p c :: rest }).setFaults f) bit false false
  rw [hcount, hreport] at hi
  exact ⟨_, hi, rfl, hr, rfl, rfl⟩

end

end Sys2Proof.Machine
end

section
/-! PROOF. The lane test, and configuration requests, link errors and lanes together (O22). -/

set_option Elab.async false

namespace Sys2Proof.Machine
open Sys2Proof

/-! ### Bit maps of lanes -/

theorem foldl_twoPow_getLsbD (p : Nat → Bool) {j : Nat} (hj : j < 16) (n : Nat) :
    ((List.range n).foldl (fun (g : W16) i => if p i then g ||| BitVec.twoPow 16 i else g) 0).getLsbD j =
      (decide (j < n) && p j) := by
  have hstep (g : W16) (i : Nat) : (if p i then g ||| BitVec.twoPow 16 i else g).getLsbD j =
      (g.getLsbD j || (decide (j = i) && p j)) := by
    by_cases hi : j = i
    · subst hi
      cases hp : p j <;> simp [hj]
    · rw [decide_eq_false hi, Bool.false_and, Bool.or_false]
      split
      · rw [BitVec.getLsbD_or, BitVec.getLsbD_twoPow, decide_eq_false (Ne.symm hi), Bool.and_false, Bool.or_false]
      · rfl
  induction n with
  | zero => simp
  | succ n ih =>
    rw [List.range_succ, List.foldl_append, List.foldl_cons, List.foldl_nil, hstep, ih, ← Bool.and_or_distrib_right,
      ← Bool.decide_or]
    simp only [Nat.lt_succ_iff_lt_or_eq]

/-- A bit map gathered lane by lane is the one that has the same bits. -/
theorem foldl_twoPow_eq {p : Nat → Bool} {m : W16} (h : ∀ i : Fin 16, p i = m.getLsbD i) :
    (List.range 16).foldl (fun (g : W16) i => if p i then g ||| BitVec.twoPow 16 i else g) 0 = m :=
  BitVec.eq_of_getLsbD_eq fun j hj => by
    rw [foldl_twoPow_getLsbD p hj, decide_eq_true hj, Bool.true_and]; exact h ⟨j, hj⟩

/-! ### The end of a lane test that every lane passes (20 R488, R489) -/

/-- The lanes with those in service again that passed. -/
def healedLanes (l : Link) (passed : W16) : Vector Lane 16 :=
  Vector.ofFn fun i : Fin 16 =>
    if passed.getLsbD i.val then { laneOf l i.val with retired := false, due := false, lockFails := 0 } else laneOf l i.val

theorem healedLanes_retired (l : Link) (passed : W16) (i : Fin 16) :
    (healedLanes l passed)[i].retired = (l.lanes[i].retired && !passed.getLsbD i) := by
  have hl : laneOf l i = l.lanes[i] := vget_eq_getElem _ _ _ i.isLt
  rw [healedLanes, Fin.getElem_fin, Vector.getElem_ofFn]
  simp only [hl]
  cases passed.getLsbD i.val <;> simp

theorem applyLaneTest_of_none_failed (s : State) (passed : W16) : applyLaneTest s passed 0 =
    (s.withLanes (healedLanes s.link passed)).setFirmware
      (writeSettings s.firmware { s.firmware.inUse with lanes := s.firmware.inUse.lanes &&& ~~~passed }) := by
  have hnone : ((List.range 16).filter fun i => (0 : W16).getLsbD i) = [] := by decide
  unfold applyLaneTest
  simp only [hnone, List.foldl_nil, ite_self, State.setLink_firmware]
  rfl

/-- The state once a lane test that every lane passes has ended. -/
def laneTestPassed (s : State) : State :=
  let t := (s.withLanes (healedLanes s.link s.link.testLanes)).setFirmware
    (writeSettings s.firmware { s.firmware.inUse with lanes := s.firmware.inUse.lanes &&& ~~~s.link.testLanes })
  t.setLink { t.link with testBusy := false, tested := s.link.testLanes, passed := s.link.testLanes }

theorem laneTestPassed_faults (s : State) : (laneTestPassed s).faults = s.faults := by
  rw [laneTestPassed, State.setLink_faults, State.setFirmware_faults, State.withLanes, State.setLink_faults]

theorem exec_laneTestEnd_of_all_pass {s : State} (hrun : s.running = true) (hb : s.link.testBusy = true) {locks : BitVec 16}
    {errors : Vector Nat 16}
    (h : ∀ i : Fin 16, s.link.testLanes.getLsbD i = true → locks.getLsbD i = true ∧ errors[i] ≤ rateErrors s.link.best) :
    exec (.laneTestEnd locks errors) s = .next (laneTestPassed s) := by
  have hgood : (List.range 16).foldl (fun (g : W16) i =>
      if s.link.testLanes.getLsbD i && locks.getLsbD i && decide (vget errors i 0 ≤ rateErrors s.link.best) then
        g ||| BitVec.twoPow 16 i else g) 0 = s.link.testLanes := by
    refine foldl_twoPow_eq (p := fun i =>
      s.link.testLanes.getLsbD i && locks.getLsbD i && decide (vget errors i 0 ≤ rateErrors s.link.best)) fun i => ?_
    cases hm : s.link.testLanes.getLsbD i with
    | false => simp
    | true =>
      obtain ⟨hlock, herr⟩ := h i hm
      have hv : vget errors i 0 = errors[i] := vget_eq_getElem _ _ _ i.isLt
      simp only [hlock, hv, herr, decide_true, Bool.and_self]
  refine congrArg Host.Outcome.next ((if_pos (by rw [hrun, hb]; rfl)).trans ?_)
  simp only [hgood, BitVec.and_not_self]
  rw [applyLaneTest_of_none_failed]
  rfl

theorem laneTest_ends {s : State} (hrun : s.running = true) (hb : s.link.testBusy = true) :
    exec .loopbackTimeout s = .next { s with link := { s.link with testBusy := false, testUnsupported := true } } ∧
    ∀ (locks : BitVec 16) (errors : Vector Nat 16),
      (∀ i : Fin 16, s.link.testLanes.getLsbD i = true → locks.getLsbD i = true ∧ errors[i] ≤ rateErrors s.link.best) →
      ∃ t, exec (.laneTestEnd locks errors) s = .next t ∧ t.link.testBusy = false ∧ t.link.tested = s.link.testLanes ∧
        t.link.passed = s.link.testLanes ∧
        (∀ i : Fin 16, t.link.lanes[i].retired = (s.link.lanes[i].retired && !s.link.testLanes.getLsbD i)) ∧
        t.firmware.inUse.lanes = s.firmware.inUse.lanes &&& ~~~s.link.testLanes ∧ t.faults = s.faults :=
  ⟨congrArg Host.Outcome.next (if_pos (by rw [hrun, hb]; rfl)), fun _ _ h =>
    ⟨laneTestPassed s, exec_laneTestEnd_of_all_pass hrun hb h, rfl, rfl, rfl, healedLanes_retired s.link s.link.testLanes,
      congrArg Settings.lanes (writeSettings_inUse _ _), laneTestPassed_faults s⟩⟩

/-! ### Starting a lane test (20 R487) -/

theorem exec_hlLaneTestStart {s : State} (hr : barReachable s = true) (hw : s.power.state = .warm)
    (hd : s.power.draining = false) {m : BitVec 16} (hm : m ≠ 0) (hb : s.link.testBusy = false) :
    exec (.hlLaneTestStart m) s = .next { s with link := { s.link with
      up := false, trained := 0, rate := 0, flit := false, inUse := 0, recovery := false, testBusy := true
      testUnsupported := false, testLanes := m } } := by
  have hmay : (decide ((s.setLink { s.link with testLanes := m }).power.state = .warm) &&
      !(s.setLink { s.link with testLanes := m }).power.draining &&
      decide ((s.setLink { s.link with testLanes := m }).link.testLanes ≠ 0) &&
      !(s.setLink { s.link with testLanes := m }).link.testBusy) = true := by
    simp only [State.setLink_power, State.setLink_link, hw, hd, hb, hm, ne_eq, not_false_iff, decide_true, Bool.not_false,
      Bool.and_self]
  exact congrArg Host.Outcome.next ((if_pos hr).trans ((if_neg (by rw [hb]; exact Bool.false_ne_true)).trans (if_pos hmay)))

/-! ### The statement -/

/-- Settles O22. Each request or error is one operation, told by what it sets; the lane counts of a retry are counted lane by
lane, and a lane test that every lane passes heals them all. -/
theorem configurationErrorsAndLanes : Obligations.ConfigurationErrorsAndLanes := by
  unfold Obligations.ConfigurationErrorsAndLanes
  refine ⟨fun s hrun hb => laneTest_ends hrun hb, fun s hu hrun => ?_⟩
  intro said cfg c
  refine ⟨fun r h => exec_configurationRequest_starting hu hrun h r, fun h => ?_, exec_resizableBarWrite hu hrun,
    fun o d ecc => rfl, postedErrors_dropped hu hrun, unsupportedNonPosted_refused hu hrun, linkErrors_counted hu hrun,
    fun lane => ⟨symbolError_counted hu hrun lane, laneRetire_retires hu hrun lane, fun hr hd hl => ?_⟩,
    fun rd a kd p f rest hacc ha => ?_, fun m hr hw hd hm hb => exec_hlLaneTestStart hr hw hd hm hb⟩
  · have read {r : ConfigReg} {v : W32} := exec_configurationRequest_read hu hrun h (r := r) (v := v)
    refine ⟨read rfl, read rfl, read rfl, read ?_, read rfl, read ?_, read rfl, clearUncorrectable_clears hu hrun h,
      fun v => exec_configurationRequest hu hrun h _, fun hp v b => ?_, fun hp v => ?_,
      fun lane right steps errors he => exec_configurationRequest_timing hu hrun h lane right steps he, fun hp v => ?_⟩
    · exact congrArg some (extractLsb'_zero_eq_ofNat _)
    · exact congrArg some (extractLsb'_high_eq_ofNat _)
    all_goals have write {r : ConfigReq} {c : Config} := exec_configurationRequest_write hu hrun h hp (r := r) (c := c)
    · exact ⟨write rfl, write (configRequest_bar0 s b), write (configRequest_bar2 s b), write (configRequest_bar4 s b)⟩
    · exact ⟨write rfl, write rfl⟩
    · exact ⟨write rfl, write rfl, write rfl, write rfl, write rfl, write rfl, write rfl, write rfl, write rfl, write rfl⟩
  · rw [exec_laneRetire hrun, if_neg]
    rintro ⟨-, hdue | hfails⟩
    · exact Bool.false_ne_true (hd.symm.trans hdue)
    · exact absurd hl (Nat.not_lt.mpr hfails)
  · exact ⟨load_fails hacc ha (congrArg Host.Outcome.next (if_pos hrun)),
      load_fails hacc ha (congrArg Host.Outcome.next (onLink_up hu hrun _)),
      load_fails hacc ha (congrArg Host.Outcome.next (onLink_up hu hrun _))⟩

end Sys2Proof.Machine
end

section
/-! PROOF. Every command answers a next state (O3). -/

set_option Elab.async false

namespace Sys2Proof.Machine
open Sys2Proof

theorem execTileIssue_answers (ecc : List Ecc) (tecc : List TileEcc) (s : State) : ∃ t, execTileIssue ecc tecc s = .next t := by
  unfold execTileIssue
  extract_lets l
  split
  · exact ⟨s, rfl⟩
  · split
    · exact ⟨s, rfl⟩
    · split
      · exact ⟨_, rfl⟩
      · split <;> exact ⟨_, rfl⟩
      · split <;> exact ⟨_, rfl⟩

theorem execTileInstructionComplete_answers (j : Nat) (s : State) : ∃ t, execTileInstructionComplete j s = .next t := by
  unfold execTileInstructionComplete
  split
  · exact ⟨s, rfl⟩
  · split
    · exact ⟨s, rfl⟩
    · extract_lets x
      split <;> exact ⟨_, rfl⟩

theorem execDoeSpdm_answers (fragment : Option (List Byte)) (last : Bool) (s : State) :
    ∃ t, execDoeSpdm fragment last s = .next t := by
  cases fragment <;> exact ⟨_, rfl⟩

/-- Settles O3. The effect of a command is a next state by its definition, but for three whose definitions first look at the tile
queue or at the fragment. -/
theorem everyCommandAnswers : Obligations.EveryCommandAnswers := by
  unfold Obligations.EveryCommandAnswers
  intro i s
  cases i with
  | tileIssue ecc tecc => exact execTileIssue_answers ecc tecc s
  | tileInstructionComplete j => exact execTileInstructionComplete_answers j s
  | doeSpdm fragment last => exact execDoeSpdm_answers fragment last s
  | _ => exact ⟨_, rfl⟩

end Sys2Proof.Machine
end

section
/-! PROOF. The accesses of the device's agents to memory: what they leave as it is, and what they do where a line of HBM is free
(O10, O11, O12). -/

set_option Elab.async false

namespace Sys2Proof.Machine
open Sys2Proof

/-! ### What an access leaves as it is

An access may change memory, the host link, the fault unit and the values delivered to the queue engine, and nothing else. -/

/-- A state with all that an access to memory may change taken out of it. -/
def State.unaccessed (s : State) : State :=
  { s with link := Reset.link, scale := Reset.scale, faults := Reset.faults, dev := [], host := [] }

/-- The state t is s after accesses to memory. -/
abbrev Accessed : State → State → Prop := Same State.unaccessed

theorem hbmError_accessed (s : State) (a : Nat) (u : Bool) : Accessed s (hbmError s a u) := .ite (.ite rfl rfl) rfl

theorem markPoison_accessed (s : State) (a : Nat) : Accessed s (markPoison s a) := rfl

theorem eccEvent_accessed (s : State) (e : Ecc) : Accessed s (eccEvent s e) := by
  have hbm : Accessed s (if s.poisoned (64 * e.line) then s
      else if e.uncorrected then hbmError (markPoison s (64 * e.line)) (64 * e.line) true else hbmError s (64 * e.line) false) :=
    .ite rfl (.ite ((markPoison_accessed s _).trans (hbmError_accessed _ _ _)) (hbmError_accessed _ _ _))
  unfold eccEvent
  extract_lets a
  split
  · exact hbm
  · exact hbm
  · exact .ite rfl (.ite rfl rfl)
  · rfl
  · rfl

theorem recallLine_accessed (s : State) (line : Nat) : Accessed s (recallLine s line) := .ite rfl rfl

theorem recallAll_accessed (s : State) (ls : List Nat) : Accessed s (recallAll s ls) :=
  .foldl (fun s l => .ite (recallLine_accessed s l) rfl) ls s

theorem homeWrite_accessed (s : State) (a : Nat) (data : List Byte) : Accessed s (homeWrite s a data) := by
  unfold homeWrite
  extract_lets s1 s2
  have h2 : Accessed s s2 := .ite rfl rfl
  exact h2

theorem homeWrite_link (s : State) (a : Nat) (data : List Byte) : (homeWrite s a data).link = s.link := by
  unfold homeWrite
  extract_lets s1 s2
  change s2.link = s.link
  dsimp only [s2]
  split <;> rfl

theorem homeRead_accessed (s : State) (ecc : List Ecc) (line : Nat) : Accessed s (homeRead s ecc line) := by
  unfold homeRead
  split
  · rfl
  · split
    · exact eccEvent_accessed s _
    · rfl

theorem homeReads_accessed (s : State) (ecc : List Ecc) (ls : List Nat) : Accessed s (homeReads s ecc ls) :=
  .foldl (fun s l => homeRead_accessed s ecc l) ls s

theorem homeWrites_accessed (fuel : Nat) (s : State) (ecc : List Ecc) (a : Nat) (d : List Byte) :
    Accessed s (homeWrites fuel s ecc a d) := by
  induction fuel generalizing s a d with
  | zero => rfl
  | succ fuel ih =>
    unfold homeWrites
    extract_lets n s1
    have h1 : Accessed s s1 := .ite (by split; exacts [eccEvent_accessed s _, rfl]) rfl
    exact .ite rfl ((h1.trans (homeWrite_accessed _ _ _)).trans (ih _ _ _))

theorem allocate_accessed (s : State) (line : Nat) : Accessed s (allocate s line).2 := by
  unfold allocate
  split
  · rfl
  · split
    · rfl
    · split
      · rfl
      · exact recallAll_accessed s _

theorem serve_accessed (s : State) (r : HomeReq) : Accessed s (serve s r).2 := by
  have held {b : Bool} {x y : Bool × State} (hx : Accessed s x.2) (hy : Accessed s y.2) : Accessed s (if b then x else y).2 := by
    cases b <;> assumption
  cases r with
  | memRead line ecc =>
    have he : Accessed s (if watchers s line = [] then allocate s line else (true, s)).2 := by
      split
      · exact allocate_accessed s line
      · rfl
    exact held rfl (held (he.trans (homeRead_accessed _ _ _)) he)
  | memWrite line data keep =>
    have he : Accessed s (if keep && decide (watchers s line = []) then allocate s line
        else (true, s.setLink { s.link with dir := if keep then s.link.dir else s.link.dir.erase line })).2 := by
      split
      · exact allocate_accessed s line
      · rfl
    exact held rfl (held (he.trans (homeWrite_accessed _ _ _)) he)
  | bar4Read a n ecc => exact held (recallAll_accessed s _) (homeReads_accessed s _ _)
  | bar4Write a d poison ecc =>
    refine held (recallAll_accessed s _) (held rfl ?_)
    have hw := homeWrites_accessed ((linesOf a d.length).length + 1) s ecc a d
    exact .ite (hw.trans (.foldl (fun s l => markPoison_accessed s (64 * l)) _ _)) hw
  | atomic a op is64 ecc =>
    refine held (recallAll_accessed s _) (held rfl ?_)
    exact (homeRead_accessed s ecc (a / 64)).trans (homeWrite_accessed _ _ _)
  | device w line => rfl

theorem serveAll_accessed (rs kept : List HomeReq) (s : State) : Accessed s (serveAll rs kept s) := by
  induction rs generalizing kept s with
  | nil => rfl
  | cons r rs ih => exact .ite (ih _ _) (.ite (ih _ _) ((serve_accessed s r).trans (ih _ _)))

theorem leaveHome_accessed (s : State) (w : Requester) (line : Nat) : Accessed s (leaveHome s w line) :=
  .ite (serveAll_accessed _ _ _) rfl

theorem joinHome_accessed (s : State) (w : Requester) (line : Nat) : Accessed s (joinHome s w line) := .ite rfl rfl

theorem awaitLine_accessed {s t : State} {w : Requester} {line : Nat} (h : awaitLine s w line = some t) : Accessed s t := by
  unfold awaitLine at h
  split at h
  · cases h; exact (joinHome_accessed s w line).trans (recallLine_accessed _ _)
  · split at h
    · cases h
    · cases h; exact joinHome_accessed s w line

theorem eccSeen_accessed (s : State) (ag : Agent) (line : Nat) : Accessed s (eccSeen s ag line) := by
  unfold eccSeen
  split
  · exact eccEvent_accessed s _
  · rfl

theorem askXlat_accessed (s : State) (w : Requester) (p : Option (BitVec 20)) (page : Nat) : Accessed s (askXlat s w p page) :=
  .ite rfl (.ite rfl rfl)

theorem translate_accessed (s : State) (ag : Agent) (h : Nat) (isWrite : Bool) : Accessed s (translate s ag h isWrite).state := by
  unfold translate
  split
  · rfl
  · split
    · rfl
    · extract_lets p page refusal
      split
      · rfl
      · split
        · generalize (if isWrite then _ else _ : Bool) = allowed
          cases allowed <;> rfl
        · exact askXlat_accessed s _ _ _

theorem busWrite_accessed (s : State) (ag : Agent) (a : Nat) (data : List Byte) : Accessed s (busWrite s ag a data).state := by
  unfold busWrite
  split
  · rfl
  · split
    · have ht := translate_accessed s ag (a - 0xC00000000000) true
      extract_lets h
      split
      · next e =>
        rw [e] at ht
        split
        · exact ht
        · exact ht
      · next e => rw [e] at ht; exact ht
      · next e => rw [e] at ht; exact ht
    · split
      · next e => exact awaitLine_accessed e
      · split
        · exact joinHome_accessed s _ _
        · have hseen : Accessed s (if data.length < 64 then eccSeen s ag (a / 64) else s) := .ite (eccSeen_accessed s _ _) rfl
          exact (hseen.trans (homeWrite_accessed _ _ _)).trans (leaveHome_accessed _ _ _)

/-! ### Free lines of HBM (R59, R60) -/

theorem State.region_of_inRegion {s : State} {a n : Nat} {r : Region} (h : s.inRegion a n r = true) : s.region a = r := by
  simp only [State.inRegion, Bool.and_eq_true, decide_eq_true_eq] at h
  exact h.1.2

theorem agentFull_mono {l l' : List HomeReq} (h : l.Sublist l') {line : Nat} (hf : agentFull l' line = false) :
    agentFull l line = false := by
  simp only [agentFull, decide_eq_false_iff_not] at hf ⊢
  exact fun c => hf (c.trans (h.filter _).length_le)

variable {s : State} {line : Nat}

theorem LineFree.congr {t : State} (h : LineFree s line) (hl : t.link = s.link) : LineFree t line :=
  ⟨hl ▸ h.notHeld, hl ▸ h.first, hl ▸ h.room⟩

theorem LineFree.awaitLine (h : LineFree s line) (w : Requester) : awaitLine s w line = none := by
  have hturn : homeTurn s w line = true := by
    have hsub : ((s.link.homeQueue.takeWhile fun e => decide (e ≠ .device w line)).filter fun e => e.stands s).Sublist
        s.link.homeQueue := List.filter_sublist.trans (List.takeWhile_sublist _)
    have hnone : ∀ e ∈ s.link.homeQueue, e.lines.contains line = false := fun e he =>
      Bool.eq_false_iff.mpr fun c => h.first e he (List.contains_iff_mem.mp c)
    rw [homeTurn, agentFull_mono hsub h.room, List.any_eq_false.mpr fun e he => Bool.eq_false_iff.mp (hnone e (hsub.subset he))]
    rfl
  rw [Machine.awaitLine, if_neg (Bool.eq_false_iff.mp h.notHeld), if_pos hturn]

theorem LineFree.leaveHome (h : LineFree s line) (w : Requester) : leaveHome s w line = s :=
  if_neg fun c => h.first (.device w line) (List.contains_iff_mem.mp c) (List.mem_singleton_self line)

theorem eccSeen_nil {ag : Agent} (he : ag.ecc = []) : eccSeen s ag line = s := by
  simp [eccSeen, Agent.eccAt, he]

/-- A read within a free line of HBM that bears no mark returns its bytes and changes nothing. -/
theorem busRead_free {ag : Agent} {a n : Nat} (hr : Region.kernels ∈ ag.reach) (he : ag.ecc = [])
    (ha : s.inRegion a n .kernels = true) (hf : LineFree s (a / 64)) (hp : s.poisoned a = false) :
    busRead s ag a n = .ok (s.dev.readN a n) s := by
  have hreach : (ag.reach.any fun r => s.inRegion a n r) = true := List.any_eq_true.mpr ⟨_, hr, ha⟩
  have hfresh : freshLoss s ag (a / 64) = false := by simp [freshLoss, Agent.eccAt, he]
  have hhost : s.region a ≠ .host := by rw [State.region_of_inRegion ha]; decide
  simp only [busRead, hreach, hhost, hf.awaitLine, hfresh, hp, eccSeen_nil he, hf.leaveHome, Bool.not_true,
    Bool.false_eq_true, if_false]

/-- A write within a free line of HBM is performed at its home agent. -/
theorem busWrite_free {ag : Agent} {a : Nat} {data : List Byte} (hr : Region.kernels ∈ ag.reach) (he : ag.ecc = [])
    (ha : s.inRegion a data.length .kernels = true) (hf : LineFree s (a / 64)) (hw : watchRoom s (a / 64) = true) :
    busWrite s ag a data = .ok () (homeWrite s a data) := by
  have hreach : (ag.reach.any fun r => s.inRegion a data.length r) = true := List.any_eq_true.mpr ⟨_, hr, ha⟩
  have hhost : s.region a ≠ .host := by rw [State.region_of_inRegion ha]; decide
  have hfree : LineFree (homeWrite s a data) (a / 64) := hf.congr (homeWrite_link s a data)
  simp only [busWrite, hreach, hhost, hf.awaitLine, hw, eccSeen_nil he, ite_self, hfree.leaveHome, Bool.not_true,
    Bool.false_eq_true, if_false]

end Sys2Proof.Machine
end

section
/-! PROOF. Status lines, stop records, and what follows from an end that brings nothing else to its end (O10, O11, O12). -/

set_option Elab.async false

namespace Sys2Proof.Machine
open Sys2Proof

variable {s t : State} {i j k : Nat}

/-! ### Folds over lists of indices -/

/-- A fold in which no element has an effect. -/
theorem foldl_idle {α : Type} {f : State → α → State} {s : State} {l : List α} (h : ∀ j ∈ l, f s j = s) : l.foldl f s = s := by
  induction l with
  | nil => rfl
  | cons j l ih =>
    rw [List.foldl_cons, h j List.mem_cons_self]
    exact ih fun x hx => h x (List.mem_cons_of_mem j hx)

/-- A fold in which one element alone has an effect. -/
theorem foldl_of_only {α : Type} {f : State → α → State} {s : State} {i : α} {l : List α} (hl : l.Nodup) (hi : i ∈ l)
    (hs : ∀ j ∈ l, j ≠ i → f s j = s) (ht : ∀ j ∈ l, j ≠ i → f (f s i) j = f s i) : l.foldl f s = f s i := by
  obtain ⟨l₁, l₂, rfl⟩ := List.append_of_mem hi
  have h₁ : i ∉ l₁ := fun c => (List.nodup_append.mp hl).2.2 i c i List.mem_cons_self rfl
  have h₂ : i ∉ l₂ := (List.nodup_cons.mp (List.nodup_append.mp hl).2.1).1
  rw [List.foldl_append, List.foldl_cons, foldl_idle (l := l₁) fun j hj => hs j (List.mem_append_left _ hj) fun c => h₁ (c ▸ hj)]
  exact foldl_idle fun j hj => ht j (List.mem_append_right _ (List.mem_cons_of_mem i hj)) fun c => h₂ (c ▸ hj)

section
variable {β γ : Type} {e : State → γ} {g : State → Nat → β} {f : State → Nat → State}
  (he : ∀ u j, Same e u (f u j)) (hg : ∀ u i j, i ≠ j → g (f u j) i = g u i)
include hg

/-- Operations on the rings before n leave the rings from n on as they are. -/
theorem foldl_range_of_ge (s : State) {n j : Nat} (h : n ≤ j) : g ((List.range n).foldl f s) j = g s j := by
  induction n with
  | zero => rfl
  | succ n ih =>
    rw [List.range_succ, List.foldl_append, List.foldl_cons, List.foldl_nil, hg _ _ _ (by omega)]
    exact ih (by omega)

include he

/-- Operations on the rings one by one leave of each ring what its own operation has made of it. -/
theorem foldl_range_of_lt (s : State) {n j : Nat} (h : j < n) :
    ∃ u, Same e s u ∧ g u j = g s j ∧ g ((List.range n).foldl f s) j = g (f u j) j := by
  induction n with
  | zero => omega
  | succ n ih =>
    rw [List.range_succ, List.foldl_append, List.foldl_cons, List.foldl_nil]
    by_cases hj : j = n
    · subst hj
      exact ⟨_, .foldl he _ s, foldl_range_of_ge hg s le_rfl, rfl⟩
    · rw [hg _ _ _ hj]
      exact ih (by omega)

end

/-! ### Rings -/

theorem sr_setSr (s : State) (i j : Nat) (x : SubRing) : (s.setSr i x).sr j = if i = j ∧ j < 32 then x else s.sr j := by
  by_cases hj : j < 32
  · by_cases hij : i = j
    · subst hij; rw [sr_setSr_self hj, if_pos ⟨rfl, hj⟩]
    · rw [sr_setSr_ne hij, if_neg fun c => hij c.1]
  · have hout (v : Vector SubRing 32) : vget v j Reset.subRing = Reset.subRing := by simp [vget, hj]
    rw [if_neg fun c => hj c.2, State.sr, hout, State.sr, hout]

theorem cr_setCr (s : State) (i j : Nat) (x : CplRing) : (s.setCr i x).cr j = if i = j ∧ j < 32 then x else s.cr j := by
  by_cases hj : j < 32
  · by_cases hij : i = j
    · subst hij; rw [cr_setCr_self hj, if_pos ⟨rfl, hj⟩]
    · rw [cr_setCr_ne hij, if_neg fun c => hij c.1]
  · have hout (v : Vector CplRing 32) : vget v j Reset.cplRing = Reset.cplRing := by simp [vget, hj]
    rw [if_neg fun c => hj c.2, State.cr, hout, State.cr, hout]

theorem Accessed.sr (h : Accessed s t) (i : Nat) : t.sr i = s.sr i := h.get fun s => s.sr i

/-! ### Status lines (R71) -/

/-- A status line is written, or is pending from then on; no other ring's is touched. -/
theorem writeStatusLine_eq (s : State) (k : Nat) : ∃ (x : State) (pending : Bool) (lineHead : W32), Accessed s x ∧
    (pending = true ∨ lineHead = (s.sr k).head) ∧
    writeStatusLine s k = x.setSr k { s.sr k with linePending := pending, lineHead := lineHead } := by
  have hacc := busWrite_accessed s (ringAgent (.status k) (if k = 0 then none else some (s.sr k).pasid) 0x6101)
    ((s.sr k).base.toNat + 64 * 2 ^ (s.sr k).log2) (statusLine (s.sr k))
  unfold writeStatusLine
  extract_lets r a
  split
  · next s1 e =>
    rw [e, Access.state_ok] at hacc
    exact ⟨s1, false, r.head, hacc, .inr rfl, by rw [Accessed.sr hacc k]⟩
  · next s1 e =>
    rw [e, Access.state_wait] at hacc
    exact ⟨s1, true, r.lineHead, hacc, .inl rfl, by rw [Accessed.sr hacc k]⟩
  · next s1 e =>
    rw [e, Access.state_fail] at hacc
    exact ⟨s1, false, r.head, hacc, .inr rfl, by rw [Accessed.sr hacc k]⟩

/-- A state without the submission rings and without what an access to memory may change. -/
def State.unlined (s : State) : State := { s.unaccessed with queue := { s.queue with sr := Reset.queue.sr } }

theorem setSr_unlined (s : State) (k : Nat) (r : SubRing) : Same State.unlined s (s.setSr k r) := rfl

theorem writeStatusLine_unlined (s : State) (k : Nat) : Same State.unlined s (writeStatusLine s k) := by
  obtain ⟨x, p, h, hx, -, e⟩ := writeStatusLine_eq s k
  rw [e]
  exact (hx.weaken (f := State.unlined)).trans (setSr_unlined x k _)

theorem writeStatusLine_sr_ne (s : State) (h : j ≠ k) : (writeStatusLine s k).sr j = s.sr j := by
  obtain ⟨x, p, l, hx, -, e⟩ := writeStatusLine_eq s k
  rw [e, sr_setSr_ne (Ne.symm h)]
  exact Accessed.sr hx j

theorem writeStatusLine_sr_self (s : State) (h : k < 32) : ∃ (pending : Bool) (lineHead : W32),
    (pending = true ∨ lineHead = (s.sr k).head) ∧
    (writeStatusLine s k).sr k = { s.sr k with linePending := pending, lineHead := lineHead } := by
  obtain ⟨x, p, l, -, hl, e⟩ := writeStatusLine_eq s k
  exact ⟨p, l, hl, by rw [e, sr_setSr_self h]⟩

/-- Where no status line is pending there is none to try again. -/
theorem writePendingLines_of_none (h : ∀ k < 32, (s.sr k).linePending = false) : writePendingLines s = s :=
  foldl_idle fun k hk => if_neg (Bool.eq_false_iff.mp (h k (List.mem_range.mp hk)))

/-! ### The release of stop records (R71, R90, R96) -/

/-- A state without its rings. -/
def State.unringed (s : State) : State :=
  { s with queue := { s.queue with sr := Reset.queue.sr, cr := Reset.queue.cr } }

/-- The state t is s once some stop records have been queued on completion rings. -/
structure Released (s t : State) : Prop where
  same : Same State.unringed s t
  sr : ∀ i, ∃ x, t.sr i = { s.sr i with stopRecord := x }
  cr : ∀ i, ∃ more, t.cr i = { s.cr i with waiting := (s.cr i).waiting ++ more }

theorem Released.refl (s : State) : Released s s :=
  ⟨rfl, fun _ => ⟨_, rfl⟩, fun i => ⟨[], by rw [List.append_nil]⟩⟩

theorem Released.trans {u : State} (h : Released s t) (k : Released t u) : Released s u where
  same := h.same.trans k.same
  sr i := by
    obtain ⟨x, hx⟩ := h.sr i
    obtain ⟨y, hy⟩ := k.sr i
    exact ⟨y, by rw [hy, hx]⟩
  cr i := by
    obtain ⟨x, hx⟩ := h.cr i
    obtain ⟨y, hy⟩ := k.cr i
    exact ⟨x ++ y, by rw [hy, hx, List.append_assoc]⟩

theorem releaseStop_released (s : State) (i : Nat) : Released s (releaseStop s i) := by
  unfold releaseStop
  extract_lets r
  split
  · exact .refl s
  · refine ⟨rfl, fun j => ?_, fun j => ?_⟩
    · rw [sr_setCr, sr_setSr]
      split
      · next h => obtain ⟨rfl, -⟩ := h; exact ⟨none, rfl⟩
      · exact ⟨_, rfl⟩
    · rw [cr_setCr]
      split
      · next h => obtain ⟨rfl, -⟩ := h; exact ⟨_, rfl⟩
      · exact (Released.refl s).cr j

theorem releaseStops_released (s : State) : Released s (releaseStops s) := by
  have hstep (s : State) (i : Nat) : Released s (if stopDue s i then releaseStop s i else s) := by
    split
    · exact releaseStop_released s i
    · exact .refl s
  have hfold (l : List Nat) (s : State) :
      Released s (l.foldl (fun s i => if stopDue s (i + 1) then releaseStop s (i + 1) else s) s) := by
    induction l generalizing s with
    | nil => exact .refl s
    | cons i l ih => exact (hstep s (i + 1)).trans (ih _)
  exact (hfold (List.range 31) s).trans (hstep _ 0)

/-! ### What follows from an end (R97) -/

/-- No operation of the tracker resets a ring. -/
def NoReset (s : State) : Prop := ∀ j p, s.op j = some p → p.aux = 1 → p.resets = none

theorem NoReset.resetDue (h : NoReset s) : resetDue s = none := by
  unfold Machine.resetDue
  rw [Option.map_eq_none_iff, List.find?_eq_none]
  intro q hq
  obtain ⟨j, -, hj⟩ := List.mem_filterMap.mp hq
  obtain ⟨p, hp, rfl⟩ := Option.map_eq_some_iff.mp hj
  by_cases ha : p.aux = 1
  · simp [h j p hp ha]
  · simp [ha]

theorem raiseKernelBits_eq (s : State) : ∃ x, raiseKernelBits s = s.setTurner x := by
  unfold raiseKernelBits
  extract_lets t
  split
  · exact ⟨s.turner, rfl⟩
  · exact ⟨_, rfl⟩

/-- Where no operation resets a ring, an end only answers invalidations, queues stop records and raises interrupts of KERNELs. -/
theorem settle_eq (h : NoReset s) : ∃ u x, Released (settleInvalidations s) u ∧ settle s = u.setTurner x := by
  have hrel := releaseStops_released (settleInvalidations s)
  have hno : NoReset (releaseStops (settleInvalidations s)) := by
    have hop (j : Nat) : (releaseStops (settleInvalidations s)).op j = s.op j := hrel.same.get fun s => s.op j
    intro j p hp
    exact h j p (hop j ▸ hp)
  obtain ⟨x, hx⟩ := raiseKernelBits_eq (releaseStops (settleInvalidations s))
  refine ⟨_, x, hrel, ?_⟩
  unfold settle
  extract_lets s1
  rw [hno.resetDue]
  exact hx

/-- A state without its rings, the host link and the Turner. -/
def State.unsettled (s : State) : State := { s.unringed with link := Reset.link, turner := Reset.turner }

theorem settle_unsettled (h : NoReset s) : Same State.unsettled s (settle s) := by
  obtain ⟨u, x, hu, e⟩ := settle_eq h
  rw [e]
  exact hu.same.weaken (f := State.unsettled)

theorem settle_sr (h : NoReset s) (i : Nat) : ∃ x, (settle s).sr i = { s.sr i with stopRecord := x } := by
  obtain ⟨u, x, hu, e⟩ := settle_eq h
  rw [e]
  exact hu.sr i

theorem settle_cr (h : NoReset s) (i : Nat) :
    ∃ more, (settle s).cr i = { s.cr i with waiting := (s.cr i).waiting ++ more } := by
  obtain ⟨u, x, hu, e⟩ := settle_eq h
  rw [e]
  exact hu.cr i

theorem settle_link (h : NoReset s) : (settle s).link = (settleInvalidations s).link := by
  obtain ⟨u, x, hu, e⟩ := settle_eq h
  rw [e]
  exact hu.same.get State.link

end Sys2Proof.Machine
end

section
/-! PROOF. The arbiter (O10). -/

set_option Elab.async false

namespace Sys2Proof.Machine
open Sys2Proof

variable {s : State} {k : Nat}

/-- The distance of ring j from the ring last granted, which comes last itself (R83). -/
def turnFrom (last j : Nat) : Nat := if last < j then j - last else j + 31 - last

theorem turnFrom_of_lt {last j : Nat} (h : last < j) : turnFrom last j = j - last := if_pos h

theorem turnFrom_of_le {last j : Nat} (h : j ≤ last) : turnFrom last j = j + 31 - last := if_neg (Nat.not_lt.mpr h)

/-- Whether a data ring may be granted at a priority level. -/
def candidate (s : State) (level k : Nat) : Bool := grantable s k && decide ((s.sr k).prio = level)

/-- The first of the rings SR1 to SR31 that satisfies p, if it is ring k. -/
theorem find?_dataRings {p : Nat → Bool} (hk : 1 ≤ k) (hk' : k < 32) (hp : p k = true)
    (hfirst : ∀ j, 1 ≤ j → j < k → p j = false) : ((List.range 31).map (· + 1)).find? p = some k := by
  rw [List.find?_map, List.find?_range_eq_some (i := k - 1) |>.mpr, Option.map_some, Nat.sub_add_cancel hk]
  refine ⟨?_, List.mem_range.mpr (by omega), fun j hj => ?_⟩
  · rw [Function.comp_apply, Nat.sub_add_cancel hk]; exact hp
  · rw [Function.comp_apply, hfirst (j + 1) (by omega) (by omega)]; rfl

theorem find?_dataRings_none {p : Nat → Bool} (h : ∀ j, 1 ≤ j → j < 32 → p j = false) :
    ((List.range 31).map (· + 1)).find? p = none := by
  rw [List.find?_eq_none]
  intro j hj
  obtain ⟨i, hi, rfl⟩ := List.mem_map.mp hj
  rw [h (i + 1) (by omega) (by rw [List.mem_range] at hi; omega)]
  exact Bool.false_ne_true

theorem pickLevel_eq (s : State) (level : Nat) : pickLevel s level =
    match ((List.range 31).map (· + 1)).find? fun k => candidate s level k && decide (vget s.queue.rr level 0 < k) with
    | some k => some k
    | none => ((List.range 31).map (· + 1)).find? (candidate s level) := by
  unfold pickLevel
  extract_lets cand last
  rw [List.head?_filter, List.find?_filter]
  simp only [Bool.decide_and, Bool.decide_eq_true]
  rfl

/-- A level at which no ring may be granted gives none. -/
theorem pickLevel_none {level : Nat} (h : ∀ j, 1 ≤ j → j < 32 → candidate s level j = false) : pickLevel s level = none := by
  rw [pickLevel_eq, find?_dataRings_none fun j h₁ h₂ => by rw [h j h₁ h₂, Bool.false_and]]
  exact find?_dataRings_none h

/-- At its level the ring is granted whose turn comes first. -/
theorem pickLevel_some {level : Nat} (hk : 1 ≤ k) (hk' : k < 32) (hc : candidate s level k = true)
    (hturn : ∀ j, 1 ≤ j → j < 32 → j ≠ k → candidate s level j = true →
      turnFrom (vget s.queue.rr level 0) k < turnFrom (vget s.queue.rr level 0) j) : pickLevel s level = some k := by
  rw [pickLevel_eq]
  generalize vget s.queue.rr level 0 = last at hturn
  by_cases hl : last < k
  · rw [find?_dataRings hk hk' (by rw [hc, decide_eq_true hl]; rfl)]
    intro j h₁ h₂
    cases hj : candidate s level j with
    | false => rfl
    | true =>
      refine decide_eq_false fun c => ?_
      have hlt := hturn j h₁ (by omega) (by omega) hj
      rw [turnFrom_of_lt hl, turnFrom_of_lt c] at hlt
      omega
  · have hkl : k ≤ last := Nat.not_lt.mp hl
    rw [find?_dataRings_none]
    · refine find?_dataRings hk hk' hc fun j h₁ h₂ => ?_
      by_contra hj
      have hlt := hturn j h₁ (by omega) (by omega) (Bool.not_eq_false _ ▸ hj)
      rw [turnFrom_of_le hkl, turnFrom_of_le (by omega)] at hlt
      omega
    · intro j h₁ h₂
      cases hj : candidate s level j with
      | false => rfl
      | true =>
        refine decide_eq_false fun c => ?_
        have hlt := hturn j h₁ h₂ (by omega) hj
        rw [turnFrom_of_le hkl, turnFrom_of_lt c] at hlt
        omega

/-- The first level of a falling list of levels at which f gives something. -/
theorem findSome?_falling {α : Type} {f : Nat → Option α} {x : α} {p : Nat} : ∀ {l : List Nat}, l.Pairwise (· > ·) → p ∈ l →
    f p = some x → (∀ q, p < q → f q = none) → l.findSome? f = some x
  | q :: l, hl, hp, hx, hn => by
    rcases List.mem_cons.mp hp with rfl | hp
    · rw [List.findSome?_cons, hx]
    · rw [List.findSome?_cons, hn q (List.rel_of_pairwise_cons hl hp)]
      exact findSome?_falling hl.of_cons hp hx hn

/-- The arbiter takes SR0 first, and else the ring of the highest level whose turn comes first (R83). -/
theorem pickRing_eq {k : Fin 32} (hg : grantable s k = true) (hp : (s.sr k).prio ≤ 7)
    (h : k = 0 ∨ (grantable s 0 = false ∧ ∀ j : Fin 32, j ≠ 0 → j ≠ k → grantable s j = true →
      (s.sr j).prio < (s.sr k).prio ∨ ((s.sr j).prio = (s.sr k).prio ∧
        turnFrom (vget s.queue.rr (s.sr k).prio 0) k < turnFrom (vget s.queue.rr (s.sr k).prio 0) j))) :
    pickRing s = some k.val := by
  by_cases hk0 : k = 0
  · subst hk0; exact if_pos hg
  · obtain ⟨h0, hj⟩ := h.resolve_left hk0
    have hk1 : 1 ≤ k.val := Nat.one_le_iff_ne_zero.mpr fun c => hk0 (Fin.ext c)
    have other (j : Nat) (h₁ : 1 ≤ j) (h₂ : j < 32) (hne : j ≠ k.val) := hj ⟨j, h₂⟩
      (fun c => absurd (congrArg Fin.val c) (by simp only [Fin.val_zero]; omega)) (fun c => hne (congrArg Fin.val c))
    have hmem : (s.sr k).prio ∈ [7, 6, 5, 4, 3, 2, 1, 0] := by
      simp only [List.mem_cons, List.not_mem_nil, or_false]; omega
    rw [pickRing, if_neg (Bool.eq_false_iff.mp h0)]
    refine findSome?_falling (by decide) hmem (pickLevel_some hk1 k.isLt ?_ ?_) fun q hq => pickLevel_none ?_
    · rw [candidate, hg, decide_eq_true rfl]; rfl
    · intro j h₁ h₂ hne hc
      simp only [candidate, Bool.and_eq_true, decide_eq_true_eq] at hc
      rcases other j h₁ h₂ hne hc.1 with hlt | ⟨-, ht⟩
      · exact absurd hc.2 hlt.ne
      · exact ht
    · intro j h₁ h₂
      by_cases hne : j = k.val
      · rw [candidate, hne, decide_eq_false hq.ne, Bool.and_false]
      · cases hc : grantable s j with
        | false => rw [candidate, hc, Bool.false_and]
        | true =>
          refine (congrArg _ (decide_eq_false fun c => ?_)).trans (Bool.and_false _)
          rcases other j h₁ h₂ hne hc with hlt | ⟨heq, -⟩
          · exact absurd (c ▸ hlt : q < _) (by omega)
          · exact absurd (c ▸ heq : q = _) hq.ne'

/-- The grant that ring k is given (R77). -/
def grantOf (s : State) (k : Nat) : Grant :=
  let r := s.sr k
  let n := min 8 (min (2 ^ r.log2 - r.head.toNat % 2 ^ r.log2) (room s k))
  { first := r.head, count := n, served := 0, shared := min n (sharedFree s), high := n - min n (sharedFree s), reading := false }

/-- A grant changes its ring and the round-robin pointers. -/
theorem grantRing_eq (s : State) (k : Nat) : ∃ rr,
    grantRing s k = (s.setQueue { s.queue with rr := rr }).setSr k { s.sr k with doorbell := false, grant := some (grantOf s k) } := by
  unfold grantRing
  extract_lets r n sh s1
  split
  · exact ⟨s.queue.rr, rfl⟩
  · exact ⟨vset s.queue.rr (s.sr k).prio k, rfl⟩

theorem exec_fetchGrant (hf : fetching s = true) (hk : pickRing s = some k) : exec .fetchGrant s = .next (grantRing s k) := by
  refine congrArg Host.Outcome.next ((if_pos hf).trans ?_)
  rw [hk]

theorem fetchGrant_grants {k : Fin 32} (hf : fetching s = true) (hk : pickRing s = some k.val) :
    ∃ t g, exec .fetchGrant s = .next t ∧ (t.sr k).grant = some g ∧ g.first = (s.sr k).head ∧ g.served = 0 ∧
      g.count = min 8 (min (2 ^ (s.sr k).log2 - (s.sr k).head.toNat % 2 ^ (s.sr k).log2) (room s k)) ∧
      g.reading = false ∧ (t.sr k).doorbell = false ∧ (∀ j < 32, j ≠ k.val → t.sr j = s.sr j) ∧
      t.queue.ops = s.queue.ops ∧ t.dev = s.dev ∧ t.host = s.host ∧ t.turner = s.turner := by
  obtain ⟨rr, e⟩ := grantRing_eq s k
  refine ⟨_, grantOf s k, (exec_fetchGrant hf hk).trans (congrArg _ e), ?_, rfl, rfl, rfl, rfl, ?_, ?_, rfl, rfl, rfl, rfl⟩
  · rw [sr_setSr_self k.isLt]
  · rw [sr_setSr_self k.isLt]
  · exact fun j _ hne => sr_setSr_ne (Ne.symm hne) _

end Sys2Proof.Machine
end

section
/-! PROOF. Forward scans and the reads of rings (O10). -/

set_option Elab.async false

namespace Sys2Proof.Machine
open Sys2Proof

variable {s t : State} {k : Fin 32} {g : Grant} {d : BitVec 512}

/-! ### Admission (R78, 04 R117) -/

/-- The state t is s once the descriptor d at HEAD of ring k has been admitted as an operation and the scan of the ring has ended. -/
def Admitted (s t : State) (k : Fin 32) (d : BitVec 512) : Prop :=
  ∃ e o, s.op e = none ∧ t.op e = some o ∧ o.sr = k.val ∧ o.seq = (s.sr k).head ∧ o.desc = d ∧
    (o.phase = .admitted ∨ o.phase = .started ∧ k ≠ 0 ∧ fld d 0 1 = 0) ∧ o.fetch = s.clocks.timebase ∧
    (t.sr k).head = (s.sr k).head + 1 ∧ (t.sr k).grant = none ∧
    (∀ j < 512, j ≠ e → t.op j = s.op j) ∧ ∀ j < 32, j ≠ k.val → t.sr j = s.sr j

/-- The entry d is ring k's, passes every check, and is the last position of a grant that has a tracker entry for it. -/
structure LastValid (s : State) (k : Fin 32) (g : Grant) (d : BitVec 512) : Prop where
  own : ownMatches (s.sr k) d = true
  checks : entryCheck s k d = none
  last : g.count = g.served + 1
  shared : 0 < g.shared
  free : ∃ e < 448, s.op e = none

theorem lastValid_of (h : d.getLsbD 8 = phaseOf (s.sr k).head (s.sr k).log2 ∧ entryCheck s k d = none ∧
    g.count = g.served + 1 ∧ 0 < g.shared ∧ ∃ e < 448, s.op e = none) : LastValid s k g d :=
  ⟨beq_iff_eq.mpr h.1, h.2.1, h.2.2.1, h.2.2.2.1, h.2.2.2.2⟩

/-- The operation as which the descriptor at HEAD of a ring is consumed. -/
def consumedOp (s : State) (k : Nat) (d : BitVec 512) : Op :=
  { sr := k, seq := (s.sr k).head, desc := d, fetch := s.clocks.timebase, order := s.queue.nextOrder, phase := .admitted, wait := 0
    progress := 0, aux := 0, target := none, degraded := 0, engine := 0, flush := [], flushOut := [], closing := none }

/-- An operation is admitted as it is, but for a NOP of a data ring, which may start (04 Table 4.10). -/
theorem admitOp_eq (s : State) (o : Op) : ∃ p, admitOp s o = { o with phase := p } ∧
    (p = o.phase ∨ p = .started ∧ o.sr ≠ 0 ∧ o.opcode = 0) := by
  unfold admitOp
  split
  · next h =>
    simp only [Bool.and_eq_true, decide_eq_true_eq] at h
    exact ⟨.started, rfl, .inr ⟨rfl, h.1.2, h.1.1⟩⟩
  · exact ⟨o.phase, rfl, .inl rfl⟩

theorem freeEntry_shared (h : ∃ e < 448, s.op e = none) : ∃ e < 448, s.op e = none ∧ freeEntry s 0 448 = some e := by
  obtain ⟨i, hi, ho⟩ := h
  cases hf : freeEntry s 0 448 with
  | none =>
    have := List.find?_eq_none.mp hf i (by simpa using hi)
    rw [ho] at this
    exact absurd rfl this
  | some e =>
    have hm : e ∈ List.range 448 := List.mem_of_find?_eq_some hf
    have hnone := List.find?_some (p := fun i => (s.op i).isNone) hf
    exact ⟨e, List.mem_range.mp hm, Option.isNone_iff_eq_none.mp hnone, rfl⟩

/-- The push slots of a ring once the entry at HEAD has been consumed. -/
def slotsConsumed (r : SubRing) : Vector (Option PushSlot) 4 :=
  vset r.push (r.head.toNat % 4) (match vget r.push (r.head.toNat % 4) none with
    | some p => if p.position = r.head then none else some p
    | none => none)

/-- The state once entry e has taken the descriptor at HEAD of ring k under a shared reservation. -/
def consumedInto (s : State) (e k : Nat) (g : Grant) (d : BitVec 512) : State :=
  let s1 := s.setOp e (some (admitOp s (consumedOp s k d)))
  (s1.setQueue { s1.queue with nextOrder := s.queue.nextOrder + 1 }).setSr k { s.sr k with
    head := (s.sr k).head + 1, push := slotsConsumed (s.sr k)
    grant := some { g with served := g.served + 1, shared := g.shared - 1 } }

/-- A descriptor is consumed into a free entry. -/
theorem consume_shared (k : Nat) (hs : 0 < g.shared) (hf : ∃ e < 448, s.op e = none) (d : BitVec 512) :
    ∃ e < 448, s.op e = none ∧ consume s k g d = consumedInto s e k g d := by
  obtain ⟨e, he, ho, hfree⟩ := freeEntry_shared hf
  refine ⟨e, he, ho, ?_⟩
  unfold consume
  extract_lets r useShared entry
  have hu : useShared = true := decide_eq_true hs
  have hentry : entry = some e := by dsimp only [entry]; rw [hu]; exact hfree
  rw [hentry, hu]
  rfl

theorem consumedInto_op_self (e k : Nat) (g : Grant) (d : BitVec 512) (h : e < 512) :
    (consumedInto s e k g d).op e = some (admitOp s (consumedOp s k d)) := op_setOp_self h _

theorem consumedInto_op_ne {e j : Nat} (k : Nat) (g : Grant) (d : BitVec 512) (h : j ≠ e) :
    (consumedInto s e k g d).op j = s.op j := op_setOp_ne (Ne.symm h) _

theorem consumedInto_sr_self (e : Nat) {k : Nat} (g : Grant) (d : BitVec 512) (h : k < 32) :
    (consumedInto s e k g d).sr k = { s.sr k with
      head := (s.sr k).head + 1, push := slotsConsumed (s.sr k)
      grant := some { g with served := g.served + 1, shared := g.shared - 1 } } := sr_setSr_self h _

theorem consumedInto_sr_ne (e : Nat) {j k : Nat} (g : Grant) (d : BitVec 512) (h : j ≠ k) :
    (consumedInto s e k g d).sr j = s.sr j := sr_setSr_ne (Ne.symm h) _

/-! ### The end of a scan (R71, R76) -/

theorem endScan_op (s : State) (k : Nat) (g : Grant) (full : Bool) (j : Nat) : (endScan s k g full).op j = s.op j := by
  unfold endScan
  extract_lets r s1
  split
  · exact (writeStatusLine_unlined s1 k).get fun s => s.op j
  · rfl

theorem endScan_sr_ne (s : State) {j k : Nat} (g : Grant) (full : Bool) (h : j ≠ k) : (endScan s k g full).sr j = s.sr j := by
  unfold endScan
  extract_lets r s1
  split
  · rw [writeStatusLine_sr_ne s1 h]; exact sr_setSr_ne (Ne.symm h) _
  · exact sr_setSr_ne (Ne.symm h) _

theorem endScan_sr_self (s : State) {k : Nat} (g : Grant) (full : Bool) (h : k < 32) :
    ((endScan s k g full).sr k).head = (s.sr k).head ∧ ((endScan s k g full).sr k).grant = none := by
  unfold endScan
  extract_lets r s1
  have h1 : s1.sr k = { s.sr k with
    grant := none, doorbell := r.doorbell || full
    eligibleAt := if full && !r.doorbell then s.clocks.timebase + 1 else r.eligibleAt } := sr_setSr_self h _
  split
  · obtain ⟨p, l, -, e⟩ := writeStatusLine_sr_self s1 h
    rw [e, h1]
    exact ⟨rfl, rfl⟩
  · rw [h1]
    exact ⟨rfl, rfl⟩

/-- The last position of a grant is admitted, and its scan ends. -/
theorem consume_endScan_admitted (h : LastValid s k g d) (g' : Grant) (full : Bool) :
    Admitted s (endScan (consume s k g d) k g' full) k d := by
  obtain ⟨e, he, ho, hc⟩ := consume_shared k.val h.shared h.free d
  obtain ⟨p, hp, hphase⟩ := admitOp_eq s (consumedOp s k d)
  have he' : e < 512 := Nat.lt_trans he (by decide)
  rw [hc]
  obtain ⟨hhead, hgrant⟩ := endScan_sr_self (consumedInto s e k g d) g' full k.isLt
  refine ⟨e, { consumedOp s k d with phase := p }, ho, ?_, rfl, rfl, rfl, ?_, rfl, ?_, hgrant, fun j _ hj => ?_, fun j _ hj => ?_⟩
  · rw [endScan_op, consumedInto_op_self e k g d he', hp]
  · exact hphase.imp id fun ⟨hs, hk, hd⟩ => ⟨hs, fun c => hk (congrArg Fin.val c), hd⟩
  · rw [hhead, consumedInto_sr_self e g d k.isLt]
  · rw [endScan_op, consumedInto_op_ne k g d hj]
  · rw [endScan_sr_ne _ _ _ hj, consumedInto_sr_ne e g d hj]

/-- The grant that is left once a descriptor has been consumed under it. -/
theorem consume_grant (h : LastValid s k g d) :
    ∃ g', ((consume s k g d).sr k).grant = some g' ∧ g'.count = g.count ∧ g'.served = g.served + 1 := by
  obtain ⟨e, -, -, hc⟩ := consume_shared k.val h.shared h.free d
  exact ⟨{ g with served := g.served + 1, shared := g.shared - 1 }, by rw [hc, consumedInto_sr_self e g d k.isLt], rfl, rfl⟩

/-! ### FORWARD_SCAN (R76, R77, R81) -/

theorem exec_forwardScan (hf : fetching s = true) (hg : (s.sr k).grant = some g) (hr : g.reading = false) :
    exec (.forwardScan k) s = .next (scanSlots 9 s k) := by
  refine congrArg Host.Outcome.next ?_
  rw [hg]
  exact if_pos (by rw [hf, hr]; rfl)

/-- The push slot in which the entry at HEAD of a ring would stand. -/
def headSlot (r : SubRing) : Option PushSlot := vget r.push (r.head.toNat % 4) none

theorem headSlot_eq (r : SubRing) : r.push[r.head.toNat % 4]? = some (headSlot r) := by
  have h : r.head.toNat % 4 < 4 := Nat.mod_lt _ (by decide)
  rw [headSlot, vget, Vector.getElem?_eq_getElem h]
  rfl

/-- A position with no push slot bound to it needs the grant's read. -/
theorem scanSlots_read (n : Nat) (hg : (s.sr k).grant = some g) (hs : g.served < g.count)
    (hp : ∀ p, headSlot (s.sr k) = some p → p.position ≠ (s.sr k).head) : scanSlots (n + 1) s k = startRead s k g := by
  unfold scanSlots
  extract_lets r
  rw [show r.grant = some g from hg]
  refine (if_neg (Nat.not_le.mpr hs)).trans ?_
  change (match headSlot (s.sr k) with | some p => _ | none => _) = _
  cases hslot : headSlot (s.sr k) with
  | none => rfl
  | some p => exact if_neg (hp p hslot)

/-- A scan whose grant has no position left ends. -/
theorem scanSlots_end (n : Nat) (hg : (s.sr k).grant = some g) (hs : g.count ≤ g.served) :
    scanSlots (n + 1) s k = endScan s k g true := by
  unfold scanSlots
  extract_lets r
  rw [show r.grant = some g from hg]
  exact if_pos hs

/-- A position served from its push slot is consumed, and the scan goes on. -/
theorem scanSlots_slot (n : Nat) (hg : (s.sr k).grant = some g)
    (hp : headSlot (s.sr k) = some { position := (s.sr k).head, copy := d }) (h : LastValid s k g d) :
    scanSlots (n + 1) s k = scanSlots n (consume s k g d) k := by
  have hs : ¬g.count ≤ g.served := by have := h.last; omega
  have hp' : vget (s.sr k).push ((s.sr k).head.toNat % 4) none = _ := hp
  rw [scanSlots]
  simp only [hg, hs, hp', h.own, h.checks, if_false, if_true]

theorem forwardScan_admits (hf : fetching s = true) (hg : (s.sr k).grant = some g) (hr : g.reading = false)
    (hp : headSlot (s.sr k) = some { position := (s.sr k).head, copy := d }) (h : LastValid s k g d) :
    ∃ t, exec (.forwardScan k) s = .next t ∧ Admitted s t k d := by
  obtain ⟨g', hg', hc, hs⟩ := consume_grant h
  refine ⟨_, exec_forwardScan hf hg hr, ?_⟩
  rw [scanSlots_slot 8 hg hp h, scanSlots_end 7 hg' (by rw [hc, hs, h.last])]
  exact consume_endScan_admitted h g' true

theorem forwardScan_reads (hf : fetching s = true) (hg : (s.sr k).grant = some g) (hs : g.served < g.count)
    (hr : g.reading = false) (hout : readsOut s < 16)
    (hroom : s.inRegion (s.sr k).base.toNat 1 .kernels = true ∨ nonPosted s < 1024)
    (hp : ∀ p, headSlot (s.sr k) = some p → p.position ≠ (s.sr k).head) :
    exec (.forwardScan k) s = .next (s.setSr k { s.sr k with grant := some { g with reading := true } }) := by
  rw [exec_forwardScan hf hg hr, scanSlots_read 8 hg hs hp]
  exact congrArg Host.Outcome.next (if_pos ⟨hout, hroom⟩)

/-! ### RING_READ_RETURN (R77, R81) -/

/-- The device address of the entry at HEAD of a ring. -/
def headAddr (r : SubRing) : Nat := r.base.toNat + 64 * (r.head.toNat % 2 ^ r.log2)

/-- The entry that memory holds at HEAD of a ring. -/
def headEntry (s : State) (r : SubRing) : BitVec 512 := BitVec.ofNat 512 (s.dev.readLE (headAddr r) 64)

/-- The entry at HEAD of a ring is a free line of HBM that bears no mark. -/
structure HeadReadable (s : State) (r : SubRing) : Prop where
  region : s.inRegion (headAddr r) 64 .kernels = true
  aligned : headAddr r % 64 = 0
  free : LineFree s (headAddr r / 64)
  clean : s.poisoned (headAddr r) = false

theorem busReadAll_line {ag : Agent} {a : Nat} (hr : Region.kernels ∈ ag.reach) (he : ag.ecc = [])
    (ha : s.inRegion a 64 .kernels = true) (hal : a % 64 = 0) (hf : LineFree s (a / 64)) (hp : s.poisoned a = false) :
    busReadAll s ag a 64 = .ok (s.dev.readN a 64) s := by
  have hpart : linePart a 64 = 64 := by rw [linePart, hal]; rfl
  have hdone : busReadN 2 s ag (a + 64) (64 - 64) = .ok [] s := if_pos rfl
  change busReadN 3 s ag a 64 = _
  rw [busReadN, if_neg (by decide)]
  simp only [hpart, busRead_free hr he ha hf hp, hdone, List.append_nil]

theorem exec_ringReadReturn (hf : fetching s = true) (hg : (s.sr k).grant = some g) (hr : g.reading = true)
    (hl : g.count = g.served + 1) (hread : HeadReadable s (s.sr k)) :
    exec (.ringReadReturn k false) s = .next (settleInvalidations (scanData [headEntry s (s.sr k)] s k)) := by
  have hbus := busReadAll_line (ag := ringAgent (.scan k g.first) (if k = 0 then none else some (s.sr k).pasid) 0x5010)
    List.mem_cons_self rfl hread.region hread.aligned hread.free hread.clean
  have htake : (s.dev.readN (headAddr (s.sr k)) 64).take 64 = s.dev.readN (headAddr (s.sr k)) 64 :=
    List.take_of_length_le (Memory.length_readN _ _ _).le
  have hn : g.count - g.served = 1 := by omega
  refine congrArg Host.Outcome.next ?_
  rw [hg]
  refine (if_neg (by rw [hf, hr]; decide)).trans (congrArg settleInvalidations ((if_neg Bool.false_ne_true).trans ?_))
  rw [hn]
  change (match busReadAll s _ (headAddr (s.sr k)) 64 with | .ok bs s1 => _ | .wait s1 => _ | .fail _ _ s1 => _) = _
  rw [hbus]
  change scanData [BitVec.ofNat 512 (bytesToNat (List.take 64 _))] s k = _
  rw [htake]
  rfl

theorem settleInvalidations_admitted (h : Admitted s t k d) : Admitted s (settleInvalidations t) k d := h

/-- An entry read in its turn is admitted. -/
theorem scanData_admits (hg : (s.sr k).grant = some g) (h : LastValid s k g d) : Admitted s (scanData [d] s k) k d := by
  obtain ⟨g', hg', -, -⟩ := consume_grant h
  have e : scanData [d] s k = endScan (consume s k g d) k g' true := by
    simp only [scanData, hg, h.own, h.checks, hg', if_true]
  rw [e]
  exact consume_endScan_admitted h g' true

/-- An entry that is not the ring's yet ends the scan. -/
theorem scanData_ends (hg : (s.sr k).grant = some g) (hown : d.getLsbD 8 ≠ phaseOf (s.sr k).head (s.sr k).log2)
    (hs : g.served = 0) : scanData [d] s k = s.setSr k { s.sr k with grant := none } := by
  have ho : ownMatches (s.sr k) d = false := beq_eq_false_iff_ne.mpr hown
  simp only [scanData, hg, ho, endScan, hs, Bool.or_false, Bool.false_and, Bool.false_eq_true, Nat.lt_irrefl, if_false]

/-! ### A stop at HEAD (R95, R96) -/

/-- Ring k stopped at HEAD, before its status line is written. -/
def stoppedAtHead (s : State) (k : Nat) (reason : Byte) (tag : W32) : State :=
  let s1 := s.setSr k { s.sr k with
    stopped := true, stopSeq := (s.sr k).head, reason := reason, grant := none, stopRecord := some (malformedCpl s k reason tag) }
  s1.setQueue { s1.queue with stoppedRings := s1.queue.stoppedRings ||| BitVec.twoPow 32 k }

theorem stopRing_data (s : State) {k : Nat} (hk : k ≠ 0) (reason : Byte) (tag : W32) : stopRing s k reason tag =
    settle (deviceEvent (writeStatusLine (stoppedAtHead s k reason tag) k) 1) := if_neg hk

theorem deviceEvent_sr (s : State) (b j : Nat) : (deviceEvent s b).sr j = s.sr j :=
  (deviceEvent_unsignalled s b).get fun s => s.sr j

theorem deviceEvent_ops (s : State) (b : Nat) : (deviceEvent s b).queue.ops = s.queue.ops :=
  (deviceEvent_unsignalled s b).get fun s => s.queue.ops

theorem NoReset.congr (h : NoReset s) (ho : t.queue.ops = s.queue.ops) : NoReset t := fun j p hp =>
  h j p (by rw [State.op, ho] at hp; exact hp)

/-- A data ring that stops does so at HEAD; the event is raised, and the operations stay. -/
theorem stopRing_stops (s : State) {k : Nat} (h0 : k ≠ 0) (hk : k < 32) (hno : NoReset s) (reason : Byte) (tag : W32) :
    let t := stopRing s k reason tag
    (t.sr k).stopped = true ∧ (t.sr k).reason = reason ∧ (t.sr k).stopSeq = (s.sr k).head ∧ (t.sr k).head = (s.sr k).head ∧
      (t.sr k).grant = none ∧ t.queue.stoppedRings.getLsbD k = true ∧ t.queue.event.getLsbD 1 = true ∧
      t.queue.ops = s.queue.ops := by
  have hline := writeStatusLine_unlined (stoppedAtHead s k reason tag) k
  have hevent := deviceEvent_unsignalled (writeStatusLine (stoppedAtHead s k reason tag) k) 1
  have hops : (deviceEvent (writeStatusLine (stoppedAtHead s k reason tag) k) 1).queue.ops = s.queue.ops :=
    (deviceEvent_ops _ _).trans (hline.get fun s => s.queue.ops)
  have hsettle := settle_unsettled (hno.congr hops)
  obtain ⟨x, hx⟩ := settle_sr (hno.congr hops) k
  obtain ⟨p, l, -, hl⟩ := writeStatusLine_sr_self (stoppedAtHead s k reason tag) hk
  have hsr : (stoppedAtHead s k reason tag).sr k = { s.sr k with
    stopped := true, stopSeq := (s.sr k).head, reason := reason, grant := none
    stopRecord := some (malformedCpl s k reason tag) } := sr_setSr_self hk _
  rw [deviceEvent_sr, hl, hsr] at hx
  intro t
  have ht : t = _ := stopRing_data s h0 reason tag
  rw [ht, hx]
  refine ⟨rfl, rfl, rfl, rfl, rfl, ?_, ?_, (hsettle.get fun s => s.queue.ops).trans hops⟩
  · rw [hsettle.get fun s => s.queue.stoppedRings, hevent.get fun s => s.queue.stoppedRings,
      hline.get fun s => s.queue.stoppedRings]
    change (s.queue.stoppedRings ||| BitVec.twoPow 32 k).getLsbD k = true
    rw [BitVec.getLsbD_or, BitVec.getLsbD_twoPow, decide_eq_true hk, decide_eq_true rfl]
    exact Bool.or_true _
  · rw [hsettle.get fun s => s.queue.event, deviceEvent_event _ _ _ (by decide), decide_eq_true rfl, Bool.or_true]

theorem exec_ringReadReturn_failed (hf : fetching s = true) (hg : (s.sr k).grant = some g) (hr : g.reading = true) :
    exec (.ringReadReturn k true) s = .next (settleInvalidations (stopRing
      (faultEvent s 0x5010 2 (BitVec.ofNat 64 (headAddr (s.sr k)))) k 0x08 0)) := by
  refine congrArg Host.Outcome.next ?_
  rw [hg]
  exact (if_neg (by rw [hf, hr]; decide)).trans (congrArg settleInvalidations (if_pos rfl))

theorem faultEvent_queue (s : State) (loc : W16) (sev : Nat) (addr : W64) : (faultEvent s loc sev addr).queue = s.queue := rfl

theorem ringReadReturn_failed_stops (hf : fetching s = true) (hg : (s.sr k).grant = some g) (hr : g.reading = true) (h0 : k ≠ 0)
    (hno : NoReset s) :
    ∃ t, exec (.ringReadReturn k true) s = .next t ∧ (t.sr k).stopped = true ∧ (t.sr k).reason = 0x08 ∧
      (t.sr k).stopSeq = (s.sr k).head ∧ (t.sr k).head = (s.sr k).head ∧ (t.sr k).grant = none ∧
      t.queue.stoppedRings.getLsbD k = true ∧ t.queue.event.getLsbD 1 = true ∧ t.queue.ops = s.queue.ops := by
  refine ⟨_, exec_ringReadReturn_failed hf hg hr, ?_⟩
  have hq := faultEvent_queue s 0x5010 2 (BitVec.ofNat 64 (headAddr (s.sr k)))
  generalize faultEvent s 0x5010 2 (BitVec.ofNat 64 (headAddr (s.sr k))) = u at hq
  have hsr : u.sr k = s.sr k := by rw [State.sr, hq]; rfl
  have h := stopRing_stops u (fun c => h0 (Fin.ext c)) k.isLt (hno.congr (congrArg Queue.ops hq)) 0x08 0
  rw [hsr, hq] at h
  exact h

/-! ### The statement -/

/-- Settles O10. The arbiter's order is `pickRing_eq`; an entry is admitted alike from a push slot and from memory
(`consume_endScan_admitted`); a failed read stops the ring (`stopRing_stops`). -/
theorem fetchingServesTheRings : Obligations.FetchingServesTheRings := by
  unfold Obligations.FetchingServesTheRings
  refine ⟨fun s k hf hg hp hturn => fetchGrant_grants hf (pickRing_eq hg hp hturn), fun s k g hf hg hs => ?_⟩
  intro r admitted valid
  refine ⟨fun hr hout hroom => ⟨fun hslot => ?_, fun d hslot hv => ?_⟩, fun hr hl => ?_⟩
  · exact forwardScan_reads hf hg hs hr hout hroom fun p hp => hslot p (by rw [headSlot_eq]; exact congrArg some hp)
  · exact forwardScan_admits hf hg hr (Option.some.inj ((headSlot_eq _).symm.trans hslot)) (lastValid_of hv)
  · intro at_ d
    refine ⟨fun ha hal hfree hclean => ?_, fun halone h0 => ?_⟩
    · have hexec := exec_ringReadReturn hf hg hr hl ⟨ha, hal, hfree, hclean⟩
      refine ⟨fun hv => ⟨_, hexec, ?_⟩, fun hown h1 => ?_⟩
      · exact settleInvalidations_admitted (scanData_admits hg (lastValid_of hv))
      · exact hexec.trans (congrArg (fun x => Host.Outcome.next (settleInvalidations x)) (scanData_ends hg hown h1))
    · exact ringReadReturn_failed_stops hf hg hr h0 halone.resets

end Sys2Proof.Machine
end

section
/-! PROOF. Vectors: the coalescing of a ring's messages and their unmasking (O11). -/

set_option Elab.async false

namespace Sys2Proof.Machine
open Sys2Proof

variable {s t : State} {cr : Nat}

/-! ### Messages (R92) -/

/-- A state without the messages sent and the pending bits of the vectors. -/
def State.unmessaged (s : State) : State := { s with link := { s.link with sent := [], pba := 0 } }

theorem sendVector_unmessaged (s : State) (v : Nat) : Same State.unmessaged s (sendVector s v) := by
  unfold sendVector; exact .ite rfl rfl

/-- A vector goes out, or is held in the PBA. -/
theorem sendVector_sent (s : State) (v : Nat) : (∃ a d, HostMsg.msix v a d ∈ (sendVector s v).link.sent) ∨
    (v < 64 → (sendVector s v).link.pba.getLsbD v = true) := by
  unfold sendVector
  extract_lets e
  split
  · exact .inl ⟨e.addr, e.data, List.mem_append_right _ List.mem_cons_self⟩
  · refine .inr fun h => ?_
    change (s.link.pba ||| BitVec.twoPow 64 v).getLsbD v = true
    rw [BitVec.getLsbD_or, BitVec.getLsbD_twoPow, decide_eq_true h, decide_eq_true rfl]
    exact Bool.or_true _

theorem sendVector_sent_length (s : State) (v : Nat) : (sendVector s v).link.sent.length ≤ s.link.sent.length + 1 := by
  unfold sendVector
  extract_lets e
  split
  · exact (List.length_append (as := s.link.sent)).le
  · exact Nat.le_succ _

/-! ### The vector of a completion ring (R91) -/

/-- Whether ring j takes part when ring cr's vector goes out: it is ring cr, or shares its vector and asks for it. -/
def takesPart (s : State) (cr j : Nat) : Prop :=
  j = cr ∨ ((s.cr j).exists_ = true ∧ (s.cr j).vector = (s.cr cr).vector ∧ vectorDue s (s.cr j) = true)

/-- PENDING of ring j is reset if ring j has vector v and asks for it, or is ring cr. -/
def resetPending (cr v : Nat) (s : State) (j : Nat) : State :=
  if j = cr ∨ ((s.cr j).exists_ ∧ (s.cr j).vector = v ∧ vectorDue s (s.cr j)) then
    s.setCr j { s.cr j with pendingMsgs := 0 }
  else s

/-- PENDING is reset of every ring for which ring cr's vector goes out. -/
def pendingReset (s : State) (cr : Nat) : State := (List.range 32).foldl (resetPending cr (s.cr cr).vector) s

theorem sendRingVector_eq (s : State) (cr : Nat) : sendRingVector s cr = sendVector (pendingReset s cr) (s.cr cr).vector := rfl

/-- A state without its completion rings. -/
def State.uncompleting (s : State) : State := { s with queue := { s.queue with cr := Reset.queue.cr } }

theorem resetPending_uncompleting (cr v : Nat) (s : State) (j : Nat) : Same State.uncompleting s (resetPending cr v s j) :=
  .ite rfl rfl

theorem resetPending_cr_ne (cr v : Nat) (s : State) {i j : Nat} (h : i ≠ j) : (resetPending cr v s j).cr i = s.cr i := by
  unfold resetPending
  split
  · exact cr_setCr_ne (Ne.symm h) _
  · rfl

theorem pendingReset_uncompleting (s : State) (cr : Nat) : Same State.uncompleting s (pendingReset s cr) :=
  .foldl (resetPending_uncompleting cr _) _ s

theorem pendingReset_cr {j : Nat} (hj : j < 32) :
    (takesPart s cr j → (pendingReset s cr).cr j = { s.cr j with pendingMsgs := 0 }) ∧
    (¬takesPart s cr j → (pendingReset s cr).cr j = s.cr j) := by
  obtain ⟨u, hu, hcr, e⟩ := foldl_range_of_lt (g := State.cr) (resetPending_uncompleting cr (s.cr cr).vector)
    (fun u i j h => resetPending_cr_ne cr _ u h) s hj
  have hdue : vectorDue u (s.cr j) = vectorDue s (s.cr j) := hu.get fun s' => vectorDue s' (s.cr j)
  rw [pendingReset, e, resetPending, hcr, hdue]
  exact ⟨fun h => (congrArg (fun u : State => u.cr j) (if_pos h)).trans (cr_setCr_self hj _),
    fun h => (congrArg (fun u : State => u.cr j) (if_neg h)).trans hcr⟩

/-- Where no other ring takes part, PENDING of ring cr alone is reset. -/
theorem pendingReset_alone (hcr : cr < 32) (h : ∀ j < 32, j ≠ cr → ¬takesPart s cr j) :
    pendingReset s cr = s.setCr cr { s.cr cr with pendingMsgs := 0 } := by
  have hself : resetPending cr (s.cr cr).vector s cr = s.setCr cr { s.cr cr with pendingMsgs := 0 } := if_pos (.inl rfl)
  refine (foldl_of_only List.nodup_range (List.mem_range.mpr hcr) (fun j hj hne => ?_) fun j hj hne => ?_).trans hself
  · exact if_neg (h j (List.mem_range.mp hj) hne)
  · rw [hself, resetPending, cr_setCr_ne (Ne.symm hne)]
    exact if_neg (h j (List.mem_range.mp hj) hne)

theorem vectorDue_iff (s : State) (r : CplRing) : vectorDue s r = true ↔
    (r.count ≠ 0 ∧ r.count ≤ r.pendingMsgs) ∨ (r.time ≠ 0 ∧ 0 < r.pendingMsgs ∧ r.time * 1024 ≤ s.now - r.oldest.toNat) := by
  simp only [vectorDue, Bool.or_eq_true, Bool.and_eq_true, decide_eq_true_eq, and_assoc]

theorem sendRingVector_cr (s : State) (cr j : Nat) : (sendRingVector s cr).cr j = (pendingReset s cr).cr j :=
  (sendVector_unmessaged _ _).get fun s => s.cr j

/-! ### MSIX_COALESCE_TIMER -/

theorem exec_msixCoalesceTimer (s : State) (cr : Fin 32) : exec (.msixCoalesceTimer cr) s = .next
    (if s.running = true ∧ (s.cr cr).exists_ = true ∧ vectorDue s (s.cr cr) = true then sendRingVector s cr else s) := rfl

/-- Ring j is another ring that shares ring cr's vector and asks for it. -/
def SharesVector (s : State) (cr j : Fin 32) : Prop :=
  j ≠ cr ∧ (s.cr j).exists_ = true ∧ (s.cr j).vector = (s.cr cr).vector ∧ vectorDue s (s.cr j) = true

theorem takesPart_iff (s : State) (cr j : Fin 32) : takesPart s cr j ↔ SharesVector s cr j ∨ j = cr := by
  unfold takesPart SharesVector
  rw [Fin.ext_iff]
  by_cases h : j = cr
  · exact iff_of_true (.inl (congrArg _ h)) (.inr (congrArg _ h))
  · have h' : j.val ≠ cr.val := fun c => h (Fin.ext c)
    simp only [h, h', ne_eq, not_false_eq_true, true_and, false_or, or_false]

/-- A vector that is due goes out once for all rings that share it and ask for it. -/
theorem sendRingVector_shared (s : State) (cr : Fin 32) :
    ((∀ j, ¬SharesVector s cr j) →
      sendRingVector s cr = sendVector (s.setCr cr { s.cr cr with pendingMsgs := 0 }) (s.cr cr).vector) ∧
    (∀ j, SharesVector s cr j ∨ j = cr → ((sendRingVector s cr).cr j).pendingMsgs = 0) ∧
    (∀ j : Fin 32, ¬SharesVector s cr j → j ≠ cr → (sendRingVector s cr).cr j = s.cr j) ∧
    (sendRingVector s cr).link.sent.length ≤ s.link.sent.length + 1 := by
  refine ⟨fun h => ?_, fun j h => ?_, fun j h hne => ?_, ?_⟩
  · rw [sendRingVector_eq, pendingReset_alone cr.isLt]
    exact fun j hj hne c => ((takesPart_iff s cr ⟨j, hj⟩).mp c).elim (h _) fun e => hne (congrArg Fin.val e)
  · rw [sendRingVector_cr, (pendingReset_cr j.isLt).1 ((takesPart_iff s cr j).mpr h)]
  · rw [sendRingVector_cr, (pendingReset_cr j.isLt).2 fun c => ((takesPart_iff s cr j).mp c).elim h hne]
  · have hl : (pendingReset s cr).link = s.link := (pendingReset_uncompleting s cr).get State.link
    rw [sendRingVector_eq, ← hl]
    exact sendVector_sent_length _ _

/-! ### MSIX_VECTOR_UNMASK (R92) -/

/-- The host link once a vector or the function is unmasked, or MSI-X Enable set. -/
def unmaskedLink (l : Link) : MsixChange → Link
  | .vector w => { l with msix := l.msix.set w { l.msix[w] with mask := false } }
  | .function => { l with cfg := { l.cfg with msixMask := false } }
  | .enable => { l with cfg := { l.cfg with msixEnable := true } }

theorem exec_msixVectorUnmask (what : MsixChange) (hr : s.running = true) (hu : s.link.up = true)
    (hv : ∀ w, what = .vector w → s.link.cfg.memEnable = true ∧ s.link.cfg.d3hot = false) :
    exec (.msixVectorUnmask what) s = .next (sendPendingVectors (s.setLink (unmaskedLink s.link what))) := by
  have hlive : (!(s.running && s.link.up)) = false := by rw [hr, hu]; rfl
  cases what with
  | vector w =>
    obtain ⟨hm, hd⟩ := hv w rfl
    have hbar : (!barReachable s) = false := by rw [barReachable, hr, hu, hm, hd]; rfl
    have hlink : unmaskedLink s.link (.vector w) = { s.link with
        msix := vset s.link.msix w { vget s.link.msix w { addr := 0, data := 0, mask := true } with mask := false } } := by
      rw [vset_eq_set _ _ _ w.isLt, vget_eq_getElem _ _ _ w.isLt]; rfl
    rw [hlink]
    exact congrArg Host.Outcome.next (if_neg (Bool.eq_false_iff.mp hbar))
  | function => exact congrArg Host.Outcome.next (if_neg (Bool.eq_false_iff.mp hlive))
  | enable => exact congrArg Host.Outcome.next (if_neg (Bool.eq_false_iff.mp hlive))

/-- A pending vector that may go is sent. -/
def sendPending (s : State) (v : Nat) : State :=
  if s.link.pba.getLsbD v then sendVector (s.setLink { s.link with pba := s.link.pba &&& ~~~(BitVec.twoPow 64 v) }) v else s

theorem sendPending_of_not {v : Nat} (h : s.link.pba.getLsbD v = false) : sendPending s v = s :=
  if_neg (Bool.eq_false_iff.mp h)

theorem twoPow_getLsbD_ne {v j : Nat} (h : j ≠ v) : (BitVec.twoPow 64 v).getLsbD j = false := by
  rw [BitVec.getLsbD_twoPow, decide_eq_false (Ne.symm h), Bool.and_false]

theorem sendVector_eq (s : State) (v : Fin 64) : sendVector s v =
    if (s.link.cfg.msixEnable && !s.link.cfg.msixMask && !s.link.msix[v].mask && hostReachable s) = true then
      sendHost s (.msix v s.link.msix[v].addr s.link.msix[v].data)
    else s.setLink { s.link with pba := s.link.pba ||| BitVec.twoPow 64 v } := by
  unfold sendVector
  rw [vget_eq_getElem _ _ _ v.isLt]
  rfl

/-- Whether the function can send messages: Bus Master Enable, D0, no Recovery under way. -/
def Link.maySend (l : Link) : Bool := l.cfg.busMaster && !l.cfg.d3hot && !l.recovery

/-- A vector alone pending that nothing masks is sent, where the function can send. -/
theorem sendPending_alone (v : Fin 64) (hr : s.running = true) (hu : s.link.up = true) (he : s.link.cfg.msixEnable = true)
    (hm : s.link.cfg.msixMask = false) (hv : s.link.msix[v].mask = false) (hp : s.link.pba = BitVec.twoPow 64 v) :
    sendPending s v = { s with link := { s.link with
      pba := if s.link.maySend then 0 else s.link.pba
      sent := if s.link.maySend then s.link.sent ++ [.msix v s.link.msix[v].addr s.link.msix[v].data] else s.link.sent } } := by
  have hbit : s.link.pba.getLsbD v = true := by
    rw [hp, BitVec.getLsbD_twoPow, decide_eq_true v.isLt, decide_eq_true rfl]; rfl
  have hcut : s.link.pba &&& ~~~(BitVec.twoPow 64 v) = 0 := by rw [hp]; exact BitVec.and_not_self _
  have hback : (0 : W64) ||| BitVec.twoPow 64 v = s.link.pba := BitVec.zero_or.trans hp.symm
  have hgo : (s.link.cfg.msixEnable && !s.link.cfg.msixMask && !s.link.msix[v].mask && hostReachable s) = s.link.maySend := by
    rw [he, hm, hv, hostReachable, linkRequests, hr, hu, Link.maySend]
    cases s.link.cfg.busMaster <;> simp
  rw [sendPending, if_pos hbit, hcut, sendVector_eq]
  cases hb : s.link.maySend with
  | true => exact if_pos (hgo.trans hb)
  | false =>
    refine (if_neg (Bool.eq_false_iff.mp (hgo.trans hb))).trans ?_
    change s.setLink { s.link with pba := 0 ||| BitVec.twoPow 64 v } = _
    rw [hback]
    rfl

theorem sendPending_pba_ne {v j : Nat} (h : j ≠ v) (hp : s.link.pba = BitVec.twoPow 64 v) :
    (sendPending s v).link.pba.getLsbD j = false := by
  have hj : s.link.pba.getLsbD j = false := by rw [hp]; exact twoPow_getLsbD_ne h
  have hcut : (s.link.pba &&& ~~~(BitVec.twoPow 64 v)).getLsbD j = false := by rw [BitVec.getLsbD_and, hj, Bool.false_and]
  unfold sendPending
  split
  · unfold sendVector
    extract_lets e
    split
    · exact hcut
    · refine (BitVec.getLsbD_or ..).trans ?_
      rw [twoPow_getLsbD_ne h, Bool.or_false]
      exact hcut
  · exact hj

/-- Where one vector alone is pending, it alone is looked at. -/
theorem sendPendingVectors_alone (v : Fin 64) (hp : s.link.pba = BitVec.twoPow 64 v) : sendPendingVectors s = sendPending s v := by
  refine foldl_of_only (f := sendPending) List.nodup_range (List.mem_range.mpr v.isLt) (fun j _ hne => ?_) fun j _ hne => ?_
  · exact sendPending_of_not (by rw [hp]; exact twoPow_getLsbD_ne hne)
  · exact sendPending_of_not (sendPending_pba_ne hne hp)

theorem msixVectorUnmask_alone {what : MsixChange} {v : Fin 64} {l : Link} (hr : s.running = true) (hup : l.up = true)
    (hv : ∀ w, what = .vector w → l.cfg.memEnable = true ∧ l.cfg.d3hot = false) (hl : l = unmaskedLink s.link what)
    (he : l.cfg.msixEnable = true) (hm : l.cfg.msixMask = false) (hmask : l.msix[v].mask = false)
    (hp : l.pba = BitVec.twoPow 64 v) :
    exec (.msixVectorUnmask what) s = .next { s with link := { l with
      pba := if l.maySend then 0 else l.pba
      sent := if l.maySend then l.sent ++ [.msix v l.msix[v].addr l.msix[v].data] else l.sent } } := by
  have hup' : s.link.up = true := by rw [hl] at hup; cases what <;> exact hup
  have hv' (w : Fin 64) (hw : what = .vector w) : s.link.cfg.memEnable = true ∧ s.link.cfg.d3hot = false := by
    have h := hv w hw
    subst hw
    rw [hl] at h
    exact h
  rw [exec_msixVectorUnmask what hr hup' hv', ← hl, sendPendingVectors_alone (s := s.setLink l) v hp,
    sendPending_alone (s := s.setLink l) v hr hup he hm hmask hp]
  rfl

end Sys2Proof.Machine
end

section
/-! PROOF. Completion entries written to a completion ring in HBM (O11). -/

set_option Elab.async false

namespace Sys2Proof.Machine
open Sys2Proof

variable {s t : State} {cr : Fin 32} {c : Cpl}

/-! ### An entry that frees its tracker entry (R117) -/

theorem resetting_of_endsAlone (h : EndsAlone s) (i : Nat) : (s.sr i).resetting = none := by
  by_cases hi : i < 32
  · exact h.rings i hi
  · have hout : s.sr i = Reset.subRing := by simp [State.sr, vget, hi]
    rw [hout]; rfl

/-- Where no ring is being reset, an end frees its tracker entry and nothing else. -/
theorem freeEntryOf_of_rings (h : ∀ i, (s.sr i).resetting = none) (k : Nat) (ok : Bool) : freeEntryOf s k ok = s.setOp k none := by
  have happly (i : Nat) : applyReset s i = s := by rw [applyReset, h i]
  rw [freeEntryOf]
  split
  · rw [happly, ite_self]
  · rfl

/-- The tracker once the entry that a completion releases is free. -/
def entryFreed (s : State) (e : Option Nat) : State :=
  match e with
  | some k => s.setOp k none
  | none => s

theorem entryFreed_op_self (s : State) (k : Nat) : (entryFreed s (some k)).op k = none := by
  by_cases h : k < 512
  · exact op_setOp_self h none
  · simp [State.op, vget, h]

theorem entryFreed_op_ne (s : State) {e : Option Nat} {j : Nat} (h : e ≠ some j) : (entryFreed s e).op j = s.op j := by
  cases e with
  | none => rfl
  | some k => exact op_setOp_ne (fun c => h (congrArg some c)) none

/-- A state without its tracker. -/
def State.untracked (s : State) : State := { s with queue := { s.queue with ops := Reset.queue.ops } }

theorem entryFreed_untracked (s : State) (e : Option Nat) : Same State.untracked s (entryFreed s e) := by
  cases e <;> rfl

theorem NoReset.entryFreed (h : NoReset s) (e : Option Nat) : NoReset (entryFreed s e) := by
  intro j p hp
  by_cases he : e = some j
  · subst he
    exact absurd (hp.symm.trans (entryFreed_op_self s j)) (by simp)
  · exact h j p (entryFreed_op_ne s he ▸ hp)

/-! ### The ring after one more entry (R86, R91) -/

/-- Completion ring r once one more entry has been written at its tail. -/
def entryCounted (s : State) (r : CplRing) : CplRing :=
  { r with
    tail := r.tail + 1, waiting := r.waiting.drop 1, pendingMsgs := r.pendingMsgs + 1
    oldest := if r.pendingMsgs = 0 then s.clocks.timebase else r.oldest }

/-- The state once an entry has been written on ring cr and its tracker entry is free, before any message goes out. -/
def entryTaken (s : State) (cr : Nat) (c : Cpl) : State := entryFreed (s.setCr cr (entryCounted s (s.cr cr))) c.entry

/-- Whether the entry c, once counted, asks for its ring's vector (R91). -/
def asksMessage (s : State) (cr : Nat) (c : Cpl) : Bool :=
  vectorDue s (entryCounted s (s.cr cr)) || c.notify || decide (c.result.status = 0x3F)

/-- The state once an entry has been written on ring cr and the message that it asks for has gone out. -/
def afterEntry (s : State) (cr : Nat) (c : Cpl) : State :=
  if asksMessage s cr c then sendRingVector (entryTaken s cr c) cr else entryTaken s cr c

theorem entryTaken_cr (s : State) (c : Cpl) : (entryTaken s cr c).cr cr = entryCounted s (s.cr cr) :=
  ((entryFreed_untracked _ c.entry).get fun s => s.cr cr).trans (cr_setCr_self cr.isLt _)

theorem entryTaken_due (s : State) (cr : Nat) (c : Cpl) (r : CplRing) : vectorDue (entryTaken s cr c) r = vectorDue s r :=
  (entryFreed_untracked _ c.entry).get fun s => vectorDue s r

theorem entryWritten_eq (h : EndsAlone s) (cr : Fin 32) (c : Cpl) : entryWritten s cr c = settle (afterEntry s cr c) := by
  unfold entryWritten
  extract_lets r pend s1 s2 s3
  have h2 : s2 = entryTaken s cr c := by
    dsimp only [s2, entryTaken]
    cases c.entry with
    | none => rfl
    | some e => exact freeEntryOf_of_rings (s := s1) (fun i => resetting_of_endsAlone h i) e _
  have hasks : (vectorDue s2 (s2.cr cr) = true ∨ c.notify = true ∨ c.result.status = 0x3F) ↔ asksMessage s cr c = true := by
    rw [h2, entryTaken_cr, entryTaken_due, asksMessage, Bool.or_eq_true, Bool.or_eq_true, decide_eq_true_eq, or_assoc]
  refine congrArg settle ((if_congr hasks rfl rfl).trans ?_)
  rw [h2]
  rfl

/-- A state without its completion rings, the messages sent and the pending bits of the vectors. -/
def State.unrung (s : State) : State := s.uncompleting.unmessaged

theorem sendRingVector_unrung (s : State) (cr : Nat) : Same State.unrung s (sendRingVector s cr) :=
  ((pendingReset_uncompleting s cr).weaken (f := State.unrung)).trans
    ((sendVector_unmessaged _ _).weaken (f := State.unrung))

theorem afterEntry_unrung (s : State) (cr : Nat) (c : Cpl) : Same State.unrung (entryTaken s cr c) (afterEntry s cr c) :=
  .ite (sendRingVector_unrung _ _) (.refl _)

theorem afterEntry_cr (s : State) (cr : Fin 32) (c : Cpl) : (afterEntry s cr c).cr cr =
    { entryCounted s (s.cr cr) with pendingMsgs := if asksMessage s cr c then 0 else (s.cr cr).pendingMsgs + 1 } := by
  unfold afterEntry
  split
  · rw [sendRingVector_cr, (pendingReset_cr cr.isLt).1 (.inl rfl), entryTaken_cr]
  · rw [entryTaken_cr]; rfl

theorem entryTaken_link (s : State) (cr : Nat) (c : Cpl) : (entryTaken s cr c).link = s.link :=
  (entryFreed_untracked _ c.entry).get State.link

theorem settleInvalidations_of_none (h : s.link.invalidations = []) : settleInvalidations s = s := by
  have hl : { s.link with invalidations := [], sent := s.link.sent ++ [] } = s.link := by rw [List.append_nil, ← h]
  unfold settleInvalidations
  rw [h]
  exact congrArg s.setLink hl

/-- What an entry that is written does to its ring, to the tracker and to the host link. -/
theorem entryWritten_spec (h : EndsAlone s) {rest : List Cpl} (hw : (s.cr cr).waiting = c :: rest) :
    let t := entryWritten s cr c
    t.dev = s.dev ∧ (t.cr cr).tail = (s.cr cr).tail + 1 ∧ (∃ more, (t.cr cr).waiting = rest ++ more) ∧
      (∀ e, c.entry = some e → t.op e = none) ∧ (∀ j < 512, c.entry ≠ some j → t.op j = s.op j) ∧
      (t.cr cr).pendingMsgs = (if asksMessage s cr c then 0 else (s.cr cr).pendingMsgs + 1) ∧
      t.link = (afterEntry s cr c).link := by
  have hsame := afterEntry_unrung s cr c
  have hop (j : Nat) : (afterEntry s cr c).op j = (entryTaken s cr c).op j := hsame.get fun s => s.op j
  have hno : NoReset (afterEntry s cr c) :=
    NoReset.congr (NoReset.entryFreed (s := s.setCr cr (entryCounted s (s.cr cr))) h.resets c.entry)
      (hsame.get fun s => s.queue.ops)
  have hinv : (afterEntry s cr c).link.invalidations = [] :=
    (hsame.get fun s => s.link.invalidations).trans ((congrArg Link.invalidations (entryTaken_link s cr c)).trans h.reads)
  have hsettle := settle_unsettled hno
  obtain ⟨more, hcr⟩ := settle_cr hno cr
  rw [afterEntry_cr] at hcr
  intro t
  have ht : t = settle (afterEntry s cr c) := entryWritten_eq h cr c
  have htop (j : Nat) : t.op j = (entryTaken s cr c).op j := by rw [ht, ← hop j]; exact hsettle.get fun s => s.op j
  refine ⟨?_, ?_, ⟨more, ?_⟩, fun e he => ?_, fun j _ hj => ?_, ?_, ?_⟩
  · rw [ht, hsettle.get State.dev, hsame.get State.dev]
    exact (entryFreed_untracked _ c.entry).get State.dev
  · rw [ht, hcr]; rfl
  · rw [ht, hcr]
    change (s.cr cr).waiting.drop 1 ++ more = _
    rw [hw]; rfl
  · rw [htop, entryTaken, he]; exact entryFreed_op_self _ e
  · rw [htop, entryTaken, entryFreed_op_ne _ hj]; rfl
  · rw [ht, hcr]
  · rw [ht, settle_link hno, settleInvalidations_of_none hinv]

/-! ### When an entry asks for a message (R91) -/

/-- Below COUNT and TIME an entry asks for no message, unless it does so itself. -/
theorem asksMessage_false {r : CplRing} (hr : s.cr cr = r) (hcount : r.count = 0 ∨ r.pendingMsgs + 1 < r.count)
    (htime : r.time = 0 ∨ r.pendingMsgs = 0 ∨ s.now - r.oldest.toNat < r.time * 1024) (hn : c.notify = false)
    (hs : c.result.status ≠ 0x3F) : asksMessage s cr c = false := by
  have hdue : vectorDue s (entryCounted s r) = false := by
    rw [Bool.eq_false_iff, Ne, vectorDue_iff]
    rintro (⟨h0, hle⟩ | ⟨h0, -, hle⟩)
    · exact absurd hle (Nat.not_le.mpr (hcount.resolve_left h0))
    · rcases htime.resolve_left h0 with hp | hlt
      · have hzero : s.now - (entryCounted s r).oldest.toNat = 0 := by
          rw [entryCounted, if_pos hp]; exact Nat.sub_self _
        rw [hzero] at hle
        exact h0 (by simpa using hle)
      · by_cases hp : r.pendingMsgs = 0
        · have hzero : s.now - (entryCounted s r).oldest.toNat = 0 := by
            rw [entryCounted, if_pos hp]; exact Nat.sub_self _
          rw [hzero] at hle
          exact h0 (by simpa using hle)
        · rw [entryCounted, if_neg hp] at hle
          exact absurd hle (Nat.not_le.mpr hlt)
  rw [asksMessage, hr, hdue, hn, decide_eq_false hs]
  rfl

theorem asksMessage_true {r : CplRing} (hr : s.cr cr = r)
    (h : (0 < r.count ∧ r.count ≤ r.pendingMsgs + 1) ∨ c.notify = true ∨ c.result.status = 0x3F) : asksMessage s cr c = true := by
  rw [asksMessage, hr, Bool.or_eq_true, Bool.or_eq_true, decide_eq_true_eq, vectorDue_iff, or_assoc]
  exact h.imp_left fun ⟨h0, hle⟩ => .inl ⟨Nat.ne_of_gt h0, hle⟩

/-- The vector that an entry asks for goes out, or is held in the PBA. -/
theorem afterEntry_sent (s : State) (cr : Fin 32) {c : Cpl} (h : asksMessage s cr c = true) :
    (∃ a d, HostMsg.msix (s.cr cr).vector a d ∈ (afterEntry s cr c).link.sent) ∨
      ((s.cr cr).vector < 64 → (afterEntry s cr c).link.pba.getLsbD (s.cr cr).vector = true) := by
  have hv : ((entryTaken s cr c).cr cr).vector = (s.cr cr).vector := by
    rw [entryTaken_cr]; rfl
  have hsend := sendVector_sent (pendingReset (entryTaken s cr c) cr) ((entryTaken s cr c).cr cr).vector
  rw [← sendRingVector_eq, hv] at hsend
  rw [afterEntry, if_pos h]
  exact hsend

/-! ### COMPLETION_WRITE (R86, R88) -/

theorem exec_completionWrite (hl : ∀ k < 32, (s.sr k).linePending = false) :
    exec (.completionWrite cr false) s = .next (writeOldest s cr false) :=
  congrArg (fun x => Host.Outcome.next (writeOldest x cr false)) (writePendingLines_of_none hl)

/-- A full ring, and a completion before its status line, are left as they are. -/
theorem writeOldest_held {cr : Nat} {refused : Bool} (h : ∀ c, (s.cr cr).waiting.head? = some c →
      ((s.cr cr).tail - (s.cr cr).head).toNat = 2 ^ (s.cr cr).log2 ∨ lineWritten s c.sr c = false) :
    writeOldest s cr refused = s := by
  unfold writeOldest
  extract_lets r
  split
  · rfl
  · next c rest hw =>
    have hheld : (!s.running || !r.exists_ || decide ((r.tail - r.head).toNat = 2 ^ r.log2) || !lineWritten s c.sr c) = true := by
      rcases h c (congrArg List.head? hw) with hfull | hline
      · rw [decide_eq_true hfull, Bool.or_true, Bool.true_or]
      · rw [hline]; exact Bool.or_true _
    exact if_pos hheld

/-- The device address of the entry at the tail of a completion ring. -/
def tailAddr (r : CplRing) : Nat := r.base.toNat + 16 * (r.tail.toNat % 2 ^ r.log2)

theorem length_completionEntry (c : Cpl) (q : W32) (n : Nat) : (completionEntry c q n).length = 16 := by
  simp only [completionEntry, List.length_append, length_natToBytes, List.length_cons, List.length_nil]

theorem completionEntry_of_noDetail (hk : c.result.kind = 0) (q : W32) (n : Nat) : completionEntry c q n =
    natToBytes c.tag.toNat 4 ++ natToBytes c.seq.toNat 4 ++ natToBytes c.time.toNat 4 ++ natToBytes c.wait.toNat 2 ++
      [c.result.status, BitVec.ofNat 8 ((if q.toNat / 2 ^ n % 2 = 0 then 1 else 0) + 4 * c.sr)] := by
  rw [completionEntry, if_pos hk, Nat.add_zero, phaseOf]
  simp only [decide_eq_true_eq]

theorem homeWrite_dev (s : State) (a : Nat) (data : List Byte) : (homeWrite s a data).dev = s.dev.writeN a data := by
  unfold homeWrite
  extract_lets s1 s2
  change s2.dev = s1.dev
  dsimp only [s2]
  split <;> rfl

theorem EndsAlone.accessed (h : EndsAlone s) (ha : Accessed s t) (hl : t.link = s.link) : EndsAlone t where
  rings i hi := by rw [Accessed.sr ha]; exact h.rings i hi
  resets j p hp := h.resets j p (by rw [← hp]; exact (ha.get fun s => s.op j).symm)
  reads := by rw [hl]; exact h.reads

/-- The oldest completion of a ring with room in HBM is written there. -/
theorem writeOldest_written {rest : List Cpl} (hrun : s.running = true) (hex : (s.cr cr).exists_ = true)
    (hw : (s.cr cr).waiting = c :: rest) (hroom : ((s.cr cr).tail - (s.cr cr).head).toNat ≠ 2 ^ (s.cr cr).log2)
    (hk : c.result.kind = 0) (hline : lineWritten s c.sr c = true) (ha : s.inRegion (tailAddr (s.cr cr)) 16 .kernels = true)
    (hf : LineFree s (tailAddr (s.cr cr) / 64)) (hwr : watchRoom s (tailAddr (s.cr cr) / 64) = true) :
    writeOldest s cr false =
      entryWritten (homeWrite s (tailAddr (s.cr cr)) (completionEntry c (s.cr cr).tail (s.cr cr).log2)) cr c := by
  have hlen := length_completionEntry c (s.cr cr).tail (s.cr cr).log2
  have hbus := busWrite_free (ag := ringAgent (.completion cr (s.cr cr).tail) c.pasid 0x6101)
    (data := completionEntry c (s.cr cr).tail (s.cr cr).log2) List.mem_cons_self rfl (by rw [hlen]; exact ha) hf hwr
  have hgo : ¬(!s.running || !(s.cr cr).exists_ || decide (((s.cr cr).tail - (s.cr cr).head).toNat = 2 ^ (s.cr cr).log2) ||
      !lineWritten s c.sr c) = true := by rw [hrun, hex, hline, decide_eq_false hroom]; decide
  have hring : ringWrite s (.completion cr (s.cr cr).tail) c.pasid
      ((s.cr cr).base.toNat + 16 * ((s.cr cr).tail.toNat % 2 ^ (s.cr cr).log2))
      (completionEntry c (s.cr cr).tail (s.cr cr).log2) false =
        (true, homeWrite s (tailAddr (s.cr cr)) (completionEntry c (s.cr cr).tail (s.cr cr).log2)) := by
    change ringWrite s _ _ (tailAddr (s.cr cr)) _ false = _
    rw [ringWrite, if_neg Bool.false_ne_true, hbus]
  simp only [writeOldest, hw, if_neg hgo, if_pos hk, hring, Bool.not_true, Bool.false_eq_true, if_false, if_true]

/-- What COMPLETION_WRITE does with the oldest completion of a ring with room in HBM. -/
theorem completionWrite_writes {rest : List Cpl} (hrun : s.running = true) (halone : EndsAlone s)
    (hlines : ∀ k < 32, (s.sr k).linePending = false) (hex : (s.cr cr).exists_ = true) (hw : (s.cr cr).waiting = c :: rest)
    (hroom : ((s.cr cr).tail - (s.cr cr).head).toNat ≠ 2 ^ (s.cr cr).log2) (hk : c.result.kind = 0)
    (hline : lineWritten s c.sr c = true) (ha : s.inRegion (tailAddr (s.cr cr)) 16 .kernels = true)
    (hf : LineFree s (tailAddr (s.cr cr) / 64)) (hwr : watchRoom s (tailAddr (s.cr cr) / 64) = true) :
    ∃ t, exec (.completionWrite cr false) s = .next t ∧
      t.dev = s.dev.writeN (tailAddr (s.cr cr)) (completionEntry c (s.cr cr).tail (s.cr cr).log2) ∧
      (t.cr cr).tail = (s.cr cr).tail + 1 ∧ (∃ more, (t.cr cr).waiting = rest ++ more) ∧
      (∀ e, c.entry = some e → t.op e = none) ∧ (∀ j < 512, c.entry ≠ some j → t.op j = s.op j) ∧
      (asksMessage s cr c = false → (t.cr cr).pendingMsgs = (s.cr cr).pendingMsgs + 1 ∧ t.link = s.link) ∧
      (asksMessage s cr c = true → (t.cr cr).pendingMsgs = 0 ∧
        ((∃ a d, HostMsg.msix (s.cr cr).vector a d ∈ t.link.sent) ∨
          ((s.cr cr).vector < 64 → t.link.pba.getLsbD (s.cr cr).vector = true))) := by
  have hexec := (exec_completionWrite (cr := cr) hlines).trans
    (congrArg _ (writeOldest_written hrun hex hw hroom hk hline ha hf hwr))
  have hdev := homeWrite_dev s (tailAddr (s.cr cr)) (completionEntry c (s.cr cr).tail (s.cr cr).log2)
  have hlink := homeWrite_link s (tailAddr (s.cr cr)) (completionEntry c (s.cr cr).tail (s.cr cr).log2)
  have hacc := homeWrite_accessed s (tailAddr (s.cr cr)) (completionEntry c (s.cr cr).tail (s.cr cr).log2)
  generalize homeWrite s (tailAddr (s.cr cr)) (completionEntry c (s.cr cr).tail (s.cr cr).log2) = u at hexec hdev hlink hacc
  have hcr : u.cr cr = s.cr cr := hacc.get fun s => s.cr cr
  have hasks : asksMessage u cr c = asksMessage s cr c := hacc.get fun s => asksMessage s cr c
  have hsent := afterEntry_sent u cr (c := c)
  obtain ⟨htdev, htail, hwait, hfreed, hothers, hpend, htlink⟩ :=
    entryWritten_spec (cr := cr) (c := c) (halone.accessed hacc hlink) (hcr ▸ hw)
  rw [hcr] at htail hpend hsent
  rw [hasks] at hpend hsent
  refine ⟨_, hexec, htdev.trans hdev, htail, hwait, hfreed, fun j hj hne => (hothers j hj hne).trans (hacc.get fun s => s.op j),
    fun hno => ⟨?_, ?_⟩, fun hyes => ⟨?_, ?_⟩⟩
  · rw [hpend, hno]; rfl
  · rw [htlink, afterEntry, hasks, hno, ← hlink]; exact entryTaken_link u cr c
  · rw [hpend, hyes]; rfl
  · rw [htlink]; exact hsent hyes

/-! ### The statement -/

/-- Settles O11. What an entry does is `entryWritten_spec`; a vector that is due goes out once (`sendRingVector_shared`); one alone
pending is sent by `sendPending_alone`. -/
theorem completionsReachTheHost : Obligations.CompletionsReachTheHost := by
  unfold Obligations.CompletionsReachTheHost
  refine ⟨fun s cr hrun halone hlines hex => ?_, fun s cr hrun hex => ?_, fun s what v => ?_⟩
  · intro r at_
    have hexec := exec_completionWrite (cr := cr) hlines
    refine ⟨fun hfull => ?_, fun c hc hline => ?_, fun c rest hw hroom hk hline _ ha hf hwr hwf => ?_⟩
    · rw [hexec, writeOldest_held fun c _ => .inl hfull]
    · rw [hexec, writeOldest_held fun c' hc' => .inr (Option.some.inj (hc.symm.trans hc') ▸ hline)]
    · obtain ⟨t, ht, hdev, htail, hwait, hfreed, hothers, hquiet, hasks⟩ :=
        completionWrite_writes hrun halone hlines hex hw hroom hk hline ha hf hwr
      have hlen := length_completionEntry c r.tail r.log2
      have hread := Memory.readN_writeN (completionEntry c r.tail r.log2) at_ hwf
      rw [hlen] at hread
      refine ⟨t, ht, ?_, fun a ha => ?_, htail, hwait, hfreed, hothers,
        fun hcount htime hn hs => hquiet (asksMessage_false rfl hcount htime hn hs), fun h => hasks (asksMessage_true rfl h)⟩
      · rw [hdev, ← completionEntry_of_noDetail hk]
        exact hread
      · rw [hdev]
        exact Memory.read_writeN_outside _ _ (by rw [hlen]; exact ha)
  · intro r due shares
    have hdue : vectorDue s r = true ↔ due := vectorDue_iff s r
    obtain ⟨halone, hreset, hsame, hsent⟩ := sendRingVector_shared s cr
    rw [exec_msixCoalesceTimer]
    refine ⟨fun hnot => ?_, fun h => ?_⟩
    · rw [if_neg fun c => hnot (hdue.mp c.2.2)]
    · rw [if_pos ⟨hrun, hex, hdue.mpr h⟩]
      exact ⟨fun hnone => congrArg _ (halone hnone), _, rfl, hreset, hsame, hsent⟩
  · intro l e mayGo hrun hup hbar hen hmask he hpba
    have hl : l = unmaskedLink s.link what := by cases what <;> rfl
    exact msixVectorUnmask_alone hrun hup hbar hl hen hmask he hpba

end Sys2Proof.Machine
end

section
/-! PROOF. Enabling the queue engine, disabling it, and the end of its drain (O12). -/

set_option Elab.async false

namespace Sys2Proof.Machine
open Sys2Proof

variable {s : State}

/-! ### ENABLE_SET (R72) -/

/-- Both configurations were to be checked: their rings do not exist, or their registers were written. -/
structure NewRings (s : State) : Prop where
  sr0 : (s.sr 0).exists_ = false ∨ s.queue.sr0Written = true
  cr0 : (s.cr 0).exists_ = false ∨ s.queue.cr0Written = true

/-- The queue engine once it is enabled with a new SR0 and a new CR0. -/
def enabledQueue (s : State) : Queue :=
  { s.queue with
    enable := true, configErr := false, sr0Written := false, cr0Written := false, sr0Doorbell := false
    sr := vset s.queue.sr 0 (newSr0 s), cr := vset s.queue.cr 0 (newCr0 s) }

/-- The module once the queue engine is enabled with a new SR0 and a new CR0. -/
def enabledState (s : State) : State :=
  ((s.setQueue (enabledQueue s)).setPower { s.power with state := servingState s, selfRefresh := false }).setClocks
    { s.clocks with cclkStopped := false }

theorem exec_enableSet (hr : barReachable s = true) (hw : s.power.state = .warm) (hd : s.power.draining = false) (hn : NewRings s) :
    exec .enableSet s = .next (if (sr0Ok s && cr0Ok s) = true then enabledState s
      else s.setQueue { s.queue with configErr := true }) := by
  have isNew {e w : Bool} (h : e = false ∨ w = true) : (!e || w) = true := by
    rcases h with h | h <;> rw [h]
    · rfl
    · exact Bool.or_true _
  have hidle : ¬(decide (s.power.state ≠ .warm) || s.power.draining) = true := by rw [hw, hd]; decide
  refine congrArg Host.Outcome.next ((if_pos hr).trans ((if_neg hidle).trans ?_))
  rw [isNew hn.sr0, isNew hn.cr0]
  cases hok : sr0Ok s && cr0Ok s <;> rfl

/-- A base address of Table 3.3 or 3.4 is a device address. -/
theorem configBase_toNat (c : Nat) : (BitVec.ofNat 48 (bitsOf c 12 36 * 4096)).toNat = c / 4096 % 2 ^ 36 * 4096 := by
  have h : c / 4096 % 2 ^ 36 < 2 ^ 36 := Nat.mod_lt _ (by decide)
  rw [BitVec.toNat_ofNat, bitsOf]
  exact Nat.mod_eq_of_lt (by omega)

/-- SR0 and CR0 as the registers configure them, and nothing else of the rings. -/
theorem enabledState_rings (s : State) :
    let t := enabledState s
    (t.sr 0).exists_ = true ∧ (t.sr 0).base.toNat = s.queue.sr0Config.toNat / 4096 % 2 ^ 36 * 4096 ∧
    (t.sr 0).log2 = s.queue.sr0Config.toNat % 32 ∧ (t.sr 0).head = 0 ∧ (t.sr 0).doorbell = s.queue.sr0Doorbell ∧
    (t.cr 0).exists_ = true ∧ (t.cr 0).base.toNat = s.queue.cr0Config.toNat / 4096 % 2 ^ 36 * 4096 ∧
    (t.cr 0).log2 = s.queue.cr0Config.toNat % 32 ∧ (t.cr 0).vector = s.queue.cr0Config.toNat / 32 % 64 ∧
    (t.cr 0).count = s.queue.cr0Config.toNat / 2 ^ 48 % 256 ∧ (t.cr 0).tail = 0 ∧ (t.cr 0).head = 0 ∧
    ∀ j < 32, j ≠ 0 → t.sr j = s.sr j ∧ t.cr j = s.cr j := by
  intro t
  have hsr : t.sr 0 = newSr0 s := sr_setSr_self (by decide) _
  have hcr : t.cr 0 = newCr0 s := cr_setCr_self (by decide) _
  have hlow (c : Nat) : bitsOf c 0 5 = c % 32 := by rw [bitsOf, Nat.pow_zero, Nat.div_one]; rfl
  rw [hsr, hcr]
  exact ⟨rfl, configBase_toNat _, hlow _, rfl, rfl, rfl, configBase_toNat _, hlow _, rfl, rfl, rfl, rfl,
    fun j _ hj => ⟨sr_setSr_ne (Ne.symm hj) _, cr_setCr_ne (Ne.symm hj) _⟩⟩

/-! ### ENABLE_CLEAR (R73) -/

/-- What the end of its scan makes of a ring. -/
structure ScanEnded (r r' : SubRing) : Prop where
  grant : r'.grant = none
  head : r'.head = r.head
  ready : r.grant ≠ none → r'.doorbell = true ∧ (r'.linePending = true ∨ r'.lineHead = r.head)
  idle : r.grant = none → r' = r

/-- The end of the scan of ring k, where one is in progress. -/
def scanEnded (s : State) (k : Nat) : State :=
  match (s.sr k).grant with
  | none => s
  | some _ => writeStatusLine (s.setSr k { s.sr k with grant := none, doorbell := true }) k

theorem endScans_eq (s : State) : endScans s = (List.range 32).foldl scanEnded s := rfl

theorem scanEnded_unlined (s : State) (k : Nat) : Same State.unlined s (scanEnded s k) := by
  unfold scanEnded
  split
  · exact .refl s
  · exact (setSr_unlined s k _).trans (writeStatusLine_unlined _ k)

theorem scanEnded_sr_ne (s : State) {j k : Nat} (h : j ≠ k) : (scanEnded s k).sr j = s.sr j := by
  unfold scanEnded
  split
  · rfl
  · rw [writeStatusLine_sr_ne _ h, sr_setSr_ne (Ne.symm h)]

theorem scanEnded_sr_self (s : State) {k : Nat} (h : k < 32) : ScanEnded (s.sr k) ((scanEnded s k).sr k) := by
  unfold scanEnded
  split
  · next hg => exact ⟨hg, rfl, fun c => absurd hg c, fun _ => rfl⟩
  · next g hg =>
    obtain ⟨p, l, hl, e⟩ := writeStatusLine_sr_self (s.setSr k { s.sr k with grant := none, doorbell := true }) h
    rw [sr_setSr_self h] at hl e
    rw [e]
    exact ⟨rfl, rfl, fun _ => ⟨rfl, hl⟩, fun c => absurd (hg.symm.trans c) (by simp)⟩

theorem endScans_sr (s : State) {j : Nat} (h : j < 32) : ScanEnded (s.sr j) ((endScans s).sr j) := by
  obtain ⟨u, -, hu, e⟩ := foldl_range_of_lt (g := State.sr) scanEnded_unlined (fun u i j h => scanEnded_sr_ne u h) s h
  rw [endScans_eq, e, ← hu]
  exact scanEnded_sr_self u h

theorem endScans_unlined (s : State) : Same State.unlined s (endScans s) := .foldl scanEnded_unlined _ s

/-- A state once fetching has stopped and DRAINING is set. -/
def State.fetchStopped (s : State) : State :=
  (s.setQueue { s.queue with enable := false }).setPower { s.power with draining := true }

theorem exec_enableClear (hr : barReachable s = true)
    (hs : s.power.state = .active ∨ s.power.state = .throttled ∨ s.power.state = .lockout) (hd : s.power.draining = false) :
    exec .enableClear s = .next (endScans s).fetchStopped := by
  refine congrArg Host.Outcome.next ((if_pos hr).trans (if_pos ?_))
  rw [hd]
  rcases hs with h | h | h <;> rw [h] <;> rfl

/-! ### DRAIN_COMPLETE (R27, R443) -/

theorem opList_isEmpty_iff (s : State) : s.opList.isEmpty = true ↔ ∀ k < 512, s.op k = none := by
  rw [List.isEmpty_iff, State.opList, List.filterMap_eq_nil_iff]
  simp only [List.mem_range, Option.map_eq_none_iff]

/-! ### The statement -/

/-- Settles O12. Enabling brings `enabledState` about; disabling ends every scan, which leaves each ring as `endScans_sr` says. -/
theorem theQueueEngineIsEnabledAndDrained : Obligations.TheQueueEngineIsEnabledAndDrained := by
  unfold Obligations.TheQueueEngineIsEnabledAndDrained
  refine ⟨fun s hr hw hd hsr hcr => ⟨fun hok => ?_, fun hok => ?_⟩, fun s hr hs hd => ?_,
    fun s hr hd => ⟨fun hheld => ?_, fun hfree => ?_⟩⟩
  · rw [exec_enableSet hr hw hd ⟨hsr, hcr⟩, hok]
    rfl
  · obtain ⟨h1, h2, h3, h4, h5, h6, h7, h8, h9, h10, h11, h12, hother⟩ := enabledState_rings s
    exact ⟨enabledState s, (exec_enableSet hr hw hd ⟨hsr, hcr⟩).trans (congrArg _ (if_pos hok)), rfl, rfl, h1, h2, h3, h4, h5,
      h6, h7, h8, h9, h10, h11, h12, rfl, rfl, hother, rfl, rfl, rfl⟩
  · refine ⟨(endScans s).fetchStopped, exec_enableClear hr hs hd, ?_⟩
    have hsame := endScans_unlined s
    have hrings {j : Nat} (hj : j < 32) := endScans_sr s hj
    generalize endScans s = u at hsame hrings
    refine ⟨rfl, rfl, hsame.get fun s => s.power.state, fun j hj => ?_, hsame.get fun s => s.queue.ops,
      hsame.get fun s => s.queue.cr, hsame.get State.turner⟩
    obtain ⟨hgrant, hhead, hready, hidle⟩ := hrings hj
    exact ⟨hgrant, hhead, hready, hidle⟩
  · obtain ⟨k, hk, ho⟩ := hheld
    have he : s.opList.isEmpty = false := Bool.eq_false_iff.mpr fun c => ho ((opList_isEmpty_iff s).mp c k hk)
    exact congrArg Host.Outcome.next (if_neg (by rw [he, Bool.and_false]; exact Bool.false_ne_true))
  · exact congrArg Host.Outcome.next (if_pos (by rw [hr, hd, (opList_isEmpty_iff s).mpr hfree]; rfl))

end Sys2Proof.Machine
end

section
/-! PROOF. An operation that performs, and the end of one that brings nothing else to its end (O13, O14, O19, O36). -/

set_option Elab.async false

namespace Sys2Proof.Machine
open Sys2Proof

variable {s s1 t u : State} {k opcode : Nat} {o : Op} {r : Result}

/-! ### An operation that performs (R119, R121) -/

/-- The operation o that works is the one of the tracker, started. -/
theorem Performs.started (h : Performs s k opcode s1 o) : ∃ o0, s.op k = some o0 ∧ o0.opcode = opcode ∧ o.phase = .started ∧
    o = { o0 with phase := o.phase, wait := o.wait, engine := o.engine } := by
  obtain ⟨-, o0, ho, hop, ⟨hp, -, -, rfl⟩ | ⟨-, -, he⟩⟩ := h
  · exact ⟨o, ho, hop, hp, rfl⟩
  · have h2 : o = (startOp s k o0).2 := congrArg Prod.snd he
    unfold startOp at h2
    generalize waitUnits s o0.fetch = w, freeEngine s (blockOf o0.opcode) = e at h2
    subst h2
    exact ⟨o0, ho, hop, rfl, rfl⟩

theorem Performs.opcode_eq (h : Performs s k opcode s1 o) : o.opcode = opcode := by
  obtain ⟨o0, -, hop, -, he⟩ := h.started
  rw [he]
  exact hop

/-- A start changes the entry itself and the time of the last issue. -/
theorem Performs.eq_setOp (h : Performs s k opcode s1 o) :
    ∃ i, s1 = (s.setQueue { s.queue with issuedAt := i }).setOp k (some o) := by
  obtain ⟨-, o0, ho, -, ⟨-, -, rfl, rfl⟩ | ⟨-, -, he⟩⟩ := h
  · refine ⟨s1.queue.issuedAt, ?_⟩
    have hk := op_some_lt ho
    have hv : vset s1.queue.ops k (some o) = s1.queue.ops := by
      rw [← ho, vset_eq_set _ _ _ hk, State.op, vget_eq_getElem _ _ _ hk, Vector.set_getElem_self]
    change s1 = s1.setQueue { s1.queue with ops := vset s1.queue.ops k (some o) }
    rw [hv]
    rfl
  · have h1 : s1 = (startOp s k o0).1 := congrArg Prod.fst he
    have h2 : o = (startOp s k o0).2 := congrArg Prod.snd he
    subst h1 h2
    unfold startOp
    split
    · exact ⟨_, rfl⟩
    · exact ⟨s.queue.issuedAt, rfl⟩

theorem Performs.op_ne (h : Performs s k opcode s1 o) {j : Nat} (hj : j ≠ k) : s1.op j = s.op j := by
  obtain ⟨i, rfl⟩ := h.eq_setOp
  exact op_setOp_ne (Ne.symm hj) _

theorem Performs.sr (h : Performs s k opcode s1 o) (j : Nat) : s1.sr j = s.sr j := by
  obtain ⟨i, rfl⟩ := h.eq_setOp
  rfl

theorem Performs.cr (h : Performs s k opcode s1 o) (j : Nat) : s1.cr j = s.cr j := by
  obtain ⟨i, rfl⟩ := h.eq_setOp
  rfl

/-! ### The tracker as a list -/

theorem mem_opList {q : Nat × Op} : q ∈ s.opList ↔ s.op q.1 = some q.2 := by
  obtain ⟨j, p⟩ := q
  rw [State.opList, List.mem_filterMap]
  constructor
  · rintro ⟨i, -, hi⟩
    obtain ⟨x, hx, e⟩ := Option.map_eq_some_iff.mp hi
    cases e
    exact hx
  · exact fun h => ⟨j, List.mem_range.mpr (op_some_lt h), by rw [h]; rfl⟩

theorem opList_any {f : Nat × Op → Bool} : s.opList.any f = true ↔ ∃ j p, s.op j = some p ∧ f (j, p) = true := by
  rw [List.any_eq_true]
  exact ⟨fun ⟨q, hq, hf⟩ => ⟨q.1, q.2, mem_opList.mp hq, hf⟩, fun ⟨j, p, hp, hf⟩ => ⟨(j, p), mem_opList.mpr hp, hf⟩⟩

theorem opList_nodup (s : State) : (s.opList.map Prod.fst).Nodup := by
  have hsub : (s.opList.map Prod.fst).Sublist (List.range 512) := by
    rw [State.opList, List.map_filterMap]
    generalize List.range 512 = l
    induction l with
    | nil => exact .slnil
    | cons i l ih =>
      rw [List.filterMap_cons]
      cases s.op i with
      | none => exact ih.cons _
      | some o => exact ih.cons_cons _
  exact List.nodup_range.sublist hsub

/-! ### Ends that stand alone -/

theorem EndsAlone.noReset (h : EndsAlone s) : NoReset s := h.resets

/-- What has the rings, the tracker and the invalidations of a state in which ends stand alone is such a state. -/
theorem EndsAlone.congr (h : EndsAlone s) (hs : ∀ i, (t.sr i).resetting = (s.sr i).resetting) (ho : ∀ j, t.op j = s.op j)
    (hl : t.link.invalidations = s.link.invalidations) : EndsAlone t :=
  ⟨fun i hi => (hs i).trans (h.rings i hi), fun j p hp => h.resets j p (ho j ▸ hp), hl.trans h.reads⟩

theorem EndsAlone.of_queue (h : EndsAlone s) (hq : t.queue = s.queue) (hl : t.link = s.link) : EndsAlone t :=
  h.congr (fun i => by rw [State.sr, hq, ← State.sr]) (fun j => by rw [State.op, hq, ← State.op]) (by rw [hl])

/-- An entry whose operation has not begun a reset, or asks for none, leaves ends to stand alone. -/
theorem EndsAlone.setOp (h : EndsAlone s) {x : Option Op} (hx : ∀ p, x = some p → p.aux = 1 → p.resets = none) :
    EndsAlone (s.setOp k x) := by
  refine ⟨h.rings, fun j p hp => ?_, h.reads⟩
  by_cases hj : k = j
  · subst hj
    by_cases hk : k < 512
    · rw [op_setOp_self hk] at hp
      exact hx p hp
    · exact absurd (op_some_lt hp) hk
  · rw [op_setOp_ne hj] at hp
    exact h.resets j p hp

theorem Performs.endsAlone (h : Performs s k opcode s1 o) (ha : EndsAlone s) : EndsAlone s1 := by
  obtain ⟨o0, ho, -, -, he⟩ := h.started
  obtain ⟨i, rfl⟩ := h.eq_setOp
  have hq : EndsAlone (s.setQueue { s.queue with issuedAt := i }) := ha.congr (fun _ => rfl) (fun _ => rfl) rfl
  refine hq.setOp fun p hp => ?_
  cases hp
  rw [he]
  exact ha.resets k o0 ho

/-! ### What follows from an end -/

/-- The interrupts of KERNELs that a state makes ready change nothing but two registers of the core. -/
theorem raiseKernelBits_sameCore (s : State) : ∃ x, raiseKernelBits s = s.setTurner x ∧
    x = { s.turner with ipend := x.ipend, icond := x.icond } := by
  unfold raiseKernelBits
  extract_lets t
  split
  · exact ⟨s.turner, rfl, rfl⟩
  · exact ⟨_, rfl, rfl⟩

theorem settle_of_alone (h : NoReset s) (hl : s.link.invalidations = []) : settle s = raiseKernelBits (releaseStops s) := by
  have hno : NoReset (releaseStops s) := fun j p hp =>
    h j p (((releaseStops_released s).same.get fun s => s.op j).symm.trans hp)
  unfold settle
  extract_lets s1
  have h1 : s1 = releaseStops s := congrArg releaseStops (settleInvalidations_of_none hl)
  rw [h1, hno.resetDue]

/-- The ring r', of r, with its stop record as it was or gone. -/
def StopGone (r r' : SubRing) : Prop := r' = r ∨ r' = { r with stopRecord := none }

theorem StopGone.trans {x y z : SubRing} (h : StopGone x y) (h' : StopGone y z) : StopGone x z := by
  rcases h with rfl | rfl
  · exact h'
  · rcases h' with rfl | rfl
    · exact .inr rfl
    · exact .inr rfl

theorem StopGone.of_none {x y : SubRing} (h : StopGone x y) (hx : x.stopRecord = none) : y = x := by
  rcases h with rfl | rfl
  · rfl
  · rw [← hx]

theorem releaseStop_sr (s : State) (i j : Nat) : StopGone (s.sr i) ((releaseStop s j).sr i) := by
  unfold releaseStop
  extract_lets r
  split
  · exact .inl rfl
  · rw [sr_setCr, sr_setSr]
    split
    · next hj => obtain ⟨rfl, -⟩ := hj; exact .inr rfl
    · exact .inl rfl

theorem releaseStops_sr (s : State) (i : Nat) : StopGone (s.sr i) ((releaseStops s).sr i) := by
  have hstep (u : State) (j : Nat) : StopGone (u.sr i) ((if stopDue u j then releaseStop u j else u).sr i) := by
    split
    · exact releaseStop_sr u i j
    · exact .inl rfl
  have hfold (l : List Nat) (u : State) :
      StopGone (u.sr i) ((l.foldl (fun s i => if stopDue s (i + 1) then releaseStop s (i + 1) else s) u).sr i) := by
    induction l generalizing u with
    | nil => exact .inl rfl
    | cons j l ih => exact (hstep u (j + 1)).trans (ih _)
  exact (hfold (List.range 31) s).trans (hstep _ 0)

/-- The operation o of entry k has ended in t with the result r, and of the state s nothing has changed beside but completions
that wait, stop records and the interrupts of ready KERNELs. -/
structure EndedAlone (s t : State) (k : Nat) (o : Op) (r : Result) : Prop where
  ended : Ended t k o r
  only : OnlyQueue s t
  others : ∀ j, j ≠ k → t.op j = s.op j
  sr : ∀ i, StopGone (s.sr i) (t.sr i)
  cr : ∀ i, ∃ more, t.cr i = { s.cr i with waiting := (s.cr i).waiting ++ more }
  event : t.queue.event = s.queue.event

/-- The state once the operation o of entry k, whose result is decided, has finished, or has left the tracker. -/
theorem decideOp_eq (hr : ∀ i, (s.sr i).resetting = none) (ho : s.op k = some o) (r : Result) :
    decideOp s k r = s.setOp k none ∨ decideOp s k r =
      (s.setOp k (some { o with phase := .finished, wait := (cplOf s k o r).wait, flushOut := [] })).setCr o.crIndex
        { s.cr o.crIndex with waiting := (s.cr o.crIndex).waiting ++ [cplOf s k o r] } := by
  unfold decideOp
  rw [ho]
  dsimp only
  split
  · exact .inl (freeEntryOf_of_rings hr k true)
  · exact .inr rfl

theorem settle_endedAlone (h : EndsAlone t) (he : Ended t k o r) (hs : OnlyQueue s t) (hops : ∀ j, j ≠ k → t.op j = s.op j)
    (hsr : ∀ i, t.sr i = s.sr i) (hcr : ∀ i, ∃ more, t.cr i = { s.cr i with waiting := (s.cr i).waiting ++ more })
    (hev : t.queue.event = s.queue.event) : EndedAlone s (settle t) k o r := by
  have hrel := releaseStops_released t
  rw [settle_of_alone h.noReset h.reads]
  obtain ⟨x, hx, hcore⟩ := raiseKernelBits_sameCore (releaseStops t)
  have hgrows := releaseStops_grows t
  have hsr' := releaseStops_sr t
  rw [hx]
  generalize releaseStops t = v at *
  have hturner : v.turner = t.turner := hrel.same.get State.turner
  refine ⟨(he.grows hgrows).grows (.ofQueue rfl), ⟨?_, ?_⟩, fun j hj => ?_, fun i => ?_, fun i => ?_, ?_⟩
  · have hv : v = { t with queue := v.queue } := by
      have hsame : v.unringed = t.unringed := hrel.same
      have h2 : { v.unringed with queue := v.queue } = { t.unringed with queue := v.queue } := by rw [hsame]
      exact h2
    have ht := hs.1
    rw [hv, ht]
    rfl
  · change x = { s.turner with ipend := x.ipend, icond := x.icond }
    have h1 : t.turner = { s.turner with ipend := t.turner.ipend, icond := t.turner.icond } := hs.2
    rw [hcore, hturner, h1]
  · exact (hrel.same.get fun s => s.op j).trans (hops j hj)
  · rw [← hsr]
    exact hsr' i
  · obtain ⟨more, hm⟩ := hrel.cr i
    obtain ⟨more', hm'⟩ := hcr i
    exact ⟨more' ++ more, hm.trans (by rw [hm', List.append_assoc])⟩
  · exact (hrel.same.get fun s => s.queue.event).trans hev

theorem OnlyQueue.of_setQueue (s : State) (q : Queue) : OnlyQueue s (s.setQueue q) := ⟨rfl, rfl⟩

theorem OnlyQueue.trans (h : OnlyQueue s t) (h' : OnlyQueue t u) : OnlyQueue s u := by
  obtain ⟨h1, h2⟩ := h
  obtain ⟨h3, h4⟩ := h'
  refine ⟨?_, ?_⟩
  · rw [h3, h1]
  · rw [SameCore, h4, h2]

/-- A state without the queue engine and the core. -/
def State.unqueued (s : State) : State := { s with queue := Reset.queue, turner := Reset.turner }

theorem OnlyQueue.same (h : OnlyQueue s t) : Same State.unqueued s t := by
  rw [Same, h.1]
  rfl

/-- In a state in which ends stand alone, the completion of an operation stands alone. -/
theorem completeOp_endedAlone (h : EndsAlone s) (ho : s.op k = some o) (r : Result) :
    EndedAlone s (completeOp s k r) k o r := by
  have hk := op_some_lt ho
  have hended := decideOp_ended (r := r) ho
  unfold completeOp
  obtain e | e := decideOp_eq (resetting_of_endsAlone h) ho r <;> rw [e] at hended ⊢
  · exact settle_endedAlone (h.setOp fun p hp => absurd hp (by simp)) hended (.of_setQueue s _)
      (fun j hj => op_setOp_ne (Ne.symm hj) _) (fun _ => rfl) (fun i => ⟨[], by rw [List.append_nil]; rfl⟩) rfl
  · have hfin : EndsAlone (s.setOp k (some { o with phase := .finished, wait := (cplOf s k o r).wait, flushOut := [] })) :=
      h.setOp fun p hp => by cases hp; exact h.resets k o ho
    refine settle_endedAlone (hfin.congr (fun _ => rfl) (fun _ => rfl) rfl) hended (.of_setQueue s _)
      (fun j hj => op_setOp_ne (Ne.symm hj) _) (fun _ => rfl) (fun i => ?_) rfl
    rw [cr_setCr]
    split
    · next hi => rw [← hi.1]; exact ⟨_, rfl⟩
    · exact ⟨[], by rw [List.append_nil]; rfl⟩

theorem finishOp_endedAlone (h : EndsAlone s) (ho : s.op k = some o) (hf : o.flush = []) (r : Result) :
    EndedAlone s (finishOp s k r) k o r := by
  have he : finishOp s k r = completeOp s k r := by
    unfold finishOp
    rw [ho]
    exact if_pos hf
  rw [he]
  exact completeOp_endedAlone h ho r

/-- A body that ends the operation as soon as it performs. -/
theorem Performs.finish (h : Performs s k opcode s1 o) (ha : EndsAlone s) (hf : o.flush = []) (r : Result) :
    EndedAlone s1 (finishOp s1 k r) k o r := finishOp_endedAlone (h.endsAlone ha) h.op hf r

theorem Performs.onlyQueue (h : Performs s k opcode s1 o) : OnlyQueue s s1 := by
  obtain ⟨q, rfl⟩ := h.state
  exact .of_setQueue s q

/-- An operation that performs and ends alone, changing nothing else, is alone in what has changed since it performed. -/
theorem Performs.others (h : Performs s k opcode s1 o) (he : EndedAlone s1 t k o r) :
    OnlyQueue s t ∧ ∀ j < 512, j ≠ k → t.op j = s.op j :=
  ⟨h.onlyQueue.trans he.only, fun j _ hj => (he.others j hj).trans (h.op_ne hj)⟩

end Sys2Proof.Machine
end

section
/-! PROOF. KERNELs made ready for the core or refused, and SEGMENT_SET (O36). -/

set_option Elab.async false

namespace Sys2Proof.Machine
open Sys2Proof

variable {s s1 : State} {k : Fin 512} {o : Op}

/-! ### KERNEL (04 R108, 05 R153) -/

/-- A KERNEL that is admitted and that no order rule holds raises the interrupts of ready KERNELs, or is refused where there is no
runtime to launch it. -/
theorem exec_kernel_admitted (hr : s.running = true) (ho : s.op k = some o) (hop : o.opcode = 0x08) (hp : o.phase = .admitted)
    (hord : orderAllows s o = true) : exec (.kernel k) s = .next
      (if (s.turner.locked || s.turner.retained.isNone) = true then finishOp s k (Result.refused 0x12 0x20) else raiseKernelBits s) := by
  change Host.Outcome.next _ = Host.Outcome.next _
  rw [ho]
  dsimp only
  rw [hop, hr, hp, hord]
  rfl

/-- A ready KERNEL raises KERNEL_READY in a running core with no kernel running and none ready before. -/
theorem raiseKernelBits_ready (ho : s.op k = some o) (hready : kernelReady s o = true) (hm : s.turner.mode = .running)
    (hk : s.turner.runningK = []) (hi : s.turner.icond.getLsbD 2 = false) : (raiseKernelBits s).turner.ipend.getLsbD 2 = true := by
  have hcond : (kernelConds s).2 = true := by
    have hmem : (k.val, o) ∈ s.opList := mem_opList.mpr ho
    have hne : (s.opList.filter fun q => kernelReady s q.2) ≠ [] :=
      List.ne_nil_of_mem (List.mem_filter.mpr ⟨hmem, hready⟩)
    unfold kernelConds
    extract_lets t ready
    dsimp only
    rw [List.isEmpty_eq_false_iff.mpr hne, show t.runningK = [] from hk]
    rfl
  unfold raiseKernelBits
  extract_lets t c rise keep
  rw [if_neg (fun h => h hm)]
  change (t.ipend ||| rise 1 c.1 ||| rise 2 c.2).getLsbD 2 = true
  have hrise : rise 2 c.2 = BitVec.twoPow 4 2 := if_pos (by dsimp only [c, t]; rw [hcond, hi]; rfl)
  rw [BitVec.getLsbD_or, hrise, BitVec.getLsbD_twoPow]
  exact Bool.or_true _

/-! ### SEGMENT_SET (05 R140) -/

/-- The segment tables once the slot that a descriptor names has been written. -/
def segmentTables (t : Turner) (d : BitVec 512) : Vector (Vector Segment 8) 64 :=
  vset t.segTables (fld d 8 2) (vset (vget t.segTables (fld d 8 2) (Vector.replicate 8 0)) (fld d 10 1) (setSlotValue d))

/-- A SEGMENT_SET that performs, with no launched KERNEL on its table, writes its slot and ends. -/
theorem exec_segmentSet (h : Performs s k 0x44 s1 o)
    (hfree : kernelLaunched s (fun q => decide (fld q.desc 16 2 = fld o.desc 8 2)) = false) : exec (.segmentSet k) s = .next
      (finishOp (s1.setTurner { s1.turner with segTables := segmentTables s1.turner o.desc }) k Result.ok) := by
  obtain ⟨o0, ho, -, -, he⟩ := h.started
  have hd : o.desc = o0.desc := by rw [he]
  change Host.Outcome.next _ = Host.Outcome.next _
  rw [ho]
  rw [hd] at hfree
  dsimp only
  rw [hfree, if_neg Bool.false_ne_true, runOp_performs _ h]
  rfl

/-! ### The statement -/

/-- Settles O36. A KERNEL is refused by `finishOp_endedAlone` or raises KERNEL_READY by `raiseKernelBits_ready`; SEGMENT_SET is
`exec_segmentSet`. -/
theorem kernelsAndSegmentsReachTheCore : Obligations.KernelsAndSegmentsReachTheCore := by
  unfold Obligations.KernelsAndSegmentsReachTheCore
  refine ⟨fun s k o hr ho hop hp hord => ⟨fun hl hret => ?_, fun hno hf ha => ?_⟩, fun s s1 k o h hf ha hfree => ?_⟩
  · have hexec := exec_kernel_admitted hr ho hop hp hord
    obtain ⟨x, hx, hcore⟩ := raiseKernelBits_sameCore s
    have hready : kernelReady s o = true := by rw [kernelReady, opReady, hop, hp, hord]; rfl
    rw [hl, Option.isNone_eq_false_iff.mpr hret] at hexec
    exact ⟨_, hexec, ⟨by rw [hx]; rfl, by rw [hx]; exact hcore⟩, by rw [hx]; rfl, raiseKernelBits_ready ho hready⟩
  · have hexec := exec_kernel_admitted hr ho hop hp hord
    have hrefused : (s.turner.locked || s.turner.retained.isNone) = true := by
      rcases hno with h | h <;> rw [h]
      · rfl
      · exact Bool.or_true _
    obtain ⟨hended, ⟨ht, hcore⟩, -⟩ := finishOp_endedAlone ha ho hf (Result.refused 0x12 0x20)
    exact ⟨_, hexec.trans (congrArg _ (if_pos hrefused)), hended, hcore, by rw [ht]⟩
  · intro table slot tables
    obtain ⟨q, hq⟩ := h.state
    have ha1 : EndsAlone (s1.setTurner { s1.turner with segTables := segmentTables s1.turner o.desc }) :=
      (h.endsAlone ha).of_queue rfl rfl
    obtain ⟨hended, ⟨ht, hcore⟩, -⟩ := finishOp_endedAlone ha1 h.op hf Result.ok
    subst hq
    exact ⟨_, exec_segmentSet h hfree, hended, hcore, by rw [ht]; rfl, by rw [ht]; rfl, by rw [ht]; rfl⟩

end Sys2Proof.Machine
end

section
/-! PROOF. Numbers and their little-endian bytes: parts of a message, and the fields of a descriptor (O14, O19). -/

set_option Elab.async false

namespace Sys2Proof.Machine
open Sys2Proof

/-! ### Parts of a run of bytes (00 R4) -/

theorem bytesToNat_div (b : Nat) (bs : List Byte) : bytesToNat bs / 2 ^ (8 * b) = bytesToNat (bs.drop b) := by
  by_cases h : b ≤ bs.length
  · have hlen : (bs.take b).length = b := List.length_take_of_le h
    have hlt := bytesToNat_lt (bs.take b)
    rw [hlen] at hlt
    conv_lhs => rw [← List.take_append_drop b bs, bytesToNat_append, hlen]
    rw [Nat.add_mul_div_left _ _ (Nat.two_pow_pos _), Nat.div_eq_of_lt hlt, Nat.zero_add]
  · have hlt : bytesToNat bs < 2 ^ (8 * b) := (bytesToNat_lt bs).trans_le (Nat.pow_le_pow_right (by decide) (by omega))
    rw [List.drop_eq_nil_of_le (by omega), Nat.div_eq_of_lt hlt]
    rfl

theorem bytesToNat_mod (n : Nat) (bs : List Byte) : bytesToNat bs % 2 ^ (8 * n) = bytesToNat (bs.take n) := by
  by_cases h : n ≤ bs.length
  · have hlen : (bs.take n).length = n := List.length_take_of_le h
    have hlt := bytesToNat_lt (bs.take n)
    rw [hlen] at hlt
    conv_lhs => rw [← List.take_append_drop n bs, bytesToNat_append, hlen]
    rw [Nat.add_mul_mod_self_left, Nat.mod_eq_of_lt hlt]
  · rw [List.take_of_length_le (by omega)]
    exact Nat.mod_eq_of_lt ((bytesToNat_lt bs).trans_le (Nat.pow_le_pow_right (by decide) (by omega)))

theorem bytesToNat_natToBytes_of_lt {n x : Nat} (h : x < 2 ^ (8 * n)) : bytesToNat (natToBytes x n) = x := by
  rw [bytesToNat_natToBytes, Nat.mod_eq_of_lt h]

theorem toNat_ofBytes {w : Nat} {bs : List Byte} (h : 8 * bs.length ≤ w) :
    (BitVec.ofNat w (bytesToNat bs)).toNat = bytesToNat bs := by
  rw [BitVec.toNat_ofNat]
  exact Nat.mod_eq_of_lt ((bytesToNat_lt bs).trans_le (Nat.pow_le_pow_right Nat.two_pos h))

/-- Bytes [b, b + n) of 64 bytes, as the field of the words that they make. -/
theorem fld_ofBytes {bs : List Byte} (h : bs.length ≤ 64) (b n : Nat) :
    fld (BitVec.ofNat 512 (bytesToNat bs)) b n = bytesToNat ((bs.drop b).take n) := by
  rw [fld_eq, toNat_ofBytes (by omega), bytesToNat_div, bytesToNat_mod]

/-- A field is spelled by its bytes one by one. -/
theorem bytesToNat_extract (d : BitVec 512) (b n : Nat) :
    bytesToNat ((List.range n).map fun i => d.extractLsb' (8 * (b + i)) 8) = fld d b n := by
  induction n with
  | zero => rw [fld_eq, Nat.mul_zero, Nat.pow_zero, Nat.mod_one]; rfl
  | succ n ih =>
    have hbyte : (d.extractLsb' (8 * (b + n)) 8).toNat = d.toNat / 2 ^ (8 * b) / 2 ^ (8 * n) % 256 := by
      rw [BitVec.extractLsb'_toNat, Nat.shiftRight_eq_div_pow, Nat.mul_add, Nat.pow_add, Nat.div_div_eq_div_mul]
    have hpow : (2 : Nat) ^ (8 * (n + 1)) = 2 ^ (8 * n) * 256 := by rw [Nat.mul_add, Nat.pow_add]
    rw [List.range_succ, List.map_append, bytesToNat_append, ih, List.length_map, List.length_range, fld_eq, fld_eq, hpow,
      Nat.mod_mul]
    change _ + 2 ^ (8 * n) * ((d.extractLsb' (8 * (b + n)) 8).toNat + 256 * 0) = _
    rw [hbyte, Nat.mul_zero, Nat.add_zero]

/-! ### The fields of a message (R367, Table 14.12) -/

/-- The bytes of a message with a whole payload. -/
theorem mkMsg_bytes (kind opcode seq status code : Nat) {payload : List Byte} (h : payload.length = 56) :
    mkMsg kind opcode seq status code payload = BitVec.ofNat 512 (bytesToNat (natToBytes kind 1 ++ (natToBytes opcode 1 ++
      (natToBytes seq 2 ++ (natToBytes status 1 ++ natToBytes code 1 ++ [0, 0] ++ payload))))) := by
  rw [mkMsg, List.take_of_length_le h.le]
  simp only [List.append_assoc]

theorem fld_mkMsg_opcode (kind seq status code : Nat) {opcode : Nat} {payload : List Byte} (h : payload.length = 56)
    (hop : opcode < 256) : fld (mkMsg kind opcode seq status code payload) 1 1 = opcode := by
  rw [mkMsg_bytes _ _ _ _ _ h, fld_ofBytes (by simp [h])]
  exact bytesToNat_natToBytes_of_lt (n := 1) hop

theorem fld_mkMsg_seq (kind opcode status code : Nat) {seq : Nat} {payload : List Byte} (h : payload.length = 56)
    (hs : seq < 65536) : fld (mkMsg kind opcode seq status code payload) 2 2 = seq := by
  rw [mkMsg_bytes _ _ _ _ _ h, fld_ofBytes (by simp [h])]
  exact bytesToNat_natToBytes_of_lt (n := 2) hs

theorem fld_mkMsg_body (kind opcode seq status code : Nat) {payload : List Byte} (h : payload.length = 56) :
    fld (mkMsg kind opcode seq status code payload) 8 56 = bytesToNat payload := by
  rw [mkMsg_bytes _ _ _ _ _ h, fld_ofBytes (by simp [h])]
  exact congrArg bytesToNat (List.take_of_length_le h.le)

end Sys2Proof.Machine
end

section
/-! PROOF. Runs of reads and writes over plain device memory (O14, O19). -/

set_option Elab.async false

namespace Sys2Proof.Machine
open Sys2Proof

variable {s : State} {ag : Agent} {r : Region} {a n fuel : Nat} {data : List Byte}

/-! ### Runs of bytes in memory -/

theorem Memory.readN_append (m : Memory) (k i j : Nat) : m.readN k (i + j) = m.readN k i ++ m.readN (k + i) j := by
  induction i generalizing k with
  | zero => rw [Nat.zero_add]; rfl
  | succ i ih => rw [Nat.succ_add, Memory.readN, ih, Memory.readN, Nat.add_assoc k 1 i, Nat.add_comm 1 i]; rfl

theorem Memory.writeN_append (m : Memory) (k : Nat) (xs ys : List Byte) :
    m.writeN k (xs ++ ys) = (m.writeN k xs).writeN (k + xs.length) ys := by
  induction xs generalizing m k with
  | nil => rfl
  | cons x xs ih => rw [List.cons_append, Memory.writeN, ih, Memory.writeN, List.length_cons, Nat.add_assoc, Nat.add_comm 1]

theorem linePart_le (a n : Nat) : linePart a n ≤ n := Nat.min_le_left _ _

theorem linePart_pos (a : Nat) (h : 0 < n) : 0 < linePart a n := by
  unfold linePart
  omega

/-! ### Plain memory (R59, R60, R254) -/

theorem Plain.part {b m : Nat} (h : Plain s r a n) (hl : a ≤ b) (hu : b + m ≤ a + n) : Plain s r b m :=
  fun x hx hx' => h x (hl.trans hx) (by omega)

/-- What is plain depends on the link, the map of memory, the poison marks and the counters alone. -/
theorem Plain.congr {t : State} (h : Plain s r a n) (hl : t.link = s.link) (hp : t.power = s.power) (hf : t.faults = s.faults)
    (hc : t.scale = s.scale) : Plain t r a n := by
  intro x hx hx'
  obtain ⟨hr, hline, hpoison, hwatch⟩ := h x hx hx'
  exact ⟨by rw [State.region, hp]; exact hr, hline.congr hl, by rw [State.poisoned, hf]; exact hpoison,
    by rw [watchers, hc]; exact hwatch⟩

theorem Plain.setDev (h : Plain s r a n) (m : Memory) : Plain (s.setDev m) r a n := h.congr rfl rfl rfl rfl

theorem Plain.inRegion (h : Plain s r a n) (hn : 0 < n) : s.inRegion a n r = true := by
  rw [State.inRegion, decide_eq_true hn, decide_eq_true (h a le_rfl (by omega)).1, decide_eq_true (h _ (by omega) (by omega)).1]
  rfl

/-- An agent that reaches the plain memory of a region, with no error reported to it. -/
structure Reaches (ag : Agent) (r : Region) : Prop where
  reach : r ∈ ag.reach
  device : r ≠ .host
  ecc : ag.ecc = []

/-- The checks of an access to plain memory that are the same for reads, writes and probes. -/
theorem Plain.allowed (h : Plain s r a n) (hn : 0 < n) (hag : Reaches ag r) :
    (ag.reach.any fun r => s.inRegion a n r) = true ∧ s.region a ≠ .host ∧ LineFree s (a / 64) := by
  obtain ⟨hr, hline, -, -⟩ := h a le_rfl (by omega)
  exact ⟨List.any_eq_true.mpr ⟨r, hag.reach, h.inRegion hn⟩, hr ▸ hag.device, hline⟩

/-- A read within a line of plain memory returns its bytes and changes nothing. -/
theorem busRead_plain (h : Plain s r a n) (hn : 0 < n) (hag : Reaches ag r) : busRead s ag a n = .ok (s.dev.readN a n) s := by
  obtain ⟨hreach, hhost, hline⟩ := h.allowed hn hag
  have hfresh : freshLoss s ag (a / 64) = false := by simp [freshLoss, Agent.eccAt, hag.ecc]
  have hpoison : s.poisoned a = false := (h a le_rfl (by omega)).2.2.1
  simp only [busRead, hreach, hhost, hline.awaitLine, hfresh, hpoison, eccSeen_nil hag.ecc, hline.leaveHome, Bool.not_true,
    Bool.false_eq_true, if_false]

/-- A write performed on an unwatched line without a mark changes its bytes and nothing else. -/
theorem homeWrite_unmarked (hp : s.poisoned a = false) (hw : watchers s (a / 64) = []) :
    homeWrite s a data = s.setDev (s.dev.writeN a data) := by
  have hkeep : s.faults.poison.filter (· ≠ a / 64) = s.faults.poison := by
    refine List.filter_eq_self.mpr fun x hx => decide_eq_true ?_
    rintro rfl
    exact Bool.eq_false_iff.mp hp (List.contains_iff_mem.mpr hx)
  have hclear (m : Memory) : clearPoison (s.setDev m) a = s.setDev m := by
    unfold clearPoison
    rw [State.setDev_faults, hkeep]
    rfl
  have hdeliver (m : Memory) : deliver (s.setDev m) (a / 64) = s.setDev m := by
    unfold deliver
    rw [show watchers (s.setDev m) (a / 64) = [] from hw, List.map_nil, List.append_nil]
    rfl
  unfold homeWrite
  extract_lets s1 s2
  have h2 : s2 = s1 := by
    dsimp only [s2, s1]
    rw [hclear, ite_self]
  rw [h2]
  exact hdeliver _

/-- A write within a line of plain memory changes its bytes and nothing else. -/
theorem busWrite_plain (h : Plain s r a data.length) (hn : 0 < data.length) (hag : Reaches ag r)
    (hd : s.scale.delivered.length ≤ 1024) : busWrite s ag a data = .ok () (s.setDev (s.dev.writeN a data)) := by
  obtain ⟨hreach, hhost, hline⟩ := h.allowed hn hag
  obtain ⟨-, -, hpoison, hwatch⟩ := h a le_rfl (by omega)
  have hleave : leaveHome (s.setDev (s.dev.writeN a data)) ag.who (a / 64) = s.setDev (s.dev.writeN a data) :=
    LineFree.leaveHome (s := s.setDev (s.dev.writeN a data)) (hline.congr rfl) _
  simp only [busWrite, hreach, hhost, hline.awaitLine, watchRoom_unwatched hwatch hd, eccSeen_nil hag.ecc, ite_self,
    homeWrite_unmarked hpoison hwatch, hleave, Bool.not_true, Bool.false_eq_true, if_false]

/-- A probe of a line of plain memory finds that it could be written. -/
theorem busProbe_plain (h : Plain s r a n) (hn : 0 < n) (hag : Reaches ag r) (hd : s.scale.delivered.length ≤ 1024) :
    busProbe s ag a n = .ok () s := by
  obtain ⟨hreach, hhost, hline⟩ := h.allowed hn hag
  simp only [busProbe, hreach, hhost, hline.awaitLine, watchRoom_unwatched (h a le_rfl (by omega)).2.2.2 hd, Bool.not_true,
    Bool.false_eq_true, if_false, if_true]

/-! ### Line by line -/

/-- A run of n bytes at a touches no more lines than the fuel allows for. -/
def Fueled (fuel a n : Nat) : Prop := n = 0 ∨ a % 64 + n ≤ 64 * fuel

theorem Fueled.rest (h : Fueled (fuel + 1) a n) : Fueled fuel (a + linePart a n) (n - linePart a n) := by
  unfold Fueled linePart at *
  omega

theorem Fueled.zero (h : Fueled 0 a n) : n = 0 := by
  unfold Fueled at h
  omega

theorem fueled_lines (a n : Nat) : Fueled (n / 64 + 2) a n := by
  unfold Fueled
  omega

theorem readRun_plain (h : Plain s r a n) (hag : Reaches ag r) (hf : Fueled fuel a n) :
    ∃ b, readRun fuel s ag a n = (b, .ok (s.dev.readN a n) s) := by
  induction fuel generalizing a n with
  | zero =>
    have hn : n = 0 := hf.zero
    exact ⟨a, by rw [hn]; rfl⟩
  | succ fuel ih =>
    unfold readRun
    split
    · next hn => exact ⟨a, by rw [hn]; rfl⟩
    · next hn =>
      have hle := linePart_le a n
      have hsplit : linePart a n + (n - linePart a n) = n := by omega
      obtain ⟨b, hb⟩ := ih (h.part (b := a + linePart a n) (m := n - linePart a n) (by omega) (by omega)) hf.rest
      extract_lets k
      rw [busRead_plain (h.part le_rfl (by omega)) (linePart_pos a (by omega)) hag]
      dsimp only [k]
      rw [hb]
      refine ⟨b, ?_⟩
      conv_rhs => rw [← hsplit, Memory.readN_append]

theorem probeRun_plain (h : Plain s r a n) (hag : Reaches ag r) (hd : s.scale.delivered.length ≤ 1024)
    (hf : Fueled fuel a n) : ∃ b, probeRun fuel s ag a n = (b, .ok () s) := by
  induction fuel generalizing a n with
  | zero => exact ⟨a, rfl⟩
  | succ fuel ih =>
    unfold probeRun
    split
    · exact ⟨a, rfl⟩
    · next hn =>
      have hle := linePart_le a n
      rw [busProbe_plain (h.part le_rfl (by omega)) (linePart_pos a (by omega)) hag hd]
      exact ih (h.part (by omega) (by omega)) hf.rest

theorem busWriteN_plain (h : Plain s r a data.length) (hag : Reaches ag r) (hd : s.scale.delivered.length ≤ 1024)
    (hf : Fueled fuel a data.length) (done : Nat) :
    busWriteN fuel s ag a data done = (done + data.length, .ok () (s.setDev (s.dev.writeN a data))) := by
  induction fuel generalizing s a data done with
  | zero =>
    have hn : data = [] := List.eq_nil_of_length_eq_zero hf.zero
    rw [hn]
    rfl
  | succ fuel ih =>
    unfold busWriteN
    split
    · next hn => rw [hn]; rfl
    · next hn =>
      have hpos : 0 < data.length := List.length_pos_iff.mpr hn
      have hle := linePart_le a data.length
      extract_lets k
      have htake : (data.take k).length = k := List.length_take_of_le hle
      have hdrop : (data.drop k).length = data.length - k := List.length_drop
      have hpart : Plain s r a (data.take k).length := h.part le_rfl (by omega)
      rw [busWrite_plain hpart (by rw [htake]; exact linePart_pos a hpos) hag hd]
      have hrest : Plain s r (a + k) (data.drop k).length := h.part (by omega) (by omega)
      have hfuel : Fueled fuel (a + k) (data.drop k).length := by rw [hdrop]; exact hf.rest
      dsimp only
      rw [ih (s := s.setDev (s.dev.writeN a (data.take k))) (hrest.setDev _) hd hfuel, hdrop, show done + k + (data.length - k) = done + data.length by omega]
      have hbytes : (s.dev.writeN a (data.take k)).writeN (a + k) (data.drop k) = s.dev.writeN a data := by
        conv_rhs => rw [← List.take_append_drop k data, Memory.writeN_append, htake]
      exact congrArg (fun m => (done + data.length, Access.ok () (s.setDev m))) hbytes

theorem busWriteAll_plain (h : Plain s r a data.length) (hag : Reaches ag r) (hd : s.scale.delivered.length ≤ 1024) :
    busWriteAll s ag a data = (data.length, .ok () (s.setDev (s.dev.writeN a data))) := by
  rw [busWriteAll, busWriteN_plain h hag hd (fueled_lines a _), Nat.zero_add]

end Sys2Proof.Machine
end

section
/-! PROOF. The operations that the Tailstock performs, and VAULT_DISCARD (O19). -/

set_option Elab.async false

namespace Sys2Proof.Machine
open Sys2Proof

variable {s s1 : State} {k : Fin 512} {o : Op} {opcode : Nat}

/-! ### A request over the mailbox (14 R367, R368, R370) -/

/-- The mailbox is free, and nothing goes before the requests of operations after the first RESET_NOTICE. -/
structure MailboxFree (s : State) : Prop where
  toMg : s.mgmt.toMg = none
  notice : s.mgmt.awaitNotice = false
  alerts : s.faults.alerts = []
  hp : s.mgmt.latchHp = none
  ffr : s.mgmt.latchFfr = none
  doe : s.mgmt.doeOut = []

/-- The bytes 8-63 of a descriptor. -/
def opPayload (o : Op) : List Byte := (List.range 56).map fun i => o.desc.extractLsb' (8 * (8 + i)) 8

/-- The OP_REQUEST of an operation (Table 14.12). -/
def opRequest (o : Op) (seq : W16) : MboxMsg := mkMsg 0x01 o.opcode seq.toNat 0 0 (opPayload o)

/-- The state once the request of the one management operation q, of the operation o, is in the buffer. -/
def requestSent (s : State) (q : MgmtOp) (o : Op) : State :=
  { s with
    mgmt := { s.mgmt with toMg := some (opRequest o q.seq), ops := [{ q with sent := true }] }
    jiman := { s.jiman with intPend := s.jiman.intPend ||| 2 } }

theorem nextOp_unsent {q : MgmtOp} (hq : s.mgmt.ops = [q]) (hs : q.sent = false) (ho : s.op q.entry = some o) :
    nextOp s = some ({ q with sent := true }, opRequest o q.seq) := by
  rw [nextOp, hq, List.findSome?_cons]
  dsimp only
  rw [ho]
  dsimp only
  rw [hs]
  rfl

theorem pumpToMg_unsent {q : MgmtOp} (h : MailboxFree s) (hr : s.running = true) (hq : s.mgmt.ops = [q]) (hs : q.sent = false)
    (ho : s.op q.entry = some o) : pumpToMg s = requestSent s q o := by
  obtain ⟨hto, hnotice, halerts, hhp, hffr, hdoe⟩ := h
  unfold pumpToMg
  extract_lets m put
  have hidle : (m.toMg.isSome || m.awaitNotice || !s.running) = false := by
    rw [show m.toMg = none from hto, show m.awaitNotice = false from hnotice, hr]
    rfl
  have hmap : m.ops.map (fun p => if p.seq = q.seq then { q with sent := true } else p) = [{ q with sent := true }] := by
    rw [show m.ops = [q] from hq, List.map_singleton, if_pos rfl]
  rw [hidle, if_neg Bool.false_ne_true]
  split
  · next e => exact absurd (halerts.symm.trans e) (by simp)
  · split
    · next e => exact absurd (hhp.symm.trans e) (by simp)
    · next e => exact absurd (hffr.symm.trans e) (by simp)
    · next e => exact absurd (hdoe.symm.trans e) (by simp)
    · rw [nextOp_unsent hq hs ho]
      dsimp only
      rw [hmap]
      rfl

/-- What the operation in entry k, with its request made, is to the Tailstock. -/
def requestOf (s : State) (k : Nat) : MgmtOp := { entry := k, seq := s.mgmt.seq + 1, sent := false, offset := 0 }

/-- An operation's first pass over the mailbox puts its request in the buffer, with the next SEQ. -/
theorem passOp_request {k : Nat} (h : MailboxFree s) (hops : s.mgmt.ops = []) (hr : s.running = true) (ho : s.op k = some o) :
    passOp s k = requestSent (s.setMgmt { s.mgmt with seq := s.mgmt.seq + 1, ops := [requestOf s k] }) (requestOf s k) o := by
  have hnone : requested s k = false := by rw [requested, hops]; rfl
  obtain ⟨hto, hnotice, halerts, hhp, hffr, hdoe⟩ := h
  rw [passOp, hnone, if_neg Bool.false_ne_true, requestOp, hops]
  exact pumpToMg_unsent ⟨hto, hnotice, halerts, hhp, hffr, hdoe⟩ hr rfl rfl ho

theorem opRequest_fields (o : Op) (seq : W16) : fld (opRequest o seq) 0 1 = 1 ∧ fld (opRequest o seq) 1 1 = o.opcode ∧
    fld (opRequest o seq) 2 2 = seq.toNat ∧ fld (opRequest o seq) 8 56 = fld o.desc 8 56 := by
  have hlen : (opPayload o).length = 56 := by rw [opPayload, List.length_map, List.length_range]
  have hop : o.opcode < 256 := by
    rw [Op.opcode, fld_eq]
    exact Nat.mod_lt _ (by decide)
  exact ⟨fld_mkMsg_kind _ _ _ _ _ _, fld_mkMsg_opcode _ _ _ _ hlen hop, fld_mkMsg_seq _ _ _ _ hlen seq.isLt,
    (fld_mkMsg_body _ _ _ _ _ hlen).trans (bytesToNat_extract _ _ _)⟩

/-- The commands of the operations that the Tailstock performs, in the order of their opcodes. -/
def tailstockCommand (k : Fin 512) (i : Fin 4) : Instr := [.fwStage k [], .fwActivate k, .fwConfirm k].getD i (.telemetrySnapshot k)

def tailstockOpcode (i : Fin 4) : Nat := [0x58, 0x59, 0x5A, 0x60].getD i 0

/-- The first piece of an image that is readable is read, and nothing changes. -/
theorem stageRead_first (hops : s.mgmt.ops = []) (hp : Plain s .kernels (fld o.desc 16 8) (fld o.desc 28 4)) :
    ∃ a bs, stageRead s k o (stageAgent o []) = (a, .ok bs s) := by
  have hag : Reaches (stageAgent o []) .kernels := ⟨List.mem_cons_self, by decide, rfl⟩
  obtain ⟨a, ha⟩ := readRun_plain hp hag (fueled_lines _ _)
  unfold stageRead
  rw [hops]
  exact ⟨a, _, ha⟩

theorem exec_tailstock (i : Fin 4) (h : Performs s k (tailstockOpcode i) s1 o) (hops : s1.mgmt.ops = [])
    (hsrc : tailstockOpcode i = 0x58 → Plain s1 .kernels (fld o.desc 16 8) (fld o.desc 28 4)) :
    exec (tailstockCommand k i) s = .next (passOp s1 k) := by
  fin_cases i
  · obtain ⟨a, bs, ha⟩ := stageRead_first (k := k) hops (hsrc rfl)
    refine congrArg Host.Outcome.next ((runOp_performs _ h).trans ?_)
    rw [ha]
  · exact congrArg Host.Outcome.next (runOp_performs _ h)
  · exact congrArg Host.Outcome.next (runOp_performs _ h)
  · exact congrArg Host.Outcome.next (runOp_performs _ h)

/-! ### VAULT_DISCARD (12 R328) -/

/-- The cache once the waiting image has its DISCARDED record. -/
def imageDiscarded (c : Cache) : Cache := { appendRecord c c.imageArea .discarded with discarded := true, image := .none }

theorem appendRecord_image (c : Cache) (area : Bool) (b : VaultBody) : (appendRecord c area b).image = c.image := by
  unfold appendRecord setArea
  split <;> rfl

theorem appendRecord_extents (c : Cache) (area : Bool) (b : VaultBody) : (appendRecord c area b).extents = c.extents := by
  unfold appendRecord setArea
  split <;> rfl

theorem area_setArea (c : Cache) (x y : Bool) (rs : List VaultRec) :
    (setArea c x rs).area y = if y = x then rs else c.area y := by
  cases x <;> cases y <;> rfl

/-- The state once a waiting image has been discarded: a change of VAULT_PENDING is an event. -/
theorem setImage_discard (h : imageWaits s = true) :
    setImage (s.setCache { appendRecord s.cache s.cache.imageArea .discarded with discarded := true }) .none =
      deviceEvent (s.setCache (imageDiscarded s.cache)) 8 := by
  have hwas : imageWaits (s.setCache { appendRecord s.cache s.cache.imageArea .discarded with discarded := true }) = true := by
    rw [imageWaits, State.setCache_cache, appendRecord_image]
    exact h
  unfold setImage
  rw [hwas]
  rfl

theorem EndsAlone.unsignalled {t : State} (h : EndsAlone s) (ht : Same State.unsignalled s t) : EndsAlone t :=
  h.congr (fun i => ht.get fun s => (s.sr i).resetting) (fun j => ht.get fun s => s.op j) (ht.get fun s => s.link.invalidations)

theorem assembleRecorded_unnamed (h : s.firmware.inUse.uuid = 0) : assembleRecorded s = s := if_pos h

/-- With no array recorded, the discard of a waiting image ends the operation. -/
theorem exec_vaultDiscard_image (h : Performs s k 0x61 s1 o) (hw : imageWaits s1 = true) (ha : s1.keep.array = none)
    (hu : s1.firmware.inUse.uuid = 0) :
    exec (.vaultDiscard k) s = .next (completeOp (deviceEvent (s1.setCache (imageDiscarded s1.cache)) 8) k Result.ok) := by
  have hd := deviceEvent_unsignalled (s1.setCache (imageDiscarded s1.cache)) 8
  have hnone : (deviceEvent (s1.setCache (imageDiscarded s1.cache)) 8).keep.array = none :=
    (hd.get fun s => s.keep.array).trans ha
  have huuid : (deviceEvent (s1.setCache (imageDiscarded s1.cache)) 8).firmware.inUse.uuid = 0 :=
    (hd.get fun s => s.firmware.inUse.uuid).trans hu
  refine congrArg Host.Outcome.next ((runOp_performs _ h).trans ?_)
  dsimp only
  rw [if_pos hw, setImage_discard hw, hnone, Option.isSome_none, if_neg Bool.false_ne_true, assembleRecorded_unnamed huuid]

/-- The cache of a FAILED array with every live extent given up. -/
def extentsDiscarded (c : Cache) : Cache :=
  { c with
    discarded := true
    extents := c.extents.map fun e => if e.live then { e with void := true, released := true } else e }

/-- The cache once the log is empty. -/
def logEmptied (c : Cache) : Cache := { c with extents := [], head := c.tail }

/-- Where no KEEP_WRITE waits for an extent, none completes. -/
theorem completeWaiters_idle (h : ∀ e ∈ s.cache.extents, e.waiter = none) : completeWaiters s = s := by
  have hks : s.cache.extents.filterMap (fun e => if e.released && e.ready then e.waiter else none) = [] :=
    List.filterMap_eq_nil_iff.mpr fun e he => by rw [h e he, ite_self]
  have hmap : s.cache.extents.map (fun e => if e.released && e.ready then { e with waiter := none } else e) = s.cache.extents := by
    conv_rhs => rw [← List.map_id s.cache.extents]
    refine List.map_congr_left fun e he => ?_
    have hself : { e with waiter := none } = e := by rw [← h e he]
    rw [hself, ite_self]
    rfl
  unfold completeWaiters
  rw [hks, hmap]
  rfl

/-- With every extent released and no replay in progress, the log empties. -/
theorem settleLog_released (hw : ∀ e ∈ s.cache.extents, e.waiter = none) (hr : ∀ e ∈ s.cache.extents, e.released = true)
    (hi : s.cache.image = .none) : settleLog s = s.setCache (logEmptied s.cache) := by
  have hadvance : advanceLog s.cache = logEmptied s.cache := by
    have hrest : s.cache.extents.dropWhile (·.released) = [] := List.dropWhile_eq_nil_iff.mpr hr
    unfold advanceLog
    rw [hrest]
    rfl
  unfold settleLog
  extract_lets u
  have hu : u = s := completeWaiters_idle hw
  rw [hu, hadvance]
  refine if_neg fun c => ?_
  have himage : s.cache.image = .replaying := c.1
  exact absurd (hi.symm.trans himage) (by decide)

/-- The discard of the dirty data of a FAILED array empties the log and ends the operation. -/
theorem exec_vaultDiscard_extents {a : KArray} (h : Performs s k 0x61 s1 o) (hi : s1.cache.image = .none)
    (ha : s1.keep.array = some a) (hd : a.isDown = true) (hl : ∃ e ∈ s1.cache.extents, e.live = true)
    (hr : ∀ e ∈ s1.cache.extents, e.live = true ∨ e.released = true) (hw : ∀ e ∈ s1.cache.extents, e.waiter = none) :
    exec (.vaultDiscard k) s = .next (completeOp (s1.setCache (logEmptied (extentsDiscarded s1.cache))) k Result.ok) := by
  have hno : imageWaits s1 = false := by rw [imageWaits, hi]; rfl
  have hdirty : (a.isDown && s1.cache.extents.any (·.live)) = true := by
    rw [hd, List.any_eq_true.mpr hl]
    rfl
  have hlog : settleLog (s1.setCache (extentsDiscarded s1.cache)) =
      s1.setCache (logEmptied (extentsDiscarded s1.cache)) := by
    refine settleLog_released (fun e he => ?_) (fun e he => ?_) hi
    · obtain ⟨x, hx, rfl⟩ := List.mem_map.mp he
      split
      · exact hw x hx
      · exact hw x hx
    · obtain ⟨x, hx, rfl⟩ := List.mem_map.mp he
      split
      · rfl
      · next hlive => exact (hr x hx).resolve_left hlive
  refine congrArg Host.Outcome.next ((runOp_performs _ h).trans ?_)
  dsimp only
  rw [hno, if_neg Bool.false_ne_true, ha]
  dsimp only
  rw [if_pos hdirty]
  exact congrArg (completeOp · k Result.ok) hlog

/-- With neither a waiting image nor dirty data the discard is refused. -/
theorem exec_vaultDiscard_refused (h : Performs s k 0x61 s1 o) (hi : s1.cache.image = .none)
    (hno : s1.keep.array = none ∨ ∀ e ∈ s1.cache.extents, e.live = false) :
    exec (.vaultDiscard k) s = .next (completeOp s1 k (Result.refused 0x12 0x25)) := by
  have hwaits : imageWaits s1 = false := by rw [imageWaits, hi]; rfl
  refine congrArg Host.Outcome.next ((runOp_performs _ h).trans ?_)
  dsimp only
  rw [hwaits, if_neg Bool.false_ne_true]
  cases ha : s1.keep.array with
  | none => rfl
  | some a =>
    have hclean : s1.cache.extents.any (·.live) = false :=
      List.any_eq_false.mpr fun e he => Bool.eq_false_iff.mp ((hno.resolve_left (by rw [ha]; exact Option.some_ne_none a)) e he)
    dsimp only
    rw [hclean, Bool.and_false, if_neg Bool.false_ne_true]

/-! ### The statement -/

/-- Settles O19. The four requests are one: `passOp_request`; the three ends of VAULT_DISCARD stand alone
(`completeOp_endedAlone`). -/
theorem operationsOfTheTailstock : Obligations.OperationsOfTheTailstock := by
  unfold Obligations.OperationsOfTheTailstock
  refine ⟨fun s s1 k o i => ?_, fun s s1 k o h ha => ⟨fun hw hnone hu => ?_, fun a hi harr hdown hl hr hw => ?_, fun hi hno => ?_⟩⟩
  · intro opcode command h hsrc hops hto hnotice halerts hhp hffr hdoe
    obtain ⟨hkind, hop, hseq, hbody⟩ := opRequest_fields o (s.mgmt.seq + 1)
    have hopcode := h.opcode_eq
    have hrun := h.running
    have hentry := h.op
    obtain ⟨q, rfl⟩ := h.state
    have hexec := exec_tailstock i h hops fun e => (hsrc e).congr rfl rfl rfl rfl
    rw [passOp_request (s := s.setQueue q) ⟨hto, hnotice, halerts, hhp, hffr, hdoe⟩ hops hrun hentry] at hexec
    exact ⟨_, _, hexec, rfl, hkind, hop.trans hopcode, hseq, hbody, rfl, hentry, rfl⟩
  · have hs := h.onlyQueue.same
    have hwaits : imageWaits s1 = true := by
      rw [imageWaits, hs.get State.cache]
      rcases hw with hi | hi <;> rw [hi] <;> rfl
    have hexec := exec_vaultDiscard_image h hwaits ((hs.get fun s => s.keep.array).trans hnone)
      ((hs.get fun s => s.firmware.inUse.uuid).trans hu)
    rw [hs.get State.cache] at hexec
    have hd := deviceEvent_unsignalled (s1.setCache (imageDiscarded s.cache)) 8
    have hevent := deviceEvent_event (s1.setCache (imageDiscarded s.cache)) 8 8 (by decide)
    generalize deviceEvent (s1.setCache (imageDiscarded s.cache)) 8 = u at hexec hd hevent
    have hu : EndsAlone u := EndsAlone.unsignalled (s := s1.setCache (imageDiscarded s.cache))
      ((h.endsAlone ha).of_queue rfl rfl) hd
    obtain ⟨hended, honly, -, -, -, hev⟩ := completeOp_endedAlone hu ((hd.get fun s => s.op k).trans h.op) Result.ok
    have hcache := (honly.same.get State.cache).trans (hd.get State.cache)
    have harea (x : Bool) : (imageDiscarded s.cache).area x = (appendRecord s.cache s.cache.imageArea .discarded).area x := rfl
    refine ⟨_, hexec, hended, ?_, ?_, ?_, ?_, ?_, ?_, ?_, ?_⟩
    · rw [hcache]; rfl
    · rw [hcache]; rfl
    · rw [hcache, State.setCache_cache, harea, appendRecord, area_setArea, if_pos rfl]
      exact ⟨_, rfl, rfl⟩
    · rw [hcache, State.setCache_cache, harea, appendRecord, area_setArea, if_neg (Bool.not_ne_self _)]
    · rw [hcache]
      exact appendRecord_extents _ _ _
    · rw [hev, hevent]
      exact Bool.or_true _
    · exact (honly.same.get State.keep).trans ((hd.get State.keep).trans (hs.get State.keep))
    · exact (honly.same.get State.dev).trans ((hd.get State.dev).trans (hs.get State.dev))
  · have hs := h.onlyQueue.same
    have hcache : s1.cache = s.cache := hs.get State.cache
    have hexec := exec_vaultDiscard_extents h (hcache ▸ hi) ((hs.get fun s => s.keep.array).trans harr) hdown (hcache ▸ hl)
      (hcache ▸ hr) (hcache ▸ hw)
    rw [hcache] at hexec
    have hu : EndsAlone (s1.setCache (logEmptied (extentsDiscarded s.cache))) := (h.endsAlone ha).of_queue rfl rfl
    obtain ⟨hended, honly, -⟩ := completeOp_endedAlone hu h.op Result.ok
    have hcache := honly.same.get State.cache
    exact ⟨_, hexec, hended, by rw [hcache]; rfl, by rw [hcache]; rfl, by rw [hcache]; rfl,
      (honly.same.get State.keep).trans (hs.get State.keep), (honly.same.get State.dev).trans (hs.get State.dev)⟩
  · have hs := h.onlyQueue.same
    have hcache : s1.cache = s.cache := hs.get State.cache
    obtain ⟨hended, honly, -⟩ := completeOp_endedAlone (h.endsAlone ha) h.op (Result.refused 0x12 0x25)
    exact ⟨_, exec_vaultDiscard_refused h (hcache ▸ hi) (by rw [hcache, hs.get State.keep]; exact hno), hended,
      (honly.same.get State.cache).trans hcache, (honly.same.get State.keep).trans (hs.get State.keep),
      (honly.same.get State.dev).trans (hs.get State.dev)⟩

end Sys2Proof.Machine
end

section
/-! PROOF. NOP, FENCE, RING_CREATE and the deletion of a completion ring (O13). -/

set_option Elab.async false

namespace Sys2Proof.Machine
open Sys2Proof

variable {s s1 : State} {k : Fin 512} {o : Op} {i : Nat}

/-! ### RING_CREATE (R68, R110) -/

theorem EndsAlone.setSr (h : EndsAlone s) {x : SubRing} (hx : x.resetting = none) (i : Nat) : EndsAlone (s.setSr i x) := by
  refine ⟨fun j hj => ?_, h.resets, h.reads⟩
  rw [sr_setSr]
  split
  · exact hx
  · exact h.rings j hj

theorem EndsAlone.setCr (h : EndsAlone s) (i : Nat) (x : CplRing) : EndsAlone (s.setCr i x) :=
  h.congr (fun _ => rfl) (fun _ => rfl) rfl

/-- A RING_CREATE of a submission ring creates it where it does not exist and its home ring does. -/
theorem exec_ringCreate_sr (h : Performs s k 0x40 s1 o) (hi : fld o.desc 9 1 = i) (hsr : fld o.desc 8 1 = 0) :
    exec (.ringCreate k) s = .next (if (s.sr i).exists_ || !(s.cr (fld o.desc 24 2)).exists_ then finishOp s1 k changedSince
      else finishOp (s1.setSr i (createdSr o.desc)) k Result.ok) := by
  subst hi
  refine congrArg Host.Outcome.next ((runOp_performs _ h).trans ?_)
  extract_lets i
  rw [if_pos hsr, h.sr, h.cr]

/-- A RING_CREATE of a completion ring creates it where it does not exist. -/
theorem exec_ringCreate_cr (h : Performs s k 0x40 s1 o) (hi : fld o.desc 9 1 = i) (hcr : fld o.desc 8 1 = 1) :
    exec (.ringCreate k) s = .next (if (s.cr i).exists_ then finishOp s1 k changedSince
      else finishOp (s1.setCr i (createdCr o.desc)) k Result.ok) := by
  subst hi
  refine congrArg Host.Outcome.next ((runOp_performs _ h).trans ?_)
  extract_lets i
  rw [if_neg (by omega), h.cr]

/-! ### RING_DELETE of a completion ring (R111) -/

/-- Whether a completion ring is the home of a submission ring, or named by an operation. -/
def RingUsed (s : State) (i : Nat) : Prop :=
  (∃ j < 32, (s.sr j).exists_ = true ∧ (s.sr j).homeCr = i) ∨ ∃ j p, s.op j = some p ∧ p.crIndex = i

/-- `RingUsed` as the model tests it. -/
def ringInUse (s : State) (i : Nat) : Bool :=
  ((List.range 32).any fun j => (s.sr j).exists_ && decide ((s.sr j).homeCr = i)) ||
    (s.opList.any fun q => decide (q.2.crIndex = i))

theorem ringInUse_iff (s : State) (i : Nat) : ringInUse s i = true ↔ RingUsed s i := by
  rw [ringInUse, Bool.or_eq_true, opList_any, List.any_eq_true]
  simp only [List.mem_range, Bool.and_eq_true, decide_eq_true_eq, RingUsed]

/-- The operations of the tracker are the same but for what a start fixes of one of them. -/
theorem Performs.exists_op {k opcode : Nat} (h : Performs s k opcode s1 o) {f : Op → Prop}
    (hf : ∀ p x w e, f { p with phase := x, wait := w, engine := e } ↔ f p) :
    (∃ j p, s1.op j = some p ∧ f p) ↔ ∃ j p, s.op j = some p ∧ f p := by
  obtain ⟨o0, ho, -, -, he⟩ := h.started
  have hfo : f o ↔ f o0 := he ▸ hf o0 _ _ _
  constructor
  · rintro ⟨j, p, hp, hfp⟩
    by_cases hj : j = k
    · subst hj
      cases hp.symm.trans h.op
      exact ⟨j, o0, ho, hfo.mp hfp⟩
    · exact ⟨j, p, (h.op_ne hj).symm.trans hp, hfp⟩
  · rintro ⟨j, p, hp, hfp⟩
    by_cases hj : j = k
    · subst hj
      cases hp.symm.trans ho
      exact ⟨j, o, h.op, hfo.mpr hfp⟩
    · exact ⟨j, p, (h.op_ne hj).trans hp, hfp⟩

theorem Performs.ringUsed {k opcode : Nat} (h : Performs s k opcode s1 o) (i : Nat) : RingUsed s1 i ↔ RingUsed s i := by
  unfold RingUsed
  rw [h.exists_op (f := fun p => p.crIndex = i) fun _ _ _ _ => Iff.rfl]
  simp only [h.sr]

/-- An operation that resets no ring that is being reset does not wait behind a reset. -/
theorem behindReset_false (ho : s.op k = some o) (hr : ∀ i, o.resets = some i → (s.sr i).resetting = none) :
    behindReset s k = false := by
  unfold behindReset
  rw [ho]
  dsimp only
  cases hres : o.resets with
  | none => exact Bool.and_false _
  | some i =>
    rw [Option.any_some, hr i hres]
    exact Bool.and_false _

/-- In a state in which ends stand alone, no operation waits behind a reset. -/
theorem Performs.behindReset {opcode : Nat} (h : Performs s k opcode s1 o) (ha : EndsAlone s) : behindReset s k = false := by
  obtain ⟨o0, ho, -⟩ := h.started
  exact behindReset_false ho fun i _ => resetting_of_endsAlone ha i

/-- A RING_DELETE of a completion ring removes it where nothing uses it. -/
theorem exec_ringDelete_cr (h : Performs s k 0x41 s1 o) (ha : EndsAlone s) (hi : fld o.desc 9 1 = i) (hcr : fld o.desc 8 1 = 1)
    (hex : (s.cr i).exists_ = true) :
    exec (.ringDelete k) s = .next (if ringInUse s1 i then finishOp s1 k (Result.refused 0x12 0x23)
      else finishOp (s1.setCr i Reset.cplRing) k Result.ok) := by
  subst hi
  refine congrArg Host.Outcome.next ?_
  rw [h.behindReset ha, if_neg Bool.false_ne_true]
  refine (runOp_performs _ h).trans ?_
  dsimp only
  rw [if_neg (by omega), h.cr, hex, if_neg (by decide)]
  rfl

/-! ### The clauses -/

/-- What O13 says of an end: the result, and that only the queue engine and no other operation has changed. -/
def EndedOnly (s t : State) (k : Nat) (o : Op) (r : Result) : Prop :=
  Ended t k o r ∧ OnlyQueue s t ∧ ∀ j < 512, j ≠ k → t.op j = s.op j

theorem Performs.endedOnly {opcode : Nat} {t : State} {r : Result} (h : Performs s k opcode s1 o) (he : EndedAlone s1 t k o r) :
    EndedOnly s t k o r := ⟨he.ended, h.others he⟩

/-- An end after a write to the rings alone. -/
theorem Performs.endedOnly_ring {opcode : Nat} {t : State} {r : Result} (h : Performs s k opcode s1 o) {u : State}
    (hu : OnlyQueue s1 u) (hop : ∀ j, u.op j = s1.op j) (he : EndedAlone u t k o r) : EndedOnly s t k o r :=
  ⟨he.ended, (h.onlyQueue.trans hu).trans he.only,
    fun j _ hj => (he.others j hj).trans ((hop j).trans (h.op_ne hj))⟩

section
variable (ha : EndsAlone s) (hf : o.flush = []) (hi : fld o.desc 9 1 = i) (hlt : i < 32)
include ha hf hi

theorem ringCreate_sr_refused (h : Performs s k 0x40 s1 o) (hsr : fld o.desc 8 1 = 0)
    (hno : (s.sr i).exists_ = true ∨ (s.cr (fld o.desc 24 2)).exists_ = false) :
    ∃ t, exec (.ringCreate k) s = .next t ∧ EndedOnly s t k o (Result.refused 0x12 0x26) ∧ StopGone (s.sr i) (t.sr i) := by
  have hchanged : ((s.sr i).exists_ || !(s.cr (fld o.desc 24 2)).exists_) = true := by
    rcases hno with h | h <;> rw [h]
    · rfl
    · exact Bool.or_true _
  have he := h.finish ha hf changedSince
  exact ⟨_, (exec_ringCreate_sr h hi hsr).trans (congrArg _ (if_pos hchanged)), h.endedOnly he, h.sr i ▸ he.sr i⟩

theorem ringCreate_cr_refused (h : Performs s k 0x40 s1 o) (hcr : fld o.desc 8 1 = 1) (hex : (s.cr i).exists_ = true) :
    ∃ t, exec (.ringCreate k) s = .next t ∧ EndedOnly s t k o (Result.refused 0x12 0x26) :=
  ⟨_, (exec_ringCreate_cr h hi hcr).trans (congrArg _ (if_pos hex)), h.endedOnly (h.finish ha hf changedSince)⟩

theorem ringDelete_cr_used (h : Performs s k 0x41 s1 o) (hcr : fld o.desc 8 1 = 1) (hex : (s.cr i).exists_ = true)
    (hu : RingUsed s i) :
    ∃ t, exec (.ringDelete k) s = .next t ∧ EndedOnly s t k o (Result.refused 0x12 0x23) ∧ (t.cr i).exists_ = true := by
  have he := h.finish ha hf (Result.refused 0x12 0x23)
  have huse : ringInUse s1 i = true := (ringInUse_iff s1 i).mpr ((h.ringUsed i).mpr hu)
  obtain ⟨more, hmore⟩ := he.cr i
  refine ⟨_, (exec_ringDelete_cr h ha hi hcr hex).trans (congrArg _ (if_pos huse)), h.endedOnly he, ?_⟩
  rw [hmore, h.cr]
  exact hex

include hlt

theorem ringCreate_sr (h : Performs s k 0x40 s1 o) (hsr : fld o.desc 8 1 = 0) (hno : (s.sr i).exists_ = false)
    (hhome : (s.cr (fld o.desc 24 2)).exists_ = true) :
    ∃ t, exec (.ringCreate k) s = .next t ∧ EndedOnly s t k o Result.ok ∧ t.sr i = createdSr o.desc ∧
      ∀ j, j ≠ i → StopGone (s.sr j) (t.sr j) := by
  have hexec := exec_ringCreate_sr h hi hsr
  rw [hno, hhome] at hexec
  have he := finishOp_endedAlone ((h.endsAlone ha).setSr (x := createdSr o.desc) rfl i) h.op hf Result.ok
  refine ⟨_, hexec, h.endedOnly_ring (u := s1.setSr i (createdSr o.desc)) (.of_setQueue s1 _) (fun _ => rfl) he, ?_,
    fun j hj => ?_⟩
  · have hsr' := he.sr i
    rw [sr_setSr_self hlt] at hsr'
    exact hsr'.of_none rfl
  · have hsr' := he.sr j
    rwa [sr_setSr_ne (Ne.symm hj), h.sr] at hsr'

theorem ringCreate_cr (h : Performs s k 0x40 s1 o) (hcr : fld o.desc 8 1 = 1) (hno : (s.cr i).exists_ = false) :
    ∃ t more, exec (.ringCreate k) s = .next t ∧ EndedOnly s t k o Result.ok ∧
      t.cr i = { createdCr o.desc with waiting := more } := by
  have hexec := exec_ringCreate_cr h hi hcr
  rw [hno] at hexec
  have he := finishOp_endedAlone ((h.endsAlone ha).setCr i (createdCr o.desc)) h.op hf Result.ok
  obtain ⟨more, hmore⟩ := he.cr i
  rw [cr_setCr_self hlt] at hmore
  exact ⟨_, _, hexec, h.endedOnly_ring (u := s1.setCr i (createdCr o.desc)) (.of_setQueue s1 _) (fun _ => rfl) he, hmore⟩

theorem ringDelete_cr_unused (h : Performs s k 0x41 s1 o) (hcr : fld o.desc 8 1 = 1) (hex : (s.cr i).exists_ = true)
    (hu : ¬RingUsed s i) :
    ∃ t, exec (.ringDelete k) s = .next t ∧ EndedOnly s t k o Result.ok ∧ (t.cr i).exists_ = false := by
  have he := finishOp_endedAlone ((h.endsAlone ha).setCr i Reset.cplRing) h.op hf Result.ok
  have huse : ¬ringInUse s1 i = true := fun c => hu ((h.ringUsed i).mp ((ringInUse_iff s1 i).mp c))
  obtain ⟨more, hmore⟩ := he.cr i
  refine ⟨_, (exec_ringDelete_cr h ha hi hcr hex).trans (congrArg _ (if_neg huse)),
    h.endedOnly_ring (u := s1.setCr i Reset.cplRing) (.of_setQueue s1 _) (fun _ => rfl) he, ?_⟩
  rw [hmore, cr_setCr_self hlt]
  rfl

end

end Sys2Proof.Machine
end

section
/-! PROOF. Resetting and deleting a submission ring (O13). -/

set_option Elab.async false

namespace Sys2Proof.Machine
open Sys2Proof

variable {s t : State} {k i : Nat} {o : Op} {mode : RingResetMode}

/-! ### The beginning of a reset (R97) -/

/-- Ring r while it is being reset, with its status line as p and l say. -/
def resettingRing (r : SubRing) (mode : RingResetMode) (p : Bool) (l : W32) : SubRing :=
  { r with resetting := some mode, grant := none, abortedLow := none, linePending := p, lineHead := l }

/-- The state in which the operation o of entry k has begun the reset of ring i, before the aborts. -/
def resetBegun (s : State) (k : Nat) (o : Op) (i : Nat) (mode : RingResetMode) : State :=
  let marked := (s.setOp k (some { o with aux := 1 })).setSr i (resettingRing (s.sr i) mode (s.sr i).linePending (s.sr i).lineHead)
  if (s.sr i).grant.any fun g => decide (0 < g.served) then writeStatusLine marked i else marked

/-- An unstarted operation of ring i ends with ABORTED. -/
def abortOp (i : Nat) (s : State) (q : Nat × Op) : State :=
  if q.2.sr = i ∧ q.2.phase = .admitted then
    decideOp (s.setSr i { s.sr i with abortedLow := lowerSeq (s.sr i).head (s.sr i).abortedLow q.2.seq }) q.1
      (Result.aborted false 0)
  else s

theorem beginReset_eq (s : State) (k : Nat) (o : Op) (i : Nat) (mode : RingResetMode) : beginReset s k o i mode =
    (finishOrder (resetBegun s k o i mode)).foldl (abortOp i) (resetBegun s k o i mode) := rfl

/-- What `resetBegun` makes of the rings and of the tracker. -/
structure Begun (s t : State) (k : Nat) (o : Op) (i : Nat) (mode : RingResetMode) : Prop where
  own : t.op k = some { o with aux := 1 }
  others : ∀ j, j ≠ k → t.op j = s.op j
  cr : ∀ c, t.cr c = s.cr c
  sr : ∀ j, j ≠ i → t.sr j = s.sr j
  ring : ∃ p l, t.sr i = resettingRing (s.sr i) mode p l

theorem resetBegun_begun (ho : s.op k = some o) (hi : i < 32) : Begun s (resetBegun s k o i mode) k o i mode := by
  have hk := op_some_lt ho
  unfold resetBegun
  extract_lets marked
  have hmarked : Begun s marked k o i mode :=
    ⟨op_setOp_self hk _, fun j hj => op_setOp_ne (Ne.symm hj) _, fun _ => rfl, fun j hj => sr_setSr_ne (Ne.symm hj) _,
      _, _, sr_setSr_self hi _⟩
  split
  · obtain ⟨hown, hothers, hcr, hsr, p, l, hring⟩ := hmarked
    have hline := writeStatusLine_unlined marked i
    obtain ⟨p', l', -, hself⟩ := writeStatusLine_sr_self marked hi
    exact ⟨(hline.get fun s => s.op k).trans hown, fun j hj => (hline.get fun s => s.op j).trans (hothers j hj),
      fun c => (hline.get fun s => s.cr c).trans (hcr c), fun j hj => (writeStatusLine_sr_ne marked hj).trans (hsr j hj),
      p', l', by rw [hself, hring]; rfl⟩
  · exact hmarked

/-! ### The operations that a reset aborts (R97, R99) -/

theorem finishOrder_perm (s : State) : (finishOrder s).Perm s.opList := by
  unfold finishOrder
  generalize s.opList = l
  induction l with
  | nil => exact .nil
  | cons q l ih =>
    rw [List.foldr_cons]
    extract_lets before
    refine List.perm_middle.trans (.cons q ?_)
    exact (List.filter_append_perm before _).trans ih

theorem decideOp_silent (ho : s.op k = some o) (hs : o.silent = true) : decideOp s k Result.ok = freeEntryOf s k true := by
  unfold decideOp
  rw [ho]
  dsimp only
  rw [hs]
  rfl

/-- An end that is no silent success keeps its entry, finished, until its completion is written. -/
theorem decideOp_posted (ho : s.op k = some o) {r : Result} (h : (o.silent && decide (r.status = 0)) = false) : decideOp s k r =
    (s.setOp k (some { o with phase := .finished, wait := (cplOf s k o r).wait, flushOut := [] })).setCr o.crIndex
      { s.cr o.crIndex with waiting := (s.cr o.crIndex).waiting ++ [cplOf s k o r] } := by
  unfold decideOp
  rw [ho]
  dsimp only
  rw [h, if_neg Bool.false_ne_true]

/-- The state t, of the state s, in which the operations of a list that belong to ring i and have not started are aborted. -/
structure Aborts (i : Nat) (l : List (Nat × Op)) (s t : State) : Prop where
  ring : ∃ x, t.sr i = { s.sr i with abortedLow := x }
  grows : Grows s t
  ended : ∀ q ∈ l, q.2.sr = i → q.2.phase = .admitted → Ended t q.1 q.2 (Result.aborted false 0)
  kept : ∀ j, (∀ q ∈ l, q.1 = j → q.2.sr ≠ i ∨ q.2.phase ≠ .admitted) → t.op j = s.op j
  started : ∀ j p, t.op j = some p → p.phase = .started → s.op j = some p

theorem abortOp_aborts {q : Nat × Op} (hq : s.op q.1 = some q.2) (hi : i < 32) : Aborts i [q] s (abortOp i s q) := by
  unfold abortOp
  split
  · next h =>
    have hk := op_some_lt hq
    have ho : (s.setSr i { s.sr i with abortedLow := lowerSeq (s.sr i).head (s.sr i).abortedLow q.2.seq }).op q.1 = some q.2 := hq
    have hended := decideOp_ended (r := Result.aborted false 0) ho
    rw [decideOp_posted ho (Bool.and_false _)] at hended ⊢
    refine ⟨⟨_, sr_setSr_self hi _⟩, ⟨fun j hj => ?_, fun c w hw => ?_⟩, fun q' hq' _ _ => ?_, fun j hj => ?_, fun j p hp hst => ?_⟩
    · have hne : q.1 ≠ j := fun e => by rw [← e, hq] at hj; exact absurd hj (by simp)
      exact (op_setOp_ne hne _).trans hj
    · exact mem_waiting_setCr (s := State.setOp _ _ _) hw fun w hw => List.mem_append_left _ hw
    · rw [List.mem_singleton.mp hq']
      exact hended
    · refine op_setOp_ne (fun e => ?_) _
      rcases hj q (List.mem_singleton_self q) e with c | c
      · exact c h.1
      · exact c h.2
    · by_cases hj : q.1 = j
      · subst hj
        cases (op_setOp_self hk _).symm.trans hp
        have hfin : Phase.finished = Phase.started := hst
        cases hfin
      · exact (op_setOp_ne hj _).symm.trans hp
  · next h =>
    refine ⟨⟨_, rfl⟩, .refl s, fun q' hq' hsr hph => ?_, fun _ _ => rfl, fun _ _ hp _ => hp⟩
    rw [List.mem_singleton.mp hq'] at hsr hph
    exact absurd ⟨hsr, hph⟩ h

theorem foldl_abortOp {l : List (Nat × Op)} (hl : (l.map Prod.fst).Nodup) (hq : ∀ q ∈ l, s.op q.1 = some q.2) (hi : i < 32) :
    Aborts i l s (l.foldl (abortOp i) s) := by
  induction l generalizing s with
  | nil => exact ⟨⟨_, rfl⟩, .refl s, fun _ h => absurd h List.not_mem_nil, fun _ _ => rfl, fun _ _ hp _ => hp⟩
  | cons q l ih =>
    obtain ⟨hnew, hnodup⟩ := List.nodup_cons.mp (List.map_cons ▸ hl)
    have hfresh : ∀ q' ∈ l, q.1 ≠ q'.1 := fun q' hq' e => hnew (List.mem_map.mpr ⟨q', hq', e.symm⟩)
    obtain ⟨⟨x, hx⟩, hgrows, hended, hkept, hstarted⟩ := abortOp_aborts (hq q List.mem_cons_self) hi
    have hrest : ∀ q' ∈ l, (abortOp i s q).op q'.1 = some q'.2 := fun q' hq' =>
      (hkept q'.1 fun q'' hq'' e => absurd (List.mem_singleton.mp hq'' ▸ e) (hfresh q' hq')).trans
        (hq q' (List.mem_cons_of_mem q hq'))
    obtain ⟨⟨y, hy⟩, hgrows', hended', hkept', hstarted'⟩ := ih hnodup hrest
    refine ⟨⟨y, ?_⟩, hgrows.trans hgrows', fun q' hq' hsr hph => ?_, fun j hj => ?_, fun j p hp hst => ?_⟩
    · rw [List.foldl_cons, hy, hx]
    · rcases List.mem_cons.mp hq' with rfl | hq'
      · exact (hended _ List.mem_cons_self hsr hph).grows hgrows'
      · exact hended' q' hq' hsr hph
    · refine (hkept' j fun q' hq' => hj q' (List.mem_cons_of_mem q hq')).trans (hkept j fun q' hq' => ?_)
      rw [List.mem_singleton.mp hq']
      exact hj q List.mem_cons_self
    · exact hstarted j p (hstarted' j p hp hst) hst

/-- What the aborts of a reset make of the state in which it has begun. -/
theorem beginReset_aborts (s : State) (k : Nat) (o : Op) (hi : i < 32) :
    Aborts i (resetBegun s k o i mode).opList (resetBegun s k o i mode) (beginReset s k o i mode) := by
  have hperm := finishOrder_perm (resetBegun s k o i mode)
  have h := foldl_abortOp (l := finishOrder (resetBegun s k o i mode)) (s := resetBegun s k o i mode)
    ((hperm.map Prod.fst).nodup_iff.mpr (opList_nodup _)) (fun q hq => mem_opList.mp (hperm.mem_iff.mp hq)) hi
  rw [beginReset_eq]
  obtain ⟨hring, hgrows, hended, hkept, hstarted⟩ := h
  exact ⟨hring, hgrows, fun q hq => hended q (hperm.mem_iff.mpr hq), fun j hj => hkept j fun q hq => hj q (hperm.mem_iff.mp hq),
    hstarted⟩

/-! ### What follows while operations of the ring are left (R97) -/

/-- Every reset in progress has an operation of its ring left. -/
def ResetsWait (s : State) : Prop :=
  ∀ j p i, s.op j = some p → p.phase = .started → p.aux = 1 → p.resets = some i → ∃ j' p', s.op j' = some p' ∧ p'.sr = i

theorem ResetsWait.resetDue (h : ResetsWait s) : resetDue s = none := by
  unfold Machine.resetDue
  rw [Option.map_eq_none_iff, List.find?_eq_none]
  intro q hq hdue
  simp only [Bool.and_eq_true, decide_eq_true_eq] at hdue
  obtain ⟨⟨hph, haux⟩, hres⟩ := hdue
  cases hr : q.2.resets with
  | none => rw [hr] at hres; exact Bool.false_ne_true hres
  | some i =>
    obtain ⟨j, p, hp, hsr⟩ := h q.1 q.2 i (mem_opList.mp hq) hph haux hr
    have hany : (s.opList.any fun p => p.2.sr = i) = true := opList_any.mpr ⟨j, p, hp, decide_eq_true hsr⟩
    rw [hr] at hres
    dsimp only at hres
    rw [hany] at hres
    exact Bool.false_ne_true hres

/-- What follows from an end that brings no reset to its end leaves the tracker, and of the rings all but stop records. -/
structure Followed (s t : State) : Prop where
  op : ∀ j, t.op j = s.op j
  sr : ∀ j, StopGone (s.sr j) (t.sr j)
  grows : Grows s t
  listed : t.queue.stoppedRings = s.queue.stoppedRings

theorem releaseStops_followed (s : State) : Followed s (raiseKernelBits (releaseStops s)) := by
  have hrel := releaseStops_released s
  have hsr := releaseStops_sr s
  have hgrows := releaseStops_grows s
  obtain ⟨x, hx, -⟩ := raiseKernelBits_sameCore (releaseStops s)
  rw [hx]
  generalize releaseStops s = u at *
  exact ⟨fun j => hrel.same.get fun s => s.op j, hsr, hgrows.trans (.ofQueue rfl), hrel.same.get fun s => s.queue.stoppedRings⟩

theorem settle_of_resetsWait (h : ResetsWait s) : Followed s (settle s) := by
  have hrel := releaseStops_released (settleInvalidations s)
  have hwait : ResetsWait (releaseStops (settleInvalidations s)) := by
    have hop (j : Nat) : (releaseStops (settleInvalidations s)).op j = s.op j := hrel.same.get fun s => s.op j
    unfold ResetsWait
    simp only [hop]
    exact h
  have hsettle : settle s = raiseKernelBits (releaseStops (settleInvalidations s)) := by
    unfold settle
    extract_lets s1
    have hnone : resetDue s1 = none := hwait.resetDue
    rw [hnone]
  have hsame : Grows s (settleInvalidations s) := .ofQueue rfl
  obtain ⟨hop, hsr, hgrows, hlisted⟩ := releaseStops_followed (settleInvalidations s)
  rw [hsettle]
  exact ⟨hop, hsr, hsame.trans hgrows, hlisted⟩

/-! ### The end of a reset (R97-R99, 04 R111) -/

/-- The reset of ring i in a mode is over, where r is the ring before it. -/
structure ResetOver (r : SubRing) (t : State) (i : Nat) (mode : RingResetMode) : Prop where
  free : (t.sr i).resetting = none
  listed : t.queue.stoppedRings.getLsbD i = false
  deleted : mode = .delete → (t.sr i).exists_ = false ∧ (t.sr i).head = 0 ∧
    ((t.sr i).linePending = false → t.sr i = Reset.subRing)
  kept : mode ≠ .delete → (t.sr i).exists_ = r.exists_ ∧ (t.sr i).stopped = false ∧ (t.sr i).push = Vector.replicate 4 none ∧
    (t.sr i).head = if mode = .replay then (if r.stopped then r.stopSeq else r.head) else 0

theorem deletedRing_eq (r : SubRing) : (deletedRing r).resetting = none ∧ (deletedRing r).exists_ = false ∧
    (deletedRing r).head = 0 ∧ ((deletedRing r).linePending = false → deletedRing r = Reset.subRing) := by
  unfold deletedRing
  split
  · exact ⟨rfl, rfl, rfl, fun h => absurd h (by simp)⟩
  · exact ⟨rfl, rfl, rfl, fun _ => rfl⟩

/-- The state in which ring i is as its reset leaves it, and is not listed as stopped. -/
def ringReset (s : State) (i : Nat) (mode : RingResetMode) : State :=
  let t := s.setSr i (ringAfterReset (s.sr i) mode)
  t.setQueue { t.queue with stoppedRings := t.queue.stoppedRings &&& ~~~(BitVec.twoPow 32 i) }

theorem applyReset_eq (h : (s.sr i).resetting = some mode) : applyReset s i =
    if mode = .delete then
      (writeStatusLine (ringReset s i mode) i).setSr i (deletedRing ((writeStatusLine (ringReset s i mode) i).sr i))
    else writeStatusLine (ringReset s i mode) i := by
  unfold applyReset
  rw [h]
  rfl

theorem ringReset_listed (s : State) (hi : i < 32) : (ringReset s i mode).queue.stoppedRings.getLsbD i = false := by
  change (s.queue.stoppedRings &&& ~~~(BitVec.twoPow 32 i)).getLsbD i = false
  rw [BitVec.getLsbD_and, BitVec.getLsbD_not, BitVec.getLsbD_twoPow]
  simp [hi]

/-- A reset takes effect: its ring, its status line, and no operation or other ring. -/
theorem applyReset_over {r : SubRing} {p : Bool} {l : W32} (hr : s.sr i = resettingRing r mode p l) (hi : i < 32) :
    ResetOver r (applyReset s i) i mode ∧ (∀ j, (applyReset s i).op j = s.op j) ∧ (∀ j, j ≠ i → (applyReset s i).sr j = s.sr j) := by
  have hmode : (s.sr i).resetting = some mode := by rw [hr]; rfl
  have hline := writeStatusLine_unlined (ringReset s i mode) i
  obtain ⟨p', l', -, hself⟩ := writeStatusLine_sr_self (ringReset s i mode) hi
  have hring : (ringReset s i mode).sr i = ringAfterReset (s.sr i) mode := sr_setSr_self hi _
  have hne (j : Nat) (hj : j ≠ i) : (writeStatusLine (ringReset s i mode) i).sr j = s.sr j :=
    (writeStatusLine_sr_ne _ hj).trans (sr_setSr_ne (Ne.symm hj) _)
  have hop (j : Nat) : (writeStatusLine (ringReset s i mode) i).op j = s.op j := hline.get fun s => s.op j
  have hlisted : (writeStatusLine (ringReset s i mode) i).queue.stoppedRings.getLsbD i = false :=
    (congrArg (BitVec.getLsbD · i) (hline.get fun s => s.queue.stoppedRings)).trans (ringReset_listed s hi)
  rw [hring] at hself
  rw [applyReset_eq hmode]
  generalize writeStatusLine (ringReset s i mode) i = w at *
  by_cases hd : mode = .delete
  · rw [if_pos hd]
    obtain ⟨hfree, hex, hhead, hfresh⟩ := deletedRing_eq (w.sr i)
    refine ⟨⟨?_, hlisted, fun _ => ?_, fun c => absurd hd c⟩, hop, fun j hj => (sr_setSr_ne (Ne.symm hj) _).trans (hne j hj)⟩
    · rw [sr_setSr_self hi]; exact hfree
    · rw [sr_setSr_self hi]; exact ⟨hex, hhead, hfresh⟩
  · rw [if_neg hd]
    refine ⟨⟨by rw [hself]; rfl, hlisted, fun c => absurd c hd, fun _ => ?_⟩, hop, hne⟩
    rw [hself, hr]
    exact ⟨rfl, rfl, rfl, rfl⟩

theorem freeEntryOf_over {r : SubRing} {p : Bool} {l : W32} (ho : s.op k = some o) (hres : o.resets = some i)
    (hr : s.sr i = resettingRing r mode p l) (hi : i < 32) :
    ResetOver r (freeEntryOf s k true) i mode ∧ (freeEntryOf s k true).op k = none ∧
      (∀ j, j ≠ k → (freeEntryOf s k true).op j = s.op j) ∧ (∀ j, j ≠ i → (freeEntryOf s k true).sr j = s.sr j) := by
  obtain ⟨⟨hover, hlisted, hdeleted, hkept⟩, hop, hsr⟩ := applyReset_over hr hi
  unfold freeEntryOf
  rw [ho, Option.bind_some, hres]
  exact ⟨⟨hover, hlisted, hdeleted, hkept⟩, op_setOp_self (op_some_lt ho) none,
    fun j hj => (op_setOp_ne (Ne.symm hj) none).trans (hop j), hsr⟩

/-- With no stop record, none is released. -/
theorem releaseStops_of_none (h : ∀ j < 32, (s.sr j).stopRecord = none) : releaseStops s = s := by
  have hdue (j : Nat) (hj : j < 32) : stopDue s j = false := by rw [stopDue, h j hj]; rfl
  unfold releaseStops
  extract_lets s1
  have h1 : s1 = s := foldl_idle fun j hj => if_neg (by
    rw [hdue (j + 1) (by have := List.mem_range.mp hj; omega)]
    exact Bool.false_ne_true)
  rw [h1, hdue 0 (by decide), if_neg Bool.false_ne_true]

/-- Ring i has no operation, completion or stop record left, and the operation o of entry k, and no other, resets it. -/
structure ResetDue (s : State) (k : Nat) (o : Op) (i : Nat) : Prop where
  own : s.op k = some o
  started : o.phase = .started
  begun : o.aux = 1
  resets : o.resets = some i
  only : ∀ j p, j ≠ k → s.op j = some p → p.aux = 1 → p.resets = none
  ops : ∀ j p, s.op j = some p → p.sr ≠ i
  waits : ∀ c < 32, ∀ w ∈ (s.cr c).waiting, w.sr ≠ i
  stops : ∀ j < 32, (s.sr j).stopRecord = none

theorem ResetDue.resetDue (h : ResetDue s k o i) (hi : i < 32) : resetDue s = some k := by
  obtain ⟨hown, hstarted, hbegun, hresets, honly, hops, hwaits, hstops⟩ := h
  have hnone : (s.opList.any fun p => p.2.sr = i) = false := by
    rw [Bool.eq_false_iff]
    intro c
    obtain ⟨j, p, hp, hsr⟩ := opList_any.mp c
    exact hops j p hp (of_decide_eq_true hsr)
  have hwait : ((List.range 32).any fun c => (s.cr c).waiting.any fun w => w.sr = i) = false := by
    rw [Bool.eq_false_iff]
    intro c
    obtain ⟨c, hc, hw⟩ := List.any_eq_true.mp c
    obtain ⟨w, hw, hsr⟩ := List.any_eq_true.mp hw
    exact hwaits c (List.mem_range.mp hc) w hw (of_decide_eq_true hsr)
  unfold Machine.resetDue
  generalize hf : (fun q : Nat × Op => decide (q.2.phase = .started) && decide (q.2.aux = 1) && _) = f
  have htrue : f (k, o) = true := by
    rw [← hf]
    dsimp only
    rw [hstarted, hbegun, hresets]
    dsimp only
    rw [hnone, hstops i hi, hwait]
    rfl
  have huniq (q : Nat × Op) (hq : q ∈ s.opList) (hfq : f q = true) : q.1 = k := by
    by_contra hne
    rw [← hf] at hfq
    simp only [Bool.and_eq_true, decide_eq_true_eq] at hfq
    obtain ⟨⟨-, haux⟩, hres⟩ := hfq
    rw [honly q.1 q.2 hne (mem_opList.mp hq) haux] at hres
    exact Bool.false_ne_true hres
  have hmem : (k, o) ∈ s.opList := mem_opList.mpr hown
  obtain ⟨q, hq⟩ := Option.isSome_iff_exists.mp (List.find?_isSome.mpr ⟨(k, o), hmem, htrue⟩)
  rw [hq, Option.map_some, huniq q (List.mem_of_find?_eq_some hq) (List.find?_some hq)]

/-- A reset that is due ends. -/
theorem settle_of_resetDue (h : ResetDue s k o i) (hi : i < 32) :
    settle s = raiseKernelBits (releaseStops (decideOp (settleInvalidations s) k Result.ok)) := by
  have hstop : releaseStops (settleInvalidations s) = settleInvalidations s := releaseStops_of_none h.stops
  have hdue : Machine.resetDue (settleInvalidations s) = some k := by
    obtain ⟨hown, hstarted, hbegun, hresets, honly, hops, hwaits, hstops⟩ := h
    exact ResetDue.resetDue ⟨hown, hstarted, hbegun, hresets, honly, hops, hwaits, hstops⟩ hi
  unfold settle
  extract_lets s1
  have h1 : s1 = settleInvalidations s := hstop
  rw [h1, hdue]

/-! ### RING_RESET and RING_DELETE (R97-R100, 04 R111) -/

variable {s1 : State} {delete : Bool}

/-- The command of a reset, or of a deletion. -/
def resetCommand (k : Fin 512) (delete : Bool) : Instr := if delete then .ringDelete k else .ringReset k

/-- The mode in which a ring is reset (04 R111, Table 4.6). -/
def resetMode (delete : Bool) (d : BitVec 512) : RingResetMode := if delete then .delete else if fld d 10 1 = 0 then .clear else .replay

/-- An operation of SR0 that performs and resets the submission ring i, which exists, or deletes it. -/
structure Resets (s s1 : State) (k : Fin 512) (o : Op) (i : Nat) (delete : Bool) : Prop where
  performs : Performs s k (if delete then 0x41 else 0x42) s1 o
  alone : EndsAlone s
  names : fld o.desc 9 1 = i
  first : 1 ≤ i
  ring : i < 32
  sr0 : o.sr = 0
  submission : delete = true → fld o.desc 8 1 = 0
  present : (s.sr i).exists_ = true

section
variable {k : Fin 512}

theorem Resets.resets (h : Resets s s1 k o i delete) : o.resets = some i := by
  have hop := h.performs.opcode_eq
  rw [← h.names]
  refine if_pos ?_
  rw [hop]
  cases delete with
  | false => exact .inl rfl
  | true => exact .inr ⟨rfl, h.submission rfl⟩

theorem exec_ringReset (s : State) (k : Fin 512) : Machine.exec (.ringReset k) s = .next (if behindReset s k then s else
    runOp s k 0x42 fun s o => resetRing s k o (fld o.desc 9 1) (resetMode false o.desc)) := rfl

/-- The operation begins the reset: it has not done so before. -/
theorem Resets.exec (h : Resets s s1 k o i delete) :
    exec (resetCommand k delete) s = .next (settle (beginReset s1 k o i (resetMode delete o.desc))) := by
  have hnew : o.aux ≠ 1 := fun c => by
    have := (h.performs.endsAlone h.alone).resets k o h.performs.op c
    rw [h.resets] at this
    exact absurd this (by simp)
  have hbegin (mode : RingResetMode) : resetRing s1 k o i mode = settle (beginReset s1 k o i mode) := by
    unfold resetRing
    rw [if_neg hnew, h.performs.sr, h.present]
    exact if_neg (by decide)
  obtain ⟨hp, ha, hi, -, -, -, hd, -⟩ := h
  cases delete with
  | false =>
    refine (exec_ringReset s k).trans (congrArg Host.Outcome.next ?_)
    rw [hp.behindReset ha, if_neg Bool.false_ne_true]
    refine (runOp_performs _ hp).trans ?_
    rw [hi, hbegin]
  | true =>
    refine congrArg Host.Outcome.next ?_
    rw [hp.behindReset ha, if_neg Bool.false_ne_true]
    refine (runOp_performs _ hp).trans ?_
    dsimp only
    rw [if_pos (hd rfl), hi, hbegin]
    rfl

theorem Resets.begun (h : Resets s s1 k o i delete) (mode : RingResetMode) : Begun s1 (resetBegun s1 k o i mode) k o i mode :=
  resetBegun_begun h.performs.op h.ring

/-- While the reset is in progress, the operations of other rings and those that have started stand, the others are aborted. -/
theorem Resets.waits (h : Resets s s1 k o i delete) (hleft : ∃ j p, s.op j = some p ∧ p.sr = i ∧ p.phase = .started) :
    ∃ t, Machine.exec (resetCommand k delete) s = .next t ∧ (t.sr i).resetting = some (resetMode delete o.desc) ∧
      (t.sr i).grant = none ∧ (t.sr i).head = (s.sr i).head ∧
      (∀ j p, s.op j = some p → p.sr = i → p.phase = .admitted → Ended t j p (Result.aborted false 0)) ∧
      (∀ j p, j ≠ k.val → s.op j = some p → p.sr ≠ i ∨ p.phase ≠ .admitted → t.op j = some p) := by
  obtain ⟨hown, hothers, -, -, p, l, hring⟩ := h.begun (resetMode delete o.desc)
  obtain ⟨⟨x, hx⟩, -, hended, hkept, hstarted⟩ := beginReset_aborts (mode := resetMode delete o.desc) s1 k o h.ring
  have hop {j : Nat} (hj : j ≠ k) : (resetBegun s1 k o i (resetMode delete o.desc)).op j = s.op j :=
    (hothers j hj).trans (h.performs.op_ne hj)
  have hne {j : Nat} {p : Op} (hp : s.op j = some p) (hsr : p.sr = i) : j ≠ k.val := by
    rintro rfl
    obtain ⟨o0, ho, -, -, he⟩ := h.performs.started
    cases hp.symm.trans ho
    have hsr0 : o.sr = p.sr := by rw [he]
    have := h.sr0
    have := h.first
    omega
  have hstay {j : Nat} {p : Op} (hj : j ≠ k.val) (hp : s.op j = some p) (hc : p.sr ≠ i ∨ p.phase ≠ .admitted) :
      (beginReset s1 k o i (resetMode delete o.desc)).op j = some p := by
    refine (hkept j fun q hq e => ?_).trans ((hop hj).trans hp)
    subst e
    cases (mem_opList.mp hq).symm.trans ((hop hj).trans hp)
    exact hc
  have hwait : ResetsWait (beginReset s1 k o i (resetMode delete o.desc)) := by
    intro j q i' hq hph haux hres
    have hq' := hstarted j q hq hph
    by_cases hj : j = k
    · subst hj
      cases hq'.symm.trans hown
      have hi' : some i = some i' := h.resets.symm.trans hres
      cases hi'
      obtain ⟨j, p, hp, hsr, hst⟩ := hleft
      exact ⟨j, p, hstay (hne hp hsr) hp (.inr (by rw [hst]; decide)), hsr⟩
    · have := h.alone.resets j q ((hop hj).symm.trans hq') haux
      rw [this] at hres
      exact absurd hres (by simp)
  obtain ⟨hfop, hfsr, hfgrows, -⟩ := settle_of_resetsWait hwait
  have hsr := hfsr i
  rw [hx, hring, h.performs.sr] at hsr
  refine ⟨_, h.exec, ?_, ?_, ?_, fun j p hp hsr hph => ?_, fun j p hj hp hc => (hfop j).trans (hstay hj hp hc)⟩
  · rcases hsr with e | e <;> rw [e] <;> rfl
  · rcases hsr with e | e <;> rw [e] <;> rfl
  · rcases hsr with e | e <;> rw [e] <;> rfl
  · exact (hended (j, p) (mem_opList.mpr ((hop (hne hp hsr)).trans hp)) hsr hph).grows hfgrows

/-- With no operation of ring i there is none to abort. -/
theorem beginReset_of_none {o : Op} (h : ∀ j p, (resetBegun s k o i mode).op j = some p → p.sr ≠ i) :
    beginReset s k o i mode = resetBegun s k o i mode := by
  rw [beginReset_eq]
  exact foldl_idle fun q hq => if_neg fun c => h q.1 q.2 (mem_opList.mp ((finishOrder_perm _).mem_iff.mp hq)) c.1

theorem ResetOver.followed {r : SubRing} {w : State} (h : ResetOver r w i mode) (hf : Followed w t) : ResetOver r t i mode := by
  obtain ⟨hfree, hlisted, hdeleted, hkept⟩ := h
  rcases hf.sr i with e | e
  · exact ⟨by rw [e]; exact hfree, by rw [hf.listed]; exact hlisted, fun hm => by rw [e]; exact hdeleted hm,
      fun hm => by rw [e]; exact hkept hm⟩
  · refine ⟨by rw [e]; exact hfree, by rw [hf.listed]; exact hlisted, fun hm => ?_, fun hm => by rw [e]; exact hkept hm⟩
    obtain ⟨hex, hhead, hfresh⟩ := hdeleted hm
    rw [e]
    exact ⟨hex, hhead, fun hl => by rw [hfresh hl]; rfl⟩

/-- With nothing left of the ring the reset ends, and it is over once its completion has been posted. -/
theorem Resets.ends (h : Resets s s1 k o i delete) (hops : ∀ j p, s.op j = some p → p.sr ≠ i)
    (hwaits : ∀ c < 32, ∀ w ∈ (s.cr c).waiting, w.sr ≠ i) (hstops : ∀ j < 32, (s.sr j).stopRecord = none) :
    ∃ t, Machine.exec (resetCommand k delete) s = .next t ∧ Ended t k o Result.ok ∧ (∀ j < 512, j ≠ k.val → t.op j = s.op j) ∧
      (o.silent = true → ResetOver (s.sr i) t i (resetMode delete o.desc)) ∧
      (o.silent = false → (t.sr i).resetting = some (resetMode delete o.desc) ∧ (t.sr i).head = (s.sr i).head ∧
        ResetOver (s.sr i) (freeEntryOf t k true) i (resetMode delete o.desc)) := by
  obtain ⟨o0, ho, -, hstarted, -⟩ := h.performs.started
  have hexec := h.exec
  obtain ⟨hown, hothers, hcr, hsr, p, l, hring⟩ := h.begun (resetMode delete o.desc)
  rw [h.performs.sr] at hring
  have hop {j : Nat} (hj : j ≠ k) : (resetBegun s1 k o i (resetMode delete o.desc)).op j = s.op j :=
    (hothers j hj).trans (h.performs.op_ne hj)
  have hnone (j : Nat) (p : Op) (hp : (resetBegun s1 k o i (resetMode delete o.desc)).op j = some p) : p.sr ≠ i := by
    by_cases hj : j = k
    · subst hj
      cases hp.symm.trans hown
      have := h.sr0
      have := h.first
      change o.sr ≠ i
      omega
    · exact hops j p ((hop hj).symm.trans hp)
  rw [beginReset_of_none hnone] at hexec
  generalize resetBegun s1 k o i (resetMode delete o.desc) = u at hexec hown hothers hcr hsr hring hop hnone
  have hdue : ResetDue u k { o with aux := 1 } i := by
    refine ⟨hown, hstarted, rfl, h.resets, fun j q hj hq => h.alone.resets j q ((hop hj).symm.trans hq), hnone,
      fun c hc => by rw [hcr, h.performs.cr]; exact hwaits c hc, fun j hj => ?_⟩
    by_cases hji : j = i
    · rw [hji, hring]
      exact hstops i h.ring
    · rw [hsr j hji, h.performs.sr]
      exact hstops j hj
  rw [settle_of_resetDue hdue h.ring] at hexec
  have hf := releaseStops_followed (decideOp (settleInvalidations u) k Result.ok)
  have hown' : (settleInvalidations u).op k = some { o with aux := 1 } := hown
  have hring' : (settleInvalidations u).sr i = resettingRing (s.sr i) (resetMode delete o.desc) p l := hring
  have hop' {j : Nat} (hj : j ≠ k) : (settleInvalidations u).op j = s.op j := hop hj
  have hended : Ended (decideOp (settleInvalidations u) k Result.ok) k { o with aux := 1 } Result.ok :=
    decideOp_ended hown'
  have hres : Op.resets { o with aux := 1 } = some i := h.resets
  generalize raiseKernelBits (releaseStops (decideOp (settleInvalidations u) k Result.ok)) = t at hexec hf
  generalize settleInvalidations u = v at hf hown' hring' hop' hended
  cases hs : o.silent with
  | true =>
    have hfree : decideOp v k Result.ok = freeEntryOf v k true := decideOp_silent hown' hs
    obtain ⟨hover, -, hopv, -⟩ := freeEntryOf_over hown' hres hring' h.ring
    rw [hfree] at hf hended
    exact ⟨t, hexec, hended.grows hf.grows, fun j _ hj => (hf.op j).trans ((hopv j hj).trans (hop' hj)),
      fun _ => hover.followed hf, fun c => absurd c (by simp)⟩
  | false =>
    have hposted : (Op.silent { o with aux := 1 } && decide (Result.ok.status = 0)) = false := by
      rw [show Op.silent { o with aux := 1 } = false from hs]
      rfl
    rw [decideOp_posted hown' hposted] at hf hended
    have hsr : t.sr i = resettingRing (s.sr i) (resetMode delete o.desc) p l := by
      have := (hf.sr i).of_none (by
        change (v.sr i).stopRecord = none
        rw [hring']
        exact hstops i h.ring)
      exact this.trans hring'
    have hopt := (hf.op k).trans (op_setOp_self k.isLt _)
    obtain ⟨hover, -⟩ := freeEntryOf_over (mode := resetMode delete o.desc) hopt h.resets hsr h.ring
    exact ⟨t, hexec, hended.grows hf.grows, fun j _ hj => (hf.op j).trans ((op_setOp_ne (Ne.symm hj) _).trans (hop' hj)),
      fun c => absurd c (by simp), fun _ => ⟨by rw [hsr]; rfl, by rw [hsr]; rfl, hover⟩⟩

end

/-! ### The statement -/

/-- What O13 says of a reset that is over. -/
theorem ResetOver.says {d : BitVec 512} {r : SubRing} (h : ResetOver r t i (resetMode delete d)) (hex : r.exists_ = true) :
    (t.sr i).resetting = none ∧ t.queue.stoppedRings.getLsbD i = false ∧
      (delete = true → (t.sr i).exists_ = false ∧ (t.sr i).head = 0 ∧ ((t.sr i).linePending = false → t.sr i = Reset.subRing)) ∧
      (delete = false → (t.sr i).exists_ = true ∧ (t.sr i).stopped = false ∧ (t.sr i).push = Vector.replicate 4 none ∧
        (t.sr i).head = if fld d 10 1 = 0 then 0 else if r.stopped then r.stopSeq else r.head) := by
  obtain ⟨hfree, hlisted, hdeleted, hkept⟩ := h
  refine ⟨hfree, hlisted, fun hd => hdeleted (by rw [hd]; rfl), fun hd => ?_⟩
  subst hd
  by_cases hm : fld d 10 1 = 0
  · have hmode : resetMode false d = .clear := by rw [resetMode, if_neg Bool.false_ne_true, if_pos hm]
    rw [hmode] at hkept
    obtain ⟨h1, h2, h3, h4⟩ := hkept (by decide)
    exact ⟨h1.trans hex, h2, h3, by rw [h4, if_pos hm]; rfl⟩
  · have hmode : resetMode false d = .replay := by rw [resetMode, if_neg Bool.false_ne_true, if_neg hm]
    rw [hmode] at hkept
    obtain ⟨h1, h2, h3, h4⟩ := hkept (by decide)
    exact ⟨h1.trans hex, h2, h3, by rw [h4, if_neg hm]; rfl⟩

/-- Settles O13. NOP, FENCE, RING_CREATE and the deletion of a completion ring end alone; a reset waits (`Resets.waits`) or ends
(`Resets.ends`). -/
theorem operationsOnRings : Obligations.OperationsOnRings := by
  unfold Obligations.OperationsOnRings
  intro s s1 k o hf ha others i
  refine ⟨fun h => ?_, fun h => ?_, fun h _ hi hsr => ⟨fun hno hhome => ?_, fun hno => ?_⟩,
    fun h _ hi hcr => ⟨fun hno => ?_, fun hex => ?_⟩, fun h _ hi hcr hex => ⟨fun hu => ?_, fun hu => ?_⟩,
    fun delete h h1 hi hsr0 hd hex hstops _ => ?_⟩
  · exact ⟨_, congrArg Host.Outcome.next (runOp_performs _ h), h.endedOnly (h.finish ha hf Result.ok)⟩
  · exact ⟨_, congrArg Host.Outcome.next (runOp_performs _ h), h.endedOnly (h.finish ha hf Result.ok)⟩
  · obtain ⟨t, hexec, ⟨hended, hothers⟩, hring, hrings⟩ := ringCreate_sr ha hf rfl hi h hsr hno hhome
    refine ⟨t, hexec, hended, hothers, hring, fun j _ hj => ?_⟩
    rcases hrings j hj with e | e <;> rw [e] <;> exact ⟨rfl, rfl⟩
  · obtain ⟨t, hexec, ⟨hended, hothers⟩, hring⟩ := ringCreate_sr_refused ha hf rfl h hsr hno
    exact ⟨t, hexec, hended, hothers, by rcases hring with e | e <;> rw [e]⟩
  · obtain ⟨t, more, hexec, ⟨hended, hothers⟩, hring⟩ := ringCreate_cr ha hf rfl hi h hcr hno
    refine ⟨t, hexec, hended, hothers, ?_⟩
    rw [hring]
    exact ⟨rfl, rfl, rfl, rfl, rfl, rfl, rfl, rfl, rfl⟩
  · exact ringCreate_cr_refused ha hf rfl h hcr hex |>.imp fun t ⟨hexec, hended, hothers⟩ => ⟨hexec, hended, hothers⟩
  · obtain ⟨t, hexec, ⟨hended, hothers⟩, hring⟩ := ringDelete_cr_used ha hf rfl h hcr hex hu
    exact ⟨t, hexec, hended, hothers, hring⟩
  · obtain ⟨t, hexec, ⟨hended, hothers⟩, hring⟩ := ringDelete_cr_unused ha hf rfl hi h hcr hex hu
    exact ⟨t, hexec, hended, hothers, hring⟩
  · intro command mode
    have hr : Resets s s1 k o i delete := ⟨h, ha, rfl, h1, hi, hsr0, hd, hex⟩
    refine ⟨hr.waits, fun hops hwaits => ?_⟩
    obtain ⟨t, hexec, hended, hothers, hsilent, hwritten⟩ := hr.ends hops hwaits hstops
    refine ⟨t, hexec, hended, hothers, fun hs => (hsilent hs).says hex, fun hs => ?_⟩
    obtain ⟨hmode, hhead, hover⟩ := hwritten hs
    exact ⟨hmode, hhead, hover.says hex⟩

end Sys2Proof.Machine
end

section
/-! PROOF. COPY, FILL and HISTOGRAM_READ over plain memory (O14). -/

set_option Elab.async false

namespace Sys2Proof.Machine
open Sys2Proof

variable {s s1 : State} {ag : Agent} {r r1 r2 : Region} {a n opcode : Nat} {k : Fin 512} {o : Op} {data : List Byte}

/-! ### What a mover does in plain memory (04 R106, R116) -/

/-- A region that a mover writes without passing the host link: HBM for kernels, or the operand store. -/
def Local (r : Region) : Prop := r = .kernels ∨ r = .operand

theorem Local.reaches (h : Local r) (s : State) (o : Op) : Reaches (moverAgent s o []) r := by
  rcases h with rfl | rfl
  · exact ⟨List.mem_cons_self, by decide, rfl⟩
  · exact ⟨List.mem_cons_of_mem _ List.mem_cons_self, by decide, rfl⟩

theorem Local.addr_lt (h : Local r) (ha : s.region a = r) : a < 0xC00000000000 := by
  have hsku : hbmEnd s.power.sku ≤ 0x600000000000 := by cases s.power.sku <;> decide
  by_contra hge
  have hregion : s.region a = .host ∨ s.region a = .unmapped := by
    have h1 : ¬a < 0x000400000000 := by omega
    have h2 : ¬a < hbmEnd s.power.sku := by omega
    have h3 : ¬a < 0x800000000000 := by omega
    have h4 : ¬a < 0x80000A000000 := by omega
    have h5 : ¬a < 0x800040000000 := by omega
    have h6 : ¬a < 0x800041000000 := by omega
    have h7 : ¬a < 0x800080000000 := by omega
    have h8 : ¬a < 0x800084000000 := by omega
    rw [State.region, regionOf, if_neg h1, if_neg h2, if_neg h3, if_neg h4, if_neg h5, if_neg h6, if_neg h7, if_neg h8, if_neg hge]
    split
    · exact .inl rfl
    · exact .inr rfl
  rw [ha] at hregion
  rcases h with rfl | rfl <;> rcases hregion with c | c <;> cases c

theorem Plain.addr_lt (h : Plain s r a n) (hr : Local r) {x : Nat} (hx : a ≤ x) (hx' : x < a + n) : x < 0xC00000000000 :=
  hr.addr_lt (h x hx hx').1

/-- Flush ranges lie in the host windows. -/
theorem flushRangeOf_device (s : State) {x : Nat} (h : x < 0xC00000000000) : flushRangeOf s x = none := by
  unfold flushRangeOf
  extract_lets rs
  rw [Option.map_eq_none_iff, List.find?_eq_none]
  intro q hq
  obtain ⟨i, -, hi⟩ := List.mem_filterMap.mp hq
  dsimp only at hi
  split at hi
  · next hc =>
    cases hi
    obtain ⟨-, -, -, hfirst⟩ := hc
    exact fun c => by
      have := (of_decide_eq_true c).1
      omega
  · cases hi

theorem noteFlush_device (s : State) (fl : List (Nat × Nat)) {x : Nat} (h : x < 0xC00000000000) : noteFlush s fl x = fl := by
  rw [noteFlush, flushRangeOf_device s h]

theorem noteWrite_plain (h : Plain s r a n) (hr : Local r) (t : State) (fl : List (Nat × Nat)) : noteWrite t fl a n = fl := by
  unfold noteWrite
  split
  · rfl
  · have hlast : a + n - 1 < 0xC00000000000 := h.addr_lt hr (by omega) (by omega)
    extract_lets first
    rw [noteFlush_device t _ hlast]
    split
    · exact noteFlush_device t _ (by omega)
    · rfl

/-- A mover's write within a line of plain memory. -/
theorem moverWrite_plain (h : Plain s r a data.length) (hr : Local r) (hn : 0 < data.length) (hag : Reaches ag r)
    (hd : s.scale.delivered.length ≤ 1024) (m : Nat) : moverWrite s ag o a data m =
      { op := { o with progress := o.progress + m }, addr := a, out := .ok () (s.setDev (s.dev.writeN a data)) } := by
  have hlast : a + data.length - 1 < 0xC00000000000 := h.addr_lt hr (by omega) (by omega)
  unfold moverWrite
  rw [busWrite_plain h hn hag hd]
  dsimp only
  rw [noteFlush_device _ _ hlast]

/-- The operation o with other counts: what a mover changes of it. -/
def Op.counted (o : Op) (progress aux : Nat) : Op := { o with progress := progress, aux := aux }

/-- What O14 says of an end: the result, what has become of device memory and of the finishing unit, and what stays. -/
structure MoverEnds (s t : State) (k : Nat) (o : Op) (m : Memory) (f : Finish) : Prop where
  ended : Ended t k o Result.ok
  dev : t.dev = m
  finish : t.finish = f
  host : t.host = s.host
  link : t.link = s.link
  core : SameCore s t
  lattice : t.lattice = s.lattice

/-- A run that is served ends its operation. -/
theorem endRun_ok (h : Performs s k opcode s1 o) (ha : EndsAlone s) (hf : o.flush = []) (hr : o.resets = none)
    (progress aux addr : Nat) (m : Memory) (f : Finish) :
    MoverEnds s (endRun k { op := o.counted progress aux, addr := addr, out := .ok () ((s1.setDev m).setFinish f) }) k o m f := by
  have hk := op_some_lt h.op
  have halone : EndsAlone (((s1.setDev m).setFinish f).setOp k (some (o.counted progress aux))) := by
    have hu : EndsAlone ((s1.setDev m).setFinish f) := (h.endsAlone ha).of_queue rfl rfl
    refine hu.setOp fun p hp _ => ?_
    cases hp
    exact hr
  have he := finishOp_endedAlone halone (op_setOp_self hk _) (show (o.counted progress aux).flush = [] from hf) Result.ok
  obtain ⟨hended, honly, -⟩ := he
  have hs := h.onlyQueue
  have hsame := honly.same
  have hcore : SameCore s ((((s1.setDev m).setFinish f)).setOp k (some (o.counted progress aux))) := hs.2
  change MoverEnds s (finishOp (((s1.setDev m).setFinish f).setOp k (some (o.counted progress aux))) k Result.ok) k o m f
  generalize finishOp (((s1.setDev m).setFinish f).setOp k (some (o.counted progress aux))) k Result.ok = t at *
  refine ⟨hended, hsame.get State.dev, hsame.get State.finish, (hsame.get State.host).trans (hs.same.get State.host),
    (hsame.get State.link).trans (hs.same.get State.link), ?_, (hsame.get State.lattice).trans (hs.same.get State.lattice)⟩
  rw [SameCore, honly.2, hcore]

/-! ### FILL (R106) -/

theorem patternBytes_append (p : BitVec 64) (a m n : Nat) : patternBytes p a (m + n) = patternBytes p a m ++ patternBytes p (a + m) n := by
  unfold patternBytes
  rw [List.range_add, List.map_append, List.map_map]
  simp only [Function.comp_def, Nat.add_assoc]

@[simp] theorem length_patternBytes (p : BitVec 64) (a n : Nat) : (patternBytes p a n).length = n := by
  simp [patternBytes]

/-- The byte of the pattern at an address. -/
theorem extract_pattern (p x : Nat) (hp : p < 2 ^ 64) :
    (BitVec.ofNat 64 p).extractLsb' (8 * (x % 8)) 8 = BitVec.ofNat 8 (p / 256 ^ (x % 8)) := by
  apply BitVec.eq_of_toNat_eq
  rw [BitVec.extractLsb'_toNat, BitVec.toNat_ofNat, BitVec.toNat_ofNat, Nat.mod_eq_of_lt hp, Nat.shiftRight_eq_div_pow, Nat.pow_mul]

/-- The bytes a FILL of an operation writes from its progress on. -/
def fillRest (o : Op) (p : Nat) : List Byte :=
  patternBytes (BitVec.ofNat 64 (fld o.desc 24 8)) (fld o.desc 8 8 + p) (fld o.desc 16 8 - p)

theorem fillLoop_plain (fuel : Nat) (h : Plain s r (fld o.desc 8 8) (fld o.desc 16 8)) (hr : Local r) (hag : Reaches ag r)
    (hd : s.scale.delivered.length ≤ 1024)
    (hfuel : Fueled fuel (fld o.desc 8 8 + o.progress) (fld o.desc 16 8 - o.progress)) :
    ∃ p, fillLoop fuel s ag o = Run.done (o.counted p o.aux)
      (s.setDev (s.dev.writeN (fld o.desc 8 8 + o.progress) (fillRest o o.progress))) := by
  induction fuel generalizing s o with
  | zero =>
    have hz : fld o.desc 16 8 - o.progress = 0 := hfuel.zero
    refine ⟨o.progress, ?_⟩
    rw [fillRest, hz]
    rfl
  | succ fuel ih =>
    unfold fillLoop
    extract_lets len b m run
    split
    · next hle =>
      have hz : fld o.desc 16 8 - o.progress = 0 := Nat.sub_eq_zero_of_le hle
      refine ⟨o.progress, ?_⟩
      rw [fillRest, hz]
      rfl
    · next hlt =>
      have hm : m ≤ len - o.progress := linePart_le _ _
      have hpos : 0 < m := linePart_pos _ (by omega)
      set bytes := patternBytes (BitVec.ofNat 64 (fld o.desc 24 8)) b m with hbytes
      have hlen : bytes.length = m := length_patternBytes _ _ _
      have hrun : run = _ := moverWrite_plain (data := bytes) (h.part (b := b) (Nat.le_add_right _ _) (by
        rw [hlen]; change fld o.desc 8 8 + o.progress + m ≤ _; omega)) hr (by omega) hag hd m
      rw [hrun]
      dsimp only
      have hrest : Fueled fuel (fld o.desc 8 8 + (o.progress + m)) (fld o.desc 16 8 - (o.progress + m)) := by
        rw [← Nat.add_assoc, ← Nat.sub_sub]
        exact hfuel.rest
      obtain ⟨p, hp⟩ := ih (s := s.setDev (s.dev.writeN b bytes)) (o := { o with progress := o.progress + m }) (h.setDev _) hd hrest
      refine ⟨p, hp.trans ?_⟩
      have hsplit : fillRest o o.progress = bytes ++ fillRest o (o.progress + m) := by
        unfold fillRest
        rw [show fld o.desc 16 8 - o.progress = m + (fld o.desc 16 8 - (o.progress + m)) by omega, patternBytes_append, Nat.add_assoc]
      rw [hsplit, Memory.writeN_append, hlen, Nat.add_assoc]
      rfl

end Sys2Proof.Machine
end

section
/-! PROOF. FILL and HISTOGRAM_READ (O14). -/

set_option Elab.async false

namespace Sys2Proof.Machine
open Sys2Proof

variable {s s1 : State} {r : Region} {a n opcode : Nat} {k : Fin 512} {o : Op}

/-- A mover that performs over memory that can be written, with no interrupt or flush of its own. -/
structure Mover (s : State) (k : Fin 512) (opcode : Nat) (s1 : State) (o : Op) : Prop where
  performs : Performs s k opcode s1 o
  alone : EndsAlone s
  flush : o.flush = []
  resets : o.resets = none
  wf : s.dev.wf = true
  delivered : s.scale.delivered.length ≤ 1024

namespace Mover

variable (h : Mover s k opcode s1 o)
include h

theorem same : ∃ q, s1 = s.setQueue q := h.performs.state

theorem dev : s1.dev = s.dev := by
  obtain ⟨q, rfl⟩ := h.same
  rfl

theorem finish : s1.finish = s.finish := by
  obtain ⟨q, rfl⟩ := h.same
  rfl

theorem room : s1.scale.delivered.length ≤ 1024 := by
  obtain ⟨q, rfl⟩ := h.same
  exact h.delivered

theorem plain (hp : Plain s r a n) : Plain s1 r a n := by
  obtain ⟨q, rfl⟩ := h.same
  exact hp.congr rfl rfl rfl rfl

theorem ends (progress aux addr : Nat) (m : Memory) (f : Finish) :
    MoverEnds s (endRun k { op := o.counted progress aux, addr := addr, out := .ok () ((s1.setDev m).setFinish f) }) k o m f :=
  endRun_ok h.performs h.alone h.flush h.resets progress aux addr m f

end Mover

/-! ### FILL (R106) -/

theorem fill_ends (h : Mover s k 0x03 s1 o) (hr : Local r) (hp : Plain s r (fld o.desc 8 8) (fld o.desc 16 8)) (h0 : o.progress = 0) :
    ∃ t, exec (.fill k []) s = .next t ∧ MoverEnds s t k o (s.dev.writeN (fld o.desc 8 8) (fillRest o 0)) s.finish := by
  have hfuel : Fueled (fld o.desc 16 8 / 64 + 2) (fld o.desc 8 8 + o.progress) (fld o.desc 16 8 - o.progress) := by
    rw [h0]
    exact fueled_lines _ _
  obtain ⟨p, hrun⟩ := fillLoop_plain (ag := moverAgent s1 o []) _ (h.plain hp) hr (hr.reaches s1 o) h.room hfuel
  rw [h0, Nat.add_zero, h.dev] at hrun
  refine ⟨_, congrArg Host.Outcome.next ((runOp_performs _ h.performs).trans (congrArg (endRun k) hrun)), ?_⟩
  rw [← h.finish]
  exact h.ends p o.aux 0 (s.dev.writeN (fld o.desc 8 8) (fillRest o 0)) s1.finish

/-- The byte that a FILL leaves at an address of its range. -/
theorem read_filled {m : Memory} (hm : m.wf = true) {x : Nat} (hl : fld o.desc 8 8 ≤ x) (hu : x < fld o.desc 8 8 + fld o.desc 16 8) :
    (m.writeN (fld o.desc 8 8) (fillRest o 0)).read x = BitVec.ofNat 8 (fld o.desc 24 8 / 256 ^ (x % 8)) := by
  obtain ⟨j, rfl⟩ := Nat.exists_eq_add_of_le hl
  rw [Memory.read_writeN_inside _ _ j hm (by rw [fillRest, length_patternBytes]; omega)]
  have hbyte : (fillRest o 0)[j]'(by rw [fillRest, length_patternBytes]; omega) =
      (BitVec.ofNat 64 (fld o.desc 24 8)).extractLsb' (8 * ((fld o.desc 8 8 + j) % 8)) 8 := by
    simp [fillRest, patternBytes]
  rw [hbyte]
  exact extract_pattern _ _ (BitVec.isLt _)

/-! ### HISTOGRAM_READ (R231) -/

@[simp] theorem length_histRecord (s : State) (i : Nat) (clear : Bool) : (histRecord s i clear).length = 320 := by
  have hbins (v : Vector W32 64) : (v.toList.flatMap fun (b : W32) => natToBytes b.toNat 4).length = 256 := by
    rw [List.length_flatMap, List.map_congr_left (g := fun _ => 4) fun b _ => length_natToBytes _ _]
    simp
  simp [histRecord, hbins]

/-- The finishing unit after HISTOGRAM_READ of an operation. -/
def histRead (s : State) (o : Op) : Finish :=
  if decide (fld o.desc 9 1 = 1) then { s.finish with hist := vset s.finish.hist (fld o.desc 8 1) histClear } else s.finish

theorem histogramRead_ends (h : Mover s k 0x1C s1 o) (hr : Local r) (hp : Plain s r (fld o.desc 16 8) 320) :
    ∃ t, exec (.histogramRead k) s = .next t ∧
      MoverEnds s t k o (s.dev.writeN (fld o.desc 16 8) (histRecord s (fld o.desc 8 1) (decide (fld o.desc 9 1 = 1)))) (histRead s o) := by
  set bs := histRecord s (fld o.desc 8 1) (decide (fld o.desc 9 1 = 1)) with hbs
  have hrec : histRecord s1 (fld o.desc 8 1) (decide (fld o.desc 9 1 = 1)) = bs := by
    obtain ⟨q, rfl⟩ := h.same
    rfl
  have hlen : bs.length = 320 := length_histRecord _ _ _
  have hplain : Plain s1 r (fld o.desc 16 8) bs.length := by
    rw [hlen]
    exact h.plain hp
  have hwrite := busWriteAll_plain hplain (hr.reaches s1 o) h.room
  rw [h.dev] at hwrite
  refine ⟨_, congrArg Host.Outcome.next (runOp_performs _ h.performs), ?_⟩
  extract_lets i clear b w cleared
  have hw : w = _ := (congrArg (busWriteAll s1 (moverAgent s1 o []) (fld o.desc 16 8)) hrec).trans hwrite
  have hnote (u : State) : noteWrite u o.flush b 320 = o.flush := noteWrite_plain (h.plain hp) hr u _
  rw [hw]
  dsimp only
  rw [hnote]
  have hstate : cleared (s1.setDev (s.dev.writeN b bs)) = (s1.setDev (s.dev.writeN b bs)).setFinish (histRead s o) := by
    dsimp only [cleared, histRead, clear, i]
    rw [← h.finish]
    split <;> rfl
  rw [hstate]
  exact h.ends 320 o.aux 0 _ _

end Sys2Proof.Machine
end

section
/-! PROOF. COPY (O14). -/

set_option Elab.async false

namespace Sys2Proof.Machine
open Sys2Proof

variable {s s1 : State} {ag : Agent} {r1 r2 : Region} {k : Fin 512} {o : Op} {d : BitVec 512} {m m0 : Memory} {i b l : Nat}

/-! ### The rows of a COPY (R106, Table 4.4) -/

def copyRows (d : BitVec 512) : Nat := fld d 28 4

def rowBytes (d : BitVec 512) : Nat := fld d 24 4

def srcRow (d : BitVec 512) (i : Nat) : Nat := fld d 8 8 + i * fld d 32 8

def dstRow (d : BitVec 512) (i : Nat) : Nat := fld d 16 8 + i * fld d 40 8

/-- Rows of plain memory, no destination row over a source row or another destination row. -/
def RowsApart (s : State) (r1 r2 : Region) (d : BitVec 512) : Prop :=
  ∀ i < copyRows d, Plain s r1 (srcRow d i) (rowBytes d) ∧ Plain s r2 (dstRow d i) (rowBytes d) ∧
    ∀ j < copyRows d, Apart (dstRow d i) (rowBytes d) (srcRow d j) (rowBytes d) ∧
      (i ≠ j → Apart (dstRow d i) (rowBytes d) (dstRow d j) (rowBytes d))

theorem RowsApart.congr (h : RowsApart s r1 r2 d) {t : State} (ht : ∀ r a n, Plain s r a n → Plain t r a n) : RowsApart t r1 r2 d :=
  fun i hi => by
    obtain ⟨hsrc, hdst, hapart⟩ := h i hi
    exact ⟨ht _ _ _ hsrc, ht _ _ _ hdst, hapart⟩

/-- The memory m, made from m0 by a COPY that has written p bytes: they are those of the source, and nothing outside the
destination has changed. -/
structure Copied (m0 m : Memory) (d : BitVec 512) (p : Nat) : Prop where
  wf : m.wf = true
  rows : ∀ i < copyRows d, ∀ b < rowBytes d, i * rowBytes d + b < p → m.read (dstRow d i + b) = m0.read (srcRow d i + b)
  outside : ∀ x, (∀ i < copyRows d, x < dstRow d i ∨ dstRow d i + rowBytes d ≤ x) → m.read x = m0.read x

theorem Copied.start (h : m.wf = true) (d : BitVec 512) : Copied m m d 0 := ⟨h, fun _ _ _ _ hp => absurd hp (by omega), fun _ _ => rfl⟩

/-- The source rows are as they were. -/
theorem Copied.readN_src (hc : Copied m0 m d i) (h : RowsApart s r1 r2 d) {j : Nat} (hj : j < copyRows d) (hl : b + l ≤ rowBytes d) :
    m.readN (srcRow d j + b) l = m0.readN (srcRow d j + b) l := by
  refine Memory.readN_congr _ _ _ _ fun e he => hc.outside _ fun i hi => ?_
  obtain ⟨-, -, hapart⟩ := h i hi
  rcases (hapart j hj).1 with hbefore | hafter
  · right; omega
  · left; omega

/-- The next l bytes of row i. -/
theorem Copied.step (hc : Copied m0 m d (i * rowBytes d + b)) (h : RowsApart s r1 r2 d) (hi : i < copyRows d) (hl : b + l ≤ rowBytes d) :
    Copied m0 (m.writeN (dstRow d i + b) (m0.readN (srcRow d i + b) l)) d (i * rowBytes d + b + l) := by
  have hlen : (m0.readN (srcRow d i + b) l).length = l := Memory.length_readN _ _ _
  refine ⟨Memory.wf_writeN _ _ hc.wf, fun j hj c hcb hlt => ?_, fun x hx => ?_⟩
  · by_cases hij : j = i
    · subst hij
      by_cases hbefore : c < b
      · rw [Memory.read_writeN_outside _ _ (by omega)]
        exact hc.rows j hj c hcb (by omega)
      · obtain ⟨e, rfl⟩ := Nat.exists_eq_add_of_le (Nat.le_of_not_lt hbefore)
        rw [← Nat.add_assoc, Memory.read_writeN_inside _ _ e hc.wf (by omega), Memory.getElem_readN, Nat.add_assoc]
    · obtain ⟨-, -, hapart⟩ := h i hi
      have hrow : j < i := by
        by_contra hge
        have : (i + 1) * rowBytes d ≤ j * rowBytes d := Nat.mul_le_mul_right _ (by omega)
        rw [Nat.succ_mul] at this
        omega
      have hrowEnd : (j + 1) * rowBytes d ≤ i * rowBytes d := Nat.mul_le_mul_right _ hrow
      rw [Nat.succ_mul] at hrowEnd
      have hout : dstRow d j + c < dstRow d i + b ∨ dstRow d i + b + l ≤ dstRow d j + c := by
        rcases (hapart j hj).2 (Ne.symm hij) with hlo | hhi
        · right; omega
        · left; omega
      rw [Memory.read_writeN_outside _ _ (by rw [hlen]; exact hout)]
      exact hc.rows j hj c hcb (by omega)
  · have := hx i hi
    rw [Memory.read_writeN_outside _ _ (by omega)]
    exact hc.outside x hx

/-! ### The accesses of a COPY (R116) -/

/-- Accesses that the rest of a row can take: each ends a line of the source, a line of the destination or the row. -/
def rowTurns (d : BitVec 512) (i b : Nat) : Nat :=
  ((srcRow d i + b) % 64 + (rowBytes d - b)) / 64 + ((dstRow d i + b) % 64 + (rowBytes d - b)) / 64 + 1

theorem rowTurns_le (d : BitVec 512) (i b : Nat) : rowTurns d i b ≤ rowBytes d / 32 + 3 := by
  unfold rowTurns
  omega

/-- The fuel covers what is left from byte b of row i on. -/
def Turns (d : BitVec 512) (fuel i b : Nat) : Prop := (copyRows d - 1 - i) * (rowBytes d / 32 + 4) + rowTurns d i b ≤ fuel

theorem Turns.start (d : BitVec 512) (h : 0 < copyRows d) : Turns d (copyRows d * (rowBytes d / 32 + 4)) 0 0 := by
  have hturns := rowTurns_le d 0 0
  obtain ⟨n, hn⟩ := Nat.exists_eq_succ_of_ne_zero h.ne'
  rw [Turns, hn, Nat.succ_mul]
  simp only [Nat.succ_sub_one, Nat.sub_zero]
  omega

theorem Turns.pos {fuel : Nat} (h : Turns d fuel i b) : 0 < fuel := by
  unfold Turns rowTurns at h
  omega

/-- The bytes of one access of a COPY. -/
def copyPart (d : BitVec 512) (i b : Nat) : Nat := linePart (srcRow d i + b) (linePart (dstRow d i + b) (rowBytes d - b))

theorem copyPart_pos (hb : b < rowBytes d) : 0 < copyPart d i b := linePart_pos _ (linePart_pos _ (by omega))

theorem copyPart_le (d : BitVec 512) (i b : Nat) : copyPart d i b ≤ rowBytes d - b := (linePart_le _ _).trans (linePart_le _ _)

theorem Turns.row {fuel : Nat} (h : Turns d (fuel + 1) i b) (hlt : b + copyPart d i b < rowBytes d) : Turns d fuel i (b + copyPart d i b) := by
  have hline : rowTurns d i (b + copyPart d i b) + 1 ≤ rowTurns d i b := by
    unfold rowTurns copyPart linePart at *
    omega
  unfold Turns at *
  omega

theorem Turns.next {fuel : Nat} (h : Turns d (fuel + 1) i b) (hi : i + 1 < copyRows d) : Turns d fuel (i + 1) 0 := by
  have hturns := rowTurns_le d (i + 1) 0
  have hrows : copyRows d - 1 - i = copyRows d - 1 - (i + 1) + 1 := by omega
  unfold Turns at *
  rw [hrows, Nat.succ_mul] at h
  omega

/-- One access of a COPY. -/
theorem copyLoop_step {fuel : Nat} (h : RowsApart s r1 r2 o.desc) (hl1 : Local r1) (hl2 : Local r2)
    (hag : Reaches ag r1) (hag2 : Reaches ag r2) (hd : s.scale.delivered.length ≤ 1024)
    (hi : i < copyRows o.desc) (hb : b < rowBytes o.desc) (hp : o.progress = i * rowBytes o.desc + b) :
    copyLoop (fuel + 1) s ag o = copyLoop fuel
      (s.setDev (s.dev.writeN (dstRow o.desc i + b) (s.dev.readN (srcRow o.desc i + b) (copyPart o.desc i b)))) ag
      { o with progress := i * rowBytes o.desc + b + copyPart o.desc i b } := by
  obtain ⟨hsrc, hdst, -⟩ := h i hi
  have hpos := copyPart_pos (d := o.desc) (i := i) hb
  have hle := copyPart_le o.desc i b
  have hdiv : o.progress / rowBytes o.desc = i := by
    rw [hp, Nat.mul_comm, Nat.mul_add_div (by omega), Nat.div_eq_of_lt hb, Nat.add_zero]
  have hmod : o.progress % rowBytes o.desc = b := by
    rw [hp, Nat.mul_comm, Nat.mul_add_mod, Nat.mod_eq_of_lt hb]
  have hmore : ¬rowBytes o.desc * copyRows o.desc ≤ o.progress := by
    have : (i + 1) * rowBytes o.desc ≤ copyRows o.desc * rowBytes o.desc := Nat.mul_le_mul_right _ hi
    rw [Nat.succ_mul, Nat.mul_comm (copyRows o.desc)] at this
    omega
  have hread := busRead_plain (hsrc.part (b := srcRow o.desc i + b) (m := copyPart o.desc i b) (by omega) (by omega)) hpos hag
  have hlen : (s.dev.readN (srcRow o.desc i + b) (copyPart o.desc i b)).length = copyPart o.desc i b := Memory.length_readN _ _ _
  have hwrite := moverWrite_plain (o := o) (data := s.dev.readN (srcRow o.desc i + b) (copyPart o.desc i b))
    (hdst.part (b := dstRow o.desc i + b) (by omega) (by omega)) hl2 (by omega) hag2 hd (copyPart o.desc i b)
  conv_lhs => unfold copyLoop
  extract_lets rb row byte src dst n
  have hrow : row = i := hdiv
  have hbyte : byte = b := hmod
  have hsrcAddr : src = srcRow o.desc i + b := by
    rw [← hrow, ← hbyte]
    refine Nat.mod_eq_of_lt ((hsrc.addr_lt hl1 (x := srcRow o.desc row + byte) ?_ ?_).trans (by decide)) <;> rw [hrow, hbyte] <;> omega
  have hdstAddr : dst = dstRow o.desc i + b := by
    rw [← hrow, ← hbyte]
    refine Nat.mod_eq_of_lt ((hdst.addr_lt hl2 (x := dstRow o.desc row + byte) ?_ ?_).trans (by decide)) <;> rw [hrow, hbyte] <;> omega
  have hn : n = copyPart o.desc i b := by
    dsimp only [n]
    rw [hsrcAddr, hdstAddr, hbyte]
    rfl
  rw [if_neg (show ¬rb * fld o.desc 28 4 ≤ o.progress from hmore), hsrcAddr, hn, hread]
  dsimp only
  rw [hdstAddr, hwrite, hp]

theorem copyLoop_done {fuel : Nat} (h : copyRows o.desc * rowBytes o.desc ≤ o.progress) : copyLoop fuel s ag o = Run.done o s := by
  cases fuel with
  | zero => rfl
  | succ fuel =>
    unfold copyLoop
    extract_lets rb
    rw [if_pos (by rw [Nat.mul_comm]; exact h)]

theorem copyLoop_plain (fuel : Nat) (h : RowsApart s r1 r2 o.desc) (hl1 : Local r1) (hl2 : Local r2)
    (hag : Reaches ag r1) (hag2 : Reaches ag r2) (hd : s.scale.delivered.length ≤ 1024)
    (hi : i < copyRows o.desc) (hb : b < rowBytes o.desc) (hp : o.progress = i * rowBytes o.desc + b)
    (hc : Copied m0 s.dev o.desc (i * rowBytes o.desc + b)) (hf : Turns o.desc fuel i b) :
    ∃ p m, copyLoop fuel s ag o = Run.done (o.counted p o.aux) (s.setDev m) ∧ Copied m0 m o.desc (copyRows o.desc * rowBytes o.desc) := by
  induction fuel generalizing s o i b with
  | zero => exact absurd hf.pos (by omega)
  | succ fuel ih =>
    have hle := copyPart_le o.desc i b
    have hstep := hc.step h hi (l := copyPart o.desc i b) (by omega)
    rw [← hc.readN_src h hi (by omega)] at hstep
    rw [copyLoop_step h hl1 hl2 hag hag2 hd hi hb hp]
    set m := s.dev.writeN (dstRow o.desc i + b) (s.dev.readN (srcRow o.desc i + b) (copyPart o.desc i b)) with hm
    set o' : Op := { o with progress := i * rowBytes o.desc + b + copyPart o.desc i b } with ho'
    have h' : RowsApart (s.setDev m) r1 r2 o'.desc := h.congr fun r a n hp => hp.setDev m
    by_cases hrow : b + copyPart o.desc i b < rowBytes o.desc
    · exact ih (s := s.setDev m) (o := o') (i := i) (b := b + copyPart o.desc i b) h' hd hi hrow (Nat.add_assoc _ _ _)
        (by rw [← Nat.add_assoc]; exact hstep) (hf.row hrow)
    · have hend : i * rowBytes o.desc + b + copyPart o.desc i b = (i + 1) * rowBytes o.desc := by
        rw [Nat.succ_mul]
        omega
      rw [hend] at hstep
      by_cases hnext : i + 1 < copyRows o.desc
      · exact ih (s := s.setDev m) (o := o') (i := i + 1) (b := 0) h' hd hnext (Nat.zero_lt_of_lt hb) hend hstep (hf.next hnext)
      · have hlast : i + 1 = copyRows o.desc := by omega
        rw [hlast] at hend hstep
        exact ⟨_, m, copyLoop_done (o := o') hend.ge, hstep⟩

theorem copy_ends (h : Mover s k 0x01 s1 o) (hl1 : Local r1) (hl2 : Local r2) (hr : RowsApart s r1 r2 o.desc) (h0 : o.progress = 0) :
    ∃ t m, exec (.copy k []) s = .next t ∧ MoverEnds s t k o m s.finish ∧ Copied s.dev m o.desc (copyRows o.desc * rowBytes o.desc) := by
  have hr1 : RowsApart s1 r1 r2 o.desc := hr.congr fun r a n hp => h.plain hp
  have hloop : ∃ p m, copyRun s1 o (moverAgent s1 o []) = Run.done (o.counted p o.aux) (s1.setDev m) ∧
      Copied s.dev m o.desc (copyRows o.desc * rowBytes o.desc) := by
    have hstart : Copied s.dev s1.dev o.desc 0 := h.dev ▸ Copied.start (h.dev.symm ▸ h.wf) o.desc
    by_cases hsome : 0 < copyRows o.desc * rowBytes o.desc
    · have hi : 0 < copyRows o.desc := Nat.pos_of_mul_pos_right hsome
      have hb : 0 < rowBytes o.desc := Nat.pos_of_mul_pos_left hsome
      refine copyLoop_plain (i := 0) (b := 0) _ hr1 hl1 hl2 (hl1.reaches s1 o) (hl2.reaches s1 o) h.room hi hb ?_ ?_ (Turns.start _ hi)
      · rw [h0, Nat.zero_mul]
      · rw [Nat.zero_mul]
        exact hstart
    · have hnone : copyRows o.desc * rowBytes o.desc = 0 := by omega
      rw [hnone]
      exact ⟨o.progress, s1.dev, copyLoop_done (by rw [hnone]; exact Nat.zero_le _), hstart⟩
  obtain ⟨p, m, hrun, hc⟩ := hloop
  refine ⟨_, m, congrArg Host.Outcome.next ((runOp_performs _ h.performs).trans (congrArg (endRun k) hrun)), ?_, hc⟩
  rw [← h.finish]
  exact h.ends p o.aux 0 m s1.finish

end Sys2Proof.Machine
end

section
/-! PROOF. Elements of fewer bits than a byte: packing, and reads of part of a run (08 R210; O14). -/

set_option Elab.async false

namespace Sys2Proof.Machine
open Sys2Proof

variable {s : State} {ag : Agent} {r : Region} {w i n e : Nat}

/-! ### Runs of bytes as numbers -/

theorem Memory.readLE_append (m : Memory) (a p q : Nat) : m.readLE a (p + q) = m.readLE a p + 2 ^ (8 * p) * m.readLE (a + p) q := by
  rw [Memory.readLE, Memory.readN_append, bytesToNat_append, Memory.length_readN]
  rfl

theorem Memory.readLE_lt (m : Memory) (a n : Nat) : m.readLE a n < 2 ^ (8 * n) := by
  have h := bytesToNat_lt (m.readN a n)
  rwa [Memory.length_readN] at h

theorem Memory.readLE_congr (m m' : Memory) (n a : Nat) (h : ∀ x, a ≤ x → x < a + n → m.read x = m'.read x) : m.readLE a n = m'.readLE a n :=
  congrArg bytesToNat (Memory.readN_congr m m' n a fun i hi => h _ (by omega) (by omega))

/-- Part of a run of bytes as a number. -/
theorem Memory.readLE_slice (m : Memory) (a : Nat) {p q n : Nat} (h : p + q ≤ n) :
    m.readLE (a + p) q = m.readLE a n / 2 ^ (8 * p) % 2 ^ (8 * q) := by
  obtain ⟨t, rfl⟩ := Nat.exists_eq_add_of_le h
  rw [Nat.add_assoc, m.readLE_append a p, Nat.add_mul_div_left _ _ (Nat.two_pow_pos _), Nat.div_eq_of_lt (m.readLE_lt a p), Nat.zero_add,
    m.readLE_append, Nat.add_mul_mod_self_left, Nat.mod_eq_of_lt (m.readLE_lt _ q)]

/-- Bits of a part of a number are bits of the number. -/
theorem bits_slice (x : Nat) {lo len b : Nat} (h : b + w ≤ len) : x / 2 ^ lo % 2 ^ len / 2 ^ b % 2 ^ w = x / 2 ^ (lo + b) % 2 ^ w := by
  obtain ⟨t, rfl⟩ := Nat.exists_eq_add_of_le h
  rw [Nat.add_assoc, Nat.pow_add 2 b, Nat.mod_mul_right_div_self, Nat.mod_mod_of_dvd _ ⟨2 ^ t, Nat.pow_add 2 w t⟩, Nat.div_div_eq_div_mul,
    ← Nat.pow_add]

/-! ### Packed elements -/

/-- The number that packed elements of w bits make, element 0 in the lowest bits. -/
def packNum (w : Nat) (xs : List Nat) : Nat := xs.foldr (fun x acc => x % 2 ^ w + 2 ^ w * acc) 0

theorem packNum_cons (w x : Nat) (xs : List Nat) : packNum w (x :: xs) = x % 2 ^ w + 2 ^ w * packNum w xs := rfl

theorem packNum_append (w : Nat) (xs ys : List Nat) : packNum w (xs ++ ys) = packNum w xs + 2 ^ (w * xs.length) * packNum w ys := by
  induction xs with
  | nil => simp [packNum]
  | cons x xs ih =>
    rw [List.cons_append, packNum_cons, packNum_cons, ih, List.length_cons, Nat.mul_succ, Nat.pow_add]
    ring

theorem packNum_lt (w : Nat) (xs : List Nat) : packNum w xs < 2 ^ (w * xs.length) := by
  induction xs with
  | nil => exact Nat.one_pos
  | cons x xs ih =>
    have hx : x % 2 ^ w < 2 ^ w := Nat.mod_lt _ (Nat.two_pow_pos _)
    rw [packNum_cons, List.length_cons, Nat.mul_succ, Nat.pow_add, Nat.mul_comm (2 ^ (w * _))]
    calc x % 2 ^ w + 2 ^ w * packNum w xs < 2 ^ w * (packNum w xs + 1) := by rw [Nat.mul_succ]; omega
      _ ≤ 2 ^ w * 2 ^ (w * xs.length) := Nat.mul_le_mul_left _ ih

/-- Element e of packed elements. -/
theorem packNum_get (w : Nat) (xs : List Nat) (h : e < xs.length) : packNum w xs / 2 ^ (w * e) % 2 ^ w = xs[e] % 2 ^ w := by
  induction xs generalizing e with
  | nil => exact absurd h (Nat.not_lt_zero _)
  | cons x xs ih =>
    have hx : x % 2 ^ w < 2 ^ w := Nat.mod_lt _ (Nat.two_pow_pos _)
    cases e with
    | zero => rw [packNum_cons, Nat.mul_zero, Nat.pow_zero, Nat.div_one, Nat.add_mul_mod_self_left, Nat.mod_mod]; rfl
    | succ e =>
      rw [packNum_cons, Nat.mul_succ, Nat.add_comm (w * e), Nat.pow_add, ← Nat.div_div_eq_div_mul, Nat.add_mul_div_left _ _ (Nat.two_pow_pos _),
        Nat.div_eq_of_lt hx, Nat.zero_add]
      exact ih (Nat.lt_of_succ_lt_succ h)

theorem length_packElems (w : Nat) (xs : List Nat) : (packElems w xs).length = (xs.length * w + 7) / 8 := length_natToBytes _ _

theorem bytesToNat_packElems (w : Nat) (xs : List Nat) : bytesToNat (packElems w xs) = packNum w xs :=
  bytesToNat_natToBytes_of_lt ((packNum_lt w xs).trans_le (Nat.pow_le_pow_right Nat.two_pos (by rw [Nat.mul_comm w]; omega)))

/-! ### Formats (Table 4.5) -/

/-- Elements of a format make whole bytes in their groups, which divide a block. -/
theorem fmt_group (f : Nat) (hf : f ≤ 11) : 0 < packGroup f ∧ packGroup f ∣ 32 ∧ 8 ∣ fmtBits f * packGroup f := by
  interval_cases f <;> decide

/-- Elements of a format that is not MX are whole bytes. -/
theorem fmt_bytes (f : Nat) (hf : f ≤ 11) (hmx : isMxFmt f = false) : packGroup f = 1 ∧ 8 ∣ fmtBits f ∧ fmtBits f ≤ 32 := by
  interval_cases f <;> revert hmx <;> decide

theorem fmt_mx (f : Nat) (hmx : isMxFmt f = true) : 0 < fmtBits f ∧ fmtBits f ≤ 8 := by
  have hf := of_decide_eq_true hmx
  obtain ⟨hl, hu⟩ := hf
  interval_cases f <;> decide

/-! ### Reading elements (R210, R116) -/

/-- Reading n elements at index i of a run of N elements in plain memory. -/
theorem readElems_plain {f base N : Nat} (hf : f ≤ 11) (hN : packGroup f ∣ N) (hin : i + n ≤ N)
    (hp : Plain s r base (fmtBits f * N / 8)) (hag : Reaches ag r) :
    ∃ a, readElems s ag base f i n =
      (a, .ok ((List.range n).map fun e => s.dev.readLE base (fmtBits f * N / 8) / 2 ^ (fmtBits f * (i + e)) % 2 ^ fmtBits f) s) := by
  obtain ⟨hg, -, u, hu⟩ := fmt_group f hf
  obtain ⟨z, rfl⟩ := hN
  unfold readElems
  dsimp only
  generalize packGroup f = g at *
  generalize fmtBits f = w at *
  have hwhole (t : Nat) : 8 * (u * t) = w * (g * t) := by
    rw [← Nat.mul_assoc, ← hu, Nat.mul_assoc]
  have hbytes (t : Nat) : w * (g * t) / 8 = u * t := by
    rw [← hwhole, Nat.mul_div_cancel_left _ (by decide)]
  have hdiv := Nat.div_add_mod i g
  have hi0 : i - i % g = g * (i / g) := by omega
  generalize hy : (n + i % g + g - 1) / g = y
  have hny : i % g + n ≤ g * y := by
    have := Nat.lt_mul_div_succ (n + i % g + g - 1) hg
    rw [hy, Nat.mul_succ] at this
    omega
  have hyz : i / g + y ≤ z := by
    have hy1 : g * y ≤ n + i % g + g - 1 := hy ▸ Nat.mul_div_le _ _
    have : g * (i / g + y) < g * (z + 1) := by
      rw [Nat.mul_add, Nat.mul_succ]
      omega
    have := Nat.lt_of_mul_lt_mul_left this
    omega
  rw [hi0, Nat.mul_comm y g, hbytes, hbytes, hbytes] at *
  have hpart : u * (i / g) + u * y ≤ u * z := by rw [← Nat.mul_add]; exact Nat.mul_le_mul_left _ hyz
  have hfuel : Fueled (w * (g * y) / 512 + 2) (base + u * (i / g)) (u * y) := by
    rw [← hwhole, show 8 * (u * y) / 512 = u * y / 64 by omega]
    exact fueled_lines _ _
  obtain ⟨a, ha⟩ := readRun_plain (hp.part (by omega) (by omega)) hag hfuel
  rw [ha]
  refine ⟨a, congrArg (fun xs => (a, Access.ok xs s)) ?_⟩
  refine List.ext_getElem ?_ fun e h1 h2 => ?_
  · simp [unpackElems]
    omega
  · have he : e < n := by simpa using h2
    simp only [unpackElems, List.getElem_take, List.getElem_drop, List.getElem_map, List.getElem_range]
    change s.dev.readLE (base + u * (i / g)) (u * y) / _ % _ = _
    have hfit : w * (i % g + e) + w ≤ 8 * (u * y) := by
      rw [hwhole, ← Nat.mul_succ]
      exact Nat.mul_le_mul_left _ (by omega)
    rw [s.dev.readLE_slice base hpart, bits_slice _ hfit, hwhole, ← Nat.mul_add, show g * (i / g) + (i % g + e) = i + e by omega]

end Sys2Proof.Machine
end

section
/-! PROOF. CONVERT: the elements of a conversion, and one piece of it (O14). -/

set_option Elab.async false

namespace Sys2Proof.Machine
open Sys2Proof

variable {s : State} {ag : Agent} {r r1 r2 : Region} {j : ConvertJob} {o : Op} {m m0 : Memory} {i n e : Nat}

/-! ### What a conversion makes (R218, R219) -/

namespace ConvertJob

def srcLen (j : ConvertJob) : Nat := fmtBits j.srcFmt * j.count / 8

def dstLen (j : ConvertJob) : Nat := fmtBits j.dstFmt * j.count / 8

def srcScaleLen (j : ConvertJob) : Nat := if isMxFmt j.srcFmt then j.count / 32 else 0

def dstScaleLen (j : ConvertJob) : Nat := if isMxFmt j.dstFmt then j.count / 32 else 0

/-- The bits of source element e. -/
def elemBits (j : ConvertJob) (m : Memory) (e : Nat) : Nat :=
  m.readLE j.src j.srcLen / 2 ^ (fmtBits j.srcFmt * e) % 2 ^ fmtBits j.srcFmt

/-- The exact value of source element e. -/
def elemVal (j : ConvertJob) (m : Memory) (e : Nat) : Val :=
  if isMxFmt j.srcFmt then decodeMx j.srcFmt (j.elemBits m e) (m.read (j.srcScales + e / 32)).toNat
  else decodeElem j.srcFmt (j.elemBits m e)

def mode (j : ConvertJob) (e : Nat) : Round := roundOf j.round j.seed e

/-- Block b of an MX destination, with its scale. -/
def block (j : ConvertJob) (m : Memory) (b : Nat) : List Nat × Nat :=
  mxBlock j.dstFmt (fun i => j.mode (32 * b + i)) ((List.range 32).map fun i => j.scaled (j.elemVal m (32 * b + i)))

/-- Destination element e. -/
def encoded (j : ConvertJob) (m : Memory) (e : Nat) : Nat :=
  if isMxFmt j.dstFmt then (j.block m (e / 32)).1.getD (e % 32) 0
  else encodeElem j.dstFmt (j.mode e) true (j.scaled (j.elemVal m e))

/-- Formats that exist, whole blocks where a format has them, and no offer of taps. -/
structure Valid (j : ConvertJob) : Prop where
  srcFmt : j.srcFmt ≤ 11
  dstFmt : j.dstFmt ≤ 11
  blocks : isMxFmt j.srcFmt = true ∨ isMxFmt j.dstFmt = true → j.count % 32 = 0
  noTap : j.amax.testBit 7 = false
  count_lt : j.count < 2 ^ 32

/-- A place where a conversion may stand: between blocks of an MX destination. -/
def Stands (j : ConvertJob) (i : Nat) : Prop := isMxFmt j.dstFmt = true → i % 32 = 0

end ConvertJob

/-- The memory of a conversion: plain, its destinations apart from its sources and from one another. -/
structure ConvertPlain (s : State) (r1 r2 : Region) (j : ConvertJob) : Prop where
  src : Plain s r1 j.src j.srcLen
  srcScales : Plain s r1 j.srcScales j.srcScaleLen
  dst : Plain s r2 j.dst j.dstLen
  dstScales : Plain s r2 j.dstScales j.dstScaleLen
  dst_src : Apart j.dst j.dstLen j.src j.srcLen
  dst_srcScales : Apart j.dst j.dstLen j.srcScales j.srcScaleLen
  dstScales_src : Apart j.dstScales j.dstScaleLen j.src j.srcLen
  dstScales_srcScales : Apart j.dstScales j.dstScaleLen j.srcScales j.srcScaleLen
  dst_dstScales : Apart j.dst j.dstLen j.dstScales j.dstScaleLen

theorem ConvertPlain.congr (h : ConvertPlain s r1 r2 j) {t : State} (ht : ∀ r a n, Plain s r a n → Plain t r a n) :
    ConvertPlain t r1 r2 j :=
  { h with src := ht _ _ _ h.src, srcScales := ht _ _ _ h.srcScales, dst := ht _ _ _ h.dst, dstScales := ht _ _ _ h.dstScales }

/-- The memory m, made from m0 by a conversion of the first i elements. -/
structure Converted (m0 m : Memory) (j : ConvertJob) (i : Nat) : Prop where
  wf : m.wf = true
  stands : j.Stands i
  elems : m.readLE j.dst (j.offset i) = packNum (fmtBits j.dstFmt) ((List.range i).map (j.encoded m0))
  scales : isMxFmt j.dstFmt = true → ∀ b < i / 32, m.read (j.dstScales + b) = BitVec.ofNat 8 (j.block m0 b).2
  outside : ∀ x, ¬(j.dst ≤ x ∧ x < j.dst + j.dstLen) → ¬(j.dstScales ≤ x ∧ x < j.dstScales + j.dstScaleLen) → m.read x = m0.read x

theorem Converted.start (h : m.wf = true) (j : ConvertJob) : Converted m m j 0 where
  wf := h
  stands _ := rfl
  elems := by
    rw [ConvertJob.offset, Nat.mul_zero]
    rfl
  scales _ b hb := absurd hb (Nat.not_lt_zero b)
  outside _ _ _ := rfl

/-! ### Pieces (R116) -/

theorem pieceLen_mx (hmx : isMxFmt j.dstFmt = true) (i : Nat) : pieceLen j i = 32 := if_pos hmx

/-- A piece has an element and ends within its block and the run. -/
theorem pieceLen_bounds (hv : j.Valid) (hs : j.Stands i) (hi : i < j.count) :
    0 < pieceLen j i ∧ i % 32 + pieceLen j i ≤ 32 ∧ i + pieceLen j i ≤ j.count := by
  cases hmx : isMxFmt j.dstFmt with
  | true =>
    have hcount := hv.blocks (.inr hmx)
    have hblock := hs hmx
    rw [pieceLen_mx hmx]
    omega
  | false =>
    unfold pieceLen
    rw [hmx, if_neg Bool.false_ne_true]
    dsimp only
    omega

theorem ConvertJob.Stands.next (hs : j.Stands i) : j.Stands (i + pieceLen j i) := fun hmx => by
  have hblock := hs hmx
  rw [pieceLen_mx hmx]
  omega

theorem ConvertJob.Valid.stands_end (hv : j.Valid) : j.Stands j.count := fun hmx => hv.blocks (.inr hmx)

/-- Where a conversion may stand, its destination is whole bytes. -/
theorem ConvertJob.Valid.offset_bytes (hv : j.Valid) (hs : j.Stands i) : 8 * j.offset i = fmtBits j.dstFmt * i := by
  refine Nat.mul_div_cancel' ?_
  cases hmx : isMxFmt j.dstFmt with
  | true => exact Dvd.dvd.mul_left (Nat.dvd_of_mod_eq_zero (by have := hs hmx; omega)) _
  | false => exact Dvd.dvd.mul_right (fmt_bytes _ hv.dstFmt hmx).2.1 _

theorem ConvertJob.offset_le {i' : Nat} (j : ConvertJob) (h : i ≤ i') : j.offset i ≤ j.offset i' :=
  Nat.div_le_div_right (Nat.mul_le_mul_left _ h)

/-! ### Source values (R211, R219) -/

theorem sourceVals_plain (hv : j.Valid) (h : ConvertPlain s r1 r2 j) (hag : Reaches ag r1) (hn : 0 < n) (hblock : i % 32 + n ≤ 32)
    (hin : i + n ≤ j.count) :
    ∃ a, sourceVals s ag j i n = (a, .ok ((List.range n).map fun e => j.elemVal s.dev (i + e)) s) := by
  have hgroup : packGroup j.srcFmt ∣ j.count := by
    cases hmx : isMxFmt j.srcFmt with
    | true => exact (fmt_group _ hv.srcFmt).2.1.trans (Nat.dvd_of_mod_eq_zero (hv.blocks (.inl hmx)))
    | false => exact (fmt_bytes _ hv.srcFmt hmx).1 ▸ one_dvd _
  obtain ⟨a, ha⟩ := readElems_plain hv.srcFmt hgroup hin h.src hag
  unfold sourceVals
  rw [ha]
  dsimp only
  cases hmx : isMxFmt j.srcFmt with
  | false =>
    refine ⟨a, congrArg (fun xs => (a, Access.ok xs s)) ?_⟩
    rw [List.map_map]
    refine List.map_congr_left fun e _ => ?_
    rw [ConvertJob.elemVal, hmx]
    rfl
  | true =>
    have hlen : j.srcScaleLen = j.count / 32 := if_pos hmx
    have hscale : Plain s r1 (j.srcScales + i / 32) 1 := h.srcScales.part (by omega) (by rw [hlen]; have := hv.blocks (.inl hmx); omega)
    rw [if_pos rfl, busRead_plain hscale Nat.one_pos hag]
    dsimp only
    refine ⟨j.srcScales + i / 32, congrArg (fun xs => (j.srcScales + i / 32, Access.ok xs s)) ?_⟩
    rw [List.map_map]
    refine List.map_congr_left fun e he => ?_
    have hsame : (i + e) / 32 = i / 32 := by
      have := List.mem_range.mp he
      omega
    rw [ConvertJob.elemVal, hmx, if_pos rfl, hsame]
    rfl

/-- What is written leaves the sources. -/
theorem Converted.elemVal (hc : Converted m0 m j i) (hv : j.Valid) (h : ConvertPlain s r1 r2 j) (he : e < j.count) :
    j.elemVal m e = j.elemVal m0 e := by
  have hbits : j.elemBits m e = j.elemBits m0 e := by
    have hsrc : m.readLE j.src j.srcLen = m0.readLE j.src j.srcLen :=
      Memory.readLE_congr _ _ _ _ fun x hx hx' => hc.outside x (by rcases h.dst_src with _ | _ <;> omega)
        (by rcases h.dstScales_src with _ | _ <;> omega)
    rw [ConvertJob.elemBits, hsrc, ConvertJob.elemBits]
  unfold ConvertJob.elemVal
  rw [hbits]
  split
  · next hmx =>
    have hlen : j.srcScaleLen = j.count / 32 := if_pos hmx
    have hin : e / 32 < j.srcScaleLen := by
      have := hv.blocks (.inl hmx)
      omega
    rw [hc.outside _ (by rcases h.dst_srcScales with _ | _ <;> omega) (by rcases h.dstScales_srcScales with _ | _ <;> omega)]
  · rfl

/-! ### Destination bytes (R218) -/

theorem length_mxBlock (f : Nat) (mode : Nat → Round) (vs : List Val) : (mxBlock f mode vs).1.length = vs.length := by
  unfold mxBlock
  extract_lets x
  split
  · exact List.length_map _
  · exact List.length_mapIdx

/-- The elements of the piece of n elements from i on. -/
def pieceElems (j : ConvertJob) (m : Memory) (i n : Nat) : List Nat := (List.range n).map fun e => j.encoded m (i + e)

/-- What is written of the piece from element i on: its bytes, and its scale where it is a block. -/
def pieceBytes (j : ConvertJob) (m : Memory) (i : Nat) : List Byte × Option Byte :=
  (packElems (fmtBits j.dstFmt) (pieceElems j m i (pieceLen j i)),
    if isMxFmt j.dstFmt then some (BitVec.ofNat 8 (j.block m (i / 32)).2) else none)

theorem block_elems (hmx : isMxFmt j.dstFmt = true) (hi : i % 32 = 0) : (j.block m (i / 32)).1 = pieceElems j m i 32 := by
  have hlen : (j.block m (i / 32)).1.length = 32 := by
    rw [ConvertJob.block, length_mxBlock, List.length_map, List.length_range]
  refine List.ext_getElem (by rw [hlen, pieceElems, List.length_map, List.length_range]) fun e h1 h2 => ?_
  have hb : (i + e) / 32 = i / 32 := by omega
  have he : (i + e) % 32 = e := by omega
  simp only [pieceElems, List.getElem_map, List.getElem_range]
  rw [ConvertJob.encoded, if_pos hmx, hb, he, List.getD_eq_getElem _ _ h1]

theorem destBytes_piece (hs : j.Stands i) :
    destBytes j i ((List.range (pieceLen j i)).map fun e => j.elemVal m (i + e)) = pieceBytes j m i := by
  unfold destBytes pieceBytes
  extract_lets mode b
  cases hmx : isMxFmt j.dstFmt with
  | true =>
    have hi := hs hmx
    have hb : b = j.block m (i / 32) := by
      dsimp only [b, mode]
      rw [pieceLen_mx hmx, List.map_map, ConvertJob.block, Nat.mul_div_cancel' (Nat.dvd_of_mod_eq_zero hi)]
      rfl
    rw [hb, block_elems hmx hi, pieceLen_mx hmx]
    rfl
  | false =>
    refine congrArg (fun xs => (packElems (fmtBits j.dstFmt) xs, none)) (List.ext_getElem (by simp [pieceElems]) fun e h1 h2 => ?_)
    simp only [pieceElems, List.getElem_mapIdx, List.getElem_map, List.getElem_range]
    rw [ConvertJob.encoded, hmx]
    rfl

end Sys2Proof.Machine
end

section
/-! PROOF. CONVERT: writing a piece, and the run over all pieces (O14). -/

set_option Elab.async false

namespace Sys2Proof.Machine
open Sys2Proof

variable {s s1 : State} {ag : Agent} {r r1 r2 : Region} {j : ConvertJob} {k : Fin 512} {o : Op} {m m0 : Memory} {i n e : Nat}

/-! ### Writing a piece (R116) -/

/-- Memory with a piece written from element i on. -/
def pieceMem (m : Memory) (j : ConvertJob) (i : Nat) (p : List Byte × Option Byte) : Memory :=
  let m1 := m.writeN (j.dst + j.offset i) p.1
  match p.2 with
  | some x => m1.writeN (j.dstScales + i / 32) [x]
  | none => m1

/-- A block and its scale byte in plain memory. -/
theorem writeBlock_plain {a sa : Nat} {bs : List Byte} (x : Byte) (ha : Plain s r a bs.length) (hs : Plain s r sa 1) (hr : Local r)
    (hag : Reaches ag r) (hd : s.scale.delivered.length ≤ 1024) (hn : bs.length ≤ 128) :
    writeBlock s ag o a sa bs x =
      { op := o.counted (o.progress + bs.length) o.aux, addr := sa, out := .ok () (s.setDev ((s.dev.writeN a bs).writeN sa [x])) } := by
  have hfuel : Fueled 3 a bs.length := by
    unfold Fueled
    omega
  obtain ⟨b, hprobe⟩ := probeRun_plain ha hag hd hfuel
  have hwrite := busWrite_plain (s := s.setDev (s.dev.writeN a bs)) (data := [x]) (hs.setDev _) Nat.one_pos hag hd
  have hsa : sa < 0xC00000000000 := hs.addr_lt hr le_rfl (Nat.lt_succ_self _)
  unfold writeBlock
  rw [hprobe]
  dsimp only
  rw [busProbe_plain hs Nat.one_pos hag hd]
  dsimp only
  rw [busWriteAll_plain ha hag hd]
  dsimp only
  rw [hwrite]
  dsimp only
  rw [noteWrite_plain ha hr, noteFlush_device _ _ hsa]
  rfl

/-- A piece in plain memory. -/
theorem writePiece_plain (p : List Byte × Option Byte) (hp : Plain s r (j.dst + j.offset i) p.1.length)
    (hs : ∀ x, p.2 = some x → Plain s r (j.dstScales + i / 32) 1) (hr : Local r) (hag : Reaches ag r)
    (hd : s.scale.delivered.length ≤ 1024) (hn : p.1.length ≤ 128) (ho : p.2 = none → o.progress = j.offset i) :
    ∃ a, writePiece s ag o j i p =
      { op := o.counted (o.progress + p.1.length) o.aux, addr := a, out := .ok () (s.setDev (pieceMem s.dev j i p)) } := by
  obtain ⟨bs, x | x⟩ := p
  · have hprogress := ho rfl
    refine ⟨j.dst + j.offset i + bs.length, ?_⟩
    unfold writePiece
    dsimp only
    rw [hprogress, Nat.sub_self, List.drop_zero, busWriteAll_plain hp hag hd]
    dsimp only
    rw [noteWrite_plain hp hr]
    rfl
  · exact ⟨_, writeBlock_plain x hp (hs x rfl) hr hag hd hn⟩

theorem length_pieceBytes (hv : j.Valid) (hs : j.Stands i) :
    j.offset i + (pieceBytes j m i).1.length = j.offset (i + pieceLen j i) := by
  have h1 := hv.offset_bytes hs
  have h2 := hv.offset_bytes hs.next
  rw [Nat.mul_add] at h2
  rw [pieceBytes, length_packElems, pieceElems, List.length_map, List.length_range, Nat.mul_comm (pieceLen j i)]
  omega

theorem fmtBits_le (f : Nat) : fmtBits f ≤ 32 := by
  unfold fmtBits
  split <;> decide

theorem length_pieceBytes_le (hv : j.Valid) (hs : j.Stands i) (hi : i < j.count) : (pieceBytes j m i).1.length ≤ 128 := by
  obtain ⟨-, hblock, -⟩ := pieceLen_bounds hv hs hi
  have hbits : pieceLen j i * fmtBits j.dstFmt ≤ 32 * 32 := Nat.mul_le_mul (by omega) (fmtBits_le _)
  rw [pieceBytes, length_packElems, pieceElems, List.length_map, List.length_range]
  omega

/-- Where the piece from element i on lies: its bytes, and the scale byte of a block. -/
theorem piece_in (hv : j.Valid) (hs : j.Stands i) (hi : i < j.count) :
    j.offset i + (pieceBytes j m i).1.length ≤ j.dstLen ∧ (isMxFmt j.dstFmt = true → i / 32 < j.dstScaleLen) := by
  obtain ⟨-, -, hcount⟩ := pieceLen_bounds hv hs hi
  rw [length_pieceBytes hv hs]
  refine ⟨j.offset_le hcount, fun hmx => ?_⟩
  have hblocks := hv.blocks (.inr hmx)
  rw [ConvertJob.dstScaleLen, if_pos hmx]
  omega

theorem read_pieceMem_outside (p : List Byte × Option Byte) {x : Nat}
    (hb : x < j.dst + j.offset i ∨ j.dst + j.offset i + p.1.length ≤ x) (hs : p.2 ≠ none → x ≠ j.dstScales + i / 32) :
    (pieceMem m j i p).read x = m.read x := by
  obtain ⟨bs, _ | y⟩ := p
  · exact Memory.read_writeN_outside bs m hb
  · have hne := hs (by simp)
    exact (Memory.read_writeN_outside [y] _ (by simp; omega)).trans (Memory.read_writeN_outside bs m hb)

theorem wf_pieceMem (h : m.wf = true) (p : List Byte × Option Byte) : (pieceMem m j i p).wf = true := by
  obtain ⟨bs, _ | y⟩ := p
  · exact Memory.wf_writeN _ _ h
  · exact Memory.wf_writeN _ _ (Memory.wf_writeN _ _ h)

/-- The bytes of a piece, where its scale byte does not lie among them. -/
theorem readN_pieceMem (h : m.wf = true) (p : List Byte × Option Byte)
    (hs : p.2 ≠ none → j.dstScales + i / 32 < j.dst + j.offset i ∨ j.dst + j.offset i + p.1.length ≤ j.dstScales + i / 32) :
    (pieceMem m j i p).readN (j.dst + j.offset i) p.1.length = p.1 := by
  have hbytes := Memory.readN_writeN p.1 (j.dst + j.offset i) h
  obtain ⟨bs, _ | y⟩ := p
  · exact hbytes
  · have hapart := hs (by simp)
    refine (Memory.readN_congr _ _ _ _ fun e he => ?_).trans hbytes
    exact Memory.read_writeN_outside [y] _ (by simp; omega)

theorem read_pieceMem_scale (h : m.wf = true) {p : List Byte × Option Byte} {x : Byte} (hx : p.2 = some x) :
    (pieceMem m j i p).read (j.dstScales + i / 32) = x := by
  rw [pieceMem, hx]
  exact Memory.read_writeN_inside [x] _ 0 (Memory.wf_writeN _ _ h) Nat.one_pos

theorem pieceBytes_scale : (pieceBytes j m i).2 ≠ none ↔ isMxFmt j.dstFmt = true := by
  unfold pieceBytes
  split <;> simp_all

theorem Converted.step (hc : Converted m0 m j i) (hv : j.Valid) (h : ConvertPlain s r1 r2 j) (hi : i < j.count) :
    Converted m0 (pieceMem m j i (pieceBytes j m0 i)) j (i + pieceLen j i) := by
  obtain ⟨hlen, hscale⟩ := piece_in (m := m0) hv hc.stands hi
  have hnext := length_pieceBytes (m := m0) hv hc.stands
  have hapart := h.dst_dstScales
  have hout {x : Nat} (hb : x < j.dst + j.offset i ∨ j.dst + j.offset i + (pieceBytes j m0 i).1.length ≤ x)
      (hs : isMxFmt j.dstFmt = true → x ≠ j.dstScales + i / 32) : (pieceMem m j i (pieceBytes j m0 i)).read x = m.read x :=
    read_pieceMem_outside _ hb fun c => hs (pieceBytes_scale.mp c)
  refine ⟨wf_pieceMem hc.wf _, hc.stands.next, ?elems, fun hmx b hb => ?scales, fun x hx hx' => ?outside⟩
  case elems =>
    have hbefore : (pieceMem m j i (pieceBytes j m0 i)).readLE j.dst (j.offset i) = m.readLE j.dst (j.offset i) :=
      Memory.readLE_congr _ _ _ _ fun x hx hx' => hout (.inl hx') fun hmx => by
        have := hscale hmx
        rcases hapart with _ | _ <;> omega
    have hpiece := readN_pieceMem (j := j) (i := i) hc.wf (pieceBytes j m0 i) fun c => by
      have := hscale (pieceBytes_scale.mp c)
      rcases hapart with _ | _ <;> omega
    rw [← hnext, Memory.readLE_append, hbefore, Memory.readLE, Memory.readLE, hpiece, pieceBytes, bytesToNat_packElems,
      ← Memory.readLE, hc.elems, hv.offset_bytes hc.stands, List.range_add, List.map_append, packNum_append, List.length_map,
      List.length_range, List.map_map]
    rfl
  case scales =>
    have hin := hscale hmx
    have hblock := hc.stands hmx
    rw [pieceLen_mx hmx] at hb
    by_cases hold : b < i / 32
    · rw [hout (by rcases hapart with _ | _ <;> omega) fun _ => by omega]
      exact hc.scales hmx b hold
    · obtain rfl : b = i / 32 := by omega
      exact read_pieceMem_scale hc.wf (by rw [pieceBytes, hmx]; rfl)
  case outside =>
    rw [hout (by omega) fun hmx => by have := hscale hmx; omega]
    exact hc.outside x hx hx'

/-! ### The run (R219, R230) -/

/-- The entry of a conversion that stands before element i. -/
structure ConvertAt (o : Op) (j : ConvertJob) (i : Nat) : Prop where
  next : o.aux % 2 ^ 40 = i
  progress : isMxFmt j.dstFmt = false → o.progress = j.offset i

theorem convertLoop_done {fuel : Nat} (h : ConvertAt o j i) (hi : j.count ≤ i) : convertLoop fuel s ag j o = Run.done o s := by
  cases fuel with
  | zero => rfl
  | succ fuel =>
    unfold convertLoop
    extract_lets i'
    rw [if_pos (hi.trans h.next.ge)]

/-- A piece is made of the sources as they were at the start. -/
theorem Converted.pieceBytes (hc : Converted m0 m j i) (hv : j.Valid) (h : ConvertPlain s r1 r2 j) (hi : i < j.count) :
    pieceBytes j m i = pieceBytes j m0 i := by
  obtain ⟨-, -, hcount⟩ := pieceLen_bounds hv hc.stands hi
  rw [← destBytes_piece hc.stands, ← destBytes_piece hc.stands]
  refine congrArg (destBytes j i) (List.map_congr_left fun e he => ?_)
  have := List.mem_range.mp he
  exact hc.elemVal hv h (by omega)

/-- One piece of a conversion. -/
theorem convertLoop_step {fuel : Nat} (hv : j.Valid) (h : ConvertPlain s r1 r2 j) (hl : Local r2) (hag : Reaches ag r1)
    (hag2 : Reaches ag r2) (hd : s.scale.delivered.length ≤ 1024) (ho : ConvertAt o j i) (hs : j.Stands i) (hi : i < j.count) :
    ∃ p x, convertLoop (fuel + 1) s ag j o =
        convertLoop fuel (s.setDev (pieceMem s.dev j i (pieceBytes j s.dev i))) ag j (o.counted p x) ∧
      ConvertAt (o.counted p x) j (i + pieceLen j i) := by
  obtain ⟨hpos, hblock, hcount⟩ := pieceLen_bounds hv hs hi
  obtain ⟨hlen, hscale⟩ := piece_in (m := s.dev) hv hs hi
  have hnext := length_pieceBytes (m := s.dev) hv hs
  obtain ⟨a, ha⟩ := sourceVals_plain hv h hag hpos hblock hcount
  obtain ⟨b, hb⟩ := writePiece_plain (o := o) (pieceBytes j s.dev i) (h.dst.part (Nat.le_add_right _ _) (by omega))
    (fun x hx => h.dstScales.part (Nat.le_add_right _ _) (by
      have := hscale (pieceBytes_scale.mp (by rw [hx]; simp))
      omega)) hl hag2 hd (length_pieceBytes_le hv hs hi)
    (fun c => ho.progress (Bool.eq_false_iff.mpr fun hmx => pieceBytes_scale.mpr hmx c))
  conv =>
    enter [1, p, 1, x, 1, 1]
    unfold convertLoop
  extract_lets i' n
  have hi' : i' = i := ho.next
  have hn : n = pieceLen j i := congrArg (pieceLen j) hi'
  rw [hi', hn, if_neg (Nat.not_le.mpr hi), ha]
  dsimp only
  rw [destBytes_piece hs, hb]
  dsimp only
  rw [hv.noTap]
  simp only [Bool.and_false, Bool.false_eq_true, if_false]
  refine ⟨_, _, rfl, ?_, fun hmx => ?_⟩
  · have hsmall : i + pieceLen j i < 2 ^ 40 := (hcount.trans_lt hv.count_lt).trans (by decide)
    change (i + pieceLen j i + ite _ _ _) % 2 ^ 40 = _
    split
    · exact Nat.mod_eq_of_lt hsmall
    · rw [Nat.add_mul_mod_self_left, Nat.mod_eq_of_lt hsmall]
  · rw [← hnext, ← ho.progress hmx]
    rfl

theorem convertLoop_plain (fuel : Nat) (hv : j.Valid) (h : ConvertPlain s r1 r2 j) (hl : Local r2) (hag : Reaches ag r1)
    (hag2 : Reaches ag r2) (hd : s.scale.delivered.length ≤ 1024) (ho : ConvertAt o j i) (hi : i ≤ j.count) (hc : Converted m0 s.dev j i)
    (hf : j.count - i < fuel) :
    ∃ p x m, convertLoop fuel s ag j o = Run.done (o.counted p x) (s.setDev m) ∧ Converted m0 m j j.count := by
  induction fuel generalizing s o i with
  | zero => exact absurd hf (Nat.not_lt_zero _)
  | succ fuel ih =>
    rcases hi.lt_or_eq with hlt | rfl
    · obtain ⟨hpos, -, hcount⟩ := pieceLen_bounds hv hc.stands hlt
      obtain ⟨p, x, hstep, ho'⟩ := convertLoop_step (fuel := fuel) hv h hl hag hag2 hd ho hc.stands hlt
      rw [hc.pieceBytes hv h hlt] at hstep
      obtain ⟨p', x', m, hrest, hm⟩ := ih (s := s.setDev (pieceMem s.dev j i (pieceBytes j m0 i)))
        (h.congr fun r a n hp => hp.setDev _) hd ho' hcount (hc.step hv h hlt) (by omega)
      exact ⟨p', x', m, hstep.trans hrest, hm⟩
    · exact ⟨o.progress, o.aux, s.dev, convertLoop_done ho le_rfl, hc⟩

theorem convert_ends (h : Mover s k 0x02 s1 o) (hl1 : Local r1) (hl2 : Local r2) (hv : (convertJob o.desc).Valid)
    (hp : ConvertPlain s r1 r2 (convertJob o.desc)) (h0 : o.progress = 0) (ha : o.aux = 0) :
    ∃ t m, exec (.convert k []) s = .next t ∧ MoverEnds s t k o m s.finish ∧
      Converted s.dev m (convertJob o.desc) (convertJob o.desc).count := by
  have hat : ConvertAt o (convertJob o.desc) 0 := by
    refine ⟨by rw [ha]; rfl, fun _ => ?_⟩
    rw [h0, ConvertJob.offset, Nat.mul_zero]
  have hstart : Converted s.dev s1.dev (convertJob o.desc) 0 := h.dev ▸ Converted.start (h.dev.symm ▸ h.wf) _
  obtain ⟨p, x, m, hrun, hm⟩ := convertLoop_plain ((convertJob o.desc).count + 1) hv (hp.congr fun r a n c => h.plain c) hl2
    (hl1.reaches s1 o) (hl2.reaches s1 o) h.room hat (Nat.zero_le _) hstart (by omega)
  refine ⟨_, m, congrArg Host.Outcome.next ((runOp_performs _ h.performs).trans (congrArg (endRun k) hrun)), ?_, hm⟩
  rw [← h.finish]
  exact h.ends p x 0 m s1.finish

end Sys2Proof.Machine
end

section
/-! PROOF. COPY, FILL, CONVERT and HISTOGRAM_READ write their destination (O14). -/

set_option Elab.async false

namespace Sys2Proof.Machine
open Sys2Proof

variable {s s1 : State} {r1 r2 : Region} {k : Fin 512} {o : Op} {m m0 : Memory} {opcode : Nat} {c : Instr}

/-- A command that ends its operation, with what O14 says of the rest of the device. -/
def EndsWriting (s : State) (k : Fin 512) (o : Op) (c : Instr) (written : Nat → Prop) (p : State → Prop) : Prop :=
  ∃ t, exec c s = .next t ∧ Ended t k o Result.ok ∧ p t ∧ (∀ x, ¬written x → t.dev.read x = s.dev.read x) ∧
    t.host = s.host ∧ t.link = s.link ∧ SameCore s t ∧ t.lattice = s.lattice

theorem MoverEnds.endsWriting {t : State} {f : Finish} {written : Nat → Prop} {p : State → Prop} (he : exec c s = .next t)
    (h : MoverEnds s t k o m f) (hw : ∀ x, ¬written x → m.read x = s.dev.read x)
    (hp : ∀ t : State, t.dev = m → t.finish = f → p t) : EndsWriting s k o c written p :=
  ⟨t, he, h.ended, hp t h.dev h.finish, by rw [h.dev]; exact hw, h.host, h.link, h.core, h.lattice⟩

/-- A mover resets no ring. -/
theorem Performs.resets_none (h : Performs s k opcode s1 o) (hop : opcode < 0x41) : o.resets = none := by
  have := h.opcode_eq
  exact if_neg (by omega)

theorem Performs.mover (h : Performs s k opcode s1 o) (hop : opcode < 0x41) (ha : EndsAlone s) (hf : o.flush = []) (hw : s.dev.wf = true)
    (hd : s.scale.delivered.length ≤ 1024) : Mover s k opcode s1 o := ⟨h, ha, hf, h.resets_none hop, hw, hd⟩

/-! ### CONVERT in the terms of its descriptor (Table 4.4) -/

theorem ConvertJob.scaled_eq (j : ConvertJob) (v : Val) :
    j.scaled v = if 10 ≤ j.srcFmt ∧ 10 ≤ j.dstFmt then v else v.mul (val32 j.scale) := by
  simp [ConvertJob.scaled, ConvertJob.intCopy]

/-- An amax byte with its top bit clear offers no taps. -/
theorem testBit_seven_of_lt {x : Nat} (h : x < 128) : x.testBit 7 = false := Nat.testBit_lt_two_pow h

theorem convertJob_valid (d : BitVec 512) (hs : fld d 44 1 ≤ 11) (hd : fld d 45 1 ≤ 11) (ha : fld d 47 1 < 128)
    (hb : isMxFmt (fld d 44 1) = true ∨ isMxFmt (fld d 45 1) = true → fld d 40 4 % 32 = 0) : (convertJob d).Valid :=
  ⟨hs, hd, hb, testBit_seven_of_lt ha, BitVec.isLt _⟩

/-- The elements of a whole conversion, one by one. -/
theorem Converted.elem {j : ConvertJob} (hc : Converted m0 m j j.count) {e : Nat} (he : e < j.count) :
    m.readLE j.dst j.dstLen / 2 ^ (fmtBits j.dstFmt * e) % 2 ^ fmtBits j.dstFmt = j.encoded m0 e % 2 ^ fmtBits j.dstFmt := by
  have helems : m.readLE j.dst j.dstLen = _ := hc.elems
  rw [helems, packNum_get _ _ (by rw [List.length_map, List.length_range]; exact he), List.getElem_map, List.getElem_range]

/-- Settles O14. COPY and CONVERT carry an invariant of the memory through their loops, what is written so far and what is as it
was; the accesses of every mover are served because its memory is plain. -/
theorem dataMoversWriteTheirDestination : Obligations.DataMoversWriteTheirDestination := by
  intro s s1 k o r1 r2 hf h0 ha he hw hd hl1 hl2 ends f
  refine ⟨?copy, ?fill, ?convert, ?hist⟩
  case copy =>
    intro h src dst n hrows
    obtain ⟨t, m, hexec, hend, hc⟩ := copy_ends (h.mover (by decide) he hf hw hd) hl1 hl2 hrows h0
    refine hend.endsWriting hexec (fun x hx => hc.outside x fun i hi => ?_) fun t hm hfin => ⟨hfin, fun i hi b hb => ?_⟩
    · by_contra hin
      exact hx ⟨i, hi, by rw [not_or] at hin; change dstRow o.desc i ≤ x ∧ x < dstRow o.desc i + rowBytes o.desc; omega⟩
    · have hlast : (i + 1) * rowBytes o.desc ≤ copyRows o.desc * rowBytes o.desc := Nat.mul_le_mul_right _ hi
      have hb' : b < rowBytes o.desc := hb
      rw [Nat.succ_mul] at hlast
      rw [hm]
      exact hc.rows i hi b hb (by omega)
  case fill =>
    intro h hplain
    obtain ⟨t, hexec, hend⟩ := fill_ends (h.mover (by decide) he hf hw hd) hl2 hplain h0
    refine hend.endsWriting hexec (fun x hx => Memory.read_writeN_outside _ _ ?_) fun t hm hfin => ⟨hfin, fun x hl hu => ?_⟩
    · rw [fillRest, length_patternBytes]
      change ¬(fld o.desc 8 8 ≤ x ∧ x < fld o.desc 8 8 + fld o.desc 16 8) at hx
      omega
    · rw [hm]
      exact read_filled hw hl hu
  case convert =>
    intro h hs hdf _ hamax count sb db smx dmx hblocks sn dn sc dc p1 p2 p3 p4 a1 a2 a3 a4 a5 bits value scaled mode block
    have hv := convertJob_valid o.desc hs hdf hamax hblocks
    obtain ⟨t, m, hexec, hend, hc⟩ := convert_ends (h.mover (by decide) he hf hw hd) hl1 hl2 hv ⟨p1, p2, p3, p4, a1, a2, a3, a4, a5⟩ h0 ha
    have hscaled : (fun e => (convertJob o.desc).scaled ((convertJob o.desc).elemVal s.dev e)) = scaled :=
      funext fun e => (convertJob o.desc).scaled_eq _
    have hblock (b : Nat) : (convertJob o.desc).block s.dev b = block b := by
      dsimp only [block]
      rw [← hscaled]
      rfl
    refine hend.endsWriting hexec (fun x hx => hc.outside x (fun hin => hx (.inl hin)) (fun hin => hx (.inr hin))) fun t hm hfin =>
      ⟨hfin, fun e hlt => ?_, fun hmx b hb => ?_⟩
    · have helem := hc.elem hlt
      rw [ConvertJob.encoded, hblock] at helem
      rw [hm, ← hscaled]
      exact helem
    · rw [hm, ← hblock]
      exact hc.scales hmx b hb
  case hist =>
    intro h _ _ hplain clear
    obtain ⟨t, hexec, hend⟩ := histogramRead_ends (h.mover (by decide) he hf hw hd) hl2 hplain
    refine hend.endsWriting hexec (fun x hx => Memory.read_writeN_outside _ _ ?_) fun t hm hfin => ⟨?_, hfin⟩
    · rw [length_histRecord]
      change ¬(fld o.desc 16 8 ≤ x ∧ x < fld o.desc 16 8 + 320) at hx
      omega
    · rw [hm]
      have hread := Memory.readN_writeN (histRecord s (f 8 1) clear) (f 16 8) hw
      rwa [length_histRecord] at hread

end Sys2Proof.Machine
end

section
/-! PROOF. Exception entry: TRAP, BREAK, illegal words and pending interrupts (O30). -/

set_option Elab.async false

namespace Sys2Proof.Machine
open Sys2Proof

variable {s s1 : State}

/-! ### Entry (R145, R146, R150) -/

theorem enterHandler_eq (s : State) (x : Exc) (epc : W64) :
    enterHandler s x epc = entered s x.ecause x.addr (x.estat s.turner.cstat) epc x := rfl

/-- With no load out, an exception that is not counted as a refused access (R515) is entered at once. -/
theorem takeException_eq {x : Exc} {epc : W64} (hl : s.turner.loadsOut = false) (hx : ¬(x.cause = 3 ∧ x.sub = 1)) :
    takeException s x epc = elapse s 9 (entered s x.ecause x.addr (x.estat s.turner.cstat) epc x) := by
  unfold takeException
  rw [hl, if_neg Bool.false_ne_true, if_neg hx]
  exact congrArg (elapse s 9) (enterHandler_eq s x epc)

/-- An exception that names no segment slot and no access saves the status alone. -/
theorem Exc.estat_eq_word (cause sub : Nat) (addr : W64) (c : Cstat) :
    Exc.estat { cause := cause, sub := sub, addr := addr } c = c.word := by
  simp [Exc.estat]

theorem takeException_unaddressed {cause sub : Nat} {addr epc : W64} (hl : s.turner.loadsOut = false) (hc : cause ≠ 3) :
    takeException s { cause := cause, sub := sub, addr := addr } epc =
      elapse s 9 (entered s (BitVec.ofNat 64 (cause + 256 * sub)) addr s.turner.cstat.word epc
        { cause := cause, sub := sub, addr := addr }) := by
  rw [takeException_eq hl fun h => hc h.1, Exc.estat_eq_word]
  rfl

/-- An instruction that names no register and always raises an exception raises it wherever it issues: poison, reservations and
interrupts do not come before it. -/
theorem turnerRun_always_raises {decode : State → Option Exc} {body : State → TRes} {x : Exc} {epc : W64} (h : Issues s s1)
    (hd : decode s1 = none) (hb : body s1 = .exc s1 x epc) : turnerRun s [] none decode body = takeException s1 x epc := by
  obtain ⟨hruns, hboundary, hfetched⟩ := h
  have hclean : poisonExc s1.turner [] = none := by unfold poisonExc; split <;> rfl
  have hfree : (([] : List Nat) ++ (none : Option Nat).toList).any s1.turner.reserved = false := rfl
  simp only [turnerRun, hruns, hboundary, hfetched, hd, hfree, hclean, hb, Bool.not_true, Bool.false_eq_true, if_false]

/-! ### Illegal words (R177, Table 6.2) -/

/-- The major opcodes that Table 6.2 does not list. -/
def unlistedMajors : List Nat :=
  [0x00, 0x0D, 0x0E, 0x0F, 0x17, 0x1C, 0x1D, 0x1E, 0x1F, 0x2A, 0x2B, 0x38, 0x39, 0x3A, 0x3B, 0x3C, 0x3D, 0x3E, 0x3F]

theorem wordIllegal_of_unlisted (s : State) {word : W32} (h : bitsOf word.toNat 26 6 ∈ unlistedMajors) :
    wordIllegal s word = true := by
  unfold wordIllegal
  extract_lets w f major rd ra rb sel
  have hmajor : major ∈ unlistedMajors := h
  clear_value major f
  simp only [unlistedMajors, List.mem_cons, List.not_mem_nil, or_false] at hmajor
  rcases hmajor with rfl | rfl | rfl | rfl | rfl | rfl | rfl | rfl | rfl | rfl | rfl | rfl | rfl | rfl | rfl | rfl | rfl | rfl | rfl <;>
    rfl

/-! ### Pending interrupts (R146, R173) -/

theorem pendingInterrupt_eq_some {t : Turner} {i : Nat} (h : pendingInterrupt t = some i) :
    i < 4 ∧ t.ipend.getLsbD i = true ∧ (∀ j < i, t.ipend.getLsbD j = false) ∧ (t.cstat.priv = false ∨ t.cstat.ie = true) := by
  unfold pendingInterrupt at h
  split at h
  · cases h
  · next hlevel =>
    obtain ⟨hbit, hlt, hbefore⟩ := List.find?_range_eq_some.mp h
    refine ⟨List.mem_range.mp hlt, hbit, fun j hj => by simpa using hbefore j hj, ?_⟩
    cases hp : t.cstat.priv
    · exact .inl rfl
    · exact .inr (by simpa [hp] using hlevel)

theorem exec_interruptEntry {i : Nat} (hr : coreRuns s = true) (hd : drainStores s = s1) (ha : takeAsync s1 = none)
    (hp : pendingInterrupt s1.turner = some i) :
    exec .interruptEntry s = .next (takeException s1 { cause := 0x10 + i } s1.turner.pc) := by
  change Host.Outcome.next _ = Host.Outcome.next _
  rw [hr, Bool.not_true, if_neg Bool.false_ne_true, hd]
  dsimp only
  rw [ha]
  dsimp only
  rw [hp]

/-! ### The statement -/

/-- Settles O30. Each way in is an exception that names no access, entered at once by `takeException_unaddressed`. -/
theorem turnerTrapsAndInterruptsEnterTheHandler : Obligations.TurnerTrapsAndInterruptsEnterTheHandler := by
  unfold Obligations.TurnerTrapsAndInterruptsEnterTheHandler
  intro s s1 takes hl
  refine ⟨fun h => ⟨fun code => ?_, ?_, fun word hword => ?_⟩, fun i hr hd ha hp => ?_⟩
  · exact congrArg Host.Outcome.next ((turnerRun_always_raises h rfl rfl).trans (takeException_unaddressed hl (by decide)))
  · exact congrArg Host.Outcome.next ((turnerRun_always_raises h rfl rfl).trans (takeException_unaddressed hl (by decide)))
  · have hrun : exec (.illegalOpcode word) s = .next (takeException s1 (illegal word) s1.turner.pc) := by
      change Host.Outcome.next _ = Host.Outcome.next _
      rw [wordIllegal_of_unlisted s hword, if_pos rfl]
      exact congrArg _ (turnerRun_refuses h rfl)
    exact hrun.trans (congrArg _ (takeException_unaddressed hl (by decide)))
  · obtain ⟨hlt, hbit, hfirst, hlevel⟩ := pendingInterrupt_eq_some hp
    exact ⟨hlt, hbit, hfirst, hlevel,
      (exec_interruptEntry hr hd ha hp).trans (congrArg _ (takeException_unaddressed hl (by omega)))⟩

end Sys2Proof.Machine
end

section
/-! PROOF. The launch of a KERNEL by ERET.L (O32). -/

set_option Elab.async false

namespace Sys2Proof.Machine
open Sys2Proof

variable {s s1 : State} {k : Nat} {o : Op}

/-! ### The start of an operation -/

/-- A start is one of the queue engine alone, and of no ring. -/
theorem startOp_started (s : State) (o : Op) (hk : k < 512) :
    ∃ q, (startOp s k o).1 = s.setQueue q ∧ q.sr = s.queue.sr ∧ (s.setQueue q).op k = some (startOp s k o).2 ∧
      (startOp s k o).2.phase = .started ∧ (startOp s k o).2.desc = o.desc ∧ (startOp s k o).2.sr = o.sr := by
  have hentry : ∃ i, (startOp s k o).1 = (s.setQueue { s.queue with issuedAt := i }).setOp k (some (startOp s k o).2) := by
    unfold startOp
    split
    · exact ⟨_, rfl⟩
    · exact ⟨s.queue.issuedAt, rfl⟩
  obtain ⟨i, hi⟩ := hentry
  exact ⟨_, hi, rfl, op_setOp_self (s := s.setQueue { s.queue with issuedAt := i }) hk _, rfl, rfl, rfl⟩

/-! ### The registers of a launched kernel (R153, Table 5.9) -/

/-- What a fold of writes to the registers from 1 on leaves in each of them. -/
theorem vget_foldl_vset (f : Nat → W64) (v : Vector W64 32) (n i : Nat) :
    vget ((List.range n).foldl (fun g j => vset g (j + 1) (f j)) v) i 0 =
      if 0 < i ∧ i ≤ n ∧ i < 32 then f (i - 1) else vget v i 0 := by
  induction n with
  | zero => rw [if_neg (by omega)]; rfl
  | succ n ih =>
    rw [List.range_succ, List.foldl_append, List.foldl_cons, List.foldl_nil]
    by_cases hi : n + 1 = i
    · subst hi
      by_cases hn : n + 1 < 32
      · rw [vget_vset_self _ _ _ _ hn, if_pos ⟨by omega, by omega, hn⟩, Nat.add_sub_cancel]
      · rw [if_neg fun h => hn h.2.2, vset, Vector.setIfInBounds_eq_of_size_le (by omega), ih, if_neg fun h => hn h.2.2]
    · rw [vget_vset_ne _ _ _ hi, ih]
      exact if_congr (by omega) rfl rfl

/-- The general registers that a launch leaves: ARG0 to ARG4 of the descriptor d, and the size of slot s7 of the K bank. -/
def launchRegs (d : BitVec 512) (bank : Vector Segment 8) : Vector W64 32 :=
  vset ((List.range 5).foldl (fun g j => vset g (j + 1) (BitVec.ofNat 64 (fld d (24 + 8 * j) 8))) (Vector.replicate 32 0)) 31
    (BitVec.ofNat 64 (segSize (vget bank 7 0)))

theorem vget_replicate_zero (i : Nat) : vget (Vector.replicate 32 (0 : W64)) i 0 = 0 := by
  by_cases h : i < 32 <;> simp [vget, h]

theorem launchRegs_low (d : BitVec 512) (bank : Vector Segment 8) {i : Nat} (h : i < 31) :
    vget (launchRegs d bank) i 0 = if 0 < i ∧ i ≤ 5 then BitVec.ofNat 64 (fld d (24 + 8 * (i - 1)) 8) else 0 := by
  rw [launchRegs, vget_vset_ne _ _ _ (by omega), vget_foldl_vset, vget_replicate_zero]
  exact if_congr (by omega) rfl rfl

theorem launchRegs_31 (d : BitVec 512) (bank : Vector Segment 8) :
    vget (launchRegs d bank) 31 0 = BitVec.ofNat 64 (segSize (vget bank 7 0)) := vget_vset_self _ _ _ _ (by decide)

/-! ### The launch (R153) -/

/-- The K bank that a descriptor names. -/
def launchBank (t : Turner) (d : BitVec 512) : Vector Segment 8 := vget t.segTables (fld d 16 2) (Vector.replicate 8 0)

/-- The kernel of entry kid as it runs from its launch on, launched by the operation o. -/
def launched (s : State) (kid : Nat) (o : Op) : Running :=
  { kid := kid, segTable := fld o.desc 16 2, prio := (s.sr o.sr).prio, pasid := s.opPasid o
    budget := BitVec.ofNat 32 (fld o.desc 20 4), used := 0, overBudget := false, lastCause := 0, lastEstat := 0, lastEpc := 0 }

/-- The core t as the launch of the kernel r with a descriptor leaves it, but for the interrupts of KERNELs that are ready then. -/
def launchedTurner (t : Turner) (d : BitVec 512) (r : Running) : Turner :=
  { t.isync with
    kbank := launchBank t d, g := launchRegs d (launchBank t d), gpoison := 0, lk := 0, kssDepth := 0
    cstat := { t.isync.cstat with priv := false, det := (BitVec.ofNat 8 (fld d 18 1)).getLsbD 0 }
    pc := BitVec.ofNat 64 (fld d 8 8), runningK := t.isync.runningK ++ [r], current := some r.kid }

theorem Turner.isync_sbank (t : Turner) : t.isync.sbank = t.sbankNext := by
  unfold Turner.isync
  split <;> rfl

theorem launchKernel_startOp (hd : (startOp s k o).2.desc = o.desc) : launchKernel s k o = raiseKernelBits
    ((startOp s k o).1.setTurner
      (launchedTurner (startOp s k o).1.turner o.desc (launched (startOp s k o).1 k (startOp s k o).2))) := by
  unfold launched
  rw [hd]
  rfl

/-- A launch starts the operation and gives the core to its kernel, and changes nothing else. -/
theorem launchKernel_eq (s : State) (o : Op) (hk : k < 512) : ∃ q ip ic o',
    launchKernel s k o =
      (s.setQueue q).setTurner { launchedTurner s.turner o.desc (launched s k o) with ipend := ip, icond := ic } ∧
    (s.setQueue q).op k = some o' ∧ o'.phase = .started ∧ o'.desc = o.desc := by
  obtain ⟨q, hq, hrings, hop, hphase, hdesc, hring⟩ := startOp_started s o hk
  have hsr (i : Nat) : (s.setQueue q).sr i = s.sr i := by
    change vget q.sr i _ = vget s.queue.sr i _
    rw [hrings]
  have hrun : launched (s.setQueue q) k (startOp s k o).2 = launched s k o := by
    rw [launched, State.opPasid, hsr, hdesc, hring]
    rfl
  have hlaunch := launchKernel_startOp hdesc
  obtain ⟨x, hx, hcore⟩ := raiseKernelBits_sameCore ((s.setQueue q).setTurner (launchedTurner s.turner o.desc (launched s k o)))
  rw [hq, hrun, State.setQueue_turner, hx, hcore] at hlaunch
  exact ⟨q, x.ipend, x.icond, _, hlaunch, hop, hphase, hdesc⟩

theorem getLsbD_zero_ofNat (n : Nat) : (BitVec.ofNat 8 n).getLsbD 0 = decide (n % 2 = 1) := by
  rw [BitVec.getLsbD_ofNat, Nat.testBit_zero]
  rfl

/-! ### The statement -/

/-- Settles O32. ERET.L commits as the launch of the KERNEL that fills TC_LAUNCH; `launchKernel_eq` gives the core that it leaves. -/
theorem launchingAKernelSetsTheCore : Obligations.LaunchingAKernelSetsTheCore := by
  unfold Obligations.LaunchingAKernelSetsTheCore
  intro s s1 kid o h hpriv hl hnext hkid ho
  have hexec : exec .eretL s = .next (elapse s1 24 (launchKernel s1 kid o)) := by
    refine congrArg Host.Outcome.next (turnerRun_commits h ?_ ?_)
    · rw [privilege, hpriv, if_pos rfl]
    · rw [hnext]
      dsimp only
      rw [hl, if_neg Bool.false_ne_true]
  obtain ⟨q, ip, ic, o', hlaunch, hop, hphase, hdesc⟩ := launchKernel_eq s1 o hkid
  rw [hlaunch] at hexec
  refine ⟨_, hexec, rfl, ?_, fun j hj => ?_, fun j h6 h31 => ?_, ?_, rfl, rfl, rfl, rfl, ?_, ?_, rfl,
    ⟨launched s1 kid o, ?_, rfl, rfl, rfl, rfl⟩, ⟨o', hop, hphase, hdesc⟩, rfl, rfl, rfl, rfl⟩
  · exact launchRegs_low _ _ (by decide)
  · exact (launchRegs_low _ _ (by omega)).trans (if_pos ⟨by omega, by omega⟩)
  · exact (launchRegs_low _ _ h31).trans (if_neg (by omega))
  · exact launchRegs_31 _ _
  · rw [← getLsbD_zero_ofNat]
    rfl
  · exact s1.turner.isync_sbank
  · exact List.mem_append_right _ (List.mem_singleton_self _)

end Sys2Proof.Machine
end

section
/-! PROOF. What the end of an operation leaves as it is, whatever it brings to its end with it: a reset of a ring, stop records and
invalidations (O34, O35). -/

set_option Elab.async false

namespace Sys2Proof.Machine
open Sys2Proof

variable {s t : State} {k : Nat} {o : Op} {r : Result}

/-! ### The host lines of the L2

No access of a device's agent but the core's own touches them. -/

/-- The host lines that the Turner's L2 holds. -/
def State.hostLines (s : State) : List (Nat × List Byte) := s.link.l2Host

theorem hbmError_hostLines (s : State) (a : Nat) (u : Bool) : Same State.hostLines s (hbmError s a u) := .ite (.ite rfl rfl) rfl

theorem markPoison_hostLines (s : State) (a : Nat) : Same State.hostLines s (markPoison s a) := rfl

theorem eccEvent_hostLines (s : State) (e : Ecc) : Same State.hostLines s (eccEvent s e) := by
  have hbm : Same State.hostLines s (if s.poisoned (64 * e.line) then s
      else if e.uncorrected then hbmError (markPoison s (64 * e.line)) (64 * e.line) true else hbmError s (64 * e.line) false) :=
    .ite rfl (.ite (hbmError_hostLines (markPoison s _) _ _) (hbmError_hostLines _ _ _))
  unfold eccEvent
  extract_lets a
  split
  · exact hbm
  · exact hbm
  · exact .ite rfl (.ite rfl rfl)
  · rfl
  · rfl

theorem homeWrite_hostLines (s : State) (a : Nat) (data : List Byte) : Same State.hostLines s (homeWrite s a data) :=
  congrArg Link.l2Host (homeWrite_link s a data)

theorem recallLine_hostLines (s : State) (line : Nat) : Same State.hostLines s (recallLine s line) := .ite rfl rfl

theorem recallAll_hostLines (s : State) (ls : List Nat) : Same State.hostLines s (recallAll s ls) :=
  .foldl (fun s l => .ite (recallLine_hostLines s l) rfl) ls s

theorem homeRead_hostLines (s : State) (ecc : List Ecc) (line : Nat) : Same State.hostLines s (homeRead s ecc line) := by
  unfold homeRead
  split
  · rfl
  · split
    · exact eccEvent_hostLines s _
    · rfl

theorem homeReads_hostLines (s : State) (ecc : List Ecc) (ls : List Nat) : Same State.hostLines s (homeReads s ecc ls) :=
  .foldl (fun s l => homeRead_hostLines s ecc l) ls s

theorem homeWrites_hostLines (fuel : Nat) (s : State) (ecc : List Ecc) (a : Nat) (d : List Byte) :
    Same State.hostLines s (homeWrites fuel s ecc a d) := by
  induction fuel generalizing s a d with
  | zero => rfl
  | succ fuel ih =>
    unfold homeWrites
    extract_lets n s1
    have h1 : Same State.hostLines s s1 := .ite (by split; exacts [eccEvent_hostLines s _, rfl]) rfl
    exact .ite rfl ((h1.trans (homeWrite_hostLines _ _ _)).trans (ih _ _ _))

theorem allocate_hostLines (s : State) (line : Nat) : Same State.hostLines s (allocate s line).2 := by
  unfold allocate
  split
  · rfl
  · split
    · rfl
    · split
      · rfl
      · exact recallAll_hostLines s _

/-- The grant of a line, where one is asked for, and else a change of the directory. -/
theorem granted_hostLines {c : Prop} [Decidable c] (s : State) (line : Nat) {u : State} (hu : Same State.hostLines s u) :
    Same State.hostLines s (if c then allocate s line else (true, u)).2 := by
  split
  · exact allocate_hostLines s line
  · exact hu

theorem serve_hostLines (s : State) (r : HomeReq) : Same State.hostLines s (serve s r).2 := by
  have held {b : Bool} {x y : Bool × State} (hx : Same State.hostLines s x.2) (hy : Same State.hostLines s y.2) :
      Same State.hostLines s (if b then x else y).2 := by
    cases b <;> assumption
  cases r with
  | memRead line ecc =>
    have he := granted_hostLines (c := watchers s line = []) s line (.refl s)
    exact held rfl (held (he.trans (homeRead_hostLines _ _ _)) he)
  | memWrite line data keep =>
    have he := granted_hostLines (c := (keep && decide (watchers s line = [])) = true) s line
      (u := s.setLink { s.link with dir := if keep then s.link.dir else s.link.dir.erase line }) rfl
    exact held rfl (held (he.trans (homeWrite_hostLines _ _ _)) he)
  | bar4Read a n ecc => exact held (recallAll_hostLines s _) (homeReads_hostLines s _ _)
  | bar4Write a d poison ecc =>
    have hw := homeWrites_hostLines ((linesOf a d.length).length + 1) s ecc a d
    exact held (recallAll_hostLines s _) (held rfl (.ite (hw.trans (.foldl (fun s l => markPoison_hostLines s (64 * l)) _ _)) hw))
  | atomic a op is64 ecc =>
    exact held (recallAll_hostLines s _) (held rfl ((homeRead_hostLines s ecc (a / 64)).trans (homeWrite_hostLines _ _ _)))
  | device w line => rfl

theorem serveAll_hostLines (rs kept : List HomeReq) (s : State) : Same State.hostLines s (serveAll rs kept s) := by
  induction rs generalizing kept s with
  | nil => rfl
  | cons r rs ih => exact .ite (ih _ _) (.ite (ih _ _) ((serve_hostLines s r).trans (ih _ _)))

theorem leaveHome_hostLines (s : State) (w : Requester) (line : Nat) : Same State.hostLines s (leaveHome s w line) :=
  .ite (serveAll_hostLines _ _ _) rfl

theorem joinHome_hostLines (s : State) (w : Requester) (line : Nat) : Same State.hostLines s (joinHome s w line) := .ite rfl rfl

theorem awaitLine_hostLines {w : Requester} {line : Nat} (h : awaitLine s w line = some t) : Same State.hostLines s t := by
  unfold awaitLine at h
  split at h
  · cases h; exact (joinHome_hostLines s w line).trans (recallLine_hostLines _ _)
  · split at h
    · cases h
    · cases h; exact joinHome_hostLines s w line

theorem eccSeen_hostLines (s : State) (ag : Agent) (line : Nat) : Same State.hostLines s (eccSeen s ag line) := by
  unfold eccSeen
  split
  · exact eccEvent_hostLines s _
  · rfl

theorem translate_hostLines (s : State) (ag : Agent) (h : Nat) (isWrite : Bool) :
    Same State.hostLines s (translate s ag h isWrite).state := by
  unfold translate
  split
  · rfl
  · split
    · rfl
    · extract_lets p page refusal
      split
      · rfl
      · split
        · generalize (if isWrite then _ else _ : Bool) = allowed
          cases allowed <;> rfl
        · exact .ite rfl (.ite rfl rfl)

theorem busWrite_hostLines (s : State) (ag : Agent) (a : Nat) (data : List Byte) :
    Same State.hostLines s (busWrite s ag a data).state := by
  unfold busWrite
  split
  · rfl
  · split
    · have ht := translate_hostLines s ag (a - 0xC00000000000) true
      extract_lets h
      split
      · next e =>
        rw [e] at ht
        split
        · exact ht
        · exact ht
      · next e => rw [e] at ht; exact ht
      · next e => rw [e] at ht; exact ht
    · split
      · next e => exact awaitLine_hostLines e
      · split
        · exact joinHome_hostLines s _ _
        · have hseen : Same State.hostLines s (if data.length < 64 then eccSeen s ag (a / 64) else s) :=
            .ite (eccSeen_hostLines s _ _) rfl
          exact (hseen.trans (homeWrite_hostLines _ _ _)).trans (leaveHome_hostLines _ _ _)

theorem writeStatusLine_hostLines (s : State) (k : Nat) : Same State.hostLines s (writeStatusLine s k) := by
  have hbus := busWrite_hostLines s (ringAgent (.status k) (if k = 0 then none else some (s.sr k).pasid) 0x6101)
    ((s.sr k).base.toNat + 64 * 2 ^ (s.sr k).log2) (statusLine (s.sr k))
  unfold writeStatusLine
  extract_lets r a
  split <;> next e => rw [e] at hbus; exact hbus

/-! ### What an end may change -/

/-- A state without memory and what an access to it may change, without the queue engine, and without the interrupts of KERNELs that
are ready for the core. -/
def State.unclosed (s : State) : State :=
  { s.unaccessed with queue := Reset.queue, turner := { s.turner with ipend := 0, icond := 0 } }

/-- A state without what the end of an operation may change; the host lines of the L2 are kept. -/
def State.unended (s : State) : State := { s.unclosed with link := { Reset.link with l2Host := s.link.l2Host } }

theorem setQueue_unended (s : State) (q : Queue) : Same State.unended s (s.setQueue q) := rfl

theorem writeStatusLine_unended (s : State) (k : Nat) : Same State.unended s (writeStatusLine s k) := by
  have hline : Same State.unclosed s (writeStatusLine s k) := (writeStatusLine_unlined s k).weaken (f := State.unclosed)
  exact congrArg₂ (fun (u : State) l => { u with link := { Reset.link with l2Host := l } }) hline (writeStatusLine_hostLines s k)

theorem raiseKernelBits_unended (s : State) : Same State.unended s (raiseKernelBits s) := by
  obtain ⟨x, hx, hcore⟩ := raiseKernelBits_sameCore s
  rw [hx, hcore]
  rfl

theorem releaseStops_unended (s : State) : Same State.unended s (releaseStops s) :=
  (releaseStops_released s).same.weaken (f := State.unended)

theorem applyReset_unended (s : State) (i : Nat) : Same State.unended s (applyReset s i) := by
  cases hmode : (s.sr i).resetting with
  | none => unfold applyReset; rw [hmode]; exact .refl s
  | some mode =>
    have hline := (setQueue_unended s _).trans (writeStatusLine_unended (ringReset s i mode) i)
    rw [applyReset_eq hmode]
    exact .ite (hline.trans (setQueue_unended _ _)) hline

theorem freeEntryOf_unended (s : State) (k : Nat) (ok : Bool) : Same State.unended s (freeEntryOf s k ok) := by
  unfold freeEntryOf
  split
  · exact (Same.ite (applyReset_unended s _) (.refl s)).trans (setQueue_unended _ _)
  · exact setQueue_unended s _

theorem decideOp_unended (s : State) (k : Nat) (r : Result) : Same State.unended s (decideOp s k r) := by
  cases ho : s.op k with
  | none => unfold decideOp; rw [ho]; exact .refl s
  | some o =>
    unfold decideOp
    rw [ho]
    exact .ite (freeEntryOf_unended s k true) rfl

theorem settle_unended (s : State) : Same State.unended s (settle s) := by
  have h1 : Same State.unended s (releaseStops (settleInvalidations s)) :=
    Same.trans (t := settleInvalidations s) rfl (releaseStops_unended _)
  unfold settle
  extract_lets s1
  refine Same.trans ?_ (raiseKernelBits_unended _)
  split
  · exact h1
  · exact (h1.trans (decideOp_unended _ _ _)).trans (releaseStops_unended _)

theorem finishOp_unended (ho : s.op k = some o) (hf : o.flush = []) (r : Result) : Same State.unended s (finishOp s k r) := by
  unfold finishOp
  rw [ho]
  dsimp only
  rw [if_pos hf]
  exact (decideOp_unended s k r).trans (settle_unended _)

/-! ### Completions that wait -/

theorem applyReset_grows (s : State) (i : Nat) : Grows s (applyReset s i) := by
  cases hmode : (s.sr i).resetting with
  | none => unfold applyReset; rw [hmode]; exact .refl s
  | some mode =>
    have hline := writeStatusLine_unlined (ringReset s i mode) i
    have h : Grows s (writeStatusLine (ringReset s i mode) i) :=
      ⟨fun j hj => (hline.get fun s => s.op j).trans hj, fun c w hw => by
        have hcr : (writeStatusLine (ringReset s i mode) i).cr c = (ringReset s i mode).cr c := hline.get fun s => s.cr c
        rw [hcr]
        exact hw⟩
    rw [applyReset_eq hmode]
    split
    · exact h.trans (setSr_grows _ _ _)
    · exact h

theorem setOp_none_grows (s : State) (k : Nat) : Grows s (s.setOp k none) := by
  refine ⟨fun j hj => ?_, fun _ _ h => h⟩
  by_cases hkj : k = j
  · subst hkj
    by_cases hk : k < 512
    · exact op_setOp_self hk none
    · by_contra hne
      obtain ⟨p, hp⟩ := Option.ne_none_iff_exists'.mp hne
      exact hk (op_some_lt hp)
  · exact (op_setOp_ne hkj none).trans hj

theorem freeEntryOf_grows (s : State) (k : Nat) (ok : Bool) : Grows s (freeEntryOf s k ok) := by
  unfold freeEntryOf
  refine Grows.trans ?_ (setOp_none_grows _ k)
  split
  · split
    · exact applyReset_grows s _
    · exact .refl s
  · exact .refl s

/-- An end, of a reset too, takes no completion and no free entry away. -/
theorem decideOp_grows_always (s : State) (k : Nat) (r : Result) : Grows s (decideOp s k r) := by
  cases ho : s.op k with
  | none => unfold decideOp; rw [ho]; exact .refl s
  | some o =>
    cases hs : o.silent && decide (r.status = 0) with
    | true =>
      unfold decideOp
      rw [ho]
      dsimp only
      rw [hs, if_pos rfl]
      exact freeEntryOf_grows s k true
    | false =>
      rw [decideOp_posted ho hs]
      refine Grows.trans (t := s.setOp k _) ⟨fun j hj => ?_, fun _ _ h => h⟩
        (setCr_grows _ _ _ fun c hc => List.mem_append_left _ hc)
      have hne : k ≠ j := fun e => by rw [e, hj] at ho; cases ho
      exact (op_setOp_ne hne _).trans hj

theorem settle_grows (s : State) : Grows s (settle s) := by
  have hkernels (u : State) : Grows u (raiseKernelBits u) := by
    obtain ⟨x, hx⟩ := raiseKernelBits_eq u
    rw [hx]
    exact .ofQueue rfl
  have h1 : Grows s (releaseStops (settleInvalidations s)) :=
    Grows.trans (t := settleInvalidations s) (.ofQueue rfl) (releaseStops_grows _)
  unfold settle
  extract_lets s1
  refine Grows.trans ?_ (hkernels _)
  split
  · exact h1
  · exact (h1.trans (decideOp_grows_always _ _ _)).trans (releaseStops_grows _)

/-- An operation that has written into no flush range ends at once. -/
theorem finishOp_ended (ho : s.op k = some o) (hf : o.flush = []) (r : Result) : Ended (finishOp s k r) k o r := by
  unfold finishOp
  rw [ho]
  dsimp only
  rw [if_pos hf]
  exact (decideOp_ended ho).grows (settle_grows _)

end Sys2Proof.Machine
end

section
/-! PROOF. Budget, timer, resume and completion of kernels (O34). -/

set_option Elab.async false

namespace Sys2Proof.Machine
open Sys2Proof

variable {s : State} {r : Running} {o : Op} {v : W64}

theorem runtimeWrites_of (hr : cclkRuns s = true) (hm : s.turner.mode = .running) (hp : s.turner.cstat.priv = true) :
    runtimeWrites s = true := by
  rw [runtimeWrites, hr, hm, hp]
  rfl

theorem Turner.current_of_currentK {t : Turner} (h : t.currentK = some r) : t.current = some r.kid := by
  unfold Turner.currentK at h
  split at h
  · cases h
  · next k hk =>
    have hkid : r.kid = k := of_decide_eq_true (List.find?_some h :)
    rw [hk, hkid]

/-! ### The budget and the timer (R155, R173) -/

/-- The current kernel has passed its BUDGET for the first time. -/
theorem exec_budgetExceeded (hr : coreRuns s = true) (hc : s.turner.currentK = some r) (hp : r.passed = true)
    (ho : r.overBudget = false) : exec .budgetExceeded s = .next (s.setTurner
      { s.turner.setRunning r.kid (fun q => { q with overBudget := true }) with ipend := s.turner.ipend ||| 1 }) := by
  change Host.Outcome.next _ = Host.Outcome.next _
  rw [hc]
  dsimp only
  rw [hr, hp, ho]
  rfl

theorem exec_timercmpReached (hr : coreRuns s = true) (hm : timerMet s = true) : exec .timercmpReached s = .next
    (if s.turner.icond.getLsbD 3 then s
      else s.setTurner { s.turner with ipend := s.turner.ipend ||| 8, icond := s.turner.icond ||| 8 }) := by
  change Host.Outcome.next _ = Host.Outcome.next _
  rw [hr, hm]
  cases s.turner.icond.getLsbD 3 <;> rfl

/-! ### TC_RESUME (R516) -/

theorem exec_tcResume (hw : runtimeWrites s = true) (hfind : s.turner.runningK.find? (fun q => q.kid = v.toNat % 1024) = some r)
    (hc : s.turner.current ≠ some r.kid) : exec (.tcResume v) s = .next (raiseKernelBits (s.setTurner
      { s.turner with current := some r.kid, kbank := vget s.turner.segTables r.segTable (Vector.replicate 8 0) })) := by
  have hkid : r.kid = v.toNat % 1024 := of_decide_eq_true (List.find?_some hfind :)
  have hv : (v.extractLsb' 0 10).toNat = v.toNat % 1024 := by rw [BitVec.extractLsb'_toNat, Nat.shiftRight_zero]
  rw [hkid] at hc
  change Host.Outcome.next _ = Host.Outcome.next _
  rw [hw, if_pos rfl, hv]
  unfold tcResume
  extract_lets t
  rw [hfind]
  dsimp only
  rw [if_neg hc, hkid]

/-! ### TC_KERNEL_DONE (R154, R507) -/

/-- The completion that a write of word 0 asks for, of the current kernel r. -/
def doneOf (t : Turner) (r : Running) (v : W64) : KernelDone :=
  { kid := r.kid, status := BitVec.ofNat 8 (v.toNat % 256), code := BitVec.ofNat 8 (v.toNat / 256 % 256), epc := t.doneEpc
    ecause := v.extractLsb' 16 8, estat := v.extractLsb' 32 32 }

/-- The core once kernel r is no longer running, with no completion asked for. -/
def doneTurner (t : Turner) (r : Running) (v : W64) : Turner :=
  { endKernel t r.kid (decide (v.toNat % 256 ≠ 0)) with done := [] }

theorem tcKernelDone_invalid (hc : s.turner.currentK = some r) (hv : doneValid r (v.toNat % 256) (v.toNat / 256 % 256) = false) :
    tcKernelDone s v = s := by
  unfold tcKernelDone
  extract_lets t
  rw [hc]
  dsimp only
  rw [hv]
  rfl

/-- One completion asked for, with no store out and the tile unit idle, is posted. -/
theorem postDone_single {d : KernelDone} (hd : s.turner.done = [d]) (ha : s.turner.accesses = []) (ht : tilesIdle s.lattice = true) :
    postDone s = finishOp (s.setTurner { s.turner with done := [] }) d.kid d.result := by
  unfold postDone
  rw [hd, ha, ht]
  rfl

/-- With no store out and the tile unit idle, the completion that the runtime asks for is posted at once. -/
theorem tcKernelDone_posts (hc : s.turner.currentK = some r) (hv : doneValid r (v.toNat % 256) (v.toNat / 256 % 256) = true)
    (hd : s.turner.done = []) (ha : s.turner.accesses = []) (ht : tilesIdle s.lattice = true) : tcKernelDone s v =
      raiseKernelBits (finishOp (s.setTurner (doneTurner s.turner r v)) r.kid (doneOf s.turner r v).result) := by
  have hasked : (endKernel s.turner r.kid (decide (v.toNat % 256 ≠ 0))).done ++ [doneOf s.turner r v] = [doneOf s.turner r v] := by
    change s.turner.done ++ _ = _
    rw [hd]
    rfl
  unfold tcKernelDone
  extract_lets t
  rw [hc]
  dsimp only
  rw [hv, Bool.not_true, if_neg Bool.false_ne_true]
  exact congrArg raiseKernelBits (postDone_single (s := s.setTurner
    { endKernel s.turner r.kid (decide (v.toNat % 256 ≠ 0)) with
      done := (endKernel s.turner r.kid (decide (v.toNat % 256 ≠ 0))).done ++ [doneOf s.turner r v] }) hasked ha ht)

/-- The current kernel r is off the core and its operation has ended with a result; the registers are as they were. -/
structure KernelEnded (s t : State) (r : Running) (o : Op) (x : Result) : Prop where
  current : t.turner.current = none
  running : ∀ q ∈ t.turner.runningK, q.kid ≠ r.kid
  regs : t.turner.g = s.turner.g
  pc : t.turner.pc = s.turner.pc
  ended : Ended t r.kid o x

theorem tcKernelDone_ends (hc : s.turner.currentK = some r) (hv : doneValid r (v.toNat % 256) (v.toNat / 256 % 256) = true)
    (hd : s.turner.done = []) (ha : s.turner.accesses = []) (ht : tilesIdle s.lattice = true) (ho : s.op r.kid = some o)
    (hf : o.flush = []) : KernelEnded s (tcKernelDone s v) r o (doneOf s.turner r v).result := by
  have ho' : (s.setTurner (doneTurner s.turner r v)).op r.kid = some o := ho
  have hsame := (finishOp_unended ho' hf (doneOf s.turner r v).result).trans (raiseKernelBits_unended _)
  have hended := finishOp_ended ho' hf (doneOf s.turner r v).result
  rw [tcKernelDone_posts hc hv hd ha ht]
  refine ⟨?_, fun q hq => ?_, hsame.get fun s => s.turner.g, hsame.get fun s => s.turner.pc, ?_⟩
  · rw [hsame.get fun s => s.turner.current]
    exact if_pos (Turner.current_of_currentK hc)
  · rw [hsame.get fun s => s.turner.runningK] at hq
    exact of_decide_eq_true (List.mem_filter.mp hq).2
  · obtain ⟨x, hx⟩ := raiseKernelBits_eq (finishOp (s.setTurner (doneTurner s.turner r v)) r.kid (doneOf s.turner r v).result)
    rw [hx]
    exact hended.grows (.ofQueue rfl)

theorem doneOf_success (t : Turner) (r : Running) (h : v.toNat % 65536 = 0) : (doneOf t r v).result = Result.ok := by
  have hstatus : (doneOf t r v).status = 0 := by
    change BitVec.ofNat 8 (v.toNat % 256) = 0
    rw [show v.toNat % 256 = 0 by omega]
    rfl
  exact if_pos hstatus

/-- INFO of a completion with a fault: ecause and estat as word 0 brings them (Table 4.8). -/
theorem doneOf_fault (t : Turner) (r : Running) (h : v.toNat % 65536 = 0x0120) : (doneOf t r v).result =
    { status := 0x20, kind := 3, code := 1, location := 0, address := 0, progress := t.doneEpc
      info := BitVec.ofNat 64 (v.toNat / 65536 % 256) ||| (BitVec.ofNat 64 (v.toNat / 2 ^ 32) <<< 32) } := by
  have hstatus : (doneOf t r v).status = 0x20 := by
    change BitVec.ofNat 8 (v.toNat % 256) = _
    rw [show v.toNat % 256 = 0x20 by omega]
    rfl
  have hcode : (doneOf t r v).code = 1 := by
    change BitVec.ofNat 8 (v.toNat / 256 % 256) = _
    rw [show v.toNat / 256 % 256 = 1 by omega]
    rfl
  have hcause : (v.extractLsb' 16 8).setWidth 64 = BitVec.ofNat 64 (v.toNat / 65536 % 256) := by
    apply BitVec.eq_of_toNat_eq
    rw [BitVec.toNat_setWidth, BitVec.extractLsb'_toNat, BitVec.toNat_ofNat, Nat.shiftRight_eq_div_pow]
  have hestat : (v.extractLsb' 32 32).setWidth 64 = BitVec.ofNat 64 (v.toNat / 2 ^ 32) := by
    apply BitVec.eq_of_toNat_eq
    have hv := v.isLt
    rw [BitVec.toNat_setWidth, BitVec.extractLsb'_toNat, BitVec.toNat_ofNat, Nat.shiftRight_eq_div_pow]
    omega
  rw [KernelDone.result, hstatus, if_neg (by decide), hcode, ← hcause, ← hestat]
  rfl

/-! ### The statement -/

/-- Settles O34. A kernel that is done leaves the core and its operation ends, by `tcKernelDone_ends`. -/
theorem kernelEventsOfTheTurner : Obligations.KernelEventsOfTheTurner := by
  unfold Obligations.KernelEventsOfTheTurner
  refine ⟨fun s r hr hc hb hu ho => ?budget, fun s hr h0 hle => ?timer, fun s v r hr hm hp hfind hc => ?resume,
    fun s v r o hr hm hp hc _ ho hf hd ha hq hre hfl hfault => ?done⟩
  case budget =>
    have hpassed : r.passed = true := by rw [Running.passed, decide_eq_true hb, decide_eq_true hu]; rfl
    exact exec_budgetExceeded hr hc hpassed ho
  case timer =>
    have hmet : timerMet s = true := by rw [timerMet, decide_eq_true h0, decide_eq_true hle]; rfl
    exact exec_timercmpReached hr hmet
  case resume =>
    obtain ⟨x, hx, hcore⟩ := raiseKernelBits_sameCore (s.setTurner
      { s.turner with current := some r.kid, kbank := vget s.turner.segTables r.segTable (Vector.replicate 8 0) })
    refine ⟨_, exec_tcResume (runtimeWrites_of hr hm hp) hfind hc, ?_⟩
    rw [hx, State.setTurner_turner, hcore]
    exact ⟨rfl, rfl, rfl, rfl, rfl, rfl, rfl⟩
  case done =>
    have hexec : exec (.tcKernelDone v) s = .next (tcKernelDone s v) := by
      change Host.Outcome.next _ = Host.Outcome.next _
      rw [runtimeWrites_of hr hm hp, if_pos rfl]
    have hidle : tilesIdle s.lattice = true := by rw [tilesIdle, hq, hre, hfl, hfault]; rfl
    refine ⟨fun hv => ?_, fun hv => ?_, fun h0 h20 => ?_⟩
    · have hvalid : doneValid r (v.toNat % 256) (v.toNat / 256 % 256) = true := by
        rw [show v.toNat % 256 = 0 by omega, show v.toNat / 256 % 256 = 0 by omega]
        rfl
      obtain ⟨hcur, hrun, hregs, hpc, hended⟩ := tcKernelDone_ends hc hvalid hd ha hidle ho hf
      exact ⟨_, hexec, hcur, hrun, hregs, hpc, doneOf_success s.turner r hv ▸ hended⟩
    · have hvalid : doneValid r (v.toNat % 256) (v.toNat / 256 % 256) = true := by
        rw [show v.toNat % 256 = 0x20 by omega, show v.toNat / 256 % 256 = 1 by omega]
        rfl
      obtain ⟨hcur, hrun, -, -, hended⟩ := tcKernelDone_ends hc hvalid hd ha hidle ho hf
      exact ⟨_, hexec, hcur, hrun, doneOf_fault s.turner r hv ▸ hended⟩
    · have hinvalid : doneValid r (v.toNat % 256) (v.toNat / 256 % 256) = false := by
        rw [doneValid, decide_eq_false h0, decide_eq_false h20]
        rfl
      exact hexec.trans (congrArg _ (tcKernelDone_invalid hc hinvalid))

end Sys2Proof.Machine
end

section
/-! PROOF. Core resets and core halts: what they abandon and what they leave as it is (O35). -/

set_option Elab.async false

namespace Sys2Proof.Machine
open Sys2Proof

variable {s t : State} {k : Nat} {o : Op} {r : Result}

/-! ### The Spindle's commands abandoned (R243) -/

/-- A state without what the effects and the STATUS of a Spindle command may change; the commands in progress are kept. -/
def State.unstepped (s : State) : State :=
  { s with
    dev := [], scale := Reset.scale, faults := Reset.faults, finish := Reset.finish
    spindle := { Reset.spindle with running := s.spindle.running } }

theorem setDev_unstepped (s : State) (m : Memory) : Same State.unstepped s (s.setDev m) := rfl

theorem setFinish_unstepped (s : State) (x : Finish) : Same State.unstepped s (s.setFinish x) := rfl

theorem homeWrite_unstepped (s : State) (a : Nat) (data : List Byte) : Same State.unstepped s (homeWrite s a data) := by
  unfold homeWrite
  extract_lets s1 s2
  have h2 : Same State.unstepped s s2 := .ite rfl rfl
  exact h2

theorem stepStream_unstepped (s : State) (c : SpCommand) (b : Nat) (whole : Bool) : Same State.unstepped s (stepStream s c b whole) := by
  unfold stepStream
  extract_lets e els slot out slotBytes outBytes s1 s2 tap h h1 h2
  have hout : Same State.unstepped s s2 := (setDev_unstepped s _).trans (.foldl (fun _ _ => homeWrite_unstepped _ _ _) _ _)
  split
  · exact hout
  · exact hout.trans (setFinish_unstepped s2 _)

theorem stepEffect_unstepped (s : State) (c : SpCommand) (p : Nat) : Same State.unstepped s (stepEffect s c p) :=
  .foldl (fun _ _ => stepStream_unstepped _ _ _ _) _ _

theorem writeLines_unstepped (s : State) (a : Nat) (bs : List Byte) : Same State.unstepped s (writeLines s a bs) :=
  .foldl (fun _ _ => homeWrite_unstepped _ _ _) _ _

/-- A SCAN that stops leaves its slots and H_OUT indeterminate. -/
theorem scanEffect_unstepped (s : State) (c : SpCommand) : Same State.unstepped s (scanEffect s c false) := by
  unfold scanEffect
  extract_lets e t ch out
  rw [if_neg Bool.false_ne_true]
  exact Same.trans (.foldl (fun s k => setDev_unstepped s _) _ _) (writeLines_unstepped _ _ _)

theorem writeStatus_unstepped (s : State) (i code : Nat) : Same State.unstepped s (writeStatus s i code) := homeWrite_unstepped s _ _

theorem spindleFault_unstepped (s : State) (i code p : Nat) : Same State.unstepped s (spindleFault s i code p) :=
  Same.trans (t := s.setSpindle { s.spindle with
    faulted := true, code := BitVec.ofNat 7 code, progress := BitVec.ofNat 11 p, faultIndex := BitVec.ofNat 10 i }) rfl
    (writeStatus_unstepped _ i code)

/-- A state without what the abandonment of the Spindle's commands may change. -/
def State.unspun (s : State) : State := { s.unstepped with spindle := Reset.spindle }

/-- A command abandoned by a core halt or a core reset, with code 0x05. -/
def abandonCommand (s : State) (c : SpCommand) : State :=
  let p := if fld c.entry 0 1 = 1 then c.done else 0
  let s2 := if fld c.entry 0 1 = 1 then stepEffect s c p else scanEffect s c false
  let s3 := faultEvent (dropCommand s2) 0x4002 2
  if s3.spindle.faulted then writeStatus s3 c.index 5 else spindleFault s3 c.index 5 p

theorem abandonSpindle_eq (s : State) : abandonSpindle s =
    (s.spindle.running.foldl abandonCommand s).setSpindle { (s.spindle.running.foldl abandonCommand s).spindle with enable := false } :=
  rfl

/-- The oldest command goes; its effects, its fault and its STATUS change nothing else of what `unstepped` keeps. -/
theorem abandonCommand_unstepped (s : State) (c : SpCommand) : Same State.unstepped (dropCommand s) (abandonCommand s c) := by
  unfold abandonCommand
  extract_lets p s2 s3
  have h2 : Same State.unstepped s s2 := .ite (stepEffect_unstepped _ _ _) (scanEffect_unstepped _ _)
  have h3 : Same State.unstepped (dropCommand s) s3 := h2.get fun u => (faultEvent (dropCommand u) 0x4002 2).unstepped
  exact .ite (h3.trans (writeStatus_unstepped _ _ _)) (h3.trans (spindleFault_unstepped _ _ _ _))

theorem abandonCommand_unspun (s : State) (c : SpCommand) : Same State.unspun s (abandonCommand s c) :=
  Same.trans (t := dropCommand s) rfl ((abandonCommand_unstepped s c).weaken (f := State.unspun))

theorem foldl_abandonCommand_running (l : List SpCommand) (s : State) :
    (l.foldl abandonCommand s).spindle.running = s.spindle.running.drop l.length := by
  induction l generalizing s with
  | nil => rfl
  | cons c l ih =>
    have h1 : (abandonCommand s c).spindle.running = s.spindle.running.drop 1 :=
      (abandonCommand_unstepped s c).get fun s => s.spindle.running
    rw [List.foldl_cons, ih, h1, List.drop_drop, List.length_cons, Nat.add_comm]

theorem abandonSpindle_running (s : State) : (abandonSpindle s).spindle.running = [] := by
  rw [abandonSpindle_eq]
  exact (foldl_abandonCommand_running _ s).trans List.drop_length

theorem abandonSpindle_unspun (s : State) : Same State.unspun s (abandonSpindle s) := by
  have h : Same State.unspun s (s.spindle.running.foldl abandonCommand s) := .foldl abandonCommand_unspun _ s
  rw [abandonSpindle_eq]
  exact h

/-! ### A core reset (Table 17.4, R151) -/

theorem coreReset_turner (s : State) : (coreReset s).turner = coreResetTurner s.turner :=
  congrArg coreResetTurner ((abandonSpindle_unspun s).get State.turner)

/-- A state without the core, the Lattice, and what the abandonment of the Spindle's commands may change. -/
def State.uncored (s : State) : State := { s.unspun with turner := Reset.turner, lattice := Reset.lattice }

theorem coreReset_uncored (s : State) : Same State.uncored s (coreReset s) := (abandonSpindle_unspun s).weaken (f := State.uncored)

/-! ### A core halt (Table 5.7) -/

/-- The core once commit has stopped: stores that have committed are left. -/
def haltedTurner (t : Turner) : Turner :=
  { t with
    mode := .halted, lastHaltCause := t.xcause.setWidth 8
    accesses := t.accesses.filter fun a => match a with | .load .. => false | .store .. => true }

theorem haltedTurner_loadsOut (t : Turner) : (haltedTurner t).loadsOut = false := by
  refine List.any_eq_false.mpr fun a ha => ?_
  have hstore := (List.mem_filter.mp ha).2
  cases a with
  | load => cases hstore
  | store => exact Bool.false_ne_true

theorem haltCore_eq (s : State) : haltCore s =
    dpAlert (deviceEvent (resetLattice (abandonSpindle (s.setTurner (haltedTurner s.turner)))) 2) := rfl

/-- What a halt makes of the core and of the units it drives. -/
structure Halted (s t : State) : Prop where
  turner : t.turner = haltedTurner s.turner
  lattice : t.lattice = Reset.lattice
  running : t.spindle.running = []
  enable : t.spindle.enable = false
  alert : t.mgmt.dpAlert = true
  event : t.queue.event.getLsbD 2 = true
  host : t.host = s.host
  ops : t.queue.ops = s.queue.ops

theorem haltCore_halted (s : State) : Halted s (haltCore s) := by
  have hspun := abandonSpindle_unspun (s.setTurner (haltedTurner s.turner))
  have hrun := abandonSpindle_running (s.setTurner (haltedTurner s.turner))
  have hen : (abandonSpindle (s.setTurner (haltedTurner s.turner))).spindle.enable = false := rfl
  rw [haltCore_eq]
  generalize abandonSpindle (s.setTurner (haltedTurner s.turner)) = u at hspun hrun hen
  have hevent := deviceEvent_unsignalled (resetLattice u) 2
  have hbit := deviceEvent_event (resetLattice u) 2 2 (by decide)
  generalize deviceEvent (resetLattice u) 2 = w at hevent hbit
  refine ⟨?_, hevent.get State.lattice, ?_, ?_, rfl, ?_, ?_, ?_⟩
  · exact (hevent.get State.turner).trans (hspun.get State.turner)
  · exact (hevent.get fun s => s.spindle.running).trans hrun
  · exact (hevent.get fun s => s.spindle.enable).trans hen
  · exact hbit.trans (by rw [decide_eq_true rfl, Bool.or_true])
  · exact (hevent.get State.host).trans (hspun.get State.host)
  · exact (hevent.get fun s => s.queue.ops).trans (hspun.get fun s => s.queue.ops)

end Sys2Proof.Machine
end

section
/-! PROOF. A failed store, the grace of a budget, and the end of a halt (O35). -/

set_option Elab.async false

namespace Sys2Proof.Machine
open Sys2Proof

variable {s t : State} {r : Running} {o : Op} {rest : List MemAccess}

/-! ### A store that fails (R130) -/

theorem coreRuns_cclk (h : coreRuns s = true) : cclkRuns s = true := (Bool.and_eq_true _ _ ▸ h).1

/-- The state once the oldest access, a store, is given up. -/
def storeGivenUp (s : State) (rest : List MemAccess) : State :=
  { s with turner := { s.turner with accesses := rest, storesLeft := s.turner.storesLeft + 1 } }

theorem storeGivenUp_loadsOut {a : DevAddr} {d : List Byte} {p : Bool} {q : Option (BitVec 20)} {c sb f : Bool} {sl : BitVec 3}
    (hacc : s.turner.accesses = .store a d p q c sl sb f :: rest) (hl : s.turner.loadsOut = false) :
    (storeGivenUp s rest).turner.loadsOut = false := by
  rw [Turner.loadsOut, hacc, List.any_cons, Bool.or_eq_false_iff] at hl
  exact hl.2

/-- The exception of a store at address a, through slot sl of the bank that sb gives, that has failed. -/
def storeExc (a : DevAddr) (sl : BitVec 3) (sb : Bool) : Exc :=
  { cause := 3, sub := 4, addr := a.setWidth 64, slot := sl.toNat, sBank := sb, access := 2, async := true }

theorem exec_asyncStoreFailure {a : DevAddr} {d : List Byte} {p : Bool} {q : Option (BitVec 20)} {c sb f : Bool} {sl : BitVec 3}
    (hr : coreRuns s = true) (hacc : s.turner.accesses = .store a d p q c sl sb f :: rest) (hl : s.turner.loadsOut = false) :
    exec .asyncStoreFailure s = .next (takeException (storeGivenUp s rest) (storeExc a sl sb) s.turner.pc) := by
  have hrest := storeGivenUp_loadsOut hacc hl
  have htake (u : State) (hu : u = s.setTurner { s.turner with accesses := failOldest s.turner.accesses }) :
      takeAsync u = some (takeException (storeGivenUp s rest) (storeExc a sl sb) s.turner.pc) := by
    rw [hacc] at hu
    have hout : u.turner.loadsOut = false := by rw [hu]; exact hrest
    have hfailed : failedStore u.turner.accesses = some (storeExc a sl sb) := by rw [hu]; rfl
    unfold takeAsync
    rw [hfailed]
    dsimp only
    rw [hout, if_neg Bool.false_ne_true, hu]
    rfl
  have hcclk : ¬(!cclkRuns s) = true := by rw [coreRuns_cclk hr]; decide
  refine congrArg Host.Outcome.next ((if_neg hcclk).trans ((if_pos hr).trans ?_))
  change (takeAsync (s.setTurner { s.turner with accesses := failOldest s.turner.accesses })).getD _ = _
  rw [htake _ rfl]
  rfl

/-- What estat shows of such a store: ASYNC, ACCESS 2, and the slot and bank it went through (Table 5.5). -/
theorem storeExc_estat (a : DevAddr) (sl : BitVec 3) (sb : Bool) (c : Cstat) :
    (storeExc a sl sb).estat c = c.word ||| BitVec.ofNat 64 (sl.toNat * 256 + sb.toNat * 2048 + 2 * 4096 + 32768) := by
  have hfields : sl.toNat % 8 * 256 + sb.toNat * 2048 + 2 % 4 * 4096 + false.toNat * 16384 + true.toNat * 32768 =
      sl.toNat * 256 + sb.toNat * 2048 + 2 * 4096 + 32768 := by
    rw [Nat.mod_eq_of_lt sl.isLt, Bool.toNat_false, Bool.toNat_true]
  exact congrArg (fun n => c.word ||| BitVec.ofNat 64 n) hfields

/-! ### The kernel that a halt ends (Table 5.7, steps 2 and 3) -/

theorem drainStores_of_none (h : s.turner.accesses = []) : drainStores s = s := by
  unfold drainStores
  rw [h]
  change s.setTurner { s.turner with accesses := [] } = s
  rw [← h]
  rfl

/-- The result of the running kernel of a core that halts. -/
def haltResult (r : Running) : Result := kernelFault 2 0x2004 r.lastEpc r.lastCause r.lastEstat

/-- No kernel runs. -/
def idleTurner (t : Turner) : Turner := { t with runningK := [], current := none, tileOwner := 0x3FF }

theorem failKernels_single (hk : s.turner.runningK = [r]) (hc : s.turner.current = some r.kid) : failKernels s =
    (finishOp s r.kid (haltResult r)).setTurner (idleTurner (finishOp s r.kid (haltResult r)).turner) := by
  unfold failKernels
  simp only [hk, hc, List.foldl_cons, List.foldl_nil, decide_true, if_true]
  rfl

/-- The state of a halt at its count: the L2's host lines are written back and the running kernel has ended. -/
structure Emptied (s t : State) (r : Running) (o : Op) : Prop where
  turner : { t.turner with ipend := 0, icond := 0 } = { idleTurner s.turner with ipend := 0, icond := 0 }
  power : t.power = s.power
  now : t.now = s.now
  l2 : t.link.l2Host = []
  ended : Ended t r.kid o (haltResult r)

theorem failKernels_emptied (hd : s.turner.done = []) (hk : s.turner.runningK = [r]) (hc : s.turner.current = some r.kid)
    (ho : s.op r.kid = some o) (hf : o.flush = []) : Emptied s (postDone (failKernels (writeBackHostLines s))) r o := by
  have ho' : (writeBackHostLines s).op r.kid = some o := ho
  have hsame := finishOp_unended ho' hf (haltResult r)
  have hended := finishOp_ended ho' hf (haltResult r)
  rw [failKernels_single (s := writeBackHostLines s) hk hc]
  generalize finishOp (writeBackHostLines s) r.kid (haltResult r) = u at hsame hended
  have hdone : u.turner.done = [] := (hsame.get fun s => s.turner.done).trans hd
  have hpost : postDone (u.setTurner (idleTurner u.turner)) = u.setTurner (idleTurner u.turner) := by
    unfold postDone
    rw [show (u.setTurner (idleTurner u.turner)).turner.done = [] from hdone]
    rfl
  rw [hpost]
  have hturner : u.unended.turner = (writeBackHostLines s).unended.turner := congrArg State.turner hsame
  exact ⟨congrArg idleTurner hturner, hsame.get State.power, hsame.get State.now, hsame.get fun s => s.link.l2Host,
    hended.grows (.ofQueue rfl)⟩

/-! ### The count of halts (R151, R470) -/

/-- A halt is the third within 600 seconds: two are kept, and the first of them is that recent. -/
def thirdHalt (s : State) : Prop := ∃ h1 h2 : W64, s.turner.halts = [h1, h2] ∧ s.now - h1.toNat ≤ 600 * 1200000000

theorem threshold_thirdHalt (s : State) :
    (threshold 3 (fclkSeconds 600) (s.turner.halts.map (·.toNat)) s.now).1 = true ↔ thirdHalt s := by
  unfold threshold thirdHalt fclkSeconds
  match s.turner.halts with
  | [] => simp
  | [_] => simp
  | [h1, h2] => by_cases h : s.now ≤ 720000000000 + h1.toNat <;> simp [h]
  | _ :: _ :: _ :: _ => simp

theorem countHalt_third (h : thirdHalt s) : countHalt s = (true, lockOut (faultAction s 0x2004 3)) := by
  unfold countHalt
  exact if_pos ((threshold_thirdHalt s).mpr h)

theorem countHalt_kept (h : ¬thirdHalt s) : ∃ l f, countHalt s = (false, (s.setFaults f).setTurner { s.turner with halts := l }) := by
  unfold countHalt
  extract_lets x s1
  rw [if_neg fun c => h ((threshold_thirdHalt s).mp c)]
  exact ⟨_, _, rfl⟩

/-! ### The end of a halt -/

theorem exec_haltWritebackComplete (hr : cclkRuns s = true) (hm : s.turner.mode = .halted) (ha : s.turner.accesses = []) :
    exec .haltWritebackComplete s = .next
      (let x := countHalt (postDone (failKernels (writeBackHostLines s)))
       if x.1 then x.2 else (coreReset x.2).setTurner { (coreReset x.2).turner with mode := .reloading }) := by
  change Host.Outcome.next _ = Host.Outcome.next _
  rw [hr, hm, drainStores_of_none ha]
  dsimp only
  rw [ha, if_neg (show ¬(failedStore []).isSome = true from Bool.false_ne_true), ha]
  rfl

/-- The core as the end of a halt leaves it, in reset or until the retained image has been read. -/
structure HaltOver (s t : State) (r : Running) (o : Op) : Prop where
  running : t.turner.runningK = []
  current : t.turner.current = none
  l2 : t.link.l2Host = []
  retained : t.turner.retained = s.turner.retained
  segTables : t.turner.segTables = s.turner.segTables
  ended : Ended t r.kid o (haltResult r)

theorem Emptied.haltOver {u : State} (h : Emptied s u r o) (hturner : ∃ m b l c, t.turner =
      { coreResetTurner u.turner with mode := m, locked := b, halts := l, lastHaltCause := c })
    (hl2 : t.link.l2Host = u.link.l2Host) (hgrows : Grows u t) : HaltOver s t r o := by
  obtain ⟨m, b, l, c, hturner⟩ := hturner
  have hret : u.turner.retained = s.turner.retained := (congrArg Turner.retained h.turner :)
  have hseg : u.turner.segTables = s.turner.segTables := (congrArg Turner.segTables h.turner :)
  refine ⟨?_, ?_, hl2.trans h.l2, ?_, ?_, h.ended.grows hgrows⟩
  · rw [hturner]; rfl
  · rw [hturner]; rfl
  · rw [hturner, ← hret]; rfl
  · rw [hturner, ← hseg]; rfl

/-- The state of a core reset that locks the core out. -/
def lockedCore (s : State) : State := (coreReset s).setTurner { (coreReset s).turner with locked := true }

/-- Where the module serves, it enters LOCKOUT. -/
theorem lockOut_eq (s : State) : ∃ p, lockOut s = dpAlert (deviceEvent ((lockedCore s).setPower p) 3) ∧
    ((s.power.state = .active ∨ s.power.state = .throttled) → p.state = .lockout) := by
  have hpower : (lockedCore s).power = s.power := (coreReset_uncored s).get State.power
  by_cases h : (lockedCore s).power.state = .active ∨ (lockedCore s).power.state = .throttled
  · exact ⟨{ (lockedCore s).power with state := .lockout }, congrArg (fun u => dpAlert (deviceEvent u 3)) (if_pos h), fun _ => rfl⟩
  · refine ⟨(lockedCore s).power, congrArg (fun u => dpAlert (deviceEvent u 3)) (if_neg h), fun hyes => absurd ?_ h⟩
    rw [hpower]
    exact hyes

theorem deviceEvent_grows (s : State) (b : Nat) : Grows s (deviceEvent s b) := by
  have h := deviceEvent_unsignalled s b
  refine ⟨fun j hj => (h.get fun s => s.op j).trans hj, fun i c hc => ?_⟩
  rw [show (deviceEvent s b).cr i = s.cr i from h.get fun s => s.cr i]
  exact hc

/-- What a lockout makes of the core and of the module's state, and what it leaves of the link and the queue engine. -/
theorem lockOut_locked (s : State) : (lockOut s).turner = { coreResetTurner s.turner with locked := true } ∧
    ((s.power.state = .active ∨ s.power.state = .throttled) → (lockOut s).power.state = .lockout) ∧
    (lockOut s).link.l2Host = s.link.l2Host ∧ Grows s (lockOut s) := by
  have hcore := coreReset_uncored s
  obtain ⟨p, hlock, hp⟩ := lockOut_eq s
  have hevent := deviceEvent_unsignalled ((lockedCore s).setPower p) 3
  have hgrows : Grows s (deviceEvent ((lockedCore s).setPower p) 3) :=
    Grows.trans (t := (lockedCore s).setPower p) (.ofQueue (hcore.get State.queue)) (deviceEvent_grows _ 3)
  rw [hlock]
  generalize deviceEvent ((lockedCore s).setPower p) 3 = w at hevent hgrows
  refine ⟨(hevent.get State.turner).trans ?_, fun h => (congrArg Power.state (hevent.get State.power)).trans (hp h),
    (hevent.get fun s => s.link.l2Host).trans (hcore.get fun s => s.link.l2Host), hgrows.trans (.ofQueue rfl)⟩
  change { (coreReset s).turner with locked := true } = _
  rw [coreReset_turner]

theorem haltWritebackComplete_over (hr : cclkRuns s = true) (hm : s.turner.mode = .halted) (ha : s.turner.accesses = [])
    (hd : s.turner.done = []) (hk : s.turner.runningK = [r]) (hc : s.turner.current = some r.kid) (ho : s.op r.kid = some o)
    (hf : o.flush = []) : ∃ t, exec .haltWritebackComplete s = .next t ∧ HaltOver s t r o ∧
      (thirdHalt s → t.turner.locked = true ∧ t.turner.mode = .stopped ∧
        ((s.power.state = .active ∨ s.power.state = .throttled) → t.power.state = .lockout)) ∧
      (¬thirdHalt s → t.turner.mode = .reloading ∧ t.turner.locked = s.turner.locked ∧ t.power.state = s.power.state) := by
  have hexec := exec_haltWritebackComplete hr hm ha
  have hu := failKernels_emptied hd hk hc ho hf
  generalize postDone (failKernels (writeBackHostLines s)) = u at hexec hu
  have hhalts : u.turner.halts = s.turner.halts := (congrArg Turner.halts hu.turner :)
  have hthird : thirdHalt u ↔ thirdHalt s := by rw [thirdHalt, hhalts, hu.now, ← thirdHalt]
  by_cases h : thirdHalt s
  · obtain ⟨hturner, hlock, hl2, hgrows⟩ := lockOut_locked (faultAction u 0x2004 3)
    rw [countHalt_third (hthird.mpr h)] at hexec
    refine ⟨_, hexec, hu.haltOver ⟨_, _, _, _, hturner⟩ hl2 (Grows.trans (t := faultAction u 0x2004 3) (.ofQueue rfl) hgrows),
      fun _ => ⟨?_, ?_, fun hp => hlock ?_⟩, fun c => absurd h c⟩
    · exact congrArg Turner.locked hturner
    · exact congrArg Turner.mode hturner
    · rw [← hu.power] at hp
      exact hp
  · obtain ⟨l, f, hcount⟩ := countHalt_kept (s := u) (fun c => h (hthird.mp c))
    have hturner := coreReset_turner ((u.setFaults f).setTurner { u.turner with halts := l })
    have hcore := coreReset_uncored ((u.setFaults f).setTurner { u.turner with halts := l })
    rw [hcount] at hexec
    dsimp only at hexec
    rw [if_neg Bool.false_ne_true] at hexec
    generalize coreReset ((u.setFaults f).setTurner { u.turner with halts := l }) = w at hexec hturner hcore
    have hgrows : Grows u w := .ofQueue (hcore.get State.queue)
    refine ⟨_, hexec, hu.haltOver ⟨_, _, _, _, by rw [State.setTurner_turner, hturner]; rfl⟩ (hcore.get fun s => s.link.l2Host)
      (hgrows.trans (.ofQueue rfl)), fun c => absurd c h, fun _ => ⟨rfl, ?_, ?_⟩⟩
    · have hlocked : w.turner.locked = u.turner.locked := (congrArg Turner.locked hturner :)
      exact hlocked.trans (congrArg Turner.locked hu.turner :)
    · exact (hcore.get fun s => s.power.state).trans (congrArg Power.state hu.power)

/-! ### The statement -/

/-- Settles O35. A failed store is an exception taken at once; the grace of a budget halts the core (`haltCore_halted`); the end of
a halt is `haltWritebackComplete_over`. -/
theorem haltsOfTheTurner : Obligations.HaltsOfTheTurner := by
  unfold Obligations.HaltsOfTheTurner
  refine ⟨fun s a d p q c sb f sl rest hr hacc hl => ?store, fun s hr hb => ?grace,
    fun s r o hr hm ha hd hk hc _ ho hf => ?done⟩
  case store =>
    intro s1
    have huncounted : ¬((storeExc a sl sb).cause = 3 ∧ (storeExc a sl sb).sub = 1) :=
      fun h => (show (4 : Nat) ≠ 1 by decide) h.2
    have htaken := takeException_eq (epc := s.turner.pc) (storeGivenUp_loadsOut hacc hl) huncounted
    rw [storeExc_estat] at htaken
    exact (exec_asyncStoreFailure hr hacc hl).trans (congrArg _ htaken)
  case grace =>
    have hexec : exec .budgetGraceTimeout s = .next (haltCore s) := by
      change Host.Outcome.next _ = Host.Outcome.next _
      rw [hr, hb]
      rfl
    obtain ⟨hturner, hlattice, hrunning, henable, halert, hevent, hhost, hops⟩ := haltCore_halted s
    refine ⟨_, hexec, ?_⟩
    rw [hturner]
    exact ⟨rfl, rfl, haltedTurner_loadsOut _, rfl, rfl, hlattice, hrunning, henable, halert, hevent, hhost, hops⟩
  case done =>
    intro third
    obtain ⟨t, hexec, ⟨hrun, hcur, hl2, hret, hseg, hended⟩, hthird, hkept⟩ := haltWritebackComplete_over hr hm ha hd hk hc ho hf
    exact ⟨t, hexec, hrun, hcur, hl2, hret, hseg, hended, hthird, hkept⟩

end Sys2Proof.Machine
end

section
/-! PROOF. What reset leaves (O4). -/

set_option Elab.async false

namespace Sys2Proof.Machine
open Sys2Proof

/-! ### Tables whose entries are all alike at reset -/

theorem reset_ops (k : Fin 512) : State.reset.queue.ops[k] = none := Vector.getElem_replicate k.isLt

theorem reset_sr (r : Fin 32) : State.reset.queue.sr[r] = Reset.subRing := Vector.getElem_replicate r.isLt

theorem reset_cr (r : Fin 32) : State.reset.queue.cr[r] = Reset.cplRing := Vector.getElem_replicate r.isLt

theorem reset_classes (n : Fin 9) : State.reset.faults.classes[n] = { corrected := 0, uncorrected := 0, actions := 0 } :=
  Vector.getElem_replicate n.isLt

theorem reset_sbank (n : Fin 8) : State.reset.turner.sbank[n] = 0 := Vector.getElem_replicate n.isLt

theorem reset_kbank (n : Fin 8) : State.reset.turner.kbank[n] = 0 := Vector.getElem_replicate n.isLt

theorem reset_relays (n : Fin 256) : State.reset.scale.relays[n] = { valid := false, usePasid := false, pasid := 0, addr := 0 } :=
  Vector.getElem_replicate n.isLt

theorem reset_msix (v : Fin 64) : State.reset.link.msix[v] = { addr := 0, data := 0, mask := true } :=
  Vector.getElem_replicate v.isLt

/-- Settles O4. The tables are alike throughout, and every other field is read off the state of reset. -/
theorem whatResetLeaves : Obligations.WhatResetLeaves := by
  unfold Obligations.WhatResetLeaves
  intro s
  refine ⟨rfl, rfl, rfl, rfl, rfl, reset_classes, rfl, rfl, rfl, rfl, rfl, rfl, rfl, reset_ops, fun r => ⟨?sr, ?cr⟩, rfl, rfl, rfl, rfl,
    rfl, rfl, rfl, rfl, rfl, rfl, rfl, rfl, fun n => ⟨reset_sbank n, reset_kbank n⟩, rfl, rfl, rfl, rfl, rfl, rfl, rfl, rfl,
    fun n => ?relay, rfl, rfl, rfl, fun v => ?vector, rfl, rfl, rfl, rfl, rfl, rfl, rfl, rfl, rfl, rfl, rfl, fun _ => rfl⟩
  case sr => rw [reset_sr]; rfl
  case cr => rw [reset_cr]; rfl
  case relay => rw [reset_relays]
  case vector => rw [reset_msix]

end Sys2Proof.Machine
end

section
/-! PROOF. Instructions of the Turner that write rd from registers: how they commit, and the values of Tables 6.3 and 6.4 (O24). -/

set_option Elab.async false

namespace Sys2Proof.Machine
open Sys2Proof

variable {s s1 : State} {rd ra rb : BitVec 5} {reads : List Nat} {i : Instr} {n : Nat} {v : W64}

/-! ### Committing -/

/-- An instruction that writes rd from registers alone. -/
theorem Commits.alu {f : Turner → W64} (h : Commits s s1 reads (some rd.toNat)) (hi : exec i s = .next (aluRun s reads rd n f))
    (hv : f s1.turner = v) : exec i s = .next (elapse s1 n (wroteReg s1 rd.toNat v (s1.turner.pc + 4))) := by
  subst hv
  exact hi.trans (congrArg _ (turnerRun_commits h rfl rfl))

section
variable {f : W64 → W64 → W64} (h : Commits s s1 [ra.toNat, rb.toNat] (some rd.toNat)) (hi : exec i s = .next (mulRun s rd ra rb n f))
include h hi

/-- A multiply or divide with a reservation to take (R128). -/
theorem Commits.mul (hr : s1.turner.reservations < 8) (hv : f (s1.turner.gr ra.toNat) (s1.turner.gr rb.toNat) = v) :
    exec i s = .next (elapse s1 n (wroteReg s1 rd.toNat v (s1.turner.pc + 4))) := by
  subst hv
  exact hi.trans (congrArg _ (turnerRun_commits h rfl (if_neg (Nat.not_le.mpr hr))))

/-- A multiply or divide that would take the ninth reservation waits (R128). -/
theorem Commits.mul_waits (hr : 8 ≤ s1.turner.reservations) : exec i s = .next s1 :=
  hi.trans (congrArg _ (turnerRun_stalls h rfl (if_pos hr)))

end

/-! ### Shifts and comparisons (Table 6.3, R162) -/

theorem toNat_low_word_mod (b : W64) : (b.setWidth 32 : W32).toNat % 32 = b.toNat % 32 := by
  rw [BitVec.toNat_setWidth]
  omega

/-- A W shift takes its amount from rb[4:0], which the low word of rb holds. -/
theorem wForm_shift (f64 : W64 → W64 → W64) (f32 : W32 → Nat → W32) (a b : W64) :
    wForm true f64 (fun x y => f32 x (y.toNat % 32)) a b = (f32 (a.setWidth 32) (b.toNat % 32)).signExtend 64 := by
  change (f32 (a.setWidth 32) ((b.setWidth 32 : W32).toNat % 32)).signExtend 64 = _
  rw [toNat_low_word_mod]

section
variable {α β : Type} [LinearOrder α] (x y : α) (u v : β)

theorem ite_lt_eq_ite_le : (if decide (y < x) then u else v) = if x ≤ y then v else u := by
  by_cases h : x ≤ y
  · rw [if_pos h, if_neg (by simpa using h)]
  · rw [if_neg h, if_pos (by simpa using h)]

/-- The greater of two values, where values of equal key are equal. -/
theorem ite_lt_self_eq_ite_le (huv : x = y → u = v) : (if decide (x < y) then v else u) = if x ≤ y then v else u := by
  rcases lt_trichotomy x y with h | h | h
  · rw [if_pos h.le, if_pos (decide_eq_true h)]
  · rw [huv h, ite_self, ite_self]
  · rw [if_neg (not_le.mpr h), if_neg (by simpa using h.le)]

end

/-! ### Quotients and remainders (R163) -/

theorem ofInt_tdiv_neg_one {w : Nat} : BitVec.ofInt w ((BitVec.intMin w).toInt.tdiv (-1)) = BitVec.intMin w := by
  rw [Int.tdiv_neg, Int.tdiv_one, BitVec.ofInt_neg, BitVec.ofInt_toInt, BitVec.neg_intMin]

/-- The most negative dividend by -1 gives itself. -/
theorem divS_eq {w : Nat} (a b : BitVec w) : divS a b =
    if b = 0 then BitVec.allOnes w else if a = BitVec.intMin w ∧ b.toInt = -1 then a else BitVec.ofInt w (a.toInt.tdiv b.toInt) := by
  unfold divS
  split
  · rfl
  · split
    · next h => rw [h.1, h.2, ofInt_tdiv_neg_one]
    · rfl

/-- The most negative dividend by -1 leaves no remainder. -/
theorem remS_eq {w : Nat} (a b : BitVec w) : remS a b =
    if b = 0 then a else if a = BitVec.intMin w ∧ b.toInt = -1 then 0 else BitVec.ofInt w (a.toInt.tmod b.toInt) := by
  unfold remS
  split
  · rfl
  · split
    · next h => rw [h.2, Int.tmod_neg, Int.tmod_one]; rfl
    · rfl

/-! ### Counts of bits (Table 6.3) -/

/-- Where a property first holds below a bound; the bound itself where it holds nowhere. -/
theorem first_below (p : Nat → Bool) (m : Nat) : ∃ k ≤ m, ((List.range m).find? p).getD m = k ∧ (∀ j < k, p j = false) ∧
    (k < m → p k = true) := by
  cases hf : (List.range m).find? p with
  | none =>
    refine ⟨m, le_rfl, rfl, fun j hj => ?_, fun h => absurd h (lt_irrefl m)⟩
    simpa using List.find?_eq_none.mp hf j (List.mem_range.mpr hj)
  | some k =>
    obtain ⟨hk, hlt, hbefore⟩ := List.find?_range_eq_some.mp hf
    exact ⟨k, (List.mem_range.mp hlt).le, rfl, fun j hj => by simpa using hbefore j hj, fun _ => hk⟩

theorem length_filter_eq_sum {α : Type} (p : α → Bool) (l : List α) : (l.filter p).length = (l.map fun x => (p x).toNat).sum := by
  induction l with
  | nil => rfl
  | cons x l ih => cases hx : p x <;> simp [hx, ih, Nat.add_comm]

/-! ### The statement -/

/-- Settles O24. Each instruction writes the value of its row of Table 6.3 or 6.4, by `Commits.alu` or `Commits.mul`. -/
theorem turnerIntegerGroupsWriteTheirResult : Obligations.TurnerIntegerGroupsWriteTheirResult := by
  unfold Obligations.TurnerIntegerGroupsWriteTheirResult
  intro s s1 rd ra rb a b a32 b32 gives truth
  refine ⟨fun h => ?alu, fun h hr => ?waits, fun h hr => ?mul, fun h => ?bits⟩
  case alu =>
    exact ⟨h.alu rfl rfl, h.alu rfl rfl, h.alu rfl rfl, h.alu rfl rfl, h.alu rfl rfl, h.alu rfl rfl, h.alu rfl rfl, h.alu rfl rfl,
      h.alu rfl rfl, h.alu rfl (wForm_shift _ (· <<< ·) a b), h.alu rfl rfl, h.alu rfl (wForm_shift _ (· >>> ·) a b),
      h.alu rfl rfl, h.alu rfl (wForm_shift _ BitVec.sshiftRight a b), h.alu rfl rfl,
      h.alu rfl (wForm_shift _ BitVec.rotateRight a b), h.alu rfl rfl, h.alu rfl rfl,
      h.alu rfl (ite_lt_eq_ite_le a.toInt b.toInt b a),
      h.alu rfl (ite_lt_self_eq_ite_le a.toInt b.toInt a b BitVec.eq_of_toInt_eq),
      h.alu rfl (ite_lt_eq_ite_le a.toNat b.toNat b a),
      h.alu rfl (ite_lt_self_eq_ite_le a.toNat b.toNat a b BitVec.eq_of_toNat_eq)⟩
  case waits =>
    exact ⟨h.mul_waits rfl hr, h.mul_waits rfl hr, fun _ =>
      ⟨h.mul_waits rfl hr, h.mul_waits rfl hr, h.mul_waits rfl hr, h.mul_waits rfl hr, h.mul_waits rfl hr⟩⟩
  case mul =>
    exact ⟨h.mul rfl hr rfl, h.mul rfl hr rfl, h.mul rfl hr rfl, h.mul rfl hr rfl, h.mul rfl hr (divS_eq a b),
      h.mul rfl hr (congrArg (BitVec.signExtend 64) (divS_eq a32 b32)), h.mul rfl hr rfl, h.mul rfl hr rfl, h.mul rfl hr (remS_eq a b),
      h.mul rfl hr (congrArg (BitVec.signExtend 64) (remS_eq a32 b32)), h.mul rfl hr rfl, h.mul rfl hr rfl⟩
  case bits =>
    obtain ⟨l, hl, hlead, hlow, hhigh⟩ := first_below (fun j => a.getLsbD (63 - j)) 64
    obtain ⟨t, ht, htrail, hbelow, hat⟩ := first_below (fun j => a.getLsbD j) 64
    exact ⟨⟨l, hl, h.alu rfl (congrArg (BitVec.ofNat 64) hlead), hlow, hhigh⟩,
      ⟨t, ht, h.alu rfl (congrArg (BitVec.ofNat 64) htrail), hbelow, hat⟩,
      h.alu rfl (congrArg (BitVec.ofNat 64) (length_filter_eq_sum _ _))⟩

end Sys2Proof.Machine
end

section
/-! PROOF. Immediate instructions, branches, jumps, calls and returns of the Turner (O25, O28, O29). -/

set_option Elab.async false

namespace Sys2Proof.Machine
open Sys2Proof

variable {s s1 : State} {rd ra : BitVec 5} {reads : List Nat} {i : Instr} {v : W64} {m : BitVec 6} {w : Bool} {kind : Nat}

/-! ### Shifts by an immediate (R164, Table 6.9) -/

/-- The decode check of a shift by an immediate passes but for a W shift by 32 or more. -/
theorem Commits.shiftImm {f : Bool → W64 → W64 → W64} (h : Commits s s1 [ra.toNat] (some rd.toNat))
    (hi : exec i s = .next (Machine.shiftImm s rd ra m w kind f)) (hw : ¬(w = true ∧ 32 ≤ m.toNat))
    (hv : f w (s1.turner.gr ra.toNat) (m.setWidth 64) = v) :
    exec i s = .next (elapse s1 1 (wroteReg s1 rd.toNat v (s1.turner.pc + 4))) := by
  subst hv
  rw [hi]
  unfold Machine.shiftImm
  extract_lets word bad
  exact congrArg _ (turnerRun_commits h (if_neg hw) rfl)

theorem toNat_amount_mod {k : Nat} (h : m.toNat < k) : (m.setWidth 64 : W64).toNat % k = m.toNat := by
  rw [BitVec.toNat_setWidth, Nat.mod_eq_of_lt (m.isLt.trans (by decide)), Nat.mod_eq_of_lt h]

/-- A shift of 64 bits by an immediate amount. -/
theorem amount_apply (f : W64 → Nat → W64) (a : W64) (m : BitVec 6) : f a ((m.setWidth 64 : W64).toNat % 64) = f a m.toNat :=
  congrArg (f a) (toNat_amount_mod m.isLt)

/-- A W shift by an immediate amount below 32. -/
theorem wForm_shift_amount (f64 : W64 → W64 → W64) (f32 : W32 → Nat → W32) (a : W64) (h : m.toNat < 32) :
    wForm true f64 (fun x y => f32 x (y.toNat % 32)) a (m.setWidth 64) = (f32 (a.setWidth 32) m.toNat).signExtend 64 := by
  rw [wForm_shift, toNat_amount_mod h]

/-- A W shift by 32 or more is an illegal word, wherever it issues. -/
theorem Issues.shiftImm_illegal {f : Bool → W64 → W64 → W64} (h : Issues s s1)
    (hi : exec i s = .next (Machine.shiftImm s rd ra m true kind f)) (hm : 32 ≤ m.toNat) (hk : kind < 4) :
    exec i s = .next (takeException s1
      { cause := 1, addr := BitVec.ofNat 64 (0x0A * 2 ^ 26 + rd.toNat * 2 ^ 21 + ra.toNat * 2 ^ 16 + 256 + kind * 64 + m.toNat) }
      s1.turner.pc) := by
  have hword : 0x0A * 2 ^ 26 + rd.toNat * 2 ^ 21 + ra.toNat * 2 ^ 16 + 256 + kind * 64 + m.toNat < 2 ^ 32 := by
    have := rd.isLt
    have := ra.isLt
    have := m.isLt
    omega
  rw [← BitVec.setWidth_ofNat_of_le_of_lt (by decide) hword, hi]
  unfold Machine.shiftImm
  extract_lets word bad
  exact congrArg _ (turnerRun_refuses h (if_pos ⟨rfl, hm⟩))

/-- Settles O25. Immediates are operations on registers with one operand from the word; a W shift by 32 or more does not decode. -/
theorem turnerImmediatesWriteTheirResult : Obligations.TurnerImmediatesWriteTheirResult := by
  unfold Obligations.TurnerImmediatesWriteTheirResult
  refine ⟨fun s s1 rd ra imm h => ?registers, fun s s1 rd imm h => ?constants, fun s s1 rd ra m h => ?shifts,
    fun s s1 rd ra m h hm => ?illegal⟩
  case registers =>
    exact ⟨h.alu rfl rfl, h.alu rfl rfl, h.alu rfl rfl, h.alu rfl rfl,
      h.alu rfl (if_congr decide_eq_true_iff rfl rfl), h.alu rfl (if_congr decide_eq_true_iff rfl rfl), h.alu rfl rfl⟩
  case constants => exact ⟨h.alu rfl rfl, h.alu rfl rfl⟩
  case shifts =>
    intro a a32 gives
    have hlong : ¬(false = true ∧ 32 ≤ m.toNat) := fun c => Bool.false_ne_true c.1
    refine ⟨h.shiftImm rfl hlong (amount_apply (· <<< ·) a m), h.shiftImm rfl hlong (amount_apply (· >>> ·) a m),
      h.shiftImm rfl hlong (amount_apply BitVec.sshiftRight a m), h.shiftImm rfl hlong (amount_apply BitVec.rotateRight a m),
      fun hm => ?_⟩
    have hword : ¬(true = true ∧ 32 ≤ m.toNat) := fun c => Nat.not_le.mpr hm c.2
    exact ⟨h.shiftImm rfl hword (wForm_shift_amount _ (· <<< ·) a hm), h.shiftImm rfl hword (wForm_shift_amount _ (· >>> ·) a hm),
      h.shiftImm rfl hword (wForm_shift_amount _ BitVec.sshiftRight a hm),
      h.shiftImm rfl hword (wForm_shift_amount _ BitVec.rotateRight a hm)⟩
  case illegal =>
    exact ⟨h.shiftImm_illegal (kind := 0) rfl hm (by decide), h.shiftImm_illegal (kind := 1) rfl hm (by decide),
      h.shiftImm_illegal (kind := 2) rfl hm (by decide), h.shiftImm_illegal (kind := 3) rfl hm (by decide)⟩

/-! ### Branches (R159, R167) -/

theorem relTarget_eq {n : Nat} (pc : W64) (off : BitVec n) : relTarget pc off = pc + (off.signExtend 64) * 4 :=
  congrArg (pc + ·) (BitVec.shiftLeft_eq_mul_twoPow (off.signExtend 64) 2)

/-- A compare-and-branch whose condition comes to c. -/
theorem Commits.branch {off : BitVec 16} {taken : Turner → Bool} {c : Bool} (h : Commits s s1 reads none)
    (hi : exec i s = .next (branchRun s reads off taken)) (hc : taken s1.turner = c) :
    exec i s = .next (if c then elapse s1 8 (wentTo s1 (s1.turner.pc + (off.signExtend 64) * 4))
      else elapse s1 1 (wentTo s1 (s1.turner.pc + 4))) := by
  refine hi.trans (congrArg _ ?_)
  rw [← relTarget_eq]
  cases c
  · exact turnerRun_commits h rfl (if_neg (Bool.eq_false_iff.mp hc))
  · exact turnerRun_commits h rfl (if_pos hc)

/-- Settles O28. Each condition of Table 6.5 is the comparison that its branch makes, GE and GEU being the negations of LT and LTU. -/
theorem turnerBranchesCompareAndWriteNothing : Obligations.TurnerBranchesCompareAndWriteNothing := by
  unfold Obligations.TurnerBranchesCompareAndWriteNothing
  intro s s1 ra rb imm off branch a
  refine ⟨fun h => ?_, fun h => ?_⟩
  · intro b
    exact ⟨h.branch rfl rfl, h.branch rfl (decide_not (p := a = b)).symm, h.branch rfl rfl, h.branch rfl BitVec.sle_eq_not_slt.symm,
      h.branch rfl rfl, h.branch rfl (BitVec.ule_eq_not_ult b a).symm⟩
  · intro b
    exact ⟨h.branch rfl rfl, h.branch rfl (decide_not (p := a = b)).symm, h.branch rfl rfl, h.branch rfl BitVec.sle_eq_not_slt.symm⟩

/-! ### Jumps, calls and returns (R148, R168) -/

/-- The core t once it has called dest: pc + 4 is in lk and on the shadow stack of the level. -/
def Turner.called (t : Turner) (dest : W64) : Turner := { shadowPush { t with lk := t.pc + 4 } (t.pc + 4) with pc := dest }

section
variable {target : Turner → W64} (h : Commits s s1 reads none) (hi : exec i s = .next (callRun s reads target))
include h hi

theorem Commits.call (ht : target s1.turner = v) (hd : shadowDepth s1.turner ≠ shadowCapacity s1.turner) :
    exec i s = .next (elapse s1 8 { s1 with turner := s1.turner.called v }) := by
  subst ht
  exact hi.trans (congrArg _ (turnerRun_commits h rfl (if_neg hd)))

theorem Commits.call_overflows (hd : shadowDepth s1.turner = shadowCapacity s1.turner) :
    exec i s = .next (takeException s1 { cause := 7 } s1.turner.pc) :=
  hi.trans (congrArg _ (turnerRun_raises h rfl (if_pos hd)))

end

section
variable (h : Commits s s1 [] none)
include h

theorem Commits.ret (hd : shadowDepth s1.turner ≠ 0) (ht : shadowTop s1.turner = s1.turner.lk) :
    exec .ret s = .next (elapse s1 8 { s1 with turner := { shadowPop s1.turner with pc := s1.turner.lk } }) :=
  congrArg Host.Outcome.next (turnerRun_commits h rfl ((if_neg hd).trans (if_neg fun c => c ht)))

theorem Commits.ret_underflows (hd : shadowDepth s1.turner = 0) :
    exec .ret s = .next (takeException s1 { cause := 6, sub := 2 } s1.turner.pc) :=
  congrArg Host.Outcome.next (turnerRun_raises h rfl (if_pos hd))

theorem Commits.ret_mismatches (hd : shadowDepth s1.turner ≠ 0) (ht : shadowTop s1.turner ≠ s1.turner.lk) :
    exec .ret s = .next (takeException s1 { cause := 6, sub := 1, addr := shadowTop s1.turner } s1.turner.pc) :=
  congrArg Host.Outcome.next (turnerRun_raises h rfl ((if_neg hd).trans (if_pos ht)))

end

/-- Settles O29. The level picks the shadow stack; `Commits.call` and `Commits.ret` and their traps give each case. -/
theorem turnerCallsAndReturnsKeepTheShadowStack : Obligations.TurnerCallsAndReturnsKeepTheShadowStack := by
  unfold Obligations.TurnerCallsAndReturnsKeepTheShadowStack
  intro s s1 ra rd off t target depth capacity top pushed popped
  have htarget : relTarget t.pc off = target := relTarget_eq t.pc off
  have hdepth : shadowDepth t = depth := rfl
  have hcapacity : shadowCapacity t = capacity := rfl
  have htop : shadowTop t = top := by
    dsimp only [shadowTop, top, depth]
    split <;> rfl
  have hpushed (dest : W64) : t.called dest = pushed dest := by
    dsimp only [Turner.called, shadowPush, pushed, depth]
    split <;> rfl
  have hpopped : { shadowPop t with pc := t.lk } = popped := by
    dsimp only [shadowPop, popped, depth]
    split <;> rfl
  rw [← hcapacity, ← hdepth, ← htop, ← hpopped, ← htarget]
  simp only [← hpushed]
  refine ⟨fun h => ⟨?j, h.call rfl rfl, h.call_overflows rfl, h.ret, h.ret_underflows, h.ret_mismatches⟩,
    fun h => ⟨?jr, h.call rfl rfl, h.call_overflows rfl, ?wrlk⟩, fun h => h.alu rfl rfl⟩
  case j => exact congrArg Host.Outcome.next (turnerRun_commits h rfl rfl)
  case jr => exact congrArg Host.Outcome.next (turnerRun_commits h rfl rfl)
  case wrlk => exact congrArg Host.Outcome.next (turnerRun_commits h rfl rfl)

end Sys2Proof.Machine
end

section
/-! PROOF. System instructions and system registers of the Turner (O31, O33). -/

set_option Elab.async false

namespace Sys2Proof.Machine
open Sys2Proof

variable {s s1 : State} {rd ra : BitVec 5} {sel : BitVec 12} {v : W64}

/-! ### Returns and synchronization (R139, R147, R170, R174) -/

theorem privilege_of_priv (hp : s.turner.cstat.priv = true) : privilege s = none := by
  rw [privilege, hp]
  rfl

theorem privilege_of_kernel (hp : s.turner.cstat.priv = false) : privilege s = some { cause := 8 } := by
  rw [privilege, hp]
  rfl

/-- A return sets cstat whole, so of a PRIV and DET that wait only the waiting is left to undo. -/
theorem returnFromHandler_eq (t : Turner) : returnFromHandler t =
    { t with cstat := Cstat.ofWord t.estat, cstatNext := none, pc := t.epc } := by
  unfold returnFromHandler Turner.applyCstat
  split
  · rfl
  · next hn => rw [← hn]

theorem returnFromRescue_eq (t : Turner) : returnFromRescue t =
    { t with
      cstat := Cstat.ofWord t.xstat, cstatNext := none, pc := t.xpc
      sbank := if t.cstat.rescue then vset t.sbank 7 t.savedS7 else t.sbank
      sbankNext := if t.cstat.rescue then vset t.sbankNext 7 t.savedS7 else t.sbankNext } := by
  unfold returnFromRescue Turner.applyCstat
  split
  · rfl
  · next hn => rw [← hn]

theorem nextLaunch_of_none_ready (h : s.opList.all (fun q => !kernelReady s q.2) = true) : nextLaunch s = none := by
  rw [List.all_eq_true] at h
  unfold nextLaunch
  generalize s.opList = l at h
  induction l with
  | nil => rfl
  | cons q l ih =>
    have hq : ¬kernelReady s q.2 = true := by simpa using h q List.mem_cons_self
    rw [List.foldl_cons, if_neg hq]
    exact ih fun x hx => h x (List.mem_cons_of_mem q hx)

/-- Settles O31. At S each instruction commits with its effect on the core; at K the three returns do not decode. -/
theorem turnerReturnsRestoreTheStatus : Obligations.TurnerReturnsRestoreTheStatus := by
  unfold Obligations.TurnerReturnsRestoreTheStatus
  refine ⟨fun s s1 h => ?commits, fun s s1 h hk => ?kernel⟩
  case commits =>
    intro t
    refine ⟨?nop, fun ha => ?sync, fun hn => ?isync, fun p d hn => ?isyncWritten, fun hp => ⟨?eret, ?eretX, fun hl => ?eretL⟩⟩
    case nop => exact congrArg Host.Outcome.next (turnerRun_commits h rfl rfl)
    case sync => exact congrArg Host.Outcome.next (turnerRun_commits h rfl (if_pos (List.isEmpty_iff.mpr ha)))
    case isync =>
      have hsync : t.isync = { t with sbank := t.sbankNext } := by
        rw [Turner.isync, hn]
      refine congrArg Host.Outcome.next ((turnerRun_commits h rfl rfl).trans ?_)
      rw [hsync]
      rfl
    case isyncWritten =>
      have hsync : t.isync =
          { t with sbank := t.sbankNext, cstat := { t.cstat with priv := p, det := d }, cstatNext := none } := by
        rw [Turner.isync, hn]
      refine congrArg Host.Outcome.next ((turnerRun_commits h rfl rfl).trans ?_)
      rw [hsync]
      rfl
    case eret =>
      refine congrArg Host.Outcome.next ((turnerRun_commits h (privilege_of_priv hp) rfl).trans ?_)
      rw [returnFromHandler_eq]
      rfl
    case eretX =>
      refine congrArg Host.Outcome.next ((turnerRun_commits h (privilege_of_priv hp) rfl).trans ?_)
      rw [returnFromRescue_eq]
      rfl
    case eretL =>
      refine congrArg Host.Outcome.next (turnerRun_commits h (privilege_of_priv hp) ?_)
      rw [nextLaunch_of_none_ready hl]
      rfl
  case kernel =>
    have hr := privilege_of_kernel hk
    exact ⟨congrArg Host.Outcome.next (turnerRun_refuses h hr), congrArg Host.Outcome.next (turnerRun_refuses h hr),
      congrArg Host.Outcome.next (turnerRun_refuses h hr)⟩

/-! ### The values of system registers (R172, Table 6.7) -/

/-- The numbers of the halves of the eight slots of a bank that begins at the number b: slot n's halves are b + 2n and b + 2n + 1. -/
def SlotNumber (b m n : Nat) (high : Bool) : Prop := n < 8 ∧ m = b + high.toNat + 2 * n

theorem SlotNumber.fields {b m n : Nat} {high : Bool} (h : SlotNumber b m n high) (hb : b % 2 = 0) :
    b ≤ m ∧ m < b + 0x10 ∧ (m - b) / 2 = n ∧ decide (m % 2 = 1) = high := by
  obtain ⟨hn, rfl⟩ := h
  have hh := high.toNat_lt
  refine ⟨by omega, by omega, by omega, ?_⟩
  rw [show (b + high.toNat + 2 * n) % 2 = high.toNat by omega]
  cases high <;> rfl

/-- A half of slot n of the S bank. -/
theorem sysValue_sbank (s : State) {m n : Nat} {high : Bool} (h : SlotNumber 0x40 m n high) :
    sysValue s m = some (slotHalf (vget s.turner.sbank n 0) high) := by
  obtain ⟨hlow, htop, hslot, hhalf⟩ := h.fields rfl
  unfold sysValue
  rw [if_pos ⟨hlow, htop⟩, hslot, hhalf]

/-- A half of slot n of the K bank. -/
theorem sysValue_kbank (s : State) {m n : Nat} {high : Bool} (h : SlotNumber 0x50 m n high) :
    sysValue s m = some (slotHalf (vget s.turner.kbank n 0) high) := by
  obtain ⟨hlow, htop, hslot, hhalf⟩ := h.fields rfl
  unfold sysValue
  rw [if_neg (by omega), if_pos ⟨hlow, htop⟩, hslot, hhalf]

/-- A number that Table 6.7 does not assign has no value. -/
theorem sysValue_unassigned (s : State) {n : Nat} (h : ¬(n ≤ 0x08 ∨ (0x10 ≤ n ∧ n ≤ 0x14) ∨ (0x20 ≤ n ∧ n ≤ 0x23) ∨ (0x40 ≤ n ∧ n ≤ 0x5F))) :
    sysValue s n = none := by
  unfold sysValue
  rw [if_neg (by omega), if_neg (by omega)]
  split
  case h_19 => rfl
  all_goals omega

theorem isWindowReg_of_lt {n : Nat} (h : n < 0x100) : isWindowReg n = false := decide_eq_false fun c => by omega

/-! ### MFS (R172) -/

/-- MFS of a core-local register that the level may read. -/
theorem Commits.mfs (h : Commits s s1 [] (some rd.toNat)) (hd : mfsExc rd sel s1 = none) (hw : sel.toNat < 0x100)
    (hv : sysValue s1 sel.toNat = some v) :
    exec (.mfs rd sel) s = .next (elapse s1 3 (wroteReg s1 rd.toNat v (s1.turner.pc + 4))) := by
  refine congrArg Host.Outcome.next (turnerRun_commits h hd ?_)
  rw [isWindowReg_of_lt hw, if_neg Bool.false_ne_true, hv]
  rfl

/-- Every assigned number decodes at S. -/
theorem mfsExc_assigned (hp : s.turner.cstat.priv = true) (hv : sysValue s sel.toNat = some v) : mfsExc rd sel s = none := by
  have hr : mfsRefused s sel.toNat = false := by rw [mfsRefused, hv, Option.isNone_some, Bool.and_false]
  rw [mfsExc, hp, if_pos rfl, hr, if_neg Bool.false_ne_true]

/-- The counters of cycles and of time decode at both levels. -/
theorem mfsExc_counter (hs : sel = 0x010 ∨ sel = 0x011) (hv : sysValue s sel.toNat = some v) : mfsExc rd sel s = none := by
  cases hp : s.turner.cstat.priv
  · rw [mfsExc, hp, if_neg Bool.false_ne_true, if_pos hs]
  · exact mfsExc_assigned hp hv

theorem Commits.mfs_at_s (h : Commits s s1 [] (some rd.toNat)) (hp : s1.turner.cstat.priv = true) (hw : sel.toNat < 0x100)
    (hv : sysValue s1 sel.toNat = some v) :
    exec (.mfs rd sel) s = .next (elapse s1 3 (wroteReg s1 rd.toNat v (s1.turner.pc + 4))) :=
  h.mfs (mfsExc_assigned hp hv) hw hv

theorem Commits.mfs_counter (h : Commits s s1 [] (some rd.toNat)) (hs : sel = 0x010 ∨ sel = 0x011) (hw : sel.toNat < 0x100)
    (hv : sysValue s1 sel.toNat = some v) :
    exec (.mfs rd sel) s = .next (elapse s1 3 (wroteReg s1 rd.toNat v (s1.turner.pc + 4))) :=
  h.mfs (mfsExc_counter hs hv) hw hv

theorem toNat_sel {n : Nat} (h : n < 0x100) : (BitVec.ofNat 12 n).toNat = n := by
  rw [BitVec.toNat_ofNat]
  omega

/-! ### MTS (R172-R174) -/

/-- MTS of a writable register, whose write leaves the core t'. -/
theorem Commits.mts {t' : Turner} (h : Commits s s1 [ra.toNat] none) (hp : s1.turner.cstat.priv = true)
    (hw : sysWritable sel.toNat = true) (hl : sel.toNat < 0x100)
    (hs : sysStore s1 sel.toNat (s1.turner.gr ra.toNat) = s1.setTurner t') (hpc : t'.pc = s1.turner.pc) :
    exec (.mts sel ra) s = .next (elapse s1 3 { s1 with turner := { t' with pc := s1.turner.pc + 4 } }) := by
  have hd : mtsExc sel ra s1 = none := by
    have hr : mtsRefused sel.toNat = false := by rw [mtsRefused, hw, Bool.not_true, Bool.and_false]
    rw [mtsExc, hp, if_pos rfl, hr, if_neg Bool.false_ne_true]
  refine congrArg Host.Outcome.next (turnerRun_commits h hd ?_)
  rw [isWindowReg_of_lt hl, if_neg Bool.false_ne_true, hs, ← hpc]
  rfl

/-- A write of timercmp that the time has not reached lets TIMER be raised anew (R173). -/
theorem sysStore_timercmp (s : State) (v : W64) : sysStore s 0x12 v = s.setTurner { s.turner with
    timercmp := v
    icond := if v ≠ 0 ∧ v.toNat ≤ s.clocks.timebase.toNat then s.turner.icond else s.turner.icond &&& 7 } := by
  have hmet : timerMet (s.setTurner { s.turner with timercmp := v }) = decide (v ≠ 0 ∧ v.toNat ≤ s.clocks.timebase.toNat) :=
    (Bool.decide_and _ _).symm
  change (if timerMet (s.setTurner { s.turner with timercmp := v }) then _ else _) = _
  rw [hmet]
  by_cases h : v ≠ 0 ∧ v.toNat ≤ s.clocks.timebase.toNat
  · rw [if_pos (decide_eq_true h), if_pos h]
  · rw [if_neg (by simpa using h), if_neg h]
    rfl

/-- kss_depth takes a depth that the stack can have (R148). -/
theorem sysStore_kssDepth (s : State) (v : W64) : sysStore s 0x20 v =
    s.setTurner (if v.toNat % 2 ^ 11 ≤ 1024 then { s.turner with kssDepth := v.toNat % 2 ^ 11 } else s.turner) := by
  have hv : (v.setWidth 11).toNat = v.toNat % 2 ^ 11 := BitVec.toNat_setWidth 11 v
  change (if (v.setWidth 11).toNat ≤ 1024 then s.setTurner { s.turner with kssDepth := (v.setWidth 11).toNat } else s) = _
  rw [hv]
  split <;> rfl

/-- A half of slot n of the S bank, for a later ISYNC (R174). -/
theorem sysStore_sbank (s : State) {m n : Nat} {high : Bool} (h : SlotNumber 0x40 m n high) (v : W64) : sysStore s m v =
    s.setTurner { s.turner with sbankNext := vset s.turner.sbankNext n (setSlotHalf (vget s.turner.sbankNext n 0) high v) } := by
  obtain ⟨hlow, htop, hslot, hhalf⟩ := h.fields rfl
  unfold sysStore
  rw [if_pos ⟨hlow, htop⟩]
  dsimp only
  rw [hslot, hhalf]

theorem sysWritable_sbank {m n : Nat} {high : Bool} (h : SlotNumber 0x40 m n high) : sysWritable m = true := by
  obtain ⟨hlow, htop, -, -⟩ := h.fields rfl
  rw [sysWritable, decide_eq_true (p := 0x40 ≤ m ∧ m < 0x50) ⟨hlow, htop⟩, Bool.or_true]

/-! ### What MFS and MTS refuse (R144, R172, R177) -/

theorem Issues.mfs_privilege (h : Issues s s1) (hk : s1.turner.cstat.priv = false) (h10 : sel ≠ 0x010) (h11 : sel ≠ 0x011) :
    exec (.mfs rd sel) s = .next (takeException s1 { cause := 8 } s1.turner.pc) := by
  refine congrArg Host.Outcome.next (turnerRun_refuses h ?_)
  rw [mfsExc, hk, if_neg Bool.false_ne_true, if_neg fun c => c.elim h10 h11]

theorem Issues.mts_privilege (h : Issues s s1) (hk : s1.turner.cstat.priv = false) :
    exec (.mts sel ra) s = .next (takeException s1 { cause := 8 } s1.turner.pc) := by
  refine congrArg Host.Outcome.next (turnerRun_refuses h ?_)
  rw [mtsExc, hk, if_neg Bool.false_ne_true]

theorem Issues.mfs_illegal (h : Issues s s1) (hp : s1.turner.cstat.priv = true) (hl : sel.toNat < 0x100)
    (hv : sysValue s1 sel.toNat = none) : exec (.mfs rd sel) s = .next (takeException s1
      { cause := 1, addr := BitVec.ofNat 64 (0x2F * 2 ^ 26 + rd.toNat * 2 ^ 21 + 6 * 4096 + sel.toNat) } s1.turner.pc) := by
  have hword : 0x2F * 2 ^ 26 + rd.toNat * 2 ^ 21 + 6 * 4096 + sel.toNat < 2 ^ 32 := by
    have := rd.isLt
    omega
  have hr : mfsRefused s1 sel.toNat = true := by rw [mfsRefused, isWindowReg_of_lt hl, hv]; rfl
  rw [← BitVec.setWidth_ofNat_of_le_of_lt (by decide) hword]
  refine congrArg Host.Outcome.next (turnerRun_refuses h ?_)
  rw [mfsExc, hp, if_pos rfl, hr]
  rfl

theorem Issues.mts_illegal (h : Issues s s1) (hp : s1.turner.cstat.priv = true) (hl : sel.toNat < 0x100)
    (hw : sysWritable sel.toNat = false) : exec (.mts sel ra) s = .next (takeException s1
      { cause := 1, addr := BitVec.ofNat 64 (0x2F * 2 ^ 26 + ra.toNat * 2 ^ 16 + 7 * 4096 + sel.toNat) } s1.turner.pc) := by
  have hword : 0x2F * 2 ^ 26 + ra.toNat * 2 ^ 16 + 7 * 4096 + sel.toNat < 2 ^ 32 := by
    have := ra.isLt
    omega
  have hr : mtsRefused sel.toNat = true := by rw [mtsRefused, isWindowReg_of_lt hl, hw]; rfl
  rw [← BitVec.setWidth_ofNat_of_le_of_lt (by decide) hword]
  refine congrArg Host.Outcome.next (turnerRun_refuses h ?_)
  rw [mtsExc, hp, if_pos rfl, hr]
  rfl

/-- Settles O33. Each register is a row of `sysValue` and `sysStore`; the numbers left over are those that MFS and MTS refuse. -/
theorem turnerSystemRegistersReadAndWrite : Obligations.TurnerSystemRegistersReadAndWrite := by
  unfold Obligations.TurnerSystemRegistersReadAndWrite
  refine ⟨fun s s1 rd h => ?mfs, fun s s1 ra h hp => ?mts, fun s s1 r sel h =>
    ⟨fun hk h10 h11 => h.mfs_privilege hk h10 h11, fun hk => h.mts_privilege hk, fun hp hl hn => ?mfsIllegal, fun hp hl hn => ?mtsIllegal⟩⟩
  case mfs =>
    intro t reads
    have at_s {sel : BitVec 12} {v : W64} (hp : t.cstat.priv = true) (hl : sel.toNat < 0x100) (hv : sysValue s1 sel.toNat = some v) :
        reads sel v := h.mfs_at_s hp hl hv
    have half (hp : t.cstat.priv = true) {m : Nat} {v : W64} (hm : m < 0x100) (hv : sysValue s1 m = some v) :
        reads (BitVec.ofNat 12 m) v := by
      have hsel := toNat_sel hm
      refine at_s hp ?_ ?_
      · omega
      · rw [hsel]; exact hv
    refine ⟨h.mfs_counter (.inl rfl) (by decide) rfl, h.mfs_counter (.inr rfl) (by decide) rfl, fun hp =>
      ⟨at_s hp (by decide) rfl, at_s hp (by decide) rfl, at_s hp (by decide) rfl, at_s hp (by decide) rfl, at_s hp (by decide) rfl,
        at_s hp (by decide) rfl, at_s hp (by decide) rfl, at_s hp (by decide) rfl, at_s hp (by decide) rfl, at_s hp (by decide) rfl,
        at_s hp (by decide) rfl, at_s hp (by decide) rfl, at_s hp (by decide) rfl, at_s hp (by decide) rfl, at_s hp (by decide) rfl,
        at_s hp (by decide) rfl, fun n hn => ⟨?_, ?_, ?_, ?_⟩⟩⟩
    · exact half hp (by omega) (sysValue_sbank s1 (high := false) ⟨hn, rfl⟩)
    · exact half hp (by omega) (sysValue_sbank s1 (high := true) ⟨hn, rfl⟩)
    · exact half hp (by omega) (sysValue_kbank s1 (high := false) ⟨hn, rfl⟩)
    · exact half hp (by omega) (sysValue_kbank s1 (high := true) ⟨hn, rfl⟩)
  case mts =>
    intro t v writes
    have written {sel : BitVec 12} {t' : Turner} (hw : sysWritable sel.toNat = true) (hl : sel.toNat < 0x100)
        (hs : sysStore s1 sel.toNat v = s1.setTurner t') (hpc : t'.pc = t.pc) : writes sel t' := h.mts hp hw hl hs hpc
    have slot {m n : Nat} {high : Bool} (hm : SlotNumber 0x40 m n high) : writes (BitVec.ofNat 12 m) { t with
        sbankNext := vset t.sbankNext n (setSlotHalf (vget t.sbankNext n 0) high v) } := by
      obtain ⟨-, htop, -, -⟩ := hm.fields rfl
      have hsel : (BitVec.ofNat 12 m).toNat = m := toNat_sel (by omega)
      refine written ?_ ?_ ?_ rfl
      · rw [hsel]; exact sysWritable_sbank hm
      · omega
      · rw [hsel]; exact sysStore_sbank s1 hm v
    refine ⟨written rfl (by decide) rfl rfl, written rfl (by decide) rfl rfl, written rfl (by decide) rfl rfl,
      written rfl (by decide) rfl rfl, written rfl (by decide) rfl rfl, written rfl (by decide) (sysStore_timercmp s1 v) rfl,
      written rfl (by decide) rfl rfl, written rfl (by decide) rfl rfl, written rfl (by decide) (sysStore_kssDepth s1 v) ?depth,
      written rfl (by decide) rfl rfl, written rfl (by decide) rfl rfl, fun n hn => ⟨slot (high := false) ⟨hn, rfl⟩, slot (high := true) ⟨hn, rfl⟩⟩⟩
    case depth => split <;> rfl
  case mfsIllegal => exact h.mfs_illegal hp hl (sysValue_unassigned s1 hn)
  case mtsIllegal =>
    refine h.mts_illegal hp hl ?_
    simp only [sysWritable, Bool.or_eq_false_iff, decide_eq_false_iff_not]
    omega

end Sys2Proof.Machine
end

section
/-! PROOF. Loads of the Turner through the Rescue stack (O26). -/

set_option Elab.async false

namespace Sys2Proof.Machine
open Sys2Proof

variable {s s1 : State} {rd ra : BitVec 5} {seg : BitVec 3} {disp : BitVec 12}

/-! ### Loads through the Rescue stack (R150) -/

/-- The errors of the L1I that the fetch of a load meets, counted (R137). -/
def fetchErrors (s : State) (ecc : List Ecc) : State := (ecc.filter fun e => decide (e.unit = .l1i)).foldl cacheEvent s

/-- A load through the Rescue stack writes its bytes to rd, after the errors that its fetch meets have been counted. -/
theorem Commits.ldD_rescue {late : Bool} {ecc : List Ecc} {o : Nat} (h : Commits s s1 [ra.toNat] (some rd.toNat))
    (hp : dataPlace (fetchErrors s1 ecc) false seg.toNat .read ((fetchErrors s1 ecc).turner.gr ra.toNat + disp.signExtend 64) 8 1 =
      .ok (.rescue o)) :
    exec (.ldD rd ra seg false disp late ecc) s = .next (elapse s1 8 (wroteReg (fetchErrors s1 ecc) rd.toNat
      (BitVec.ofNat 64 ((fetchErrors s1 ecc).turner.rescueStack.readLE o 8)) ((fetchErrors s1 ecc).turner.pc + 4))) := by
  refine congrArg Host.Outcome.next (turnerRun_commits h rfl ?_)
  unfold fetchErrors at hp ⊢
  dsimp only
  rw [hp]
  rfl

/-- A core in its Rescue handler, with 64 KiB of HBM to fetch from through s0. -/
def rescuedCore : State :=
  { State.reset with
    clocks := { Reset.clocks with cclkStopped := false }
    turner := { Reset.turner with
      mode := .running
      sbank := vset Reset.turner.sbank 0 (mkSegment 0x400000000 0x10000 1 7)
      cstat := { Reset.turner.cstat with rescue := true } } }

theorem commits_rescuedCore (reads : List Nat) (writes : Option Nat) : Commits rescuedCore rescuedCore reads writes := by
  have hdrain : drainStores rescuedCore = rescuedCore := drainStores_of_none rfl
  refine ⟨rfl, ?_, ?_, ?_, ?_, rfl⟩
  · rw [hdrain]; rfl
  · rw [hdrain]; rfl
  · exact List.any_eq_false.mpr fun _ _ => Bool.false_ne_true
  · rfl

/-- A corrected error of the L1I. -/
def fetchError : Ecc := { line := 0, uncorrected := false, unit := .l1i }

/-- Refutes O26: its clause of the Rescue stack lets a load name errors of the L1I and says that nothing but rd and the pc changes,
but such an error is counted at the L1I when the load is fetched (R137). -/
theorem not_turnerLoadsWriteTheBytesOfMemory : ¬ Obligations.TurnerLoadsWriteTheBytesOfMemory := by
  unfold Obligations.TurnerLoadsWriteTheBytesOfMemory
  rintro ⟨-, -, hrescue⟩
  have hcommits := commits_rescuedCore [(0 : BitVec 5).toNat] (some (0 : BitVec 5).toNat)
  have hclaim := hrescue rescuedCore rescuedCore 0 0 7 0 false [fetchError] 0 hcommits rfl
  have hcounted : exec (.ldD 0 0 7 false 0 false [fetchError]) rescuedCore = _ := hcommits.ldD_rescue (o := 0) rfl
  have hstate := Host.Outcome.next.inj (hcounted.symm.trans hclaim)
  have hfaults : (fetchErrors rescuedCore [fetchError]).faults = rescuedCore.faults := (congrArg State.faults hstate :)
  have hclass := congrArg (fun f : FaultUnit => (f.classes[1]).corrected) hfaults
  revert hclass
  decide

end Sys2Proof.Machine
end

section
/-! PROOF. The stores of the Turner (O27). -/

set_option Elab.async false

namespace Sys2Proof.Machine
open Sys2Proof

variable {s s1 : State} {rs ra : BitVec 5} {seg : BitVec 3} {k : Bool} {disp : BitVec 12}

/-! ### The bytes of a register (00 R4) -/

theorem getElem_natToBytes (x n j : Nat) (h : j < (natToBytes x n).length) : (natToBytes x n)[j] = BitVec.ofNat 8 (x / 256 ^ j) := by
  induction n generalizing x j with
  | zero => exact absurd h (Nat.not_lt_zero j)
  | succ n ih =>
    cases j with
    | zero => rw [Nat.pow_zero, Nat.div_one]; rfl
    | succ j =>
      change (natToBytes (x / 256) n)[j]'_ = _
      rw [ih, Nat.div_div_eq_div_mul, Nat.pow_succ, Nat.mul_comm]

theorem getElem_natToBytes_toNat (v : W64) (n j : Nat) (h : j < (natToBytes v.toNat n).length) :
    (natToBytes v.toNat n)[j] = v.extractLsb' (8 * j) 8 := by
  apply BitVec.eq_of_toNat_eq
  rw [getElem_natToBytes, BitVec.toNat_ofNat, BitVec.extractLsb'_toNat, Nat.shiftRight_eq_div_pow, Nat.pow_mul]

/-! ### One store performed (R139) -/

/-- The one access outstanding, a store that may be performed, is. -/
theorem drainStores_single {t : State} {a : DevAddr} {data : List Byte} {poison c sb : Bool} {p : Option (BitVec 20)} {sl : BitVec 3}
    (ha : s.turner.accesses = [.store a data poison p c sl sb false]) (hd : performStore s a.toNat data poison p c = .done t) :
    drainStores s = t.setTurner { t.turner with accesses := [], storesLeft := t.turner.storesLeft + 1 } := by
  unfold drainStores
  rw [ha]
  unfold drainGo
  dsimp only
  rw [hd]
  rfl

/-- The low w bytes of register rs, and whether they carry poison. -/
def storeData (t : Turner) (rs : BitVec 5) (w : Nat) : List Byte := natToBytes (t.gr rs.toNat).toNat w
def storePoison (t : Turner) (rs : BitVec 5) : Bool := t.gpoison.getLsbD rs.toNat

/-- Whether a store to a device address is cached: one to a watched line is not (10 R254). -/
def storeCached (s : State) (a : Nat) : Bool := isCached s a && (watchers s (a / 64)).isEmpty

@[simp] theorem length_storeData (t : Turner) (rs : BitVec 5) (w : Nat) : (storeData t rs w).length = w := length_natToBytes _ _

/-- The state in which a store of w bytes of rs to a device address is outstanding, alone, with the tracker q. -/
def storing (s : State) (q : Queue) (rs : BitVec 5) (a w : Nat) (slot : BitVec 3) (sBank : Bool) : State :=
  (s.setTurner { s.turner with
    accesses := [.store (BitVec.ofNat 48 a) (storeData s.turner rs w) (storePoison s.turner rs) s.turner.pasid (storeCached s a) slot
      sBank false]
    pc := s.turner.pc + 4 }).setQueue q

/-- A store that commits with nothing outstanding is performed, with at most a note in the tracker of what to flush (10 R262). -/
theorem commitStore_eq (ha : s.turner.accesses = []) (rs : BitVec 5) (a w : Nat) (slot : BitVec 3) (sBank : Bool) (n : Nat) :
    ∃ q, commitStore s a (storeData s.turner rs w) (storePoison s.turner rs) slot sBank n =
      .next (drainStores (storing s q rs a w slot sBank)) n := by
  unfold commitStore
  extract_lets t cached s1 s2
  have hs1 : s1.setQueue = (storing s · rs a w slot sBank) := by
    dsimp only [s1, t]
    rw [ha]
    rfl
  have hs2 : ∃ q, s2 = s1.setQueue q := by
    dsimp only [s2]
    split
    · exact ⟨s1.queue, rfl⟩
    · split
      · exact ⟨s1.queue, rfl⟩
      · split
        · exact ⟨_, rfl⟩
        · exact ⟨s1.queue, rfl⟩
  obtain ⟨q, hq⟩ := hs2
  exact ⟨q, by rw [hq, hs1]⟩

/-- The core t once it has committed a store that has left. -/
def Turner.stored (t : Turner) : Turner := { t with pc := t.pc + 4, storesLeft := t.storesLeft + 1 }

theorem storing_turner (ha : s.turner.accesses = []) (q : Queue) (rs : BitVec 5) (a w : Nat) (slot : BitVec 3) (sBank : Bool) :
    { (storing s q rs a w slot sBank).turner with
      accesses := [], storesLeft := (storing s q rs a w slot sBank).turner.storesLeft + 1 } = s.turner.stored := by
  unfold Turner.stored
  rw [← ha]
  rfl

/-! ### A store to device memory (R130, R139) -/

/-- A region of device memory that a store reaches without the host link. -/
def OnDevice (r : Region) : Prop := r = .kernels ∨ r = .operand ∨ r = .spindle

theorem OnDevice.of_inRegion {a n : Nat} (h : s.inRegion a n .kernels = true ∨ s.inRegion a n .operand = true ∨
    s.inRegion a n .spindle = true) : ∃ r, OnDevice r ∧ s.inRegion a n r = true := by
  rcases h with h | h | h
  · exact ⟨_, .inl rfl, h⟩
  · exact ⟨_, .inr (.inl rfl), h⟩
  · exact ⟨_, .inr (.inr rfl), h⟩

theorem State.inRegion_unique {a n : Nat} {r r' : Region} (h : s.inRegion a n r = true) (hne : r ≠ r') :
    s.inRegion a n r' = false :=
  Bool.eq_false_iff.mpr fun c => hne ((State.region_of_inRegion h).symm.trans (State.region_of_inRegion c))

/-- The lines that hold a poison mark are those outside the Spindle's store (R130, 19 R477). -/
theorem OnDevice.markable {a n : Nat} {r : Region} (hr : OnDevice r) (ha : s.inRegion a n r = true) :
    (decide (s.region a = .kernels) || decide (s.region a = .operand)) = !s.inRegion a n .spindle := by
  rw [State.region_of_inRegion ha]
  rcases hr with rfl | rfl | rfl
  · rw [State.inRegion_unique ha (by decide)]; rfl
  · rw [State.inRegion_unique ha (by decide)]; rfl
  · rw [ha]; rfl

/-- A write narrower than a line, as its home agent performs it: the bytes are written, and counters of the line delivered (R254). -/
def narrowWritten (s : State) (a : Nat) (data : List Byte) : State := deliver (s.setDev (s.dev.writeN a data)) (a / 64)

theorem homeWrite_narrow {a : Nat} {data : List Byte} (hn : data.length ≠ 64) : homeWrite s a data = narrowWritten s a data := by
  unfold homeWrite
  extract_lets s1 s2
  rw [show s2 = s1 from if_neg hn]
  rfl

/-- A write narrower than a line is performed at a free line's home agent. -/
theorem busWrite_narrow {ag : Agent} {a : Nat} {data : List Byte} {r : Region} (hr : r ∈ ag.reach) (hh : r ≠ .host) (he : ag.ecc = [])
    (ha : s.inRegion a data.length r = true) (hf : LineFree s (a / 64)) (hw : watchRoom s (a / 64) = true) (hn : data.length ≠ 64) :
    busWrite s ag a data = .ok () (narrowWritten s a data) := by
  have hreach : (ag.reach.any fun r => s.inRegion a data.length r) = true := List.any_eq_true.mpr ⟨_, hr, ha⟩
  have hhost : s.region a ≠ .host := by rw [State.region_of_inRegion ha]; exact hh
  have hfree : LineFree (homeWrite s a data) (a / 64) := hf.congr (homeWrite_link s a data)
  simp only [busWrite, hreach, hhost, hf.awaitLine, hw, eccSeen_nil he, ite_self, hfree.leaveHome, Bool.not_true,
    Bool.false_eq_true, if_false]
  rw [homeWrite_narrow hn]

theorem noteRingStore_eq (s : State) (a n : Nat) : ∃ p, noteRingStore s a n = s.setSpindle p := by
  unfold noteRingStore
  extract_lets p i own
  split
  · exact ⟨_, rfl⟩
  · exact ⟨s.spindle, rfl⟩

theorem markStored_eq (s : State) (a : Nat) (poison : Bool) : ∃ f, markStored s a poison = s.setFaults f := by
  unfold markStored
  split
  · exact ⟨_, rfl⟩
  · exact ⟨s.faults, rfl⟩

theorem markStored_poisoned (s : State) (a : Nat) (poison : Bool) : (markStored s a poison).poisoned a =
    (s.poisoned a || (poison && (decide (s.region a = .kernels) || decide (s.region a = .operand)))) := by
  unfold markStored
  split
  · next h => rw [markPoison_poisoned, h, Bool.or_true]
  · next h => rw [Bool.eq_false_iff.mpr h, Bool.or_false]

/-- A narrow store to a free line of device memory writes its bytes; it may mark the line, deliver the values of counters and be
noted at the Spindle's ring. -/
theorem performStore_device {a : Nat} {data : List Byte} {r : Region} (hr : OnDevice r) (ha : s.inRegion a data.length r = true)
    (hf : LineFree s (a / 64)) (hw : watchRoom s (a / 64) = true) (hn : data.length ≠ 64) (poison : Bool)
    (p : Option (BitVec 20)) (c : Bool) : ∃ x f y, performStore s a data poison p c =
        .done ((((s.setDev (s.dev.writeN a data)).setScale x).setFaults f).setSpindle y) ∧
      (s.setFaults f).poisoned a = (s.poisoned a || (poison && !s.inRegion a data.length .spindle)) := by
  have hregion := State.region_of_inRegion ha
  have hcontrol : s.region a ≠ .control := by rw [hregion]; rcases hr with rfl | rfl | rfl <;> decide
  have hhost : r ≠ .host := by rcases hr with rfl | rfl | rfl <;> decide
  have hreach : r ∈ (turnerAgent (.turner true a) p []).reach := by
    rcases hr with rfl | rfl | rfl <;> simp [turnerAgent]
  have hwrite := busWrite_narrow (ag := turnerAgent (.turner true a) p []) hreach hhost rfl ha hf hw hn
  obtain ⟨f, hfaults⟩ := markStored_eq (narrowWritten s a data) a poison
  obtain ⟨y, hnote⟩ := noteRingStore_eq (markStored (narrowWritten s a data) a poison) a data.length
  refine ⟨(narrowWritten s a data).scale, f, y, ?_, ?_⟩
  · unfold performStore
    rw [if_neg hcontrol, if_neg (by rw [hregion]; exact hhost), hwrite]
    dsimp only
    rw [hnote, hfaults]
    rfl
  · have hpoison := markStored_poisoned (narrowWritten s a data) a poison
    rw [hfaults] at hpoison
    rw [← hr.markable ha]
    exact hpoison

/-! ### A store to host memory (R45, R130, R137) -/

/-- A store to a host address that the L2 does not hold, with ATS disabled, goes to the host. -/
theorem performStore_host {a : Nat} (data : List Byte) (poison : Bool) (p : Option (BitVec 20)) (ha : s.region a = .host)
    (hr : hostReachable s = true) (hats : s.link.cfg.atsEnable = false)
    (hl : (s.link.l2Host.any fun x => x.1 = (a - 0xC00000000000) / 64) = false) :
    performStore s a data poison p false = .done (storeIo s p (a - 0xC00000000000) data poison) := by
  have hline : l2Line s ((a - 0xC00000000000) / 64) = none := by
    refine List.find?_eq_none.mpr fun x hx => ?_
    simpa using List.any_eq_false.mp hl x hx
  have hpath : translate s (turnerAgent (.turner true a) p []) (a - 0xC00000000000) true = .ok (a - 0xC00000000000) s := by
    unfold translate
    rw [hr, hats]
    rfl
  unfold performStore
  rw [if_neg (by rw [ha]; decide), if_pos ha, hpath]
  dsimp only
  rw [hline]
  rfl

theorem isCached_host_untranslated {a : Nat} (ha : s.region a = .host) (hats : s.link.cfg.atsEnable = false) : isCached s a = false := by
  unfold isCached hostCached
  rw [ha, hats]
  simp

/-! ### The instruction (R165) -/

theorem kModifier_passes (hk : k = true → s.turner.cstat.priv = true) : kModifier k s = none := by
  cases k
  · rfl
  · exact privilege_of_priv (hk rfl)

/-- Nothing is mapped beyond 48 address bits (Table 1.5). -/
theorem State.region_beyond {a : Nat} (h : 2 ^ 48 ≤ a) : s.region a = .unmapped := by
  have hsku : hbmEnd s.power.sku ≤ 0x600000000000 := by cases s.power.sku <;> decide
  rw [State.region, regionOf, if_neg (by omega), if_neg (by omega), if_neg (by omega), if_neg (by omega), if_neg (by omega),
    if_neg (by omega), if_neg (by omega), if_neg (by omega), if_neg (by omega), if_neg (by omega)]

theorem toNat_devAddr {a : Nat} (h : s.region a ≠ .unmapped) : (BitVec.ofNat 48 a).toNat = a := by
  rw [BitVec.toNat_ofNat, Nat.mod_eq_of_lt (Nat.lt_of_not_le fun c => h (State.region_beyond c))]

section
variable {w : Nat} {i : Instr} (h : Commits s s1 [ra.toNat, rs.toNat] none) (hi : exec i s = .next (storeRun s rs ra seg k disp w))
  (hk : k = true → s1.turner.cstat.priv = true)
include h hi hk

/-- A store through the Rescue stack writes its bytes there. -/
theorem Commits.store_rescue {o : Nat}
    (hp : dataPlace s1 k seg.toNat .write (s1.turner.gr ra.toNat + disp.signExtend 64) w 2 = .ok (.rescue o)) :
    exec i s = .next (elapse s1 2 { s1 with turner := { s1.turner with
      rescueStack := s1.turner.rescueStack.writeN o (storeData s1.turner rs w), pc := s1.turner.pc + 4 } }) := by
  refine hi.trans (congrArg _ (turnerRun_commits h (kModifier_passes hk) ?_))
  dsimp only
  rw [hp]
  rfl

/-- A store to a device address with nothing outstanding leaves what its performance leaves. -/
theorem Commits.store_performed {a : Nat} (ha : s1.turner.accesses = []) (hmap : s1.region a ≠ .unmapped)
    (hp : dataPlace s1 k seg.toNat .write (s1.turner.gr ra.toNat + disp.signExtend 64) w 2 = .ok (.dev a)) :
    ∃ q sBank, ∀ t, performStore (storing s1 q rs a w seg sBank) a (storeData s1.turner rs w) (storePoison s1.turner rs)
        s1.turner.pasid (storeCached s1 a) = .done t → t.turner = (storing s1 q rs a w seg sBank).turner →
      exec i s = .next (elapse s1 2 (t.setTurner s1.turner.stored)) := by
  obtain ⟨q, hq⟩ := commitStore_eq ha rs a w seg (s1.turner.cstat.priv && !k) 2
  refine ⟨q, (s1.turner.cstat.priv && !k), fun t ht hturner => hi.trans (congrArg _ (turnerRun_commits h (kModifier_passes hk) ?_))⟩
  dsimp only
  rw [hp]
  refine hq.trans ?_
  rw [drainStores_single rfl (by rw [toNat_devAddr hmap]; exact ht), hturner, storing_turner ha]

end

/-- The store instructions, by the number of bytes they write (R165). -/
theorem exec_store {w : Nat} {i : Instr} (s : State) (rs ra : BitVec 5) (seg : BitVec 3) (k : Bool) (disp : BitVec 12)
    (hw : (if w = 1 then some (Instr.stB rs ra seg k disp) else if w = 2 then some (.stH rs ra seg k disp)
      else if w = 4 then some (.stW rs ra seg k disp) else if w = 8 then some (.stD rs ra seg k disp) else none) = some i) :
    exec i s = .next (storeRun s rs ra seg k disp w) ∧ w ≤ 8 := by
  split_ifs at hw with h1 h2 h4 h8
  · subst h1; cases hw; exact ⟨rfl, by decide⟩
  · subst h2; cases hw; exact ⟨rfl, by decide⟩
  · subst h4; cases hw; exact ⟨rfl, by decide⟩
  · subst h8; cases hw; exact ⟨rfl, by decide⟩

/-- The bytes of a register stand where they were written, and every other byte is as it was. -/
theorem Memory.read_writeN_storeData {m : Memory} (hm : m.wf = true) (a w : Nat) (t : Turner) (rs : BitVec 5) :
    (∀ j < w, (m.writeN a (storeData t rs w)).read (a + j) = (t.gr rs.toNat).extractLsb' (8 * j) 8) ∧
      ∀ x, x < a ∨ a + w ≤ x → (m.writeN a (storeData t rs w)).read x = m.read x := by
  have hlen := length_storeData t rs w
  refine ⟨fun j hj => ?_, fun x hx => Memory.read_writeN_outside _ m (by rw [hlen]; exact hx)⟩
  have hj' : j < (storeData t rs w).length := hlen.symm ▸ hj
  rw [Memory.read_writeN_inside _ a j hm hj']
  exact getElem_natToBytes_toNat _ _ _ _

/-- Settles O27. The store commits, is alone outstanding and is performed: at the home agent of its line, in the Rescue stack, or in
host memory. -/
theorem turnerStoresWriteTheirBytesOnly : Obligations.TurnerStoresWriteTheirBytesOnly := by
  unfold Obligations.TurnerStoresWriteTheirBytesOnly
  intro s s1 rs ra seg k disp h hk hacc hdev hhost form byte place w i hform
  obtain ⟨hi, hw8⟩ := exec_store s rs ra seg k disp hform
  have hlen := length_storeData s1.turner rs w
  refine ⟨fun a hp hregion hfree hroom => ?device, fun o hp => h.store_rescue hi hk hp,
    fun a hp hregion hreach hats hl2 => ?host⟩
  case device =>
    obtain ⟨r, hr, hin⟩ := OnDevice.of_inRegion hregion
    have hmap : s1.region a ≠ .unmapped := by
      rw [State.region_of_inRegion hin]
      rcases hr with rfl | rfl | rfl <;> decide
    obtain ⟨q, sBank, hperforms⟩ := h.store_performed hi hk hacc hmap hp
    obtain ⟨x, f, y, hdone, hpoison⟩ := performStore_device (s := storing s1 q rs a w seg sBank) hr (data := storeData s1.turner rs w)
      (by rw [hlen]; exact hin) (hfree.congr rfl) hroom (by omega) (storePoison s1.turner rs) s1.turner.pasid (storeCached s1 a)
    obtain ⟨hbytes, hrest⟩ := Memory.read_writeN_storeData hdev a w s1.turner rs
    rw [hlen] at hpoison
    exact ⟨_, hperforms _ hdone rfl, hbytes, hrest, by simp [storing], rfl, by simp [storing], by simp [storing], hpoison⟩
  case host =>
    have hin := State.region_of_inRegion hregion
    obtain ⟨q, sBank, hperforms⟩ := h.store_performed hi hk hacc (by rw [hin]; decide) hp
    have hcached : storeCached s1 a = false := by rw [storeCached, isCached_host_untranslated hin hats, Bool.false_and]
    rw [hcached] at hperforms
    have hdone := performStore_host (s := storing s1 q rs a w seg sBank) (storeData s1.turner rs w) (storePoison s1.turner rs)
      s1.turner.pasid hin hreach hats hl2
    obtain ⟨hbytes, hrest⟩ := Memory.read_writeN_storeData hhost (a - 0xC00000000000) w s1.turner rs
    refine ⟨_, hperforms _ hdone rfl, hbytes, hrest, rfl, rfl, ?_⟩
    intro p h
    change s1.link.sent ++ _ = s1.link.sent ++ _
    rw [hlen]
    rfl

end Sys2Proof.Machine
end
